-- ==== Sys2Proof/Word.lean ====
section
/-!
DEFINITION. The words of the NM9648: registers are 32 bits wide, little-endian (R2, R49), and the command entry, the
reports and the two-wire windows are made of such words and of bytes.
-/

namespace Sys2Proof

/-- One register or command word (Register notation; R76). -/
abbrev Word := BitVec 32

/-- One byte of a two-wire transfer, a frame or a bank. -/
abbrev Byte := BitVec 8

/-- A 64-bit token (R434), SECDED word (R62) or microsecond count (R33). -/
abbrev DWord := BitVec 64

end Sys2Proof
end

