-- ==== Sys2Proof/Config.lean ====
section
/-!
DEFINITION. What the manual leaves open: every value the NM9648 produces and the manual does not state is an opaque
constant here (a FREE VALUE: nothing constrains it), applied to a counter of State or to the operands it depends on.
-/

namespace Sys2Proof.Config

/-- TMB_CAL.TAPCODE after a calibration, by the draw counter (R34: "Its value ... not specified"). Log entry 20. -/
opaque tapCode : Nat → BitVec 7

/-- The PCIe Vendor ID, which a configuration read returns below the Device ID (R1 gives the Device ID alone). Log entry 93. -/
opaque vendorId : BitVec 16

/-- Clait's manufacturer identity, bits [11:1] of the IDCODE (R553 gives no value). Log entry 120. -/
opaque manufacturer : BitVec 11

/-- GAL_NONCE after its `n`-th renewal (R472: "a random 32-bit value"). Log entry 21. -/
opaque nonce : Nat → BitVec 32

/-- The expected signature of BIST test `t` of bank `b` (R498, R506: no value is given). Log entry 22. -/
opaque bistExpected : Nat → Nat → BitVec 64

/-- Whether an ECDSA P-384 signature verifies against the Clait key in P-die OTP, which the manual does not give: the digest and
the signature (R514). Log entry 12. -/
opaque fwSignature : List Byte → List Byte → Bool

/-- A value that an instruction produces and for which no rule states a result; the first argument names the place
(log entry 23), the second is the draw counter `State.draws` or a number of the operands. -/
opaque openValue : Nat → Nat → BitVec 64

end Sys2Proof.Config
end

