-- ==== Sys2Proof/Syntax.lean ====
section
/-!
DEFINITION. The commands: one constructor of `Instr` per row of the table of operations and events, and the plain data
that they carry.
-/

namespace Sys2Proof

/-- The header of a command entry as it arrives (Table 4.1): SEQ, HTAG, VER, CHK (none: the right check code), and the
path, ring or two-wire. `jbad` names the journal macros (bit m for macro m) whose copy fails its read-back after two
rewrites (R94). -/
structure CmdHdr where
  seq : Word := 1
  htag : Word := 0
  ver : BitVec 4 := 1
  chk : Option Word := none
  twoWire : Bool := false
  jbad : BitVec 3 := 0
deriving DecidableEq, Repr, Inhabited


/-- What the demodulator gives for one point (chapter 19): a string (POINT 2), the real and imaginary parts of X and Y,
signed, in the units of Table 19.1 (POINT 2: survey codes), and the coherence in 0.01 units. -/
structure Demod where
  string : BitVec 5 := 0
  xr : BitVec 32 := 0
  xi : BitVec 32 := 0
  yr : BitVec 32 := 0
  yi : BitVec 32 := 0
  coh : Byte := 0
deriving DecidableEq, Repr, Inhabited

/-- The commands of the NM9648 block: one constructor per row of the table of operations and events. -/
inductive Instr
  /-- COLD_RESET (R528): The island rail comes good from below its reset level, so a cold reset starts KEEPALIVE-BOOT. Operands: TEST_MODE; the address straps IDX_ADDR and TWT_ADDR; the island regulators that are good. -/
  | coldReset (testMode : Bool) (idxAddr : BitVec 4) (twtAddr : BitVec 2) (aux hv : Bool)
  /-- ISLAND_LOSS (R524): Both island regulators are out, so every gate falls, every phase stops and the device enters OFF. -/
  | islandLoss
  /-- REGLOSS (R524): One island regulator goes out while the other stays good; the island raises a token and no output changes. Operands: the bus regulator, not the auxiliary one. -/
  | regloss (hv : Bool)
  /-- REGBACK (R524): A lost island regulator is good again. Operands: the bus regulator, not the auxiliary one. -/
  | regback (hv : Bool)
  /-- SUPPLY_OUT (R523): An L-die supply falls through its out level; the L-die is held in reset and the device enters hold. Operands: supply: 0 VAUX33, 1 VDDL, 2 VDDS, 3 VDD18, 4 VDDPX. -/
  | supplyOut (sup : BitVec 3)
  /-- LDIE_RESET_RELEASE (R523): All L-die supplies have been good for 1 ms with the reset inputs high, so the L-die boot begins. -/
  | ldieResetRelease
  /-- WARM_RESET (R530): PE_PERST_N is held low for 1 µs; the L-die is reset and the island enters hold. -/
  | warmReset
  /-- HARD_RESET (R532): RESET_N is held low for 10 ms; the control logic of both dies is reset and the bay gates follow DROPHARD. -/
  | hardReset
  /-- RESET_N_RELEASE (R527): RESET_N is released; this either ends a hard reset or is counted as a short pulse. Operands: the release met the 10 ms timer, which fired. -/
  | resetNRelease (late : Bool)
  /-- POWER_FAIL_WARNING (R537): AUX_PFW_N is asserted for 2 µs; the device stops checking commands and makes its power-fail writes. -/
  | powerFailWarning
  /-- POWER_FAIL_WARNING_END (R538): AUX_PFW_N has been high for 10 ms, so command checking resumes. -/
  | powerFailWarningEnd
  /-- PLL_LOCK (R32): The timebase PLL achieves its first lock after cold reset and sets PLLLOCK. -/
  | pllLock
  /-- PDIE_BIST_END (R503): The P-die BIST finishes; at boot the device continues or stays in KEEPALIVE-BOOT, and in BENCH PDFAIL is set or cleared. Operands: signature, none for the expected one; duration, µs. -/
  | pdieBistEnd (sig : Option (BitVec 64)) (dur : Word)
  /-- RUN_ENTRY (R18): The L-die boot completes and the bridge is trained; pages are loaded, the island buffer is written and replay starts. Operands: what the journal scan met: a single copy at LAST + 1; journal macros (bit m for macro m) with an invalid copy elsewhere (Table 4.5); NVM devices whose boot-time read fails after its retry (R572). -/
  | runEntry (half : Bool) (bad : BitVec 3) (nvm : BitVec 2 := 0)
  /-- HEARTBEAT (R15): An L-die heartbeat reaches the island over the die bridge. -/
  | heartbeat
  /-- HEARTBEAT_TIMEOUT (R15): No heartbeat has arrived for 20 µs; the L-die is declared lost and hold begins. Operands: a late heartbeat was discarded. -/
  | heartbeatTimeout (late : Bool)
  /-- BRIDGE_TRANSFER (R12): A die-bridge transfer is received and its check code is tested; a failed transfer is resent. Operands: the check code of the transfer is right. -/
  | bridgeTransfer (ok : Bool)
  /-- XTAL_QUALIFIED (R32): The crystal has run 2 ms without a loss after cold reset, so the PLL moves onto it. -/
  | xtalQualified
  /-- XTAL_RETURN (R38): The crystal has run 100 ms without a loss with AUTORET set, so the PLL returns to it. -/
  | xtalReturn
  /-- XTAL_EDGE_TIMEOUT (R36): No crystal edge arrives for 200 ns, so a crystal loss is declared. Operands: a late edge was discarded. -/
  | xtalEdgeTimeout (late : Bool)
  /-- XTAL_COUNT_WINDOW (R36): At the end of a 10 µs window, the crystal count is compared with the internal oscillator count; a difference above 5 % declares a loss. Operands: counts of the crystal and of the internal oscillator over the window. -/
  | xtalCountWindow (xtal osc : BitVec 16)
  /-- PLL_UNLOCK (R32): The PLL loses lock on its reference for a cause other than a reference change, so PLLLOCK clears. -/
  | pllUnlock
  /-- SLEW_DONE (R37): A holdover and slew onto a new reference completes, so SLEWING clears. -/
  | slewDone
  /-- INTERPOLATOR_CALIBRATION (R34): Every 1 ms the interpolator is calibrated against the replica line; CALFAIL is raised if the tap code range cannot span the period. Operands: the replica line spans 2.5 ns within the tap code range. -/
  | interpolatorCalibration (spans : Bool)
  /-- HANDSHAKE_MEASUREMENT (R39): Every 1 ms FAB_HSCYC is updated from the on-die replica. Operands: the measured handshake cycle, ps. -/
  | handshakeMeasurement (cyc : BitVec 12)
  /-- TMB_US_LO_READ (R33): A read of TMB_US_LO returns the low word and latches the high word. -/
  | tmbUsLoRead
  /-- REGISTER_WRITE (R5): A write to a register that has no row of its own acts according to its access code. Operands: path as in GLB_ERRADDR.PATH (0 BAR0, 2 BAR4, 3 two-wire), byte offset, word, byte enables. -/
  | registerWrite (path : BitVec 2) (addr : BitVec 26) (v : Word) (be : BitVec 4)
  /-- RC_READ (R6): A read of an RC field returns its value and clears it, with a coinciding hardware set kept for the next read. Operands: path, byte offset; what hardware sets in the RC fields at the same moment (R6). -/
  | rcRead (path : BitVec 2) (addr : BitVec 26) (set : Word)
  /-- COMMIT (R58): A write of PG_CTL.COMMIT snapshots the page's shadow values, or sets CPEND if a commit is busy. Operands: page. -/
  | commit (pg : BitVec 9)
  /-- SNAPSHOT_APPLY (R58): At the block's apply point a committed snapshot, or one of its parts, is applied whole. Operands: page; its part (PH pages: phase 0 to 3, or 4 for the loop power registers). -/
  | snapshotApply (pg : BitVec 9) (part : BitVec 3)
  /-- BLKRST (R54): A write of PG_CTL.BLKRST returns the block registers and event bits to reset on pages with JRNL = 0. Operands: page. -/
  | blkrst (pg : BitVec 9)
  /-- LOCK_SET (R56): A write of 1 to PG_LOCK.LOCK freezes the page's RWL registers. Operands: page. -/
  | lockSet (pg : BitVec 9)
  /-- PG_EVT_CLEAR (R67): A W1C write to PG_EVT clears event bits and ends their pending state, subject to set-wins. Operands: page; bits written as 1; bits that hardware sets at the same moment (R6). -/
  | pgEvtClear (pg : BitVec 9) (mask set : Word)
  /-- EVT_EOI (R68): A write to EVT_EOI ends service of a vector and makes a new message due if the vector is still pending. Operands: vector; a source whose event arises at the same moment (R69). -/
  | evtEoi (vec : BitVec 5) (src : Option (BitVec 10) := none)
  /-- MSIX_UNMASK (R68): An MSI-X vector is unmasked and its held message is sent if the vector is still pending. Operands: vector. -/
  | msixUnmask (vec : BitVec 5)
  /-- EVT_GEN_SET (R68): EVT_CFG.GEN is set and held messages are released. -/
  | evtGenSet
  /-- MSI_GAP_END (R68): The GAP interval of a vector ends and a held message is sent if the vector is still pending. Operands: vector. -/
  | msiGapEnd (vec : BitVec 5)
  /-- EVT_QPOP (R70): A read of EVT_QPOP removes and returns the oldest event queue entry. -/
  | evtQpop
  /-- GLB_LOCKKEY (R71): A lock key word is written; it advances, completes or aborts the unlock sequence. Operands: path (0 BAR0, 3 two-wire), key word. -/
  | glbLockkey (path : BitVec 2) (key : Word)
  /-- LOCK_KEY_TIMEOUT (R72): 100 µs pass without the next key word, so the sequence aborts and FAILS rises. Operands: a late key word was discarded. -/
  | lockKeyTimeout (late : Bool)
  /-- LOCKOUT_END (R73): The 1 s lockout ends and LOCKOUT and FAILS return to 0. -/
  | lockoutEnd
  /-- PCIE_LINK_CHANGE (R75): The PCIe link enters or leaves L0, or changes speed or width; the LINK event is raised. Operands: the fields of PEX_LINK. -/
  | pcieLinkChange (speed width : BitVec 2) (l0 l1 reversed : Bool) (ltssm : BitVec 4)
  /-- PCIE_AER_ERROR (R75): An AER status bit is set; a fatal error redirects reports. Operands: status bits that set in the AER registers; an uncorrectable one is fatal. -/
  | pcieAerError (unc cor : Word) (fatal : Bool)
  /-- PCIE_CONFIG_REQUEST (R529): A PCIe configuration request arrives; before RUN it is answered with Retry Status. Operands: the new command bits as PEX_CMD shows them, if written; AER status bits written as 1. -/
  | pcieConfigRequest (cmd : Option (BitVec 5)) (unc cor : Word)
  /-- BAR2_ACCESS (R62): A host access to a capture bank through BAR2 is served if HOST owns the bank, and raises ACCESSERR otherwise. Operands: byte offset; write; data and byte enables; check of the word read: 0 good, 1 corrected, 2 uncorrectable, 3 overwritten while it was written. -/
  | bar2Access (addr : BitVec 26) (write : Bool) (data : BitVec 64) (be : Byte) (ecc : BitVec 2)
  /-- NOP (R78): A NOP command is checked, journaled, accepted and applied. Operands: INST, header. -/
  | nop (inst : BitVec 8) (h : CmdHdr)
  /-- GLB_WARMRESET (R530): A warm reset is ordered for 1 ms after the command's DONE report. Operands: INST, header. -/
  | glbWarmreset (inst : BitVec 8) (h : CmdHdr)
  /-- WARMRESET_START (R530): 1 ms after the DONE report of GLB_WARMRESET, the warm reset begins. -/
  | warmresetStart
  /-- BENCH_ENTER (R539): The device enters BENCH if all bays are open and all loops are stopped; otherwise the command is refused. Operands: INST, header. -/
  | benchEnter (inst : BitVec 8) (h : CmdHdr)
  /-- BENCH_LEAVE (R539): The device returns from BENCH to RUN unless PDFAIL is set. Operands: INST, header. -/
  | benchLeave (inst : BitVec 8) (h : CmdHdr)
  /-- PAGE_SET (R78): Up to five RWJ registers of one page are written, with an optional commit. Operands: INST, header, ARG0 to ARG11. -/
  | pageSet (inst : BitVec 8) (h : CmdHdr) (args : List Word)
  /-- BAY_ARM (R126): ARM is set on a bay, which starts a ramp or an adoption. Operands: INST, header, ARG0 and ARG1 (Table 5.6). -/
  | bayArm (inst : BitVec 8) (h : CmdHdr) (flags bound : Word)
  /-- BAY_OPEN (R126): ARM is cleared and the bay gate is pulled down. Operands: INST, header, ARG0 (Table 5.6). -/
  | bayOpen (inst : BitVec 8) (h : CmdHdr) (flags : Word)
  /-- BAY_TOGGLE (R118): The latch of a tripped bay is cleared and the bay closes again. Operands: INST, header, ARG0 (Table 5.6). -/
  | bayToggle (inst : BitVec 8) (h : CmdHdr) (flags : Word)
  /-- BAY_LIMIT (R128): A bay's ILIM, TFLT, PLIM and RSH are written and the page is committed. Operands: INST, header, ARG0 to ARG3 (Table 5.6). -/
  | bayLimit (inst : BitVec 8) (h : CmdHdr) (ilim tflt plim rsh : Word)
  /-- LOOP_START (R165): A loop is started toward a target, through the on-delay or directly into RAMP. Operands: INST, header, ARG0 to ARG3 (Table 6.5). -/
  | loopStart (inst : BitVec 8) (h : CmdHdr) (target ron delay flags : Word)
  /-- LOOP_STOP (R156): A loop is stopped by ramp or by coast, after its off-delay. Operands: INST, header, ARG0 to ARG3 (Table 6.5). -/
  | loopStop (inst : BitVec 8) (h : CmdHdr) (delay roff coast flags : Word)
  /-- LOOP_VSET (R155): A loop is retargeted, and the ramp restarts from the working reference. Operands: INST, header, ARG0 to ARG3 (Table 6.5). -/
  | loopVset (inst : BitVec 8) (h : CmdHdr) (target rate arg2 flags : Word)
  /-- LOOP_COEF (R147): The inactive coefficient bank is written and a bank switch is committed. Operands: INST, header, ARG0 to ARG7 (Table 6.5). -/
  | loopCoef (inst : BitVec 8) (h : CmdHdr) (b0 b1 b2 b3 a1 a2 a3 reset : Word)
  /-- PH_CFG (R194): Four phase registers are written and the PH page is committed. Operands: INST, header, ARG0 to ARG3 (R194). -/
  | phCfg (inst : BitVec 8) (h : CmdHdr) (imcfg lim mon shed : Word)
  /-- ABC_CAP (R221): The abacus cap and its slew are set for the next settle. Operands: INST, header, ARG0 and ARG1 (Table 8.3). -/
  | abcCap (inst : BitVec 8) (h : CmdHdr) (cap slew : Word)
  /-- ROD_SET (R221): A rod's configuration, floor, ceiling and enforcement settings are set. Operands: INST, header, ARG0 to ARG3 (Table 8.3). -/
  | rodSet (inst : BitVec 8) (h : CmdHdr) (cfg floor ceil enf : Word)
  /-- HLD_SET (R246): The hold-up settings and host preloads are written and committed. Operands: INST, header, ARG0 to ARG7 (R246). -/
  | hldSet (inst : BitVec 8) (h : CmdHdr) (cfg lvl rate tgt pre0 pre1 pre2 pre3 : Word)
  /-- BAT_LEARN (R276): A learning discharge of a string's group is requested from the abacus. Operands: INST, header, ARG1 (Table 10.5); ABORT is clear. -/
  | batLearn (inst : BitVec 8) (h : CmdHdr) (power : Word)
  /-- BAT_LEARN_ABORT (R276): BAT_LEARN with ABORT set ends the learning discharge in force. Operands: INST, header, ARG1 (Table 10.5); ABORT is set. -/
  | batLearnAbort (inst : BitVec 8) (h : CmdHdr) (power : Word)
  /-- BAT_REST (R283): A rest of a string is requested, which opens its STORE bay as a timed open. Operands: INST, header, ARG1 (Table 10.5); ABORT is clear. -/
  | batRest (inst : BitVec 8) (h : CmdHdr) (wait : Word)
  /-- BAT_REST_ABORT (R283): BAT_REST with ABORT set ends a rest and ramps the bay back. Operands: INST, header, ARG1 (Table 10.5); ABORT is set. -/
  | batRestAbort (inst : BitVec 8) (h : CmdHdr) (wait : Word)
  /-- TIE_POLICY (R319): The host-policy mode and role ability of a tie port are set. Operands: INST, header, ARG0 and ARG1 (Table 11.8). -/
  | tiePolicy (inst : BitVec 8) (h : CmdHdr) (host drp : Word)
  /-- TIE_REQUEST (R319): In host-policy mode, a sink sends a REQUEST on its tie port (ACTION 0). Operands: INST, header, ARG1 and ARG2; ACTION is 0 (Table 11.8). -/
  | tieRequest (inst : BitVec 8) (h : CmdHdr) (obj bound : Word)
  /-- TIE_REQUEST_SWAP (R308): In host-policy mode, a port sends SWAP (ACTION 1). Operands: INST, header, ARG1 and ARG2; ACTION is 1 (Table 11.8). -/
  | tieRequestSwap (inst : BitVec 8) (h : CmdHdr) (obj bound : Word)
  /-- TIE_REQUEST_HARDRESET (R310): A port sends the hard reset signal (ACTION 2). Operands: INST, header, ARG1 and ARG2; ACTION is 2 (Table 11.8). -/
  | tieRequestHardreset (inst : BitVec 8) (h : CmdHdr) (obj bound : Word)
  /-- TIE_REQUEST_CAPS (R303): A source sends CAPS (ACTION 3). Operands: INST, header, ARG1 and ARG2; ACTION is 3 (Table 11.8). -/
  | tieRequestCaps (inst : BitVec 8) (h : CmdHdr) (obj bound : Word)
  /-- FLIGHT_RUN (R349): A flight runs up or down from a new common start. Operands: INST, header, ARG0 and ARG1 (R349). -/
  | flightRun (inst : BitVec 8) (h : CmdHdr) (action bound : Word)
  /-- FLIGHT_CONTINUE (R330): A landed flight continues and issues the slots after its landing. Operands: INST, header, ARG1; ACTION is 3 (R349). -/
  | flightContinue (inst : BitVec 8) (h : CmdHdr) (bound : Word)
  /-- FLIGHT_ABORT (R349): A running flight stops issuing slots and returns to IDLE. Operands: INST, header, ARG1; ACTION is 4 (R349). -/
  | flightAbort (inst : BitVec 8) (h : CmdHdr) (bound : Word)
  /-- GAL_FREEZE (R465): The gallery is frozen and offered records go to the spill. Operands: INST, header; ARG0 is 1. -/
  | galFreeze (inst : BitVec 8) (h : CmdHdr)
  /-- GAL_THAW (R466): A freeze ends by command and the spill is merged. Operands: INST, header; ARG0 is 0. -/
  | galThaw (inst : BitVec 8) (h : CmdHdr)
  /-- GAL_CLEAR (R471): After HMAC authentication, a CLEARED record makes every older record unreadable. Operands: INST, header, ARG0 to ARG7 (R471). -/
  | galClear (inst : BitVec 8) (h : CmdHdr) (rekey nonce mac0 mac1 mac2 mac3 mac4 mac5 : Word)
  /-- BIST_LOGIC (R499): A logic BIST is started: hold is ordered and the L-die is scanned. Operands: INST, header, ARG0 and ARG1 (R504); TEST is 0. -/
  | bistLogic (inst : BitVec 8) (h : CmdHdr) (arg0 bound : Word)
  /-- BIST_MEMORY (R501): A March test runs on one bank owned by NONE. Operands: INST, header, ARG0 and ARG1 (R504); TEST is 1. -/
  | bistMemory (inst : BitVec 8) (h : CmdHdr) (arg0 bound : Word)
  /-- BIST_PDIE (R503): A P-die BIST runs in BENCH. Operands: INST, header, ARG0 and ARG1 (R504); TEST is 2, or as ARG0 gives it above 2. -/
  | bistPdie (inst : BitVec 8) (h : CmdHdr) (arg0 bound : Word)
  /-- LAN_RUN (R495): A loop analyzer sweep or an impedance measurement starts on a loop. Operands: INST, header, ARG0 to ARG5 (R495); ABORT is clear. -/
  | lanRun (inst : BitVec 8) (h : CmdHdr) (point fstart fstop shape amp bound : Word)
  /-- LAN_ABORT (R495): LAN_RUN with ABORT set aborts the running measurement. Operands: INST, header, ARG0 to ARG5 (R495); ABORT is set. -/
  | lanAbort (inst : BitVec 8) (h : CmdHdr) (point fstart fstop shape amp bound : Word)
  /-- IMG_SELECT (R517): A firmware or Decop image slot is selected for the next boot, with an optional trial or rollback advance. Operands: INST, header, ARG0 and ARG1 (R517). -/
  | imgSelect (inst : BitVec 8) (h : CmdHdr) (target rbadv : Word)
  /-- DONE_REPORT (R85): The DONE report of a command at its done point is issued once the reports of all lower SEQs have been issued. Operands: journal macros whose copy of the status word fails. -/
  | doneReport (jbad : BitVec 3 := 0)
  /-- DONE_BOUND_EXPIRY (R87): A command's done bound fires first, so the command completes FAILED with reason 0x10. Operands: SEQ of the command. -/
  | doneBoundExpiry (seq : Word)
  /-- CMD_RTAIL_WRITE (R88): The host advances CMD_RTAIL, so the device fetches and checks the new ring entries. Operands: the value written to CMD_RTAIL; entries that the host placed in the command ring, by slot; journal macros whose copy fails for the first entry fetched. -/
  | cmdRtailWrite (idx : BitVec 12) (entries : List (BitVec 12 × List Word)) (jbad : BitVec 3)
  /-- CMD_PHEAD_WRITE (R89): The host advances CMD_PHEAD, which releases held reports and resumes fetching. Operands: the value written to CMD_PHEAD; journal macros whose copy fails for the first entry fetched. -/
  | cmdPheadWrite (idx : BitVec 12) (jbad : BitVec 3)
  /-- RINGEN_SET (R88): Setting CMD_CFG.RINGEN zeroes CMD_RHEAD and CMD_PTAIL and latches the ring bases and sizes. Operands: the word written to CMD_CFG; RINGEN is set. -/
  | ringenSet (v : Word)
  /-- DOORBELL (R91): 0x01 is written to fast target byte 0x50, so the staged two-wire command is submitted for checking. Operands: journal macros whose copy fails. -/
  | doorbell (jbad : BitVec 3)
  /-- REPORT_POP (R92): A read of fast target byte 0x6F removes the oldest two-wire report. -/
  | reportPop
  /-- REBUILT (R94): The rebuild of the journal into JMS completes, and held commands are accepted. Operands: the surviving copy fails in the rebuild (R94). -/
  | rebuilt (fail : Bool := false)
  /-- PRESENCE_CHANGE (R103): The presence debounce of a bay expires with the class changed, so the bay becomes present or empty. Operands: bay; for a STORE bay the mean of SV(256 + s) over the last 10 ms (2 mV); a discarded late arrival. -/
  | presenceChange (n : BitVec 6) (vins : BitVec 16) (late : Bool)
  /-- URGENT (R105): A bay's ALT line has been held urgent for its hold time, so the action for its role is taken. Operands: bay. -/
  | urgent (n : BitVec 6)
  /-- URGENT_END (R103): A bay's ALT line has left urgent for the hold time, so urgent ends. Operands: bay. -/
  | urgentEnd (n : BitVec 6)
  /-- EXTRACTION (R104): The ALT line of a bay that is not open has been above 2.6 V for 20 µs, so the gate is pulled down and ARM cleared. Operands: bay; a discarded late arrival. -/
  | extraction (n : BitVec 6) (late : Bool)
  /-- THROTTLE_TRAIN_END (R106): A throttle pulse train ends; the ALT class unfreezes and a pending step is sent 20 µs later. Operands: bay. -/
  | throttleTrainEnd (n : BitVec 6)
  /-- THROTTLE_REPEAT (R106): Every 10 ms a nonzero throttle step is repeated, and release is repeated three times. Operands: bay. -/
  | throttleRepeat (n : BitVec 6)
  /-- RAMP_COMPLETE (R111): V_DS is at most 2 % and V_GS is at least 9 V, so the bay sets PGOOD and enters ON. Operands: bay. -/
  | rampComplete (n : BitVec 6)
  /-- ADOPTED (R124): An adopted bay reaches V_GS of 9 V, so it enters ON with ADOPTED set. Operands: bay. -/
  | adopted (n : BitVec 6)
  /-- GATE_OFF (R126): V_GS of an opening bay falls below 1 V, so the bay enters PRESENT. Operands: bay. -/
  | gateOff (n : BitVec 6)
  /-- LIMIT_ENTRY (R113): Bay current reaches the effective limit, so the bay regulates in LIMIT and the slow-limit timer counts up. Operands: bay. -/
  | limitEntry (n : BitVec 6)
  /-- LIMIT_EXIT (R113): V_GS is back at 9 V, so the bay returns to ON. Operands: bay. -/
  | limitExit (n : BitVec 6)
  /-- FAST_TRIP (R114): The shunt voltage crosses FTRIP, so the bay is latched off within 250 ns. Operands: bay; peak shunt voltage magnitude, 5 µV units. -/
  | fastTrip (n : BitVec 6) (peak : BitVec 16)
  /-- SLOW (R113): The slow-limit timer reaches TFLT, so the bay latches off with kind SLOW. Operands: bay; peak shunt voltage magnitude, 5 µV units; a discarded late arrival. -/
  | slow (n : BitVec 6) (peak : BitVec 16) (late : Bool)
  /-- RAMPTIME (R117): The ramp timer expires before ramp completion, so the bay latches off. Operands: bay; peak shunt voltage magnitude, 5 µV units; a discarded late arrival. -/
  | ramptime (n : BitVec 6) (peak : BitVec 16) (late : Bool)
  /-- REVERSE (R115): Reverse current beyond REVLIM lasts 10 µs, so the bay latches off. Operands: bay; peak shunt voltage magnitude, 5 µV units; a discarded late arrival. -/
  | reverse (n : BitVec 6) (peak : BitVec 16) (late : Bool)
  /-- GATELOW (R117): V_GS stays below 9 V for 100 µs on a closed bay, so the bay latches off. Operands: bay; peak shunt voltage magnitude, 5 µV units; a discarded late arrival. -/
  | gatelow (n : BitVec 6) (peak : BitVec 16) (late : Bool)
  /-- SENSEOPEN (R119): The sense bias drives SVn beyond ±160 mV for 1 ms, so the bay latches off. Operands: bay; peak shunt voltage magnitude, 5 µV units. -/
  | senseopen (n : BitVec 6) (peak : BitVec 16)
  /-- TOGDLY_END (R120): TOGDLY ends in TOGWAIT, so the automatic toggle is counted and the bay ramps. Operands: bay. -/
  | togdlyEnd (n : BitVec 6)
  /-- TIMED_OPEN_END (R123): The off time of a timed open ends, so the bay ramps back under its own settings. Operands: bay; for a rest by rotation the mean of SV(256 + s) over the last 60 s (2 mV); a class-B command that met the end of the time is late (R317). -/
  | timedOpenEnd (n : BitVec 6) (vmean : BitVec 16) (late : Bool := false)
  /-- LOOP_SAMPLE (R145): At a loop sample instant, the error is converted and the compensator computes a new duty and advances the reference. Operands: loop; sum of the last 2^AVG error words, signed as R145; IMON codes of the switching set by rank (12 bits over 2.0 V); the remote error conversion, signed as R139. -/
  | loopSample (n : BitVec 4) (esum : BitVec 16) (imon : List (BitVec 12)) (remote : BitVec 12)
  /-- LATCH_POINT (R42): At the DPWM latch point the duty is latched if the result is on time; a late result is discarded. Operands: loop; the result is late; slack left in ns. -/
  | latchPoint (n : BitVec 4) (late : Bool) (slack : BitVec 14)
  /-- ONDELAY_END (R164): A loop's on-delay ends, so its phases begin switching in RAMP. Operands: loop. -/
  | ondelayEnd (n : BitVec 4)
  /-- OFFDELAY_END (R164): A loop's off-delay ends, so the loop ramps down or tri-states in coast. Operands: loop. -/
  | offdelayEnd (n : BitVec 4)
  /-- OFF_LEVEL_REACHED (R156): VLS falls below OFFLVL in RAMPDOWN, so the phases are tri-stated and the loop is STOPPED. Operands: loop. -/
  | offLevelReached (n : BitVec 4)
  /-- PGOOD_SET (R154): The reference is at the target and the output has been in the window for 50 µs, so PGOOD sets. Operands: loop; an arrival met the timer and was discarded. -/
  | pgoodSet (n : BitVec 4) (late : Bool)
  /-- PGOOD_CLEAR (R154): The output has been outside the window for 50 µs, so PGOOD clears. Operands: loop. -/
  | pgoodClear (n : BitVec 4)
  /-- SENSE_LOSS (R143): SNSDB ends with the remote reading at −2048, so remote sense is judged lost or the output truly low. Operands: loop; a discarded late arrival. -/
  | senseLoss (n : BitVec 4) (late : Bool)
  /-- SENSE_LOSS_HIGH (R143): During SNSDB, VLS rises above the reference by more than LWIN, so remote sense is lost at once. Operands: loop. -/
  | senseLossHigh (n : BitVec 4)
  /-- LOOP_OV (R162): VLS stays above the overvoltage threshold for 2 µs, so the loop goes to FAULT. Operands: loop; a discarded late arrival. -/
  | loopOv (n : BitVec 4) (late : Bool)
  /-- LOOP_UV (R162): The output stays below the undervoltage threshold for UVT, so a UV token is raised and PGOOD cleared. Operands: loop; a discarded late arrival. -/
  | loopUv (n : BitVec 4) (late : Bool)
  /-- OVERLOAD (R160): The overload timer reaches TLIM, so the loop goes to FAULT. Operands: loop; a discarded late arrival. -/
  | overload (n : BitVec 4) (late : Bool)
  /-- PEAK_CROSSING (R176): IMON crosses the peak threshold outside blanking, so the period is truncated; PKN truncations stop the phase. Operands: phase. -/
  | peakCrossing (n : BitVec 6)
  /-- STAGE_FAULT (R175): IMON stays above FLTLVL for 1 µs, so the phase is stopped with kind STAGE. Operands: phase; a discarded late arrival. -/
  | stageFault (n : BitVec 6) (late : Bool)
  /-- IMONOPEN (R174): IMON stays below 50 mV for 1 ms on a switching phase, so the phase is retired. Operands: phase; a discarded late arrival. -/
  | imonopen (n : BitVec 6) (late : Bool)
  /-- REJOIN (R179): The 10 ms rejoin timer of a transient phase fault ends, so the phase rejoins. Operands: phase; a discarded late arrival. -/
  | rejoin (n : BitVec 6) (late : Bool)
  /-- DWELL_END (R185): A phase's dwell reaches DWELL, so the phase is parked. Operands: phase; a discarded late arrival. -/
  | dwellEnd (n : BitVec 6) (late : Bool)
  /-- PARK_END (R186): The 50 µs park window ends without a load step, so the phase is shed. Operands: phase; a discarded late arrival. -/
  | parkEnd (n : BitVec 6) (late : Bool)
  /-- IMBALANCE_WINDOW (R191): Every 1 ms phase deviations are judged and the IMBAL alarm is set or ended. Operands: phases (bit j for phase j) whose return within IMBPCT met the end of the alarm time and is discarded (Table 7.2). -/
  | imbalanceWindow (late : BitVec 64 := 0)
  /-- ABACUS_SETTLE (R202): Every 100 µs rods are measured and posted, and budget, grants, shares and enforcement decisions are formed. -/
  | abacusSettle
  /-- ENFORCEMENT_ISSUE (R202): At the 60 µs use point, settle orders reach the P-die, or the late settle is discarded. Operands: the use point fired first; the rest of the window (10 ns). -/
  | enforcementIssue (late : Bool) (slack : BitVec 16)
  /-- FEED_TRIM (R211): Every 10 ms each FEED module's VOUT_TRIM is adjusted toward its target. -/
  | feedTrim
  /-- HOLDUP_TRIGGER (R234): A level, slope or alert trigger forces preloads into the armed loops within 1 µs. Operands: the newest sample of the bus monitor (0.1 V); the three before it, which the level condition takes as well, and those before them, which the slope condition takes as well, each the newest first; each armed loop that takes an extra sample (R235), and the taps of its loop period that have passed. -/
  | holdupTrigger (bus : BitVec 10) (lvl slp : List (BitVec 10)) (extra : List (BitVec 4 × BitVec 18))
  /-- HANDOVER (R236): The 50 µs fast window ends and armed loops return to the references of R212. -/
  | handover
  /-- RECOVER_START (R243): The bus rises above VREC with no trigger condition, so RECOVER starts RECT. Operands: the newest sample of the bus monitor (0.1 V); the three before it, which the level condition takes as well, and those before them, which the slope condition takes as well, each the newest first. -/
  | recoverStart (bus : BitVec 10) (lvl slp : List (BitVec 10) := [])
  /-- RECOVER_BREAK (R243): A trigger condition or a bus at or below VREC returns the episode to CARRY. Operands: the newest sample of the bus monitor (0.1 V); the three before it, which the level condition takes as well, and those before them, which the slope condition takes as well, each the newest first. -/
  | recoverBreak (bus : BitVec 10) (lvl slp : List (BitVec 10))
  /-- EPISODE_END (R244): RECT fires, so the hold-up episode ends, HOLDUP clears and throttles release. Operands: a break that met RECT and is discarded. -/
  | episodeEnd (late : Bool)
  /-- BALANCE_CYCLE (R248): Every 100 µs the raw residual enters the window, or the cycle is void if late. Operands: the cycle is late. -/
  | balanceCycle (late : Bool)
  /-- BALANCE_WINDOW (R249): At each 1 s window end the window is judged and a candidate is marked or the window called ambiguous. -/
  | balanceWindow
  /-- TELEMETRY_READ (R252): Every 100 ms READ_POUT is read from FEED modules and compared with the posted power. -/
  | telemetryRead
  /-- SOC_UPDATE (R261): Every 100 ms PC1 updates SoC, the voltage estimate and usable energy, and writes its requests to the abacus. -/
  | socUpdate
  /-- REST_POINT (R262): |I| has stayed below C/100 for 30 min, so the anchor is set from OCV. Operands: string; mean of SV(256 + s) over the 60 s before (2 mV); a discarded late arrival. -/
  | restPoint (n : BitVec 5) (v : BitVec 16) (late : Bool)
  /-- CHARGE_TERMINATION (R263): The termination condition holds for 60 s, so FULL sets and the anchor is set to 100 %. Operands: string; a discarded late arrival. -/
  | chargeTermination (n : BitVec 5) (late : Bool)
  /-- CUTOFF (R264): The string is at or below cutoff for 1 s while discharging, so EMPTY sets and the anchor is set to 0 %. Operands: string; a discarded late arrival. -/
  | cutoff (n : BitVec 5) (late : Bool)
  /-- PSEUDO_OCV (R266): Every 10 min in PSEUDO the anchor is moved toward the voltage estimate. Operands: string. -/
  | pseudoOcv (n : BitVec 5)
  /-- STALE (R267): BATs_SINCE reaches STALEH, so STALE is set. Operands: string; a discarded late arrival. -/
  | stale (n : BitVec 5) (late : Bool)
  /-- ROTATION_DUE (R267): BATs_SINCE reaches ROTD, so the string is due for rest by rotation. Operands: string; a discarded late arrival. -/
  | rotationDue (n : BitVec 5) (late : Bool)
  /-- LEARNING_PAUSE (R271): |I| stays below C/100 for 60 s during learning, so the discharge is disqualified with PAUSE. Operands: string; a discarded late arrival. -/
  | learningPause (n : BitVec 5) (late : Bool)
  /-- OFFSET_CAL_START (R259): A STORE bay has been open 10 s, so offset calibration begins. Operands: string. -/
  | offsetCalStart (n : BitVec 5)
  /-- OFFSET_CAL_END (R259): After 1 s of averaging, the new current offset is taken or refused. Operands: string; mean of SV(280 + s) over 1 s, signed, 1/16 LSB. -/
  | offsetCalEnd (n : BitVec 5) (mean : BitVec 20)
  /-- IDENTITY_TRY (R279): The 100 ms identity try timer ends, so MFR_SERIAL is read again or NOID is set. Operands: string; a discarded late arrival. -/
  | identityTry (n : BitVec 5) (late : Bool)
  /-- HISTOGRAM_UPDATE (R281): Every 10 s PC1 updates histograms and extremes. -/
  | histogramUpdate
  /-- RECORD_COMMIT (R281): A deferred commit of battery working records to eMRAM falls due. -/
  | recordCommit
  /-- ROTATION_REQUEST (R277): An unadmitted or early-ended rest request is repeated after 60 min. Operands: string. -/
  | rotationRequest (n : BitVec 5)
  /-- LEARN_ADMISSION_TIMEOUT (R276): No settle admits a learning discharge within 1 s, so BAT_LEARN is refused. Operands: group. -/
  | learnAdmissionTimeout (g : BitVec 3)
  /-- REST_ADMISSION_TIMEOUT (R283): The admission wait of BAT_REST ends, so the command is refused. Operands: string. -/
  | restAdmissionTimeout (n : BitVec 5)
  /-- GDIS_HOLD_EXPIRY (R512): GDIS and GCHG from the mailbox fall to 0 after 1 s without a new message. Operands: group. -/
  | gdisHoldExpiry (g : BitVec 3)
  /-- DRP_TOGGLE (R291): A random half of the DRP toggle ends, so the port swaps source and sink terminations. Operands: port; TS1 and TS2 at the last sample, 5 mV units. -/
  | drpToggle (n : BitVec 2) (ts1 ts2 : BitVec 10)
  /-- ATTACH (R292): The attach class has held 40 ms, so the port attaches in its role and the source closes under IDEF. Operands: port; TS1 and TS2 at the last sample, 5 mV units; a class change that met the timer is discarded. -/
  | attach (n : BitVec 2) (ts1 ts2 : BitVec 10) (late : Bool)
  /-- ACCESSORY_ATTACH (R294): Both lines hold the accessory class for 40 ms, so an accessory is attached. Operands: port; TS1 and TS2 at the last sample, 5 mV units; a class change that met the timer is discarded. -/
  | accessoryAttach (n : BitVec 2) (ts1 ts2 : BitVec 10) (late : Bool)
  /-- DETACH (R293): TS1 has been out of window for 20 µs without transition, so the tie bay opens fast and the port detaches. Operands: port; TS1 and TS2 at the last sample, 5 mV units; a transition that met the timer is discarded. -/
  | detach (n : BitVec 2) (ts1 ts2 : BitVec 10) (late : Bool)
  /-- MOISTURE_MEASUREMENT (R295): A leakage measurement completes and sets the moisture class. Operands: port; the resistances of TS1 and of TS2 to ground and to SNP, kΩ. -/
  | moistureMeasurement (n : BitVec 2) (gnd1 gnd2 : BitVec 16) (snp1 snp2 : BitVec 16 := 0xFFFF)
  /-- RECEIPT (R301): A RECEIPT frame is received, delivering the pending message. Operands: port; MSGID. -/
  | receipt (n : BitVec 2) (id : BitVec 3)
  /-- CAPS (R303): A CAPS frame is received; the sink answers with REQUEST, or opens on a CAPS with no SUPPLY object. Operands: port; MSGID; DUAL of the sender; at most 7 objects. -/
  | caps (n : BitVec 2) (id : BitVec 3) (dual : Bool) (objs : List Word)
  /-- REQUEST (R304): A REQUEST frame is received, and the source answers ACCEPT or REJECT. Operands: port; MSGID; the REQUEST object. -/
  | request (n : BitVec 2) (id : BitVec 3) (obj : Word)
  /-- ACCEPT (R305): An ACCEPT frame is received, starting a transition or a swap. Operands: port; MSGID. -/
  | accept (n : BitVec 2) (id : BitVec 3)
  /-- REJECT (R316): A REJECT frame is received and its reason recorded. Operands: port; MSGID; the reason. -/
  | reject (n : BitVec 2) (id : BitVec 3) (reason : Byte)
  /-- READY (R305): A READY frame is received; the sink closes its bay into the contract, or the roles swap. Operands: port; MSGID. -/
  | ready (n : BitVec 2) (id : BitVec 3)
  /-- SWAP (R308): A SWAP frame is received and answered, with collision handling. Operands: port; MSGID. -/
  | swap (n : BitVec 2) (id : BitVec 3)
  /-- GETCAPS (R306): A GETCAPS frame is received, and the source sends CAPS. Operands: port; MSGID. -/
  | getcaps (n : BitVec 2) (id : BitVec 3)
  /-- RESERVED_MESSAGE (R299): A frame of reserved type or revision gets a receipt and is otherwise ignored. Operands: port; MSGID; TYPE; REV. -/
  | reservedMessage (n : BitVec 2) (id : BitVec 3) (typ : BitVec 4) (rev : BitVec 2)
  /-- TIE_HARD_RESET (R311): A hard reset signal is received, so the contract is cleared and the bay makes a 25 ms timed open. Operands: port. -/
  | tieHardReset (n : BitVec 2)
  /-- FRAME_SENT (R301): A tie frame finishes sending and the receipt wait starts. Operands: port. -/
  | frameSent (n : BitVec 2)
  /-- RECEIPT_TIMEOUT (R301): No receipt arrives within 200 µs, so the message is resent, or fails after two resends. Operands: port; a receipt that met the timeout is discarded. -/
  | receiptTimeout (n : BitVec 2) (late : Bool)
  /-- RESPONSE_TIMEOUT (R317): No expected answer arrives within 30 ms, so CAPS repeats or a hard reset is sent. Operands: port; an answer that met the timeout is discarded. -/
  | responseTimeout (n : BitVec 2) (late : Bool)
  /-- CAPS_REPEAT (R303): 150 ms pass without REQUEST, so CAPS is sent again, or NOCONTRACT follows after 50 sends. Operands: port; a REQUEST that met the timeout is discarded. -/
  | capsRepeat (n : BitVec 2) (late : Bool)
  /-- TRANSITION_TIMEOUT (R305): No READY arrives within 250 ms of ACCEPT, so a hard reset is sent. Operands: port; a READY that met the timeout is discarded. -/
  | transitionTimeout (n : BitVec 2) (late : Bool)
  /-- COLLISION_BACKOFF_END (R309): The random collision backoff ends, so SWAP is resent if still needed. Operands: port; a role change that met the timer is discarded. -/
  | collisionBackoffEnd (n : BitVec 2) (late : Bool)
  /-- BREACH (R312): The port has been over contract for 1 s, so its contract limit is lowered and LIMITED set. Operands: port; a return within contract that met the timer is discarded. -/
  | breach (n : BitVec 2) (late : Bool)
  /-- BREACH_LIMIT_END (R312): The port is still over contract 1 s after being limited, so the tie bay latches off with kind CONTRACT. Operands: port; a return within contract that met the timer is discarded. -/
  | breachLimitEnd (n : BitVec 2) (late : Bool)
  /-- BREACH_RECOVERY (R312): A limited port stays within contract for 10 s, so the full contract limit returns. Operands: port. -/
  | breachRecovery (n : BitVec 2)
  /-- SLOT (R331): At a sequencer slot instant, the latched list of entities is switched. Operands: flight, flight time of the slot; the list is late and this tick is missed. -/
  | slot (f : BitVec 3) (t : BitVec 24) (late : Bool)
  /-- LANDING (R330): Flight time reaches a landing's TMARK, so the landing is passed and the flight stops if STOP is set. Operands: flight, landing. -/
  | landing (f : BitVec 3) (k : BitVec 4)
  /-- UP_DEADLINE (R334): An up-run deadline fires before the entity is good, so it FAILS and its dependants are skipped or switched off. Operands: flight, entity; a good that met the deadline is discarded. -/
  | upDeadline (f : BitVec 3) (e : BitVec 8) (late : Bool)
  /-- DOWN_DEADLINE (R337): A down-run deadline fires before the entity has fallen, so it becomes STUCK. Operands: flight, entity; a fall that met the deadline is discarded. -/
  | downDeadline (f : BitVec 3) (e : BitVec 8) (late : Bool)
  /-- RAIL_GOOD (R324): MON has stayed in the window for PGDB, so the rail is good. Operands: rail; a discarded late arrival. -/
  | railGood (n : BitVec 7) (late : Bool := false)
  /-- RAIL_GOOD_LOST (R326): MON has stayed at or below UV for FLDB, so the entity becomes LOST and its dependants drop. Operands: rail; a discarded late arrival. -/
  | railGoodLost (n : BitVec 7) (late : Bool := false)
  /-- RAIL_OV (R325): MON has stayed at or above OV for 5 µs, so a token is raised and the rail and dependants may be switched off. Operands: rail; a discarded late arrival. -/
  | railOv (n : BitVec 7) (late : Bool := false)
  /-- RAIL_FALLEN (R322): MON has stayed below OFF for 10 µs, so the rail is fallen. Operands: rail. -/
  | railFallen (n : BitVec 7)
  /-- RETURN_WAIT_END (R341): The 500 ms return wait ends with the condition holding, so the paired flight starts up. Operands: flight; a loss of the condition that met the end of the wait is discarded. -/
  | returnWaitEnd (f : BitVec 3) (late : Bool)
  /-- SYNC_PULSE (R355): The master pulls IDX_SYNC low at every multiple of 1,000 µs. -/
  | syncPulse
  /-- SYNC_EDGE (R355): A slave times the sync falling edge and aligns its link offset. Operands: residual at the edge, signed, ns. -/
  | syncEdge (err : BitVec 16)
  /-- SYNC_EDGE_MISSED (R357): The edge window ends without an edge, and three misses clear SYNCOK. Operands: a late edge is discarded. -/
  | syncEdgeMissed (late : Bool)
  /-- IDDEX_SLOT (R358): The device's slot starts and it sends its frame, checking it against what its receiver hears. Operands: the receiver hears another frame than the one sent. -/
  | iddexSlot (wrong : Bool)
  /-- MASTER_FRAME (R361): A MASTER frame is received, carrying states, time and an order. Operands: the 64 payload bytes of a valid frame (Table 13.2); FCNT and CYC have no use that the manual gives. -/
  | masterFrame (payload : List Byte)
  /-- SLAVE_FRAME (R363): A SLAVE frame is received, carrying states and an order acknowledgement. Operands: SRC and the 56 payload bytes of a valid frame (Table 13.2). -/
  | slaveFrame (src : BitVec 4) (payload : List Byte)
  /-- ORDER_ACK_DEADLINE (R365): At t0 − 1 ms a slave without ACCEPTED is counted missed. Operands: flight. -/
  | orderAckDeadline (f : BitVec 3)
  /-- PEER_LOST (R367): No valid frame from a peer for 50 ms, so the peer is lost. Operands: peer; a frame that met the timeout is discarded. -/
  | peerLost (a : BitVec 4) (late : Bool)
  /-- PGRACE_END (R369): PGRACE ends for a lost peer, so its remote states become BAD. Operands: peer. -/
  | pgraceEnd (a : BitVec 4)
  /-- REGISTER_TARGET_WRITE (R377): A register target write transaction ends with STOP and its whole dwords are committed. Operands: the bytes after the address byte, up to STOP. -/
  | registerTargetWrite (bytes : List Byte)
  /-- REGISTER_TARGET_READ (R379): A register target read reads each dword once and streams its bytes. Operands: pointer bytes written first; data bytes read. -/
  | registerTargetRead (ptr : List Byte) (n : Byte)
  /-- BUSERR (R380): A START in an ACK slot aborts the transaction. Operands: the fast target; the bytes before the START. -/
  | buserr (fast : Bool) (bytes : List Byte)
  /-- TWT_TIMEOUT (R381): SCL stays low for 30 ms, so the target transaction aborts. Operands: the fast target; the bytes before the timeout; a late edge was discarded. -/
  | twtTimeout (fast : Bool) (bytes : List Byte) (late : Bool)
  /-- FAST_TARGET_WRITE (R383): A fast target write transaction commits its staging bytes, window byte and doorbell at STOP. Operands: the bytes after the address byte, up to STOP; journal macros whose copy fails. -/
  | fastTargetWrite (bytes : List Byte) (jbad : BitVec 3)
  /-- SUMMARY_STATUS_READ (R384): A read from byte 0x00 latches all 16 summary status bytes. Operands: pointer of the fast target at which the read starts; bytes read. -/
  | summaryStatusRead (ptr : Byte) (n : Byte)
  /-- GALLERY_WINDOW_ADVANCE (R464): A read of fast target byte 0xFF advances and reloads the 32-word gallery window. -/
  | galleryWindowAdvance
  /-- TRANSACTION_END (R387): A controller port transaction ends and its result goes to its issuer. Operands: port; 0 OK, 1 address NAK, 2 data NAK, 3 PEC error; bytes read; for an identity read, the module fails the check of R280. -/
  | transactionEnd (n : BitVec 3) (result : BitVec 2) (data : List Byte) (bad : Bool)
  /-- TRANSACTION_RETRY (R387): After t_BUF a NAKed or PEC-failed transaction is retried. Operands: port. -/
  | transactionRetry (n : BitVec 3)
  /-- ARBITRATION_LOSS (R388): A port loses arbitration and reissues its transaction after the next STOP. Operands: port. -/
  | arbitrationLoss (n : BitVec 3)
  /-- STRETCH (R389): Clock stretching in one transaction exceeds 25 ms, so it fails. Operands: port. -/
  | stretch (n : BitVec 3)
  /-- HANG (R390): A line stays low 35 ms while undriven, so the segment is HUNG and transactions fail. Operands: port; SDA is low; SCL is low; a release that met the timeout is discarded. -/
  | hang (n : BitVec 3) (sda scl late : Bool)
  /-- SEGMENT_RELEASE (R392): Both lines have been high for 100 µs, so the segment is released and the cure stops. Operands: port. -/
  | segmentRelease (n : BitVec 3)
  /-- SKIP_RETRY (R393): Every 1 s, release is asked again for skipped bays. Operands: port. -/
  | skipRetry (n : BitVec 3)
  /-- SKIPWAIT_END (R393): SKIPWAIT ends with the segment hung, so the segment is retired. Operands: port. -/
  | skipwaitEnd (n : BitVec 3)
  /-- LINE_JUDGEMENT_END (R396): The 35 ms line judgement after enabling or restore ends, so the segment goes IDLE or HUNG. Operands: port; SDA is low; SCL is low. -/
  | lineJudgementEnd (n : BitVec 3) (sda scl : Bool)
  /-- HOST_PASS_THROUGH (R398): Writing TWCn_HCMD.GO queues one host pass-through transaction. Operands: port; the word written to TWCn_HCMD. -/
  | hostPassThrough (n : BitVec 3) (v : Word)
  /-- FRAME_START (R411): At every 64 µs the capture and stream writers begin a frame, with LAYOUT, handovers and window closes. Operands: samples of the frame that ends: 64 of a survey channel and 1,024 of a lane; a channel without an entry kept its latest sample. -/
  | frameStart (sv : List (BitVec 9 × List (BitVec 16))) (ll : List (BitVec 4 × List (BitVec 12)))
  /-- BANK_OWNER_REQUEST (R406): A write of MEMn_OWN.REQ starts a bank handover. Operands: bank; the value written to REQ. -/
  | bankOwnerRequest (m : BitVec 7) (req : BitVec 3)
  /-- OWNERSHIP_GRANT (R406): A bank handover completes and OWNGRANT is raised. Operands: bank. -/
  | ownershipGrant (m : BitVec 7)
  /-- TRANSPARENT_TEST_REGION (R410): A bank's next 4 KiB region is copied, March-tested and restored. Operands: bank; a cell fails, in word w of the bank. -/
  | transparentTestRegion (m : BitVec 7) (fail : Bool) (w : BitVec 17)
  /-- COMPARATOR_TRIGGER (R416): A capture comparator condition holds DEB samples, so a trigger is taken. Operands: comparator; the last samples of its channel, DEB + 1 of them or more. -/
  | comparatorTrigger (k : BitVec 4) (codes : List (BitVec 16))
  /-- SWTRIG (R416): A write of CAP_CTL.SWTRIG takes a software trigger. -/
  | swtrig
  /-- REL (R419): A write of CAP_CTL.REL releases a held window whose snapshot has ended. Operands: window. -/
  | rel (k : BitVec 1)
  /-- HOLDT_EXPIRY (R419): HOLDT runs out after a close, releasing the window once its snapshot has ended. Operands: window. -/
  | holdtExpiry (k : BitVec 1)
  /-- VAULT_WRITE_END (R420): A vault snapshot write ends with VAULTED or VFAIL. Operands: window; device 0 and device 1 wrote the slot; uncorrectable and corrected words that the copy met. -/
  | vaultWriteEnd (k : BitVec 1) (ok0 ok1 : Bool) (unc corr : List (BitVec 7 × BitVec 17))
  /-- STEP_INSTANT (R425): At each 1,000 µs step instant the stream steps rates down or up. -/
  | stepInstant
  /-- STREAM_READ (R423): The reader copies a frame into host buffers and completes a full buffer. Operands: uncorrectable and corrected words that the read met. -/
  | streamRead (unc corr : List (BitVec 7 × BitVec 17))
  /-- BUFFER_FLUSH (R423): FLUSH passes with no further frame, so a partial buffer completes. -/
  | bufferFlush
  /-- STR_DTAIL_WRITE (R422): The host posts stream buffer descriptors, adding credit. Operands: the value written to STR_DTAIL; the descriptors that the host placed, by index. -/
  | strDtailWrite (idx : BitVec 12) (descs : List (BitVec 12 × BitVec 128))
  /-- STR_CHEAD_WRITE (R424): The host frees completion ring entries. Operands: the value written to STR_CHEAD. -/
  | strCheadWrite (idx : BitVec 12)
  /-- STREAM_ENABLE (R422): Setting STR_CFG.EN starts the stream and zeroes DHEAD and CTAIL. Operands: the word written to STR_CFG; EN is set. -/
  | streamEnable (v : Word)
  /-- TOKEN (R436): The fault collector takes a token and applies its class action. Operands: a token of a checker that no other command stands for: SRC, KIND, DETAIL. -/
  | token (new : Option (BitVec 10 × BitVec 6 × Word))
  /-- BUCKET_LEAK (R440): A bucket unit leaks out W seconds after it was added. Operands: source; channel on a shared source, else 0. -/
  | bucketLeak (src : BitVec 10) (chan : BitVec 9)
  /-- HOLD_ORDER (R445): 1 ms after a HOLD-class token, the warm reset is ordered. -/
  | holdOrder
  /-- FLT_ACK (R447): A write of FLT_ACK closes an open entry when GEN matches. Operands: the value written to FLT_ACK. -/
  | fltAck (entry : BitVec 7) (gen : Byte)
  /-- FLT_ACKALL (R447): A write of FLT_ACKALL closes every open entry. -/
  | fltAckall
  /-- FAULT_PAIR_SWAP (R450): In heartbeat mode, the island marks OK with a marker and a swap every 1 ms. -/
  | faultPairSwap
  /-- PNFAIL (R451): A fault pair line disagrees with its drive for 10 µs, so both lines are driven low until cold reset. -/
  | pnfail
  /-- FLT_INJ (R452): A write of FLT_INJ arms a single check-bit injection on the next write to its target. Operands: the word written to FLT_INJ. -/
  | fltInj (v : Word)
  /-- RECORD_OFFER (R459): An offered record is accepted into the tail or spill and numbered, or refused. Operands: a record that firmware offers: TYPE, SRC, payloads; journal macros whose tail copy fails. -/
  | recordOffer (new : Option (Byte × BitVec 10 × List (List Word))) (bad : BitVec 3)
  /-- FLUSH (R462): A 4 KiB page of tail records is flushed to the long-term log, on fill or on FLUSHT. Operands: xSPI device 0 and device 1 fail after two retries. -/
  | flush (fail0 fail1 : Bool)
  /-- GAL_CUR (R464): A write of GAL_CUR loads the BAR4 gallery window from the cursor. Operands: the value written to GAL_CUR. -/
  | galCur (cur : Word)
  /-- GAL_TCUR (R464): A write of GAL_TCUR sets the fast target gallery window. Operands: the value written to GAL_TCUR. -/
  | galTcur (cur : Word)
  /-- FREEZE_TIMEOUT (R466): A freeze reaches 10 s, so it ends FREEZEBROKEN. Operands: a thaw command that met the timeout. -/
  | freezeTimeout (late : Bool)
  /-- MERGE_DONE (R468): The spill empties into the tail, so the gallery returns to RUNNING. -/
  | mergeDone
  /-- KEY_LOAD (R473): A write of GAL_KEYCTL.LOAD stores the clear key in both journal macros. -/
  | keyLoad
  /-- OPH_STEP (R458): Operating hours step every 878,906.25 µs, with an eMRAM slot write every 256 steps. -/
  | ophStep
  /-- DIE_TEMP_SAMPLE (R480): At each sample instant both die sensors are converted and the thermal level is judged. Operands: conversions of the two sensors, 1/8 °C, none for a failed one; a late result was discarded. -/
  | dieTempSample (l p : Option (BitVec 16)) (late : Bool)
  /-- LDIE_POWER_DOWN (R482): At the end of the 10 ms shutdown grace, or at the L-die's done report, L-die power is removed. Operands: a late report was discarded. -/
  | ldiePowerDown (late : Bool)
  /-- HARD_TRIP (R483): The analog comparator trips at 145 °C, so all phases stop and all gates fall until cold reset. -/
  | hardTrip
  /-- THERMISTOR_UPDATE (R484): Every 10 ms thermistor temperatures are reported and judged valid or over. Operands: 1 ms means of the voltages on THM0 to THM31, µV. -/
  | thermistorUpdate (v : List (BitVec 22))
  /-- ANALYZER_POINT_END (R488): A frequency point completes, and margins are formed at the end of a sweep. Operands: the demodulated signals: one entry for POINT 0 and 1, one for each string for POINT 2. -/
  | analyzerPointEnd (res : List Demod)
  /-- DEV_ABORT (R490): VLS deviates beyond DEVLIM for 10 µs, so the measurement aborts. -/
  | devAbort
  /-- IMPEDANCE_POINT_START (R492): PC1 starts an automatic impedance point when its conditions hold. Operands: group. -/
  | impedancePointStart (g : BitVec 3)
  /-- LOGIC_BIST_END (R499): The logic scan ends, the island stores the result and the L-die resets. Operands: signature, none for the expected one. -/
  | logicBistEnd (sig : Option (BitVec 64))
  /-- MEMORY_BIST_END (R501): A memory BIST ends, leaving the bank zeroed and owned by NONE. Operands: signature, none for the expected one; the first failing word. -/
  | memoryBistEnd (sig : Option (BitVec 64)) (fail : Option (BitVec 17))
  /-- CORE_HEARTBEAT_TIMEOUT (R509): A policy core misses its heartbeat for 100 ms, so it is restarted or stopped. Operands: core; a late heartbeat was discarded. -/
  | coreHeartbeatTimeout (core : BitVec 2) (late : Bool)
  /-- MAILBOX_VERSION (R511): Mailbox message 0x0001 returns VERSION and RBIDX of the running firmware. Operands: the core that serves the message. -/
  | mailboxVersion (core : BitVec 2)
  /-- MAILBOX_GROUP_REQUESTS (R511): Mailbox message 0x0101 writes GDIS and GCHG of a group in host-policy mode. -/
  | mailboxGroupRequests
  /-- MAILBOX_GROUP_ENERGY (R511): Mailbox message 0x0102 returns the usable energy of a group. -/
  | mailboxGroupEnergy
  /-- MAILBOX_FEED_WEIGHTS (R511): Mailbox message 0x0201 returns the FEED rod weights in force. -/
  | mailboxFeedWeights
  /-- MAILBOX_ANSWER (R511): A core answers a mailbox exchange, so DONE sets and MBXDONE is raised. Operands: core. -/
  | mailboxAnswer (core : BitVec 2)
  /-- MAILBOX_TIMEOUT (R511): A core does not answer in 10 ms, so the exchange completes with STATUS 0x04. Operands: core; a late answer was discarded. -/
  | mailboxTimeout (core : BitVec 2) (late : Bool)
  /-- NVC_TRANSFER (R520): A write of NVC_CTL.GO starts a copy from a HOST bank into an NVM slot. -/
  | nvcTransfer
  /-- NVC_TRANSFER_DONE (R520): A slot transfer's erase, program and read-back complete, and XDONE is raised. Operands: xSPI device 0 and device 1 fail after two retries; the read-back differs. -/
  | nvcTransferDone (fail0 fail1 bad : Bool)
  /-- NVC_VERIFY (R520): A write of NVC_CTL.VERIFY checks a slot and sets NVC_SLOTk. -/
  | nvcVerify
  /-- PLL_RELOCK (R32): After losing lock for a cause other than a reference change, the PLL locks again and PLLLOCK sets. -/
  | pllRelock
  /-- SURVEY_SAMPLE (R258): Each 1 MSa/s survey sample updates SRVc_VAL, adds I × 1 µs to each string's COUNT and feeds the rail MON and foldback judgements. Operands: channels and their 16-bit codes; the newest sample of the bus monitor (0.1 V); the three before it, which the level condition takes as well, and those before them, which the slope condition takes as well, each the newest first. -/
  | surveySample (codes : List (BitVec 9 × BitVec 16)) (bus : BitVec 10) (lvl slp : List (BitVec 10))
  /-- ALT_CLASS_CHANGE (R102): A bay's ALT line moves into another class, starting or cancelling the presence, urgent and extraction timers. Operands: bay; the voltage of its line, mV (Table 5.2). -/
  | altClassChange (n : BitVec 6) (mv : BitVec 12)
  /-- TS_CLASS_CHANGE (R290): The 10 µs classification of TS1 and TS2 shows a new class, which stops toggling and enters DEBOUNCE, or returns to DETACHED. Operands: port; TS1 and TS2 at the last sample, 5 mV units. -/
  | tsClassChange (n : BitVec 2) (ts1 ts2 : BitVec 10)
  /-- BOOT_PRESENCE_DEBOUNCE_END (R528): In KEEPALIVE-BOOT the presence debounce of every bay has run, so adoption candidates are judged and the island enters HOLD. Operands: strings and the means of SV(256 + s) over the last 10 ms of the debounce (2 mV). -/
  | bootPresenceDebounceEnd (vins : List (BitVec 5 × BitVec 16) := [])
  /-- RETRY_WINDOW_EXPIRY (R120): An automatic toggle ages out of the RWIN window, so RETRYLEFT rises. Operands: bay. -/
  | retryWindowExpiry (n : BitVec 6)
  /-- HOLD_WINDOW_EXPIRY (R445): An ordered warm reset or a limited HOLD token leaves the 600 s window, so HOLDUSED falls and HOLDLIM may clear. -/
  | holdWindowExpiry
  /-- RESTART_WINDOW_EXPIRY (R509): A policy-core restart leaves the 600 s window, so POLn_STAT.RESTARTS falls. Operands: core. -/
  | restartWindowExpiry (core : BitVec 2)
  /-- WINREADY (R464): A gallery window load from the tail or from NVM completes, so READY sets and WINREADY is raised. Operands: the fast window, not the BAR4 window. -/
  | winready (fast : Bool)
  /-- VERIFY_DONE (R520): A slot verification finishes, so NVC_SLOTk and NVC_STAT.RESULT are set and BUSY clears. -/
  | verifyDone
  /-- PFW_WRITES_COMPLETE (R537): The power-fail writes finish, so GLB_PFW.DONE sets and PFW is raised. Operands: xSPI device 0 and device 1 fail in the flush after two retries. -/
  | pfwWritesComplete (fail0 fail1 : Bool)
  /-- TIE_FRAME_DISCARDED (R298): A tie frame with a wrong CRC or length is discarded without a receipt and counted in TIEn_NERR.CRC. Operands: port; the frame received: header, objects, CRC. -/
  | tieFrameDiscarded (n : BitVec 2) (hdr : BitVec 16 := 0) (objs : List Word := []) (crc : Word := 0)
  /-- IDDEX_FRAME_DISCARDED (R359): An Iddex frame with a bad CRC, a wrong LEN, a wrong slot or a reserved type is discarded and counted in IDX_NERR.CRC. Operands: the slot that it arrived in; the frame. -/
  | iddexFrameDiscarded (slot : BitVec 4 := 0) (frame : List Byte := [])
deriving DecidableEq, Repr, Inhabited

end Sys2Proof
end

