-- ==== Sys2Proof/WellFormed.lean ====
section
/-!
DEFINITION. Which commands are well formed: their operands name instances, words and places that the device has.
-/

namespace Sys2Proof

/-- BAY0 to BAY47 (chapter 5). -/
def isBay (n : BitVec 6) : Bool := decide (n.toNat < 48)

/-- BAT0 to BAT23 (chapter 10). -/
def isString (n : BitVec 5) : Bool := decide (n.toNat < 24)

/-- The 96 supervised rails (chapter 12). -/
def isRail (n : BitVec 7) : Bool := decide (n.toNat < 96)

/-- SE0 to SE159 (chapter 12). -/
def isEntity (e : BitVec 8) : Bool := decide (e.toNat < 160)

/-- CB0 to CB63 and SB0 to SB15 (Table 15.1). -/
def isBank (m : BitVec 7) : Bool := decide (m.toNat < 80)

/-- A word of a bank: 131,072 words in CBk, 8,192 in SBk (Table 15.1). -/
def isBankWord (m : BitVec 7) (w : BitVec 17) : Bool := isBank m && (decide (m.toNat < 64) || decide (w.toNat < 8192))

/-- A survey channel, SV0 to SV383 (Table 1.2). -/
def isChannel (c : BitVec 9) : Bool := decide (c.toNat < 384)

/-- One of the five L-die supplies (R523). -/
def isSupply (x : BitVec 3) : Bool := decide (x.toNat < 5)

/-- The argument words of a command entry: at most 12 (Table 4.1). -/
def isArgs (l : List Word) : Bool := decide (l.length ≤ 12)

/-- A byte offset that lies in the window of its path (Table 3.3). -/
def isAddress (path : BitVec 2) (addr : BitVec 26) : Bool :=
  path == 1 || (path == 2 && decide (addr.toNat < 0x10000)) || decide (addr.toNat < 0x200000 ∧ path ≠ 2)

/-- BAR0 or the two-wire register target, which reach the register pages (R63). -/
def isRegPath (path : BitVec 2) : Bool := path == 0 || path == 3

/-- An LTSSM code of Table 3.7. -/
def isLtssm (c : BitVec 4) : Bool := decide (c.toNat ≤ 8)

/-- A ring entry: 16 words (R88). -/
def isEntry (l : List Word) : Bool := decide (l.length = 16)

/-- At most 16 phases are assigned to a loop (R136). -/
def isPhaseList (n : Nat) : Bool := decide (n ≤ 16)

/-- A record offer has 1 to 8 members (R457). -/
def isOffer (o : Option (Byte × BitVec 10 × List (List Word))) : Bool :=
  match o with
  | none => true
  | some (_, _, l) => decide (1 ≤ l.length ∧ l.length ≤ 8)

/-- A part of a divided snapshot: a phase, or the loop-power registers (R194). -/
def isPart (p : BitVec 3) : Bool := decide (p.toNat ≤ 4)

/-- The command is well formed. -/
def Instr.wf (i : Instr) : Bool :=
  match i with
  | .coldReset _ _ _ _ _ => true
  | .islandLoss => true
  | .regloss _ => true
  | .regback _ => true
  | .supplyOut sup => isSupply sup
  | .ldieResetRelease => true
  | .warmReset => true
  | .hardReset => true
  | .resetNRelease _ => true
  | .powerFailWarning => true
  | .powerFailWarningEnd => true
  | .pllLock => true
  | .pdieBistEnd _ _ => true
  | .runEntry _ _ _ => true
  | .heartbeat => true
  | .heartbeatTimeout _ => true
  | .bridgeTransfer _ => true
  | .xtalQualified => true
  | .xtalReturn => true
  | .xtalEdgeTimeout _ => true
  | .xtalCountWindow _ _ => true
  | .pllUnlock => true
  | .slewDone => true
  | .interpolatorCalibration _ => true
  | .handshakeMeasurement _ => true
  | .tmbUsLoRead => true
  | .registerWrite path addr _ _ => isAddress path addr
  | .rcRead path addr _ => isAddress path addr
  | .commit _ => true
  | .snapshotApply _ part => isPart part
  | .blkrst _ => true
  | .lockSet _ => true
  | .pgEvtClear _ _ _ => true
  | .evtEoi _ _ => true
  | .msixUnmask _ => true
  | .evtGenSet => true
  | .msiGapEnd _ => true
  | .evtQpop => true
  | .glbLockkey path _ => isRegPath path
  | .lockKeyTimeout _ => true
  | .lockoutEnd => true
  | .pcieLinkChange _ _ _ _ _ ltssm => isLtssm ltssm
  | .pcieAerError _ _ _ => true
  | .pcieConfigRequest _ _ _ => true
  | .bar2Access _ _ _ _ _ => true
  | .nop _ _ => true
  | .glbWarmreset _ _ => true
  | .warmresetStart => true
  | .benchEnter _ _ => true
  | .benchLeave _ _ => true
  | .pageSet _ _ args => isArgs args
  | .bayArm _ _ _ _ => true
  | .bayOpen _ _ _ => true
  | .bayToggle _ _ _ => true
  | .bayLimit _ _ _ _ _ _ => true
  | .loopStart _ _ _ _ _ _ => true
  | .loopStop _ _ _ _ _ _ => true
  | .loopVset _ _ _ _ _ _ => true
  | .loopCoef _ _ _ _ _ _ _ _ _ _ => true
  | .phCfg _ _ _ _ _ _ => true
  | .abcCap _ _ _ _ => true
  | .rodSet _ _ _ _ _ _ => true
  | .hldSet _ _ _ _ _ _ _ _ _ _ => true
  | .batLearn _ _ _ => true
  | .batLearnAbort _ _ _ => true
  | .batRest _ _ _ => true
  | .batRestAbort _ _ _ => true
  | .tiePolicy _ _ _ _ => true
  | .tieRequest _ _ _ _ => true
  | .tieRequestSwap _ _ _ _ => true
  | .tieRequestHardreset _ _ _ _ => true
  | .tieRequestCaps _ _ _ _ => true
  | .flightRun _ _ _ _ => true
  | .flightContinue _ _ _ => true
  | .flightAbort _ _ _ => true
  | .galFreeze _ _ => true
  | .galThaw _ _ => true
  | .galClear _ _ _ _ _ _ _ _ _ _ => true
  | .bistLogic _ _ _ _ => true
  | .bistMemory _ _ _ _ => true
  | .bistPdie _ _ _ _ => true
  | .lanRun _ _ _ _ _ _ _ _ => true
  | .lanAbort _ _ _ _ _ _ _ _ => true
  | .imgSelect _ _ _ _ => true
  | .doneReport _ => true
  | .doneBoundExpiry _ => true
  | .cmdRtailWrite _ entries _ => entries.all fun p => isEntry p.2
  | .cmdPheadWrite _ _ => true
  | .ringenSet _ => true
  | .doorbell _ => true
  | .reportPop => true
  | .rebuilt _ => true
  | .presenceChange n _ _ => isBay n
  | .urgent n => isBay n
  | .urgentEnd n => isBay n
  | .extraction n _ => isBay n
  | .throttleTrainEnd n => isBay n
  | .throttleRepeat n => isBay n
  | .rampComplete n => isBay n
  | .adopted n => isBay n
  | .gateOff n => isBay n
  | .limitEntry n => isBay n
  | .limitExit n => isBay n
  | .fastTrip n _ => isBay n
  | .slow n _ _ => isBay n
  | .ramptime n _ _ => isBay n
  | .reverse n _ _ => isBay n
  | .gatelow n _ _ => isBay n
  | .senseopen n _ => isBay n
  | .togdlyEnd n => isBay n
  | .timedOpenEnd n _ _ => isBay n
  | .loopSample _ _ imon _ => isPhaseList imon.length
  | .latchPoint _ _ _ => true
  | .ondelayEnd _ => true
  | .offdelayEnd _ => true
  | .offLevelReached _ => true
  | .pgoodSet _ _ => true
  | .pgoodClear _ => true
  | .senseLoss _ _ => true
  | .senseLossHigh _ => true
  | .loopOv _ _ => true
  | .loopUv _ _ => true
  | .overload _ _ => true
  | .peakCrossing _ => true
  | .stageFault _ _ => true
  | .imonopen _ _ => true
  | .rejoin _ _ => true
  | .dwellEnd _ _ => true
  | .parkEnd _ _ => true
  | .imbalanceWindow _ => true
  | .abacusSettle => true
  | .enforcementIssue _ _ => true
  | .feedTrim => true
  | .holdupTrigger _ _ _ _ => true
  | .handover => true
  | .recoverStart _ _ _ => true
  | .recoverBreak _ _ _ => true
  | .episodeEnd _ => true
  | .balanceCycle _ => true
  | .balanceWindow => true
  | .telemetryRead => true
  | .socUpdate => true
  | .restPoint n _ _ => isString n
  | .chargeTermination n _ => isString n
  | .cutoff n _ => isString n
  | .pseudoOcv n => isString n
  | .stale n _ => isString n
  | .rotationDue n _ => isString n
  | .learningPause n _ => isString n
  | .offsetCalStart n => isString n
  | .offsetCalEnd n _ => isString n
  | .identityTry n _ => isString n
  | .histogramUpdate => true
  | .recordCommit => true
  | .rotationRequest n => isString n
  | .learnAdmissionTimeout _ => true
  | .restAdmissionTimeout n => isString n
  | .gdisHoldExpiry _ => true
  | .drpToggle _ _ _ => true
  | .attach _ _ _ _ => true
  | .accessoryAttach _ _ _ _ => true
  | .detach _ _ _ _ => true
  | .moistureMeasurement _ _ _ _ _ => true
  | .receipt _ _ => true
  | .caps _ _ _ _ => true
  | .request _ _ _ => true
  | .accept _ _ => true
  | .reject _ _ _ => true
  | .ready _ _ => true
  | .swap _ _ => true
  | .getcaps _ _ => true
  | .reservedMessage _ _ _ _ => true
  | .tieHardReset _ => true
  | .frameSent _ => true
  | .receiptTimeout _ _ => true
  | .responseTimeout _ _ => true
  | .capsRepeat _ _ => true
  | .transitionTimeout _ _ => true
  | .collisionBackoffEnd _ _ => true
  | .breach _ _ => true
  | .breachLimitEnd _ _ => true
  | .breachRecovery _ => true
  | .slot _ _ _ => true
  | .landing _ _ => true
  | .upDeadline _ e _ => isEntity e
  | .downDeadline _ e _ => isEntity e
  | .railGood n _ => isRail n
  | .railGoodLost n _ => isRail n
  | .railOv n _ => isRail n
  | .railFallen n => isRail n
  | .returnWaitEnd _ _ => true
  | .syncPulse => true
  | .syncEdge _ => true
  | .syncEdgeMissed _ => true
  | .iddexSlot _ => true
  | .masterFrame _ => true
  | .slaveFrame _ _ => true
  | .orderAckDeadline _ => true
  | .peerLost _ _ => true
  | .pgraceEnd _ => true
  | .registerTargetWrite _ => true
  | .registerTargetRead _ _ => true
  | .buserr _ _ => true
  | .twtTimeout _ _ _ => true
  | .fastTargetWrite _ _ => true
  | .summaryStatusRead _ _ => true
  | .galleryWindowAdvance => true
  | .transactionEnd _ _ _ _ => true
  | .transactionRetry _ => true
  | .arbitrationLoss _ => true
  | .stretch _ => true
  | .hang _ _ _ _ => true
  | .segmentRelease _ => true
  | .skipRetry _ => true
  | .skipwaitEnd _ => true
  | .lineJudgementEnd _ _ _ => true
  | .hostPassThrough _ _ => true
  | .frameStart sv _ => sv.all fun p => isChannel p.1
  | .bankOwnerRequest m _ => isBank m
  | .ownershipGrant m => isBank m
  | .transparentTestRegion m _ w => isBankWord m w
  | .comparatorTrigger _ _ => true
  | .swtrig => true
  | .rel _ => true
  | .holdtExpiry _ => true
  | .vaultWriteEnd _ _ _ unc corr => (unc ++ corr).all fun p => isBankWord p.1 p.2
  | .stepInstant => true
  | .streamRead unc corr => (unc ++ corr).all fun p => isBankWord p.1 p.2
  | .bufferFlush => true
  | .strDtailWrite _ _ => true
  | .strCheadWrite _ => true
  | .streamEnable _ => true
  | .token _ => true
  | .bucketLeak _ _ => true
  | .holdOrder => true
  | .fltAck _ _ => true
  | .fltAckall => true
  | .faultPairSwap => true
  | .pnfail => true
  | .fltInj _ => true
  | .recordOffer new _ => isOffer new
  | .flush _ _ => true
  | .galCur _ => true
  | .galTcur _ => true
  | .freezeTimeout _ => true
  | .mergeDone => true
  | .keyLoad => true
  | .ophStep => true
  | .dieTempSample _ _ _ => true
  | .ldiePowerDown _ => true
  | .hardTrip => true
  | .thermistorUpdate _ => true
  | .analyzerPointEnd _ => true
  | .devAbort => true
  | .impedancePointStart _ => true
  | .logicBistEnd _ => true
  | .memoryBistEnd _ _ => true
  | .coreHeartbeatTimeout _ _ => true
  | .mailboxVersion _ => true
  | .mailboxGroupRequests => true
  | .mailboxGroupEnergy => true
  | .mailboxFeedWeights => true
  | .mailboxAnswer _ => true
  | .mailboxTimeout _ _ => true
  | .nvcTransfer => true
  | .nvcTransferDone _ _ _ => true
  | .nvcVerify => true
  | .pllRelock => true
  | .surveySample codes _ _ _ => codes.all fun p => isChannel p.1
  | .altClassChange n _ => isBay n
  | .tsClassChange _ _ _ => true
  | .bootPresenceDebounceEnd vins => vins.all fun p => isString p.1
  | .retryWindowExpiry n => isBay n
  | .holdWindowExpiry => true
  | .restartWindowExpiry _ => true
  | .winready _ => true
  | .verifyDone => true
  | .pfwWritesComplete _ _ => true
  | .tieFrameDiscarded _ _ _ _ => true
  | .iddexFrameDiscarded _ _ => true

end Sys2Proof
end

