-- ==== Sys2Proof/Machine/Bits.lean ====
section
/-!
DEFINITION. Bit fields, signs, saturation, rounding: the plain number helpers that the meanings share.
-/

namespace Sys2Proof.Machine

/-- Bits `[lo + w - 1 : lo]` of `v`. -/
def bits (v lo w : Nat) : Nat := v / 2 ^ lo % 2 ^ w

/-- Bit `b` of `v`. -/
def bitOf (v b : Nat) : Bool := v / 2 ^ b % 2 == 1

/-- 1 for true. -/
def b2n (b : Bool) : Nat := if b then 1 else 0

/-- `v` with bit `b` set. -/
def setBit (v b : Nat) : Nat := if bitOf v b then v else v + 2 ^ b

/-- `v` with bit `b` clear. -/
def clrBit (v b : Nat) : Nat := if bitOf v b then v - 2 ^ b else v

/-- `v` with bit `b` equal to `x`. -/
def putBit (v b : Nat) (x : Bool) : Nat := if x then setBit v b else clrBit v b

/-- The bits of `v` that are not set in `m`, over 32 bits. -/
def clrMask (v m : Nat) : Nat := v - (v &&& m)

/-- `v` read as a two's-complement number of `w` bits. -/
def sx (w v : Nat) : Int := if bitOf v (w - 1) then (v % 2 ^ w : Nat) - (2 ^ w : Nat) else (v % 2 ^ w : Nat)

/-- The two's-complement code of `x` in `w` bits. -/
def tw (w : Nat) (x : Int) : Nat := (x % (2 ^ w : Nat)).toNat

/-- `v` held at the greatest `w`-bit value. -/
def sat (w v : Nat) : Nat := min v (2 ^ w - 1)

/-- `x` held in the range of `w`-bit two's complement. -/
def ssat (w : Nat) (x : Int) : Int := max (-(2 ^ (w - 1) : Nat)) (min x ((2 ^ (w - 1) : Nat) - 1))

/-- `x` held between `lo` and `hi`; `hi` wins. -/
def clamp (lo hi x : Nat) : Nat := min hi (max lo x)

/-- `x` held between `lo` and `hi`; `hi` wins. -/
def iclamp (lo hi x : Int) : Int := min hi (max lo x)

/-- `a / b` rounded to nearest, ties away from zero; 0 when `b = 0`. -/
def rdiv (a b : Nat) : Nat := if b = 0 then 0 else (2 * a + b) / (2 * b)

/-- `a / b` rounded to nearest, ties away from zero, for signed `a`. -/
def irdiv (a : Int) (b : Nat) : Int := if a < 0 then -(rdiv a.natAbs b : Nat) else (rdiv a.natAbs b : Nat)

/-- `a / b` rounded up; 0 when `b = 0`. -/
def cdiv (a b : Nat) : Nat := if b = 0 then 0 else (a + b - 1) / b

/-- The greatest `r` below `2 ^ n` with `r * r ≤ x`. -/
def sqrtBits : Nat → Nat → Nat → Nat
  | 0, _, r => r
  | n + 1, x, r => if (r + 2 ^ n) * (r + 2 ^ n) ≤ x then sqrtBits n x (r + 2 ^ n) else sqrtBits n x r

/-- The integer square root of a 64-bit number. -/
def isqrt (x : Nat) : Nat := sqrtBits 32 x 0

/-- The entry of `l` at `i`, or the default. -/
def nth {α : Type} [Inhabited α] (l : List α) (i : Nat) : α := l.getD i default

/-- The sum of a list of numbers. -/
def sumN (l : List Nat) : Nat := l.foldl (· + ·) 0

/-- The sum of a list of signed numbers. -/
def sumI (l : List Int) : Int := l.foldl (· + ·) 0

/-- The instance at `i`, or the default beyond the end. -/
def vget {α : Type} [Inhabited α] {n : Nat} (v : Vector α n) (i : Nat) : α := v.toList.getD i default

/-- `v` with the instance at `i` changed by `f`; unchanged beyond the end. -/
def vmod {α : Type} [Inhabited α] {n : Nat} (v : Vector α n) (i : Nat) (f : α → α) : Vector α n :=
  v.setIfInBounds i (f (vget v i))

/-- The words of a list of bytes, four bytes little-endian to a word. -/
def bytesToNat : List Byte → Nat
  | [] => 0
  | b :: r => b.toNat + 256 * bytesToNat r

/-- The first `n` bytes of `v`, little-endian. -/
def natToBytes : Nat → Nat → List Byte
  | 0, _ => []
  | n + 1, v => BitVec.ofNat 8 v :: natToBytes n (v / 256)

/-- `x` rounded to the nearest integer, ties away from zero (R199). -/
def qround (x : ℚ) : Int := if x < 0 then -(1 / 2 - x).floor else (x + 1 / 2).floor

/-- `x` rounded toward zero. -/
def qtrunc (x : ℚ) : Int := if x < 0 then -(-x).floor else x.floor

/-- `x` held between `lo` and `hi`. -/
def qclamp (lo hi x : ℚ) : ℚ := if x < lo then lo else if hi < x then hi else x

/-- The sum of a list of rationals. -/
def sumQ (l : List ℚ) : ℚ := l.foldl (· + ·) 0

/-- The segment of a rising axis in which `x` lies, and how far along it; the ends beyond the axis (R260). -/
def segment (xs : List ℚ) (x : ℚ) : Nat × ℚ :=
  match (List.range (xs.length - 1)).find? fun i => x < xs.getD (i + 1) 0 with
  | some i => if x ≤ xs.getD i 0 then (i, 0) else (i, (x - xs.getD i 0) / (xs.getD (i + 1) 0 - xs.getD i 0))
  | none => (xs.length - 1, 0)

/-- Linear interpolation of a column of values along an axis. -/
def interpolate (xs : List ℚ) (val : Nat → ℚ) (x : ℚ) : ℚ :=
  let p := segment xs x
  if p.2 = 0 then val p.1 else val p.1 + (val (p.1 + 1) - val p.1) * p.2

end Sys2Proof.Machine
end

