-- ==== Sys2Proof/Machine/Crc.lean ====
section
/-!
DEFINITION. Check codes: the CRC-32 of R77 (command entries, journal copies, gallery pages), and SHA-256 with HMAC for
the gallery clear (R471).
-/

namespace Sys2Proof.Machine

/-- One bit step of the reflected CRC-32 with polynomial 0x04C11DB7. -/
def crcBit (c : BitVec 32) : BitVec 32 := if c.getLsbD 0 then (c >>> 1) ^^^ 0xEDB88320#32 else c >>> 1

/-- One byte of the CRC-32. -/
def crcByte (c : BitVec 32) (b : Byte) : BitVec 32 :=
  crcBit (crcBit (crcBit (crcBit (crcBit (crcBit (crcBit (crcBit (c ^^^ b.setWidth 32))))))))

/-- The CRC-32 of R77. -/
def crc32 (bytes : List Byte) : BitVec 32 := bytes.foldl crcByte 0xFFFFFFFF#32 ^^^ 0xFFFFFFFF#32

/-- One bit step of CRC-16/CCITT, polynomial 0x1021, not reflected (R359). -/
def crc16Bit (c : BitVec 16) : BitVec 16 := if c.getLsbD 15 then (c <<< 1) ^^^ 0x1021#16 else c <<< 1

/-- One byte of CRC-16/CCITT. -/
def crc16Byte (c : BitVec 16) (b : Nat) : BitVec 16 :=
  let x := c ^^^ (BitVec.ofNat 16 b <<< 8)
  crc16Bit (crc16Bit (crc16Bit (crc16Bit (crc16Bit (crc16Bit (crc16Bit (crc16Bit x)))))))

/-- CRC-16/CCITT with initial value 0xFFFF (R298, R359). -/
def crc16 (bytes : List Nat) : Nat := (bytes.foldl crc16Byte 0xFFFF#16).toNat

/-- One bit step of the CRC-8 with polynomial 0x07 (R375). -/
def crc8Bit (c : BitVec 8) : BitVec 8 := if c.getLsbD 7 then (c <<< 1) ^^^ 0x07#8 else c <<< 1

/-- One byte of the CRC-8. -/
def crc8Byte (c : BitVec 8) (b : Nat) : BitVec 8 :=
  crc8Bit (crc8Bit (crc8Bit (crc8Bit (crc8Bit (crc8Bit (crc8Bit (crc8Bit (c ^^^ BitVec.ofNat 8 b))))))))

/-- The packet error code over the bytes of a transaction (R375). -/
def crc8 (bytes : List Nat) : Nat := (bytes.foldl crc8Byte 0#8).toNat

/-- The bytes of a list of little-endian words. -/
def wordBytes (ws : List Nat) : List Byte := ws.flatMap fun w => natToBytes 4 w

/-- CHK of a command entry: the CRC-32 of its 64 bytes with w3 taken as 0 (R77). -/
def cmdChk (ws : List Nat) : Nat := (crc32 (wordBytes (ws.set 3 0))).toNat

/-- The round constants of SHA-256. -/
def shaK : List (BitVec 32) :=
  [0x428a2f98, 0x71374491, 0xb5c0fbcf, 0xe9b5dba5, 0x3956c25b, 0x59f111f1, 0x923f82a4, 0xab1c5ed5]
  ++ [0xd807aa98, 0x12835b01, 0x243185be, 0x550c7dc3, 0x72be5d74, 0x80deb1fe, 0x9bdc06a7, 0xc19bf174]
  ++ [0xe49b69c1, 0xefbe4786, 0x0fc19dc6, 0x240ca1cc, 0x2de92c6f, 0x4a7484aa, 0x5cb0a9dc, 0x76f988da]
  ++ [0x983e5152, 0xa831c66d, 0xb00327c8, 0xbf597fc7, 0xc6e00bf3, 0xd5a79147, 0x06ca6351, 0x14292967]
  ++ [0x27b70a85, 0x2e1b2138, 0x4d2c6dfc, 0x53380d13, 0x650a7354, 0x766a0abb, 0x81c2c92e, 0x92722c85]
  ++ [0xa2bfe8a1, 0xa81a664b, 0xc24b8b70, 0xc76c51a3, 0xd192e819, 0xd6990624, 0xf40e3585, 0x106aa070]
  ++ [0x19a4c116, 0x1e376c08, 0x2748774c, 0x34b0bcb5, 0x391c0cb3, 0x4ed8aa4a, 0x5b9cca4f, 0x682e6ff3]
  ++ [0x748f82ee, 0x78a5636f, 0x84c87814, 0x8cc70208, 0x90befffa, 0xa4506ceb, 0xbef9a3f7, 0xc67178f2]

/-- The initial state of SHA-256. -/
def shaH0 : List (BitVec 32) :=
  [0x6a09e667, 0xbb67ae85, 0x3c6ef372, 0xa54ff53a, 0x510e527f, 0x9b05688c, 0x1f83d9ab, 0x5be0cd19]

/-- The next word of the message schedule, the schedule being held newest first. -/
def shaNext (w : List (BitVec 32)) : BitVec 32 :=
  let x := nth w 14
  let y := nth w 1
  (y.rotateRight 17 ^^^ y.rotateRight 19 ^^^ (y >>> 10)) + nth w 6
    + (x.rotateRight 7 ^^^ x.rotateRight 18 ^^^ (x >>> 3)) + nth w 15

/-- The message schedule of one block of 16 words, newest first, grown to `16 + n` words. -/
def shaSched : Nat → List (BitVec 32) → List (BitVec 32)
  | 0, w => w
  | n + 1, w => shaSched n (shaNext w :: w)

/-- One round of SHA-256. -/
def shaRound (v : List (BitVec 32)) (kw : BitVec 32 × BitVec 32) : List (BitVec 32) :=
  let a := nth v 0
  let e := nth v 4
  let t1 := nth v 7 + (e.rotateRight 6 ^^^ e.rotateRight 11 ^^^ e.rotateRight 25)
    + ((e &&& nth v 5) ^^^ (~~~e &&& nth v 6)) + kw.1 + kw.2
  let t2 := (a.rotateRight 2 ^^^ a.rotateRight 13 ^^^ a.rotateRight 22)
    + ((a &&& nth v 1) ^^^ (a &&& nth v 2) ^^^ (nth v 1 &&& nth v 2))
  [t1 + t2, a, nth v 1, nth v 2, nth v 3 + t1, e, nth v 5, nth v 6]

/-- One block of SHA-256. -/
def shaBlock (h : List (BitVec 32)) (block : List (BitVec 32)) : List (BitVec 32) :=
  List.zipWith (· + ·) h ((shaK.zip (shaSched 48 block.reverse).reverse).foldl shaRound h)

/-- A big-endian word of four bytes. -/
def beWord (b : List Byte) : BitVec 32 := BitVec.ofNat 32 (b.foldl (fun a x => 256 * a + x.toNat) 0)

/-- The words of a message, `n` blocks of 64 bytes. -/
def shaBlocks : Nat → List Byte → List (List (BitVec 32))
  | 0, _ => []
  | n + 1, m => ((List.range 16).map fun i => beWord ((m.drop (4 * i)).take 4)) :: shaBlocks n (m.drop 64)

/-- The padded message of SHA-256. -/
def shaPad (m : List Byte) : List Byte :=
  let z := (119 - m.length % 64) % 64
  m ++ [0x80#8] ++ List.replicate z 0#8 ++ (natToBytes 8 (8 * m.length)).reverse

/-- SHA-256 of a message, as 32 bytes. -/
def sha256 (m : List Byte) : List Byte :=
  let p := shaPad m
  (((shaBlocks (p.length / 64) p).foldl shaBlock shaH0).flatMap fun w => (natToBytes 4 w.toNat).reverse)

/-- HMAC-SHA-256 with a key of at most 64 bytes. -/
def hmacSha256 (key msg : List Byte) : List Byte :=
  let k := key ++ List.replicate (64 - key.length) 0#8
  sha256 (k.map (· ^^^ 0x5c#8) ++ sha256 (k.map (· ^^^ 0x36#8) ++ msg))

end Sys2Proof.Machine
end

