-- ==== Sys2Proof/Machine/Mem.lean ====
section
/-!
DEFINITION. The capture and scratch memory: bytes at addresses, bank m from m × 0x100000 (R60, R405), as a list of cells in
one canonical form. A byte that is not listed reads 0 (log entry 60).
-/

namespace Sys2Proof.Machine

/-- Bytes by address. -/
abbrev Memory := List Host.Cell

/-- Addresses strictly rising, and no listed byte 0. -/
def Memory.wf : Memory → Bool
  | [] => true
  | [(_, v)] => v != 0#8
  | (a, v) :: (b, w) :: r => v != 0#8 && decide (a < b) && Memory.wf ((b, w) :: r)

/-- The byte at an address. -/
def Memory.byte : Memory → Nat → Byte
  | [], _ => 0
  | (b, v) :: r, a => if b = a then v else Memory.byte r a

/-- One byte written. -/
def Memory.put : Memory → Nat → Byte → Memory
  | [], a, v => if v = 0#8 then [] else [(a, v)]
  | (b, w) :: r, a, v =>
    if a < b then (if v = 0#8 then (b, w) :: r else (a, v) :: (b, w) :: r)
    else if a = b then (if v = 0#8 then r else (a, v) :: r)
    else (b, w) :: Memory.put r a v

/-- A run of bytes written from an address up. -/
def Memory.putRun (m : Memory) : Nat → List Byte → Memory
  | _, [] => m
  | a, v :: r => Memory.putRun (Memory.put m a v) (a + 1) r

/-- The address of word `w` of bank `m`. -/
def wordAddr (m w : Nat) : Nat := m * 0x100000 + 8 * w

/-- The 64-bit word at an address. -/
def Memory.word (m : Memory) (a : Nat) : Nat := bytesToNat ((List.range 8).map fun i => m.byte (a + i))

/-- A run of 64-bit words written from an address up. -/
def Memory.putWords (m : Memory) (a : Nat) (ws : List Nat) : Memory := m.putRun a (ws.flatMap (natToBytes 8))

/-- `n` 64-bit words from an address up. -/
def Memory.words (m : Memory) (a n : Nat) : List Nat := (List.range n).map fun i => m.word (a + 8 * i)

/-- The bytes from `a` up to `b` read 0. -/
def Memory.wipe (m : Memory) (a b : Nat) : Memory := m.filter fun p => p.1 < a || b ≤ p.1

end Sys2Proof.Machine
end

