-- ==== Sys2Proof/Machine/Map.lean ====
section
/-!
DEFINITION. The register map: one `Row` per field of the register tables of chapters 2 to 22 (offset, stride and count
of its instances, bits, access code of R5, reset value), the rows of every page, and the page properties (PG_ID, PG_CAP).
-/

namespace Sys2Proof.Machine

/-- The access codes of Table 0.2 (R5). -/
inductive Acc
  | rw | ro | w1c | w1s | wo | rc | rwj | rwl
deriving DecidableEq, Repr, Inhabited

/-- A field of a register table: its offset in the page, the step between instances and their number, its bits, its
access code, its reset value, and whether it is staged (R57). -/
structure Row where
  off : Nat
  stride : Nat
  count : Nat
  lo : Nat
  width : Nat
  acc : Acc
  reset : Nat
  staged : Bool
deriving DecidableEq, Repr, Inhabited

/-- One field of one instance: where it lies and what the table says of it. -/
structure Fld where
  page : Nat
  off : Nat
  lo : Nat
  width : Nat
  acc : Acc
  reset : Nat
  staged : Bool
deriving DecidableEq, Repr, Inhabited

/-- The key of a field: page, offset and lowest bit, in one number (each page has offsets below 0x1000). -/
def Fld.key (f : Fld) : Nat := f.page * 131072 + f.off * 32 + f.lo

/-- The field of instance `i` of a row, on page `pg`. -/
def Row.at (r : Row) (pg i : Nat) : Fld :=
  { page := pg, off := r.off + r.stride * i, lo := r.lo, width := r.width, acc := r.acc, reset := r.reset,
    staged := r.staged }

/-- The instance whose register lies at offset `x`, if the row has one there. -/
def Row.indexAt (r : Row) (x : Nat) : Option Nat :=
  if x < r.off then none
  else if r.stride = 0 then (if x = r.off then some 0 else none)
  else if (x - r.off) % r.stride = 0 ∧ (x - r.off) / r.stride < r.count then some ((x - r.off) / r.stride) else none

namespace Reg

/-- TMB_CFG.AUTORET [0] RW, reset 0x1 (R47): 1: return to the crystal after 100 ms without a loss -/
def tmbCfgAutoret : Row := ⟨0x40, 0x4, 1, 0, 1, .rw, 0x1, false⟩

/-- TMB_CFG.FORCEINT [1] RW, reset 0x0 (R47): 1: run on the internal oscillator. Takes effect in BENCH only; ignored in other states -/
def tmbCfgForceint : Row := ⟨0x40, 0x4, 1, 1, 1, .rw, 0x0, false⟩

/-- TMB_STAT.PLLLOCK [0] RO, reset 0x0 (R47): PLL locked -/
def tmbStatPlllock : Row := ⟨0x44, 0x4, 1, 0, 1, .ro, 0x0, false⟩

/-- TMB_STAT.XTALOK [1] RO, reset 0x0 (R47): Crystal running and qualified -/
def tmbStatXtalok : Row := ⟨0x44, 0x4, 1, 1, 1, .ro, 0x0, false⟩

/-- TMB_STAT.ONINT [2] RO, reset 0x1 (R47): PLL referenced to the internal oscillator -/
def tmbStatOnint : Row := ⟨0x44, 0x4, 1, 2, 1, .ro, 0x1, false⟩

/-- TMB_STAT.CALOK [3] RO, reset 0x0 (R47): Interpolator code valid -/
def tmbStatCalok : Row := ⟨0x44, 0x4, 1, 3, 1, .ro, 0x0, false⟩

/-- TMB_STAT.SLEWING [4] RO, reset 0x0 (R47): Holdover or slew in progress -/
def tmbStatSlewing : Row := ⟨0x44, 0x4, 1, 4, 1, .ro, 0x0, false⟩

/-- TMB_US_LO.US [31:0] RO, reset 0x0 (R47): Microsecond counter, low word; a read latches the high word -/
def tmbUsLoUs : Row := ⟨0x48, 0x4, 1, 0, 32, .ro, 0x0, false⟩

/-- TMB_US_HI.US [31:0] RO, reset 0x0 (R47): High word latched by the last TMB_US_LO read -/
def tmbUsHiUs : Row := ⟨0x4c, 0x4, 1, 0, 32, .ro, 0x0, false⟩

/-- TMB_CAL.TAPCODE [6:0] RO, reset 0x00 (R47): Interpolator tap code in use, 0–127; value not specified (R34) -/
def tmbCalTapcode : Row := ⟨0x50, 0x4, 1, 0, 7, .ro, 0x0, false⟩

/-- TMB_CAL.CALCNT [31:16] RO, reset 0x0000 (R47): Calibration updates, wrapping -/
def tmbCalCalcnt : Row := ⟨0x50, 0x4, 1, 16, 16, .ro, 0x0, false⟩

/-- TMB_XLOSS.XLOSSCNT [15:0] RO, reset 0x0000 (R47): Crystal losses since cold reset, saturating -/
def tmbXlossXlosscnt : Row := ⟨0x54, 0x4, 1, 0, 16, .ro, 0x0, false⟩

/-- FAB_CFG.LPWARN [9:0] RW, reset 0x032 (R47): Loop slack warning level, ns -/
def fabCfgLpwarn : Row := ⟨0x40, 0x4, 1, 0, 10, .rw, 0x32, false⟩

/-- FAB_CFG.ABCWARN [23:16] RW, reset 0x0A (R47): Abacus window remaining for warning, µs -/
def fabCfgAbcwarn : Row := ⟨0x40, 0x4, 1, 16, 8, .rw, 0xa, false⟩

/-- FAB_LPTOK.TOK [15:0] W1C, reset 0x0000 (R47): Bit n: loop n formed a late token -/
def fabLptokTok : Row := ⟨0x44, 0x4, 1, 0, 16, .w1c, 0x0, false⟩

/-- FAB_LPTOK.STOP [31:16] RO, reset 0x0000 (R47): Bit n: loop n stopped by R44; cleared at loop restart -/
def fabLptokStop : Row := ⟨0x44, 0x4, 1, 16, 16, .ro, 0x0, false⟩

/-- FAB_HSCYC.CYC [11:0] RO, reset 0x000 (R47): Measured handshake cycle, ps -/
def fabHscycCyc : Row := ⟨0x48, 0x4, 1, 0, 12, .ro, 0x0, false⟩

/-- FAB_ABCLATE.CNT [31:0] RC, reset 0x0 (R47): Late abacus settles -/
def fabAbclateCnt : Row := ⟨0x4c, 0x4, 1, 0, 32, .rc, 0x0, false⟩

/-- FAB_BALLATE.CNT [31:0] RC, reset 0x0 (R47): Void balance cycles -/
def fabBallateCnt : Row := ⟨0x50, 0x4, 1, 0, 32, .rc, 0x0, false⟩

/-- FAB_SEQLATE.CNT [31:0] RC, reset 0x0 (R47): Late sequencer ticks -/
def fabSeqlateCnt : Row := ⟨0x54, 0x4, 1, 0, 32, .rc, 0x0, false⟩

/-- FAB_ABCMIN.MIN [15:0] RC, reset 0xFFFF (R47): Least abacus window remaining, 10 ns units -/
def fabAbcminMin : Row := ⟨0x58, 0x4, 1, 0, 16, .rc, 0xffff, false⟩

/-- FAB_RACELATE.CNT [31:0] RC, reset 0x0 (R47): LATE events of kind 0x2E, device-wide -/
def fabRacelateCnt : Row := ⟨0x5c, 0x4, 1, 0, 32, .rc, 0x0, false⟩

/-- FAB_LPLATEn.LATECNT [15:0] RC, reset 0x0000 (R47): Late results, saturating at 0xFFFF -/
def fabLplateLatecnt : Row := ⟨0x80, 0x4, 16, 0, 16, .rc, 0x0, false⟩

/-- FAB_LPLATEn.RUN [21:16] RO, reset 0x00 (R47): Present consecutive lates, saturating at 63 -/
def fabLplateRun : Row := ⟨0x80, 0x4, 16, 16, 6, .ro, 0x0, false⟩

/-- FAB_LPMINn.MINSLACK [13:0] RC, reset 0x3FFF (R47): Least slack seen, ns, saturating at 16,383; 0 after a late -/
def fabLpminMinslack : Row := ⟨0xc0, 0x4, 16, 0, 14, .rc, 0x3fff, false⟩

/-- EVT_CFG.GEN [0] RW, reset 0x0 (R70): 1: MSI-X messages enabled -/
def evtCfgGen : Row := ⟨0x40, 0x4, 1, 0, 1, .rw, 0x0, false⟩

/-- EVT_EOI.VEC [4:0] WO, reset 0x00 (R70): End of service for vector VEC (R68) -/
def evtEoiVec : Row := ⟨0x44, 0x4, 1, 0, 5, .wo, 0x0, false⟩

/-- EVT_VPEND.PEND [31:0] RO, reset 0x0 (R70): Bit v: vector v pending -/
def evtVpendPend : Row := ⟨0x48, 0x4, 1, 0, 32, .ro, 0x0, false⟩

/-- EVT_MODv.GAP [15:0] RW, reset 0x0000 (R70): Least interval between messages, µs; 0: none -/
def evtModGap : Row := ⟨0x80, 0x4, 32, 0, 16, .rw, 0x0, false⟩

/-- EVT_RTk.VEC [8j + 4:8j] RW, reset 0x00 (R70): Vector for EV(4k + j), j = 0–3 -/
def evtRtVec0 : Row := ⟨0x40, 0x4, 256, 0, 5, .rw, 0x0, false⟩

/-- EVT_RTk.VEC [8j + 4:8j] RW, reset 0x00 (R70): Vector for EV(4k + j), j = 0–3 -/
def evtRtVec1 : Row := ⟨0x40, 0x4, 256, 8, 5, .rw, 0x0, false⟩

/-- EVT_RTk.VEC [8j + 4:8j] RW, reset 0x00 (R70): Vector for EV(4k + j), j = 0–3 -/
def evtRtVec2 : Row := ⟨0x40, 0x4, 256, 16, 5, .rw, 0x0, false⟩

/-- EVT_RTk.VEC [8j + 4:8j] RW, reset 0x00 (R70): Vector for EV(4k + j), j = 0–3 -/
def evtRtVec3 : Row := ⟨0x40, 0x4, 256, 24, 5, .rw, 0x0, false⟩

/-- EVT_RTk.EN [8j + 5] RW, reset 0x0 (R70): Route enabled -/
def evtRtEn0 : Row := ⟨0x40, 0x4, 256, 5, 1, .rw, 0x0, false⟩

/-- EVT_RTk.EN [8j + 5] RW, reset 0x0 (R70): Route enabled -/
def evtRtEn1 : Row := ⟨0x40, 0x4, 256, 13, 1, .rw, 0x0, false⟩

/-- EVT_RTk.EN [8j + 5] RW, reset 0x0 (R70): Route enabled -/
def evtRtEn2 : Row := ⟨0x40, 0x4, 256, 21, 1, .rw, 0x0, false⟩

/-- EVT_RTk.EN [8j + 5] RW, reset 0x0 (R70): Route enabled -/
def evtRtEn3 : Row := ⟨0x40, 0x4, 256, 29, 1, .rw, 0x0, false⟩

/-- EVT_RTk.LOG [8j + 6] RW, reset 0x0 (R70): Gallery record on each rise -/
def evtRtLog0 : Row := ⟨0x40, 0x4, 256, 6, 1, .rw, 0x0, false⟩

/-- EVT_RTk.LOG [8j + 6] RW, reset 0x0 (R70): Gallery record on each rise -/
def evtRtLog1 : Row := ⟨0x40, 0x4, 256, 14, 1, .rw, 0x0, false⟩

/-- EVT_RTk.LOG [8j + 6] RW, reset 0x0 (R70): Gallery record on each rise -/
def evtRtLog2 : Row := ⟨0x40, 0x4, 256, 22, 1, .rw, 0x0, false⟩

/-- EVT_RTk.LOG [8j + 6] RW, reset 0x0 (R70): Gallery record on each rise -/
def evtRtLog3 : Row := ⟨0x40, 0x4, 256, 30, 1, .rw, 0x0, false⟩

/-- EVT_SUMk.PEND [31:0] RO, reset 0x0 (R70): Bit j: EV(32k + j) pending, k = 0–31 -/
def evtSumPend : Row := ⟨0x40, 0x4, 32, 0, 32, .ro, 0x0, false⟩

/-- EVT_QPOP.SRC [9:0] RC, reset 0x000 (R70): Event source -/
def evtQpopSrc : Row := ⟨0x40, 0x4, 1, 0, 10, .rc, 0x0, false⟩

/-- EVT_QPOP.VALID [10] RC, reset 0x0 (R70): Entry valid -/
def evtQpopValid : Row := ⟨0x40, 0x4, 1, 10, 1, .rc, 0x0, false⟩

/-- EVT_QPOP.OVF [11] RC, reset 0x0 (R70): Entries discarded before this one -/
def evtQpopOvf : Row := ⟨0x40, 0x4, 1, 11, 1, .rc, 0x0, false⟩

/-- EVT_QPOP.STAMP [31:12] RC, reset 0x0 (R70): Microsecond counter bits [19:0] at the event -/
def evtQpopStamp : Row := ⟨0x40, 0x4, 1, 12, 20, .rc, 0x0, false⟩

/-- EVT_QCNT.CNT [6:0] RO, reset 0x00 (R70): Entries in the queue -/
def evtQcntCnt : Row := ⟨0x44, 0x4, 1, 0, 7, .ro, 0x0, false⟩

/-- GLB_ID.PART [15:0] RO, reset 0x9648 (R70): Part number -/
def glbIdPart : Row := ⟨0x40, 0x4, 1, 0, 16, .ro, 0x9648, false⟩

/-- GLB_ID.STEP [23:16] RO, reset 0xB1 (R70): Stepping -/
def glbIdStep : Row := ⟨0x40, 0x4, 1, 16, 8, .ro, 0xb1, false⟩

/-- GLB_LOCKKEY.KEY [31:0] WO, reset 0x0 (R70): Lock key sequence word -/
def glbLockkeyKey : Row := ⟨0x44, 0x4, 1, 0, 32, .wo, 0x0, false⟩

/-- GLB_LOCKSTAT.STAGE [1:0] RO, reset 0x0 (R70): Key words taken in the present sequence -/
def glbLockstatStage : Row := ⟨0x48, 0x4, 1, 0, 2, .ro, 0x0, false⟩

/-- GLB_LOCKSTAT.FAILS [5:2] RO, reset 0x0 (R70): Failed sequences since the last success or lockout -/
def glbLockstatFails : Row := ⟨0x48, 0x4, 1, 2, 4, .ro, 0x0, false⟩

/-- GLB_LOCKSTAT.LOCKOUT [6] RO, reset 0x0 (R70): Key writes ignored -/
def glbLockstatLockout : Row := ⟨0x48, 0x4, 1, 6, 1, .ro, 0x0, false⟩

/-- GLB_ERRADDR.ADDR [25:0] RO, reset 0x0 (R70): Byte offset of the last ACCESSERR -/
def glbErraddrAddr : Row := ⟨0x4c, 0x4, 1, 0, 26, .ro, 0x0, false⟩

/-- GLB_ERRADDR.PATH [27:26] RO, reset 0x0 (R70): 0: BAR0, 1: BAR2, 2: BAR4, 3: two-wire -/
def glbErraddrPath : Row := ⟨0x4c, 0x4, 1, 26, 2, .ro, 0x0, false⟩

/-- GLB_ERRADDR.WRITE [28] RO, reset 0x0 (R70): 1: the access was a write -/
def glbErraddrWrite : Row := ⟨0x4c, 0x4, 1, 28, 1, .ro, 0x0, false⟩

/-- PEX_LINK.SPEED [1:0] RO, reset 0x0 (R74): 0 link down, 1 2.5 GT/s, 2 5 GT/s, 3 8 GT/s -/
def pexLinkSpeed : Row := ⟨0x40, 0x4, 1, 0, 2, .ro, 0x0, false⟩

/-- PEX_LINK.WIDTH [3:2] RO, reset 0x0 (R74): 0 none, 1 ×1, 2 ×2 -/
def pexLinkWidth : Row := ⟨0x40, 0x4, 1, 2, 2, .ro, 0x0, false⟩

/-- PEX_LINK.L0 [4] RO, reset 0x0 (R74): Link in L0 -/
def pexLinkL0 : Row := ⟨0x40, 0x4, 1, 4, 1, .ro, 0x0, false⟩

/-- PEX_LINK.L1 [5] RO, reset 0x0 (R74): Link in ASPM L1 -/
def pexLinkL1 : Row := ⟨0x40, 0x4, 1, 5, 1, .ro, 0x0, false⟩

/-- PEX_LINK.REVERSED [6] RO, reset 0x0 (R74): Lanes trained reversed (R552) -/
def pexLinkReversed : Row := ⟨0x40, 0x4, 1, 6, 1, .ro, 0x0, false⟩

/-- PEX_LINK.THRLIM [7] RO, reset 0x0 (R74): Speed held at 2.5 GT/s by the throttle actions (R481) -/
def pexLinkThrlim : Row := ⟨0x40, 0x4, 1, 7, 1, .ro, 0x0, false⟩

/-- PEX_LINK.LTSSM [11:8] RO, reset 0x0 (R74): 0 Detect, 1 Polling, 2 Configuration, 3 Recovery, 4 L0, 5 L1, 6 Disabled, 7 Loopback, 8 Hot Reset; others reserved. A link that is down reads 0 Detect, whether or not it is actively detecting -/
def pexLinkLtssm : Row := ⟨0x40, 0x4, 1, 8, 4, .ro, 0x0, false⟩

/-- PEX_CMD.BME [0] RO, reset 0x0 (R74): Bus master enable -/
def pexCmdBme : Row := ⟨0x44, 0x4, 1, 0, 1, .ro, 0x0, false⟩

/-- PEX_CMD.MSE [1] RO, reset 0x0 (R74): Memory space enable -/
def pexCmdMse : Row := ⟨0x44, 0x4, 1, 1, 1, .ro, 0x0, false⟩

/-- PEX_CMD.MSIXEN [2] RO, reset 0x0 (R74): MSI-X enable -/
def pexCmdMsixen : Row := ⟨0x44, 0x4, 1, 2, 1, .ro, 0x0, false⟩

/-- PEX_CMD.FMASK [3] RO, reset 0x0 (R74): MSI-X function mask -/
def pexCmdFmask : Row := ⟨0x44, 0x4, 1, 3, 1, .ro, 0x0, false⟩

/-- PEX_CMD.ASPML1 [4] RO, reset 0x0 (R74): ASPM L1 enabled -/
def pexCmdAspml1 : Row := ⟨0x44, 0x4, 1, 4, 1, .ro, 0x0, false⟩

/-- PEX_AERUNC.STAT [31:0] RO, reset 0x0 (R74): Copy of the AER Uncorrectable Error Status register -/
def pexAeruncStat : Row := ⟨0x48, 0x4, 1, 0, 32, .ro, 0x0, false⟩

/-- PEX_AERCOR.STAT [31:0] RO, reset 0x0 (R74): Copy of the AER Correctable Error Status register -/
def pexAercorStat : Row := ⟨0x4c, 0x4, 1, 0, 32, .ro, 0x0, false⟩

/-- PEX_NERR.RXERR [15:0] RC, reset 0x0000 (R74): Receiver errors, saturating -/
def pexNerrRxerr : Row := ⟨0x50, 0x4, 1, 0, 16, .rc, 0x0, false⟩

/-- PEX_NERR.REPLAY [31:16] RC, reset 0x0000 (R74): Replay timer timeouts and replay number rollovers, saturating -/
def pexNerrReplay : Row := ⟨0x50, 0x4, 1, 16, 16, .rc, 0x0, false⟩

/-- PEX_NLINK.DOWN [15:0] RC, reset 0x0000 (R74): Exits from L0 to Detect or Recovery, saturating -/
def pexNlinkDown : Row := ⟨0x54, 0x4, 1, 0, 16, .rc, 0x0, false⟩

/-- PEX_NLINK.RETRAIN [31:16] RC, reset 0x0000 (R74): Speed or width changes of a link that stays up, made through Recovery, saturating. A training from Detect is not counted, whatever speed and width it reaches -/
def pexNlinkRetrain : Row := ⟨0x54, 0x4, 1, 16, 16, .rc, 0x0, false⟩

/-- PEX_CFG.MAXSPD [1:0] RW, reset 0x0 (R74): Highest speed trained to: 0 8 GT/s, 1 5 GT/s, 2 2.5 GT/s, 3 taken as 2; applied at the next retrain -/
def pexCfgMaxspd : Row := ⟨0x58, 0x4, 1, 0, 2, .rw, 0x0, false⟩

/-- CMD_CFG.RINGEN [0] RW, reset 0x0 (R97): Ring path enabled; setting it zeroes CMD_RHEAD and CMD_PTAIL -/
def cmdCfgRingen : Row := ⟨0x40, 0x4, 1, 0, 1, .rw, 0x0, false⟩

/-- CMD_CFG.TWEN [1] RW, reset 0x1 (R97): Two-wire staging enabled -/
def cmdCfgTwen : Row := ⟨0x40, 0x4, 1, 1, 1, .rw, 0x1, false⟩

/-- CMD_CFG.MIRROR [2] RW, reset 0x0 (R97): DONE reports to both paths -/
def cmdCfgMirror : Row := ⟨0x40, 0x4, 1, 2, 1, .rw, 0x0, false⟩

/-- CMD_RBASELO.BASE [31:6] RW, reset 0x0 (R97): Command ring address [31:6]; ignored while RINGEN = 1 (R88) -/
def cmdRbaseloBase : Row := ⟨0x44, 0x4, 1, 6, 26, .rw, 0x0, false⟩

/-- CMD_RBASEHI.BASE [31:0] RW, reset 0x0 (R97): Command ring address [63:32]; ignored while RINGEN = 1 (R88) -/
def cmdRbasehiBase : Row := ⟨0x48, 0x4, 1, 0, 32, .rw, 0x0, false⟩

/-- CMD_RSIZE.SIZE [2:0] RW, reset 0x0 (R97): 64 << SIZE entries; 7 taken as 6; ignored while RINGEN = 1 (R88) -/
def cmdRsizeSize : Row := ⟨0x4c, 0x4, 1, 0, 3, .rw, 0x0, false⟩

/-- CMD_PBASELO.BASE [31:6] RW, reset 0x0 (R97): Report ring address [31:6]; ignored while RINGEN = 1 (R88) -/
def cmdPbaseloBase : Row := ⟨0x50, 0x4, 1, 6, 26, .rw, 0x0, false⟩

/-- CMD_PBASEHI.BASE [31:0] RW, reset 0x0 (R97): Report ring address [63:32]; ignored while RINGEN = 1 (R88) -/
def cmdPbasehiBase : Row := ⟨0x54, 0x4, 1, 0, 32, .rw, 0x0, false⟩

/-- CMD_PSIZE.SIZE [2:0] RW, reset 0x0 (R97): 64 << SIZE reports; 7 taken as 6; ignored while RINGEN = 1 (R88) -/
def cmdPsizeSize : Row := ⟨0x58, 0x4, 1, 0, 3, .rw, 0x0, false⟩

/-- CMD_RHEAD.IDX [11:0] RO, reset 0x000 (R97): Next entry to fetch -/
def cmdRheadIdx : Row := ⟨0x5c, 0x4, 1, 0, 12, .ro, 0x0, false⟩

/-- CMD_PTAIL.IDX [11:0] RO, reset 0x000 (R97): Next report slot -/
def cmdPtailIdx : Row := ⟨0x60, 0x4, 1, 0, 12, .ro, 0x0, false⟩

/-- CMD_PTAIL.PHASE [12] RO, reset 0x1 (R97): PHASE value of the next report -/
def cmdPtailPhase : Row := ⟨0x60, 0x4, 1, 12, 1, .ro, 0x1, false⟩

/-- CMD_LAST.SEQ [31:0] RO, reset restored (here 0x0, log entry 10) (R97): LAST -/
def cmdLastSeq : Row := ⟨0x40, 0x4, 1, 0, 32, .ro, 0x0, false⟩

/-- CMD_DONESEQ.SEQ [31:0] RO, reset restored (here 0x0, log entry 10) (R97): Highest SEQ whose DONE report has been issued -/
def cmdDoneseqSeq : Row := ⟨0x44, 0x4, 1, 0, 32, .ro, 0x0, false⟩

/-- CMD_JFILL.CNT [15:0] RO, reset restored (here 0x0, log entry 10) (R97): Positions occupied, 0–32,768 -/
def cmdJfillCnt : Row := ⟨0x48, 0x4, 1, 0, 16, .ro, 0x0, false⟩

/-- CMD_JSTAT.JM0OK [0] RO, reset restored (here 0x1, log entry 10) (R97): JM0 in service -/
def cmdJstatJm0ok : Row := ⟨0x4c, 0x4, 1, 0, 1, .ro, 0x1, false⟩

/-- CMD_JSTAT.JM1OK [1] RO, reset restored (here 0x1, log entry 10) (R97): JM1 in service -/
def cmdJstatJm1ok : Row := ⟨0x4c, 0x4, 1, 1, 1, .ro, 0x1, false⟩

/-- CMD_JSTAT.JMSUSED [2] RO, reset restored (here 0x0, log entry 10) (R97): JMS in service -/
def cmdJstatJmsused : Row := ⟨0x4c, 0x4, 1, 2, 1, .ro, 0x0, false⟩

/-- CMD_JSTAT.REBUILD [3] RO, reset 0x0 (R97): Rebuild in progress -/
def cmdJstatRebuild : Row := ⟨0x4c, 0x4, 1, 3, 1, .ro, 0x0, false⟩

/-- CMD_JSTAT.MIRRORLOST [4] RO, reset restored (here 0x0, log entry 10) (R97): R94 -/
def cmdJstatMirrorlost : Row := ⟨0x4c, 0x4, 1, 4, 1, .ro, 0x0, false⟩

/-- CMD_JSTAT.REPLAY [5] RO, reset 0x0 (R97): Replay in progress -/
def cmdJstatReplay : Row := ⟨0x4c, 0x4, 1, 5, 1, .ro, 0x0, false⟩

/-- CMD_REPLAY.CNT [15:0] RO, reset 0x0000 (R97): Commands replayed at the last boot -/
def cmdReplayCnt : Row := ⟨0x50, 0x4, 1, 0, 16, .ro, 0x0, false⟩

/-- CMD_REPLAY.DISCARD [31:16] RO, reset 0x0000 (R97): Single-copy entries erased since cold reset, saturating -/
def cmdReplayDiscard : Row := ⟨0x50, 0x4, 1, 16, 16, .ro, 0x0, false⟩

/-- CMD_NREJc.CNT [31:0] RC, reset 0x0 (R97): Rejects with CODE 0x20 + c, c = 0–5 -/
def cmdNrejCnt : Row := ⟨0x40, 0x4, 6, 0, 32, .rc, 0x0, false⟩

/-- CMD_NDUP.CNT [31:0] RC, reset 0x0 (R97): DUPLICATE reports -/
def cmdNdupCnt : Row := ⟨0x60, 0x4, 1, 0, 32, .rc, 0x0, false⟩

/-- CMD_NSUP.CNT [31:0] RC, reset 0x0 (R97): SUPERSEDED completions -/
def cmdNsupCnt : Row := ⟨0x64, 0x4, 1, 0, 32, .rc, 0x0, false⟩

/-- CMD_NFAIL.CNT [31:0] RC, reset 0x0 (R97): FAILED completions -/
def cmdNfailCnt : Row := ⟨0x68, 0x4, 1, 0, 32, .rc, 0x0, false⟩

/-- CMD_TWSTAT.BUSY [0] RO, reset 0x0 (R97): Staging busy (R91) -/
def cmdTwstatBusy : Row := ⟨0x40, 0x4, 1, 0, 1, .ro, 0x0, false⟩

/-- CMD_TWSTAT.QCNT [7:1] RO, reset 0x00 (R97): Reports queued, 0–64 -/
def cmdTwstatQcnt : Row := ⟨0x40, 0x4, 1, 1, 7, .ro, 0x0, false⟩

/-- CMD_TWSTAT.BUSYNAK [31:16] RC, reset 0x0000 (R97): Writes NAKed while BUSY, saturating -/
def cmdTwstatBusynak : Row := ⟨0x40, 0x4, 1, 16, 16, .rc, 0x0, false⟩

/-- CMD_RTAIL.IDX [11:0] RW, reset 0x000 (R97): Host producer index of the command ring -/
def cmdRtailIdx : Row := ⟨0x8100, 0x4, 1, 0, 12, .rw, 0x0, false⟩

/-- CMD_PHEAD.IDX [11:0] RW, reset 0x000 (R97): Host consumer index of the report ring -/
def cmdPheadIdx : Row := ⟨0x8104, 0x4, 1, 0, 12, .rw, 0x0, false⟩

/-- CMD_LASTF.SEQ [31:0] RO, reset restored (here 0x0, log entry 10) (R97): Copy of CMD_LAST -/
def cmdLastfSeq : Row := ⟨0x8108, 0x4, 1, 0, 32, .ro, 0x0, false⟩

/-- BAYn_CFG.ROLE [1:0] RWJ, reset 0x2 (R133): 0 FEED, 1 STORE, 2 BRANCH, 3 TIE -/
def bayCfgRole : Row := ⟨0x40, 0x4, 1, 0, 2, .rwj, 0x2, true⟩

/-- BAYn_CFG.ADOPT [2] RWJ, reset 0x0 (R133): Adoption candidate (R124) -/
def bayCfgAdopt : Row := ⟨0x40, 0x4, 1, 2, 1, .rwj, 0x0, true⟩

/-- BAYn_CFG.RMODE [3] RWJ, reset 0x0 (R133): 0 gate current source, 1 dV/dt -/
def bayCfgRmode : Row := ⟨0x40, 0x4, 1, 3, 1, .rwj, 0x0, true⟩

/-- BAYn_CFG.URGOPEN [4] RWJ, reset 0x0 (R133): Urgent opens a STORE or BRANCH bay -/
def bayCfgUrgopen : Row := ⟨0x40, 0x4, 1, 4, 1, .rwj, 0x0, true⟩

/-- BAYn_CFG.THREN [5] RWJ, reset 0x1 (R133): Throttle pulses permitted -/
def bayCfgThren : Row := ⟨0x40, 0x4, 1, 5, 1, .rwj, 0x1, true⟩

/-- BAYn_CFG.LINK [10:8] RWJ, reset 0x0 (R133): Battery group (STORE) or tie port (TIE) -/
def bayCfgLink : Row := ⟨0x40, 0x4, 1, 8, 3, .rwj, 0x0, true⟩

/-- BAYn_RAMP.IGATE [5:0] RWJ, reset 0x0A (R133): Gate current, µA, 1–63 -/
def bayRampIgate : Row := ⟨0x44, 0x4, 1, 0, 6, .rwj, 0xa, true⟩

/-- BAYn_RAMP.DVDT [15:8] RWJ, reset 0x0A (R133): 0.1 V/ms units, 1–250 -/
def bayRampDvdt : Row := ⟨0x44, 0x4, 1, 8, 8, .rwj, 0xa, true⟩

/-- BAYn_RAMP.RAMPT [23:16] RWJ, reset 0x32 (R133): Ramp timer, ms, 1–200 -/
def bayRampRampt : Row := ⟨0x44, 0x4, 1, 16, 8, .rwj, 0x32, true⟩

/-- BAYn_PLIM.PLIM [10:0] RWJ, reset 0x064 (R133): Foldback power, W, 1–2,000 -/
def bayPlimPlim : Row := ⟨0x48, 0x4, 1, 0, 11, .rwj, 0x64, true⟩

/-- BAYn_ILIM.ILIM [8:0] RWJ, reset 0x064 (R133): Limit, 0.5 mV units, 5–300 -/
def bayIlimIlim : Row := ⟨0x4c, 0x4, 1, 0, 9, .rwj, 0x64, true⟩

/-- BAYn_ILIM.FTRIP [24:16] RWJ, reset 0x0C8 (R133): Fast trip, 0.5 mV units, 10–300 -/
def bayIlimFtrip : Row := ⟨0x4c, 0x4, 1, 16, 9, .rwj, 0xc8, true⟩

/-- BAYn_TFLT.TFLT [9:0] RWJ, reset 0x00A (R133): Slow-limit time, ms, 1–1,000 -/
def bayTfltTflt : Row := ⟨0x50, 0x4, 1, 0, 10, .rwj, 0xa, true⟩

/-- BAYn_TFLT.REVLIM [22:16] RWJ, reset 0x0A (R133): Reverse threshold, 0.5 mV units, 1–100 -/
def bayTfltRevlim : Row := ⟨0x50, 0x4, 1, 16, 7, .rwj, 0xa, true⟩

/-- BAYn_RETRY.BUDGET [3:0] RWJ, reset 0x2 (R133): Automatic toggles per window -/
def bayRetryBudget : Row := ⟨0x54, 0x4, 1, 0, 4, .rwj, 0x2, true⟩

/-- BAYn_RETRY.RWIN [15:4] RWJ, reset 0x03C (R133): Window, s, 1–3,600 -/
def bayRetryRwin : Row := ⟨0x54, 0x4, 1, 4, 12, .rwj, 0x3c, true⟩

/-- BAYn_RETRY.TOGDLY [25:16] RWJ, reset 0x032 (R133): Toggle delay, 10 ms units, 1–1,000 -/
def bayRetryTogdly : Row := ⟨0x54, 0x4, 1, 16, 10, .rwj, 0x32, true⟩

/-- BAYn_DEB.PRESDB [7:0] RWJ, reset 0x32 (R133): Presence debounce, ms, 1–255 -/
def bayDebPresdb : Row := ⟨0x58, 0x4, 1, 0, 8, .rwj, 0x32, true⟩

/-- BAYn_DEB.URGDB [15:8] RWJ, reset 0x0A (R133): Urgent hold time off FEED, µs, 1–255 -/
def bayDebUrgdb : Row := ⟨0x58, 0x4, 1, 8, 8, .rwj, 0xa, true⟩

/-- BAYn_RSH.RSH [15:0] RWJ, reset 0x01F4 (R133): Shunt, µΩ, 1–65,535 -/
def bayRshRsh : Row := ⟨0x5c, 0x4, 1, 0, 16, .rwj, 0x1f4, true⟩

/-- BAYn_CTL.ARM [0] RWJ, reset 0x0 (R133): Changed by class-B commands only (R129) -/
def bayCtlArm : Row := ⟨0x60, 0x4, 1, 0, 1, .rwj, 0x0, false⟩

/-- BAYn_ALIM.ALIM [8:0] RO, reset 0x1FF (R133): Abacus limit, 0.5 mV units; 0x1FF none -/
def bayAlimAlim : Row := ⟨0x64, 0x4, 1, 0, 9, .ro, 0x1ff, false⟩

/-- BAYn_ALIM.THSTEP [18:16] RO, reset 0x0 (R133): Throttle step in force -/
def bayAlimThstep : Row := ⟨0x64, 0x4, 1, 16, 3, .ro, 0x0, false⟩

/-- BAYn_STAT.STATE [3:0] RO, reset 0x0 (R133): Table 5.5 code -/
def bayStatState : Row := ⟨0x70, 0x4, 1, 0, 4, .ro, 0x0, false⟩

/-- BAYn_STAT.ALT [5:4] RO, reset 0x0 (R133): 0 absent, 1 present, 2 urgent, 3 frozen by a train -/
def bayStatAlt : Row := ⟨0x70, 0x4, 1, 4, 2, .ro, 0x0, false⟩

/-- BAYn_STAT.PRESENT [6] RO, reset 0x0 (R133): Debounced presence -/
def bayStatPresent : Row := ⟨0x70, 0x4, 1, 6, 1, .ro, 0x0, false⟩

/-- BAYn_STAT.LIMITING [7] RO, reset 0x0 (R133): In LIMIT -/
def bayStatLimiting : Row := ⟨0x70, 0x4, 1, 7, 1, .ro, 0x0, false⟩

/-- BAYn_STAT.FOLDBACK [8] RO, reset 0x0 (R133): R110 -/
def bayStatFoldback : Row := ⟨0x70, 0x4, 1, 8, 1, .ro, 0x0, false⟩

/-- BAYn_STAT.TRIPPED [9] RO, reset 0x0 (R133): Latched off -/
def bayStatTripped : Row := ⟨0x70, 0x4, 1, 9, 1, .ro, 0x0, false⟩

/-- BAYn_STAT.RETIRED [10] RO, reset 0x0 (R133): R122 -/
def bayStatRetired : Row := ⟨0x70, 0x4, 1, 10, 1, .ro, 0x0, false⟩

/-- BAYn_STAT.ADOPTED [11] RO, reset 0x0 (R133): Closed by adoption since the last cold reset -/
def bayStatAdopted : Row := ⟨0x70, 0x4, 1, 11, 1, .ro, 0x0, false⟩

/-- BAYn_STAT.PGOOD [12] RO, reset 0x0 (R133): R111 -/
def bayStatPgood : Row := ⟨0x70, 0x4, 1, 12, 1, .ro, 0x0, false⟩

/-- BAYn_STAT.TRIPKIND [21:16] RO, reset 0x00 (R133): Kind of the last latch-off -/
def bayStatTripkind : Row := ⟨0x70, 0x4, 1, 16, 6, .ro, 0x0, false⟩

/-- BAYn_STAT.RETRYLEFT [25:22] RO, reset 0x0 (R133): Automatic toggles left in the window -/
def bayStatRetryleft : Row := ⟨0x70, 0x4, 1, 22, 4, .ro, 0x0, false⟩

/-- BAYn_IMEAS.VSH [15:0] RO, reset 0x0000 (R133): Shunt voltage, signed, 5 µV units, 1 ms mean -/
def bayImeasVsh : Row := ⟨0x74, 0x4, 1, 0, 16, .ro, 0x0, false⟩

/-- BAYn_VMEAS.VMOD [15:0] RO, reset 0x0000 (R133): Module-side voltage, 2 mV units -/
def bayVmeasVmod : Row := ⟨0x78, 0x4, 1, 0, 16, .ro, 0x0, false⟩

/-- BAYn_VMEAS.VSYS [31:16] RO, reset 0x0000 (R133): System-side voltage, 2 mV units -/
def bayVmeasVsys : Row := ⟨0x78, 0x4, 1, 16, 16, .ro, 0x0, false⟩

/-- BAYn_PWR.PWR [23:0] RO, reset 0x000000 (R133): Power, signed beads, 1 ms mean -/
def bayPwrPwr : Row := ⟨0x7c, 0x4, 1, 0, 24, .ro, 0x0, false⟩

/-- BAYn_NTRIP.FAST [7:0] RC, reset 0x00 (R133): Fast trips, saturating -/
def bayNtripFast : Row := ⟨0x80, 0x4, 1, 0, 8, .rc, 0x0, false⟩

/-- BAYn_NTRIP.SLOW [15:8] RC, reset 0x00 (R133): Slow-limit latches -/
def bayNtripSlow : Row := ⟨0x80, 0x4, 1, 8, 8, .rc, 0x0, false⟩

/-- BAYn_NTRIP.RAMP [23:16] RC, reset 0x00 (R133): RAMPTIME latches -/
def bayNtripRamp : Row := ⟨0x80, 0x4, 1, 16, 8, .rc, 0x0, false⟩

/-- BAYn_NTRIP.OTHER [31:24] RC, reset 0x00 (R133): Other kinds -/
def bayNtripOther : Row := ⟨0x80, 0x4, 1, 24, 8, .rc, 0x0, false⟩

/-- BAYn_TRIPUS.US [31:0] RO, reset 0x0 (R133): Microsecond counter [31:0] at the last latch-off -/
def bayTripusUs : Row := ⟨0x84, 0x4, 1, 0, 32, .ro, 0x0, false⟩

/-- BAYn_PEAK.PEAK [15:0] RC, reset 0x0000 (R133): Largest shunt voltage magnitude, 5 µV units -/
def bayPeakPeak : Row := ⟨0x88, 0x4, 1, 0, 16, .rc, 0x0, false⟩

/-- LOOPn_CFG.TYPE [1:0] RWJ, reset 0x0 (R169): 0 BUCK, 1 BOOST, 2 BIDIR; 3 refused -/
def loopCfgType : Row := ⟨0x40, 0x4, 1, 0, 2, .rwj, 0x0, true⟩

/-- LOOPn_CFG.MODE [2] RWJ, reset 0x0 (R169): 0 voltage, 1 current (BIDIR only) -/
def loopCfgMode : Row := ⟨0x40, 0x4, 1, 2, 1, .rwj, 0x0, true⟩

/-- LOOPn_CFG.VDIV [4:3] RWJ, reset 0x0 (R169): 0 ÷1, 1 ÷4, 2 ÷10; 3 refused -/
def loopCfgVdiv : Row := ⟨0x40, 0x4, 1, 3, 2, .rwj, 0x0, true⟩

/-- LOOPn_CFG.AVG [6:5] RWJ, reset 0x0 (R169): 2^AVG conversions averaged -/
def loopCfgAvg : Row := ⟨0x40, 0x4, 1, 5, 2, .rwj, 0x0, true⟩

/-- LOOPn_CFG.OVACT [7] RWJ, reset 0x0 (R169): R162 -/
def loopCfgOvact : Row := ⟨0x40, 0x4, 1, 7, 1, .rwj, 0x0, true⟩

/-- LOOPn_CFG.STOPMODE [8] RWJ, reset 0x0 (R169): 0 ramp, 1 coast -/
def loopCfgStopmode : Row := ⟨0x40, 0x4, 1, 8, 1, .rwj, 0x0, true⟩

/-- LOOPn_CFG.SNSEN [9] RWJ, reset 0x1 (R169): Remote sense used -/
def loopCfgSnsen : Row := ⟨0x40, 0x4, 1, 9, 1, .rwj, 0x1, true⟩

/-- LOOPn_CFG.EXTDIV [19:16] RWJ, reset 0x1 (R169): External divider ratio, 1–16; 0 taken as 1 -/
def loopCfgExtdiv : Row := ⟨0x40, 0x4, 1, 16, 4, .rwj, 0x1, true⟩

/-- LOOPn_PHMAPLO.PH [31:0] RWJ, reset 0x0 (R169): Bit j: PHj assigned -/
def loopPhmaploPh : Row := ⟨0x44, 0x4, 1, 0, 32, .rwj, 0x0, true⟩

/-- LOOPn_PHMAPHI.PH [31:0] RWJ, reset 0x0 (R169): Bit j: PH(32 + j) assigned -/
def loopPhmaphiPh : Row := ⟨0x48, 0x4, 1, 0, 32, .rwj, 0x0, true⟩

/-- LOOPn_PER.PER [11:0] RWJ, reset 0x320 (R169): Period, 2.5 ns units, 200–4,000 -/
def loopPerPer : Row := ⟨0x4c, 0x4, 1, 0, 12, .rwj, 0x320, true⟩

/-- LOOPn_VSET.VSET [19:0] RWJ, reset 0x00000 (R169): Target or bus clamp, 0.1 mV units -/
def loopVsetVset : Row := ⟨0x50, 0x4, 1, 0, 20, .rwj, 0x0, true⟩

/-- LOOPn_ISET.ISET [15:0] RWJ, reset 0x0000 (R169): Current target, signed, 10 mA units -/
def loopIsetIset : Row := ⟨0x54, 0x4, 1, 0, 16, .rwj, 0x0, true⟩

/-- LOOPn_ONT.ONDLY [23:0] RWJ, reset 0x000000 (R169): On-delay, µs -/
def loopOntOndly : Row := ⟨0x58, 0x4, 1, 0, 24, .rwj, 0x0, true⟩

/-- LOOPn_OFFT.OFFDLY [23:0] RWJ, reset 0x000000 (R169): Off-delay, µs -/
def loopOfftOffdly : Row := ⟨0x5c, 0x4, 1, 0, 24, .rwj, 0x0, true⟩

/-- LOOPn_RAMP.RON [9:0] RWJ, reset 0x064 (R169): Rising rate, 0.01 V/ms or 0.1 A/ms, 1–1,000 -/
def loopRampRon : Row := ⟨0x60, 0x4, 1, 0, 10, .rwj, 0x64, true⟩

/-- LOOPn_RAMP.ROFF [25:16] RWJ, reset 0x064 (R169): Falling rate, same units -/
def loopRampRoff : Row := ⟨0x60, 0x4, 1, 16, 10, .rwj, 0x64, true⟩

/-- LOOPn_DUTY.DMIN [15:0] RWJ, reset 0x0000 (R169): Least duty, Q0.16; not above DMAX (R146) -/
def loopDutyDmin : Row := ⟨0x64, 0x4, 1, 0, 16, .rwj, 0x0, true⟩

/-- LOOPn_DUTY.DMAX [31:16] RWJ, reset 0xE000 (R169): Greatest duty, Q0.16 -/
def loopDutyDmax : Row := ⟨0x64, 0x4, 1, 16, 16, .rwj, 0xe000, true⟩

/-- LOOPn_ILIM.ILIM [15:0] RWJ, reset 0x1770 (R169): Loop limit, 10 mA units -/
def loopIlimIlim : Row := ⟨0x68, 0x4, 1, 0, 16, .rwj, 0x1770, true⟩

/-- LOOPn_ILIM.TLIM [25:16] RWJ, reset 0x00A (R169): Overload time, ms, 1–1,000 -/
def loopIlimTlim : Row := ⟨0x68, 0x4, 1, 16, 10, .rwj, 0xa, true⟩

/-- LOOPn_PROT.OVP [7:0] RWJ, reset 0x64 (R169): Overvoltage margin, 0.1 %, 10–250 -/
def loopProtOvp : Row := ⟨0x6c, 0x4, 1, 0, 8, .rwj, 0x64, true⟩

/-- LOOPn_PROT.UVP [15:8] RWJ, reset 0x32 (R169): Undervoltage margin, 0.1 %, 10–250 -/
def loopProtUvp : Row := ⟨0x6c, 0x4, 1, 8, 8, .rwj, 0x32, true⟩

/-- LOOPn_PROT.UVT [23:16] RWJ, reset 0x0A (R169): Undervoltage time, 10 µs units, 1–255 -/
def loopProtUvt : Row := ⟨0x6c, 0x4, 1, 16, 8, .rwj, 0xa, true⟩

/-- LOOPn_PROT.PGWIN [31:24] RWJ, reset 0x1E (R169): Power-good window, 0.1 %, 5–100 -/
def loopProtPgwin : Row := ⟨0x6c, 0x4, 1, 24, 8, .rwj, 0x1e, true⟩

/-- LOOPn_SNS.LWIN [7:0] RWJ, reset 0x32 (R169): Local agreement window, 0.1 %, 10–200 -/
def loopSnsLwin : Row := ⟨0x70, 0x4, 1, 0, 8, .rwj, 0x32, true⟩

/-- LOOPn_SNS.SNSDB [15:8] RWJ, reset 0x14 (R169): Sense-loss time, 10 µs units, 1–255 -/
def loopSnsSnsdb : Row := ⟨0x70, 0x4, 1, 8, 8, .rwj, 0x14, true⟩

/-- LOOPn_SNS.OFFLVL [23:16] RWJ, reset 0x14 (R169): Off level, 10 mV units, 1–255 -/
def loopSnsOfflvl : Row := ⟨0x70, 0x4, 1, 16, 8, .rwj, 0x14, true⟩

/-- LOOPn_ISCL.IFS [15:0] RWJ, reset 0x2710 (R169): Current at full window, 10 mA units -/
def loopIsclIfs : Row := ⟨0x74, 0x4, 1, 0, 16, .rwj, 0x2710, true⟩

/-- LOOPn_ISCL.LIMSTEP [23:16] RWJ, reset 0x05 (R169): Limit step per period, 0.01 % of target, 1–255 -/
def loopIsclLimstep : Row := ⟨0x74, 0x4, 1, 16, 8, .rwj, 0x5, true⟩

/-- LOOPn_VCHG.VCHG [19:0] RWJ, reset 0xFFFFF (R169): Charge clamp on VLS, 0.1 mV units -/
def loopVchgVchg : Row := ⟨0x78, 0x4, 1, 0, 20, .rwj, 0xfffff, true⟩

/-- LOOPn_COEF0i.C [23:0] RWJ, reset 0x000000 (R169): Coefficient of bank 0, Q4.20, two's complement -/
def loopCoef0C : Row := ⟨0x80, 0x4, 7, 0, 24, .rwj, 0x0, true⟩

/-- LOOPn_COEF1i.C [23:0] RWJ, reset 0x000000 (R169): Coefficient of bank 1, Q4.20, two's complement -/
def loopCoef1C : Row := ⟨0xa0, 0x4, 7, 0, 24, .rwj, 0x0, true⟩

/-- LOOPn_STAT.STATE [2:0] RO, reset 0x0 (R169): Table 6.4 code -/
def loopStatState : Row := ⟨0xc0, 0x4, 1, 0, 3, .ro, 0x0, false⟩

/-- LOOPn_STAT.PGOOD [3] RO, reset 0x0 (R169): R154 -/
def loopStatPgood : Row := ⟨0xc0, 0x4, 1, 3, 1, .ro, 0x0, false⟩

/-- LOOPn_STAT.ILIMIT [4] RO, reset 0x0 (R169): R160, R161 -/
def loopStatIlimit : Row := ⟨0xc0, 0x4, 1, 4, 1, .ro, 0x0, false⟩

/-- LOOPn_STAT.LOCALSNS [5] RO, reset 0x0 (R169): Regulating on VLS after sense loss -/
def loopStatLocalsns : Row := ⟨0xc0, 0x4, 1, 5, 1, .ro, 0x0, false⟩

/-- LOOPn_STAT.BANK [6] RO, reset 0x0 (R169): Active coefficient bank -/
def loopStatBank : Row := ⟨0xc0, 0x4, 1, 6, 1, .ro, 0x0, false⟩

/-- LOOPn_STAT.SWPEND [7] RO, reset 0x0 (R169): Bank switch pending -/
def loopStatSwpend : Row := ⟨0xc0, 0x4, 1, 7, 1, .ro, 0x0, false⟩

/-- LOOPn_STAT.FAULTKIND [13:8] RO, reset 0x00 (R169): Kind of the last fault, Table 6.2 -/
def loopStatFaultkind : Row := ⟨0xc0, 0x4, 1, 8, 6, .ro, 0x0, false⟩

/-- LOOPn_STAT.NPH [20:16] RO, reset 0x00 (R169): Phases assigned, 0–16 -/
def loopStatNph : Row := ⟨0xc0, 0x4, 1, 16, 5, .ro, 0x0, false⟩

/-- LOOPn_VREF.VREF [19:0] RO, reset 0x00000 (R169): Working reference: in voltage mode, 0.1 mV units; in current mode, the working current reference, signed, 10 mA units, sign-extended to 20 bits -/
def loopVrefVref : Row := ⟨0xc4, 0x4, 1, 0, 20, .ro, 0x0, false⟩

/-- LOOPn_VMEAS.VOUT [19:0] RO, reset 0x00000 (R169): Regulated-point voltage, 0.1 mV units, 1 ms mean -/
def loopVmeasVout : Row := ⟨0xc8, 0x4, 1, 0, 20, .ro, 0x0, false⟩

/-- LOOPn_IMEAS.IOUT [15:0] RO, reset 0x0000 (R169): Loop current, signed, 10 mA units, 1 ms mean -/
def loopImeasIout : Row := ⟨0xcc, 0x4, 1, 0, 16, .ro, 0x0, false⟩

/-- LOOPn_DNOW.DUTY [15:0] RO, reset 0x0000 (R169): Duty in force, Q0.16 -/
def loopDnowDuty : Row := ⟨0xd0, 0x4, 1, 0, 16, .ro, 0x0, false⟩

/-- LOOPn_ALIM.ALIM [15:0] RO, reset 0xFFFF (R169): Abacus limit, 10 mA units; 0xFFFF none -/
def loopAlimAlim : Row := ⟨0xd4, 0x4, 1, 0, 16, .ro, 0xffff, false⟩

/-- LOOPn_NFLT.OV [7:0] RC, reset 0x00 (R169): Overvoltage faults, saturating -/
def loopNfltOv : Row := ⟨0xd8, 0x4, 1, 0, 8, .rc, 0x0, false⟩

/-- LOOPn_NFLT.UV [15:8] RC, reset 0x00 (R169): Undervoltage tokens -/
def loopNfltUv : Row := ⟨0xd8, 0x4, 1, 8, 8, .rc, 0x0, false⟩

/-- LOOPn_NFLT.OVLD [23:16] RC, reset 0x00 (R169): Overload faults -/
def loopNfltOvld : Row := ⟨0xd8, 0x4, 1, 16, 8, .rc, 0x0, false⟩

/-- LOOPn_NFLT.SNSL [31:24] RC, reset 0x00 (R169): Sense losses -/
def loopNfltSnsl : Row := ⟨0xd8, 0x4, 1, 24, 8, .rc, 0x0, false⟩

/-- LOOPn_FLTUS.US [31:0] RO, reset 0x0 (R169): Microsecond counter [31:0] at the last fault -/
def loopFltusUs : Row := ⟨0xdc, 0x4, 1, 0, 32, .ro, 0x0, false⟩

/-- PHn_IMCFG.GAIN [15:0] RWJ, reset 0x1388 (R195): IMON gain, µV/A, 1–65,535 -/
def phImcfgGain : Row := ⟨0x40, 0x40, 4, 0, 16, .rwj, 0x1388, true⟩

/-- PHn_IMCFG.OFS [31:16] RWJ, reset 0x1F40 (R195): IMON offset, 0.1 mV units, 0–15,000 -/
def phImcfgOfs : Row := ⟨0x40, 0x40, 4, 16, 16, .rwj, 0x1f40, true⟩

/-- PHn_LIM.IPK [11:0] RWJ, reset 0x320 (R195): Peak limit, 0.1 A units, 1–4,095 -/
def phLimIpk : Row := ⟨0x44, 0x40, 4, 0, 12, .rwj, 0x320, true⟩

/-- PHn_LIM.BLANK [15:12] RWJ, reset 0x4 (R195): Blanking, 10 ns units, 0–15 -/
def phLimBlank : Row := ⟨0x44, 0x40, 4, 12, 4, .rwj, 0x4, true⟩

/-- PHn_LIM.PKN [23:16] RWJ, reset 0x20 (R195): Truncated periods to stop, 1–255 -/
def phLimPkn : Row := ⟨0x44, 0x40, 4, 16, 8, .rwj, 0x20, true⟩

/-- PHn_LIM.DIDT [31:24] RWJ, reset 0x14 (R195): di/dt threshold, A/µs; 0 off -/
def phLimDidt : Row := ⟨0x44, 0x40, 4, 24, 8, .rwj, 0x14, true⟩

/-- PHn_MON.IMBPCT [7:0] RWJ, reset 0x14 (R195): Imbalance level, %, 5–100 -/
def phMonImbpct : Row := ⟨0x48, 0x40, 4, 0, 8, .rwj, 0x14, true⟩

/-- PHn_MON.IMBT [15:8] RWJ, reset 0x0A (R195): Windows to alarm, 1–255 -/
def phMonImbt : Row := ⟨0x48, 0x40, 4, 8, 8, .rwj, 0xa, true⟩

/-- PHn_MON.FLTLVL [23:16] RWJ, reset 0xBE (R195): Stage fault level, 10 mV units, 100–200 -/
def phMonFltlvl : Row := ⟨0x48, 0x40, 4, 16, 8, .rwj, 0xbe, true⟩

/-- PHn_MON.STGEN [24] RWJ, reset 0x1 (R195): Stage fault detection enabled -/
def phMonStgen : Row := ⟨0x48, 0x40, 4, 24, 1, .rwj, 0x1, true⟩

/-- PHn_SHED.SHEDLVL [10:0] RWJ, reset 0x000 (R195): Shed level, loop current, 0.5 A units -/
def phShedShedlvl : Row := ⟨0x4c, 0x40, 4, 0, 11, .rwj, 0x0, true⟩

/-- PHn_SHED.SHEDEN [11] RWJ, reset 0x0 (R195): Shedding enabled -/
def phShedSheden : Row := ⟨0x4c, 0x40, 4, 11, 1, .rwj, 0x0, true⟩

/-- PHn_SHED.ADDLVL [22:12] RWJ, reset 0x000 (R195): Rejoin level, loop current, 0.5 A units -/
def phShedAddlvl : Row := ⟨0x4c, 0x40, 4, 12, 11, .rwj, 0x0, true⟩

/-- PHn_SHED.DWELL [31:24] RWJ, reset 0x14 (R195): Dwell, 10 µs units, 1–255 -/
def phShedDwell : Row := ⟨0x4c, 0x40, 4, 24, 8, .rwj, 0x14, true⟩

/-- PHn_STAT.STATE [2:0] RO, reset 0x0 (R195): Table 7.3 code -/
def phStatState : Row := ⟨0x50, 0x40, 4, 0, 3, .ro, 0x0, false⟩

/-- PHn_STAT.IMBAL [3] RO, reset 0x0 (R195): Imbalance alarm -/
def phStatImbal : Row := ⟨0x50, 0x40, 4, 3, 1, .ro, 0x0, false⟩

/-- PHn_STAT.PKLIM [4] RO, reset 0x0 (R195): Last period truncated -/
def phStatPklim : Row := ⟨0x50, 0x40, 4, 4, 1, .ro, 0x0, false⟩

/-- PHn_STAT.ASSIGNED [5] RO, reset 0x0 (R195): Assigned to a loop -/
def phStatAssigned : Row := ⟨0x50, 0x40, 4, 5, 1, .ro, 0x0, false⟩

/-- PHn_STAT.LOOP [11:8] RO, reset 0x0 (R195): Owning loop -/
def phStatLoop : Row := ⟨0x50, 0x40, 4, 8, 4, .ro, 0x0, false⟩

/-- PHn_STAT.RANK [15:12] RO, reset 0x0 (R195): Rank among assigned phases -/
def phStatRank : Row := ⟨0x50, 0x40, 4, 12, 4, .ro, 0x0, false⟩

/-- PHn_STAT.FAULTKIND [21:16] RO, reset 0x00 (R195): Kind of the last phase fault, Table 7.1 -/
def phStatFaultkind : Row := ⟨0x50, 0x40, 4, 16, 6, .ro, 0x0, false⟩

/-- PHn_IMEAS.I [15:0] RO, reset 0x0000 (R195): Current, signed, 10 mA units, 1 ms mean -/
def phImeasI : Row := ⟨0x54, 0x40, 4, 0, 16, .ro, 0x0, false⟩

/-- PHn_IMEAS.DEV [31:16] RO, reset 0x0000 (R195): Deviation, signed, 0.1 % units -/
def phImeasDev : Row := ⟨0x54, 0x40, 4, 16, 16, .ro, 0x0, false⟩

/-- PHn_CNT.PKCNT [15:0] RC, reset 0x0000 (R195): Truncated periods, saturating -/
def phCntPkcnt : Row := ⟨0x58, 0x40, 4, 0, 16, .rc, 0x0, false⟩

/-- PHn_CNT.SHEDS [23:16] RC, reset 0x00 (R195): Sheds done, saturating -/
def phCntSheds : Row := ⟨0x58, 0x40, 4, 16, 8, .rc, 0x0, false⟩

/-- PHn_CNT.CANCELS [31:24] RC, reset 0x00 (R195): Sheds cancelled, saturating -/
def phCntCancels : Row := ⟨0x58, 0x40, 4, 24, 8, .rc, 0x0, false⟩

/-- PHn_FLTUS.US [31:0] RO, reset 0x0 (R195): Microsecond counter [31:0] at the last phase fault -/
def phFltusUs : Row := ⟨0x5c, 0x40, 4, 0, 32, .ro, 0x0, false⟩

/-- PHi_PCFG.VINCH [8:0] RWJ, reset 0x1FF (R195): Survey channel for V_IN, 0–383; 0x1FF bus -/
def phPcfgVinch : Row := ⟨0x200, 0x4, 1, 0, 9, .rwj, 0x1ff, true⟩

/-- PHi_PCFG.VNOM [31:16] RWJ, reset 0x1518 (R195): Loss table voltage, 0.01 V units, 1–65,535; 0 refused (R192) -/
def phPcfgVnom : Row := ⟨0x200, 0x4, 1, 16, 16, .rwj, 0x1518, true⟩

/-- PHi_PSTEP.ISTEP [11:0] RWJ, reset 0x1F4 (R195): Table step, 10 mA units, 1–4,095 -/
def phPstepIstep : Row := ⟨0x204, 0x4, 1, 0, 12, .rwj, 0x1f4, true⟩

/-- PHi_LOSSk.E2k [15:0] RWJ, reset 0x0000 (R195): Loss at 2k × ISTEP, 10 mW units, k = 0–3 -/
def phLossElo : Row := ⟨0x208, 0x4, 4, 0, 16, .rwj, 0x0, true⟩

/-- PHi_LOSSk.E2k+1 [31:16] RWJ, reset 0x0000 (R195): Loss at (2k + 1) × ISTEP, 10 mW units -/
def phLossEhi : Row := ⟨0x208, 0x4, 4, 16, 16, .rwj, 0x0, true⟩

/-- PHi_PIN.PIN [23:0] RO, reset 0x000000 (R195): Input power, signed beads, 1 ms mean -/
def phPinPin : Row := ⟨0x220, 0x4, 1, 0, 24, .ro, 0x0, false⟩

/-- PHi_PLOSS.PLOSS [23:0] RO, reset 0x000000 (R195): Loss-table term, beads, 1 ms mean -/
def phPlossPloss : Row := ⟨0x224, 0x4, 1, 0, 24, .ro, 0x0, false⟩

/-- PHi_PNOW.PNOW [23:0] RO, reset 0x000000 (R195): Input power, signed beads, 100 µs mean -/
def phPnowPnow : Row := ⟨0x228, 0x4, 1, 0, 24, .ro, 0x0, false⟩

/-- PHi_NACT.SW [4:0] RO, reset 0x00 (R195): Phases in the switching set -/
def phNactSw : Row := ⟨0x22c, 0x4, 1, 0, 5, .ro, 0x0, false⟩

/-- PHi_NACT.SHED [12:8] RO, reset 0x00 (R195): Phases shed -/
def phNactShed : Row := ⟨0x22c, 0x4, 1, 8, 5, .ro, 0x0, false⟩

/-- PHi_NACT.RET [20:16] RO, reset 0x00 (R195): Phases retired -/
def phNactRet : Row := ⟨0x22c, 0x4, 1, 16, 5, .ro, 0x0, false⟩

/-- ABC_CFG.SHAREMODE [0] RWJ, reset 0x0 (R224): 0 by CEIL, 1 by WEIGHT -/
def abcCfgSharemode : Row := ⟨0x40, 0x4, 1, 0, 1, .rwj, 0x0, true⟩

/-- ABC_CFG.CHGEN [1] RWJ, reset 0x1 (R224): Charge grants permitted -/
def abcCfgChgen : Row := ⟨0x40, 0x4, 1, 1, 1, .rwj, 0x1, true⟩

/-- ABC_CFG.SPARE [2] RWJ, reset 0x1 (R224): Pass 3 of R206 -/
def abcCfgSpare : Row := ⟨0x40, 0x4, 1, 2, 1, .rwj, 0x1, true⟩

/-- ABC_CFG.HEAD [15:8] RWJ, reset 0x0A (R224): Demand headroom, %, 0–100 -/
def abcCfgHead : Row := ⟨0x40, 0x4, 1, 8, 8, .rwj, 0xa, true⟩

/-- ABC_CFG.FMIN [23:16] RWJ, reset 0x05 (R224): Least FEED share in a move, % of CEIL, 0–50 -/
def abcCfgFmin : Row := ⟨0x40, 0x4, 1, 16, 8, .rwj, 0x5, true⟩

/-- ABC_CAP.CAP [23:0] RWJ, reset 0x7FFFFF (R224): Cap, beads -/
def abcCapCap : Row := ⟨0x44, 0x4, 1, 0, 24, .rwj, 0x7fffff, true⟩

/-- ABC_CAPSLEW.SLEW [15:0] RWJ, reset 0x0000 (R224): Beads per settle; 0 at once -/
def abcCapslewSlew : Row := ⟨0x48, 0x4, 1, 0, 16, .rwj, 0x0, true⟩

/-- ABC_TRIM.STEP [7:0] RWJ, reset 0x0A (R224): Trim step, mV, 1–255 -/
def abcTrimStep : Row := ⟨0x4c, 0x4, 1, 0, 8, .rwj, 0xa, true⟩

/-- ABC_TRIM.MAX [15:8] RWJ, reset 0x32 (R224): Trim bound, 10 mV units, 1–255 -/
def abcTrimMax : Row := ⟨0x4c, 0x4, 1, 8, 8, .rwj, 0x32, true⟩

/-- ABC_TRIM.DEAD [23:16] RWJ, reset 0x14 (R224): Dead band, 0.1 %, 1–255 -/
def abcTrimDead : Row := ⟨0x4c, 0x4, 1, 16, 8, .rwj, 0x14, true⟩

/-- ABC_LOSSCFG.LOSS0 [15:0] RWJ, reset 0x0000 (R224): Fixed loss, beads -/
def abcLosscfgLoss0 : Row := ⟨0x50, 0x4, 1, 0, 16, .rwj, 0x0, true⟩

/-- ABC_LOSSCFG.RPATH [31:16] RWJ, reset 0x0000 (R224): Path resistance per bay, µΩ -/
def abcLosscfgRpath : Row := ⟨0x50, 0x4, 1, 16, 16, .rwj, 0x0, true⟩

/-- ABC_STAT.CAPBIND [0] RO, reset 0x0 (R224): R204 -/
def abcStatCapbind : Row := ⟨0x54, 0x4, 1, 0, 1, .ro, 0x0, false⟩

/-- ABC_STAT.SUPPLYBIND [1] RO, reset 0x0 (R224): R204 -/
def abcStatSupplybind : Row := ⟨0x54, 0x4, 1, 1, 1, .ro, 0x0, false⟩

/-- ABC_STAT.FLOORSHORT [2] RO, reset 0x0 (R224): Any rod short of its floor -/
def abcStatFloorshort : Row := ⟨0x54, 0x4, 1, 2, 1, .ro, 0x0, false⟩

/-- ABC_STAT.HOLDUP [3] RO, reset 0x0 (R224): R205 -/
def abcStatHoldup : Row := ⟨0x54, 0x4, 1, 3, 1, .ro, 0x0, false⟩

/-- ABC_STAT.LEARN [4] RO, reset 0x0 (R224): Learning discharge in force -/
def abcStatLearn : Row := ⟨0x54, 0x4, 1, 4, 1, .ro, 0x0, false⟩

/-- ABC_STAT.REST [5] RO, reset 0x0 (R224): Rest by rotation in force -/
def abcStatRest : Row := ⟨0x54, 0x4, 1, 5, 1, .ro, 0x0, false⟩

/-- ABC_STAT.SAT [6] RO, reset 0x0 (R224): Any balance saturated -/
def abcStatSat : Row := ⟨0x54, 0x4, 1, 6, 1, .ro, 0x0, false⟩

/-- ABC_STAT.RESVLOW [7] RO, reset 0x0 (R224): R215 -/
def abcStatResvlow : Row := ⟨0x54, 0x4, 1, 7, 1, .ro, 0x0, false⟩

/-- ABC_STAT.NOVER [22:16] RO, reset 0x00 (R224): Rods over -/
def abcStatNover : Row := ⟨0x54, 0x4, 1, 16, 7, .ro, 0x0, false⟩

/-- ABC_CAPEFF.CAP [23:0] RO, reset 0x7FFFFF (R224): Cap in force, beads -/
def abcCapeffCap : Row := ⟨0x58, 0x4, 1, 0, 24, .ro, 0x7fffff, false⟩

/-- ABC_SUPPLY.SUP [23:0] RO, reset 0x000000 (R224): Supply, beads -/
def abcSupplySup : Row := ⟨0x5c, 0x4, 1, 0, 24, .ro, 0x0, false⟩

/-- ABC_BUDGET.B [23:0] RO, reset 0x000000 (R224): Budget, beads -/
def abcBudgetB : Row := ⟨0x60, 0x4, 1, 0, 24, .ro, 0x0, false⟩

/-- ABC_SRCTOT.S [31:0] RO, reset 0x0 (R224): Source total, signed beads -/
def abcSrctotS : Row := ⟨0x64, 0x4, 1, 0, 32, .ro, 0x0, false⟩

/-- ABC_CONTOT.C [31:0] RO, reset 0x0 (R224): Consumer total, signed beads -/
def abcContotC : Row := ⟨0x68, 0x4, 1, 0, 32, .ro, 0x0, false⟩

/-- ABC_LOSSNOW.L [23:0] RO, reset 0x000000 (R224): LOSS postings, beads -/
def abcLossnowL : Row := ⟨0x6c, 0x4, 1, 0, 24, .ro, 0x0, false⟩

/-- ABC_RESID.R [31:0] RO, reset 0x0 (R224): S − C − L, signed beads -/
def abcResidR : Row := ⟨0x70, 0x4, 1, 0, 32, .ro, 0x0, false⟩

/-- ABC_FLOORS.F [31:0] RO, reset 0x0 (R224): Floors covered, beads -/
def abcFloorsF : Row := ⟨0x74, 0x4, 1, 0, 32, .ro, 0x0, false⟩

/-- ABC_SPARE.SP [31:0] RO, reset 0x0 (R224): G less grants, beads -/
def abcSpareSp : Row := ⟨0x78, 0x4, 1, 0, 32, .ro, 0x0, false⟩

/-- ABC_CYCUS.US [31:0] RO, reset 0x0 (R224): Microsecond count [31:0] at the last settle start -/
def abcCycusUs : Row := ⟨0x7c, 0x4, 1, 0, 32, .ro, 0x0, false⟩

/-- ABC_SPAN.SPAN [7:0] RO, reset 0x01 (R224): Cycles covered by the last settle -/
def abcSpanSpan : Row := ⟨0x80, 0x4, 1, 0, 8, .ro, 0x1, false⟩

/-- ABC_GAPCYC.CNT [31:0] RO, reset 0x0 (R224): Cycles not posted, saturating -/
def abcGapcycCnt : Row := ⟨0x84, 0x4, 1, 0, 32, .ro, 0x0, false⟩

/-- ABC_NTRIMF.CNT [31:0] RC, reset 0x0 (R224): Trim failures -/
def abcNtrimfCnt : Row := ⟨0x88, 0x4, 1, 0, 32, .rc, 0x0, false⟩

/-- ABC_EXPHEAD.EXP [23:0] RO, reset 0x000000 (R224): R217, beads; 0 when negative -/
def abcExpheadExp : Row := ⟨0x8c, 0x4, 1, 0, 24, .ro, 0x0, false⟩

/-- ABC_GREFk.REF [15:0] RO, reset 0x0000 (R224): Group reference, signed, 10 mA units -/
def abcGrefRef : Row := ⟨0xc0, 0x4, 8, 0, 16, .ro, 0x0, false⟩

/-- ABC_GREFk.ACTIVE [16] RO, reset 0x0 (R224): Abacus drives the loop (R212) -/
def abcGrefActive : Row := ⟨0xc0, 0x4, 8, 16, 1, .ro, 0x0, false⟩

/-- ABC_GREFk.DISCH [17] RO, reset 0x0 (R224): Ledger move in force -/
def abcGrefDisch : Row := ⟨0xc0, 0x4, 8, 17, 1, .ro, 0x0, false⟩

/-- ABC_GCHGk.CHG [23:0] RO, reset 0x000000 (R224): Charge request, beads -/
def abcGchgChg : Row := ⟨0xe0, 0x4, 8, 0, 24, .ro, 0x0, false⟩

/-- ABC_GDISk.DIS [23:0] RO, reset 0x000000 (R224): Discharge availability, beads -/
def abcGdisDis : Row := ⟨0x100, 0x4, 8, 0, 24, .ro, 0x0, false⟩

/-- RODr_CFG.KIND [2:0] RWJ, reset 0x0 (R225): Table 8.1 -/
def rodCfgKind : Row := ⟨0x40, 0x10, 64, 0, 3, .rwj, 0x0, true⟩

/-- RODr_CFG.PRIO [6:4] RWJ, reset 0x0 (R225): Priority, 7 first -/
def rodCfgPrio : Row := ⟨0x40, 0x10, 64, 4, 3, .rwj, 0x0, true⟩

/-- RODr_CFG.WEIGHT [15:8] RWJ, reset 0x01 (R225): 1–255; 0 taken as 1 -/
def rodCfgWeight : Row := ⟨0x40, 0x10, 64, 8, 8, .rwj, 0x1, true⟩

/-- RODr_FLOOR.FLOOR [23:0] RWJ, reset 0x000000 (R225): Beads -/
def rodFloorFloor : Row := ⟨0x44, 0x10, 64, 0, 24, .rwj, 0x0, true⟩

/-- RODr_CEIL.CEIL [23:0] RWJ, reset 0x7FFFFF (R225): Beads; FEED availability -/
def rodCeilCeil : Row := ⟨0x48, 0x10, 64, 0, 24, .rwj, 0x7fffff, true⟩

/-- RODr_ENF.TGRACE [7:0] RWJ, reset 0x32 (R225): ms before limiting, 1–255 -/
def rodEnfTgrace : Row := ⟨0x4c, 0x10, 64, 0, 8, .rwj, 0x32, true⟩

/-- RODr_ENF.RELHYST [15:8] RWJ, reset 0x05 (R225): Release hysteresis, %, 0–50 -/
def rodEnfRelhyst : Row := ⟨0x4c, 0x10, 64, 8, 8, .rwj, 0x5, true⟩

/-- RODr_ENF.NOTHR [16] RWJ, reset 0x0 (R225): No throttle -/
def rodEnfNothr : Row := ⟨0x4c, 0x10, 64, 16, 1, .rwj, 0x0, true⟩

/-- RODr_ENF.NOLIM [17] RWJ, reset 0x0 (R225): No ALIM -/
def rodEnfNolim : Row := ⟨0x4c, 0x10, 64, 17, 1, .rwj, 0x0, true⟩

/-- RODr_BAL.BAL [23:0] RO, reset 0x000000 (R225): Balance, signed beads -/
def rodBalBal : Row := ⟨0x40, 0x20, 64, 0, 24, .ro, 0x0, false⟩

/-- RODr_GRANT.GRANT [23:0] RO, reset 0x000000 (R225): Grant, beads -/
def rodGrantGrant : Row := ⟨0x44, 0x20, 64, 0, 24, .ro, 0x0, false⟩

/-- RODr_DEMAND.DEM [23:0] RO, reset 0x000000 (R225): Demand, beads; contract power for TIE -/
def rodDemandDem : Row := ⟨0x48, 0x20, 64, 0, 24, .ro, 0x0, false⟩

/-- RODr_RST.OVER [0] RO, reset 0x0 (R225): R207 -/
def rodRstOver : Row := ⟨0x4c, 0x20, 64, 0, 1, .ro, 0x0, false⟩

/-- RODr_RST.THROTTLING [1] RO, reset 0x0 (R225): Step above 0 ordered -/
def rodRstThrottling : Row := ⟨0x4c, 0x20, 64, 1, 1, .ro, 0x0, false⟩

/-- RODr_RST.LIMITED [2] RO, reset 0x0 (R225): ALIM set on a member -/
def rodRstLimited : Row := ⟨0x4c, 0x20, 64, 2, 1, .ro, 0x0, false⟩

/-- RODr_RST.FLOORSHORT [3] RO, reset 0x0 (R225): R206 -/
def rodRstFloorshort : Row := ⟨0x4c, 0x20, 64, 3, 1, .ro, 0x0, false⟩

/-- RODr_RST.AUDITED [4] RO, reset 0x0 (R225): R200 -/
def rodRstAudited : Row := ⟨0x4c, 0x20, 64, 4, 1, .ro, 0x0, false⟩

/-- RODr_RST.SAT [5] RO, reset 0x0 (R225): R199 -/
def rodRstSat : Row := ⟨0x4c, 0x20, 64, 5, 1, .ro, 0x0, false⟩

/-- RODr_RST.ACTIVE [6] RO, reset 0x0 (R225): Rod active -/
def rodRstActive : Row := ⟨0x4c, 0x20, 64, 6, 1, .ro, 0x0, false⟩

/-- RODr_RST.THSTEP [10:8] RO, reset 0x0 (R225): Throttle step ordered -/
def rodRstThstep : Row := ⟨0x4c, 0x20, 64, 8, 3, .ro, 0x0, false⟩

/-- RODr_RST.OVERMS [31:16] RO, reset 0x0000 (R225): ms over, saturating -/
def rodRstOverms : Row := ⟨0x4c, 0x20, 64, 16, 16, .ro, 0x0, false⟩

/-- RODr_ENLO.EN [31:0] RO, reset 0x0 (R225): Energy [31:0], 12.5 µJ units; a read latches the high word -/
def rodEnloEn : Row := ⟨0x50, 0x20, 64, 0, 32, .ro, 0x0, false⟩

/-- RODr_ENHI.EN [31:0] RO, reset 0x0 (R225): Energy [63:32] -/
def rodEnhiEn : Row := ⟨0x54, 0x20, 64, 0, 32, .ro, 0x0, false⟩

/-- RODr_PEAK.PEAK [23:0] RC, reset 0x000000 (R225): Largest balance magnitude, beads -/
def rodPeakPeak : Row := ⟨0x58, 0x20, 64, 0, 24, .rc, 0x0, false⟩

/-- ABC_MAPBAYn.ROD [5:0] RWJ, reset 0x00 (R226): Rod of BAYn, n = 0–47 -/
def abcMapbayRod : Row := ⟨0x40, 0x4, 48, 0, 6, .rwj, 0x0, true⟩

/-- ABC_MAPBAYn.EN [7] RWJ, reset 0x0 (R226): Mapped -/
def abcMapbayEn : Row := ⟨0x40, 0x4, 48, 7, 1, .rwj, 0x0, true⟩

/-- ABC_MAPLOOPn.ROD [5:0] RWJ, reset 0x00 (R226): Rod of LOOPn, n = 0–15 -/
def abcMaploopRod : Row := ⟨0x100, 0x4, 16, 0, 6, .rwj, 0x0, true⟩

/-- ABC_MAPLOOPn.EN [7] RWJ, reset 0x0 (R226): Mapped -/
def abcMaploopEn : Row := ⟨0x100, 0x4, 16, 7, 1, .rwj, 0x0, true⟩

/-- ABC_MAPGRPk.ROD [5:0] RWJ, reset 0x00 (R226): Rod of BGk, k = 0–7 -/
def abcMapgrpRod : Row := ⟨0x140, 0x4, 8, 0, 6, .rwj, 0x0, true⟩

/-- ABC_MAPGRPk.EN [7] RWJ, reset 0x0 (R226): Mapped -/
def abcMapgrpEn : Row := ⟨0x140, 0x4, 8, 7, 1, .rwj, 0x0, true⟩

/-- ABC_MAPGRPk.LOOP [11:8] RWJ, reset 0x0 (R226): BIDIR loop of the group -/
def abcMapgrpLoop : Row := ⟨0x140, 0x4, 8, 8, 4, .rwj, 0x0, true⟩

/-- ABC_MAPTIEt.ROD [5:0] RWJ, reset 0x00 (R226): Rod of TIEt, t = 0–3 -/
def abcMaptieRod : Row := ⟨0x160, 0x4, 4, 0, 6, .rwj, 0x0, true⟩

/-- ABC_MAPTIEt.EN [7] RWJ, reset 0x0 (R226): Mapped -/
def abcMaptieEn : Row := ⟨0x160, 0x4, 4, 7, 1, .rwj, 0x0, true⟩

/-- ABC_TRIMn.TRIM [12:0] RO, reset 0x0000 (R226): VOUT_TRIM in force on BAYn's module, signed, mV, covering the whole ±2,550 mV of ABC_TRIM.MAX -/
def abcTrimTrim : Row := ⟨0x200, 0x4, 48, 0, 13, .ro, 0x0, false⟩

/-- ABC_TRIMn.TRIMOK [16] RO, reset 0x0 (R226): Last trim write succeeded -/
def abcTrimTrimok : Row := ⟨0x200, 0x4, 48, 16, 1, .ro, 0x0, false⟩

/-- HLD_CFG.EN [0] RWJ, reset 0x1 (R253): Fast path enabled -/
def hldCfgEn : Row := ⟨0x40, 0x4, 1, 0, 1, .rwj, 0x1, true⟩

/-- HLD_CFG.LVLEN [1] RWJ, reset 0x1 (R253): Level trigger -/
def hldCfgLvlen : Row := ⟨0x40, 0x4, 1, 1, 1, .rwj, 0x1, true⟩

/-- HLD_CFG.SLPEN [2] RWJ, reset 0x1 (R253): Slope trigger -/
def hldCfgSlpen : Row := ⟨0x40, 0x4, 1, 2, 1, .rwj, 0x1, true⟩

/-- HLD_CFG.ALTEN [3] RWJ, reset 0x1 (R253): FEED urgent trigger -/
def hldCfgAlten : Row := ⟨0x40, 0x4, 1, 3, 1, .rwj, 0x1, true⟩

/-- HLD_CFG.AUTOPRE [4] RWJ, reset 0x1 (R253): R233 -/
def hldCfgAutopre : Row := ⟨0x40, 0x4, 1, 4, 1, .rwj, 0x1, true⟩

/-- HLD_CFG.GRPEN [15:8] RWJ, reset 0x00 (R253): Bit k: group k may be armed -/
def hldCfgGrpen : Row := ⟨0x40, 0x4, 1, 8, 8, .rwj, 0x0, true⟩

/-- HLD_LVL.VHOLD [9:0] RWJ, reset 0x1CC (R253): Level threshold, 0.1 V units -/
def hldLvlVhold : Row := ⟨0x44, 0x4, 1, 0, 10, .rwj, 0x1cc, true⟩

/-- HLD_LVL.VREC [25:16] RWJ, reset 0x1E0 (R253): Recovery level, 0.1 V units -/
def hldLvlVrec : Row := ⟨0x44, 0x4, 1, 16, 10, .rwj, 0x1e0, true⟩

/-- HLD_RATE.SHOLD [7:0] RWJ, reset 0x14 (R253): Slope threshold, V/ms, 1–255 -/
def hldRateShold : Row := ⟨0x48, 0x4, 1, 0, 8, .rwj, 0x14, true⟩

/-- HLD_RATE.TPACE [15:8] RWJ, reset 0x01 (R253): Throttle step interval, ms, 1–10 -/
def hldRateTpace : Row := ⟨0x48, 0x4, 1, 8, 8, .rwj, 0x1, true⟩

/-- HLD_RATE.HGRACE [23:16] RWJ, reset 0x05 (R253): Grace before limiting, ms, 1–255 -/
def hldRateHgrace : Row := ⟨0x48, 0x4, 1, 16, 8, .rwj, 0x5, true⟩

/-- HLD_RATE.RECT [31:24] RWJ, reset 0x14 (R253): Recovery time, ms, 1–255 -/
def hldRateRect : Row := ⟨0x48, 0x4, 1, 24, 8, .rwj, 0x14, true⟩

/-- HLD_TGT.TARGET [15:0] RWJ, reset 0x012C (R253): Hold-up target, s, 1–65,535 -/
def hldTgtTarget : Row := ⟨0x4c, 0x4, 1, 0, 16, .rwj, 0x12c, true⟩

/-- HLD_PREk.IPRE [15:0] RWJ, reset 0x0000 (R253): Host preload, signed, 10 mA units -/
def hldPreIpre : Row := ⟨0x60, 0x4, 8, 0, 16, .rwj, 0x0, true⟩

/-- HLD_PREk.IAUTO [31:16] RO, reset 0x0000 (R253): Active automatic preload, signed, 10 mA units -/
def hldPreIauto : Row := ⟨0x60, 0x4, 8, 16, 16, .ro, 0x0, false⟩

/-- HLD_STAT.STATE [1:0] RO, reset 0x0 (R253): Table 9.1 code -/
def hldStatState : Row := ⟨0x80, 0x4, 1, 0, 2, .ro, 0x0, false⟩

/-- HLD_STAT.LVL [2] RO, reset 0x0 (R253): Level condition now -/
def hldStatLvl : Row := ⟨0x80, 0x4, 1, 2, 1, .ro, 0x0, false⟩

/-- HLD_STAT.SLP [3] RO, reset 0x0 (R253): Slope condition now -/
def hldStatSlp : Row := ⟨0x80, 0x4, 1, 3, 1, .ro, 0x0, false⟩

/-- HLD_STAT.ALT [4] RO, reset 0x0 (R253): Urgent condition now -/
def hldStatAlt : Row := ⟨0x80, 0x4, 1, 4, 1, .ro, 0x0, false⟩

/-- HLD_STAT.EXPIRED [5] RO, reset 0x0 (R253): R238 -/
def hldStatExpired : Row := ⟨0x80, 0x4, 1, 5, 1, .ro, 0x0, false⟩

/-- HLD_STAT.EUSTALE [6] RO, reset 0x0 (R253): R238 -/
def hldStatEustale : Row := ⟨0x80, 0x4, 1, 6, 1, .ro, 0x0, false⟩

/-- HLD_STAT.INHOLD [7] RO, reset 0x0 (R253): Last episode began or ended in hold -/
def hldStatInhold : Row := ⟨0x80, 0x4, 1, 7, 1, .ro, 0x0, false⟩

/-- HLD_STAT.ARMED [15:8] RO, reset 0x00 (R253): Bit k: group k armed -/
def hldStatArmed : Row := ⟨0x80, 0x4, 1, 8, 8, .ro, 0x0, false⟩

/-- HLD_STAT.CAUSE [18:16] RO, reset 0x0 (R253): Last trigger: bit 0 level, bit 1 slope, bit 2 alert -/
def hldStatCause : Row := ⟨0x80, 0x4, 1, 16, 3, .ro, 0x0, false⟩

/-- HLD_TRIGUS.US [31:0] RO, reset 0x0 (R253): Microsecond count [31:0] at the last trigger -/
def hldTrigusUs : Row := ⟨0x84, 0x4, 1, 0, 32, .ro, 0x0, false⟩

/-- HLD_DUR.MS [31:0] RO, reset 0x0 (R253): Length of the present or last episode, ms -/
def hldDurMs : Row := ⟨0x88, 0x4, 1, 0, 32, .ro, 0x0, false⟩

/-- HLD_BUDGET.B [23:0] RO, reset 0x000000 (R253): B_H, beads -/
def hldBudgetB : Row := ⟨0x8c, 0x4, 1, 0, 24, .ro, 0x0, false⟩

/-- HLD_EUSE.E [31:0] RO, reset 0x0 (R253): Usable energy, J, from PC1 -/
def hldEuseE : Row := ⟨0x90, 0x4, 1, 0, 32, .ro, 0x0, false⟩

/-- HLD_EDRAWN.E [31:0] RO, reset 0x0 (R253): Energy drawn in the present or last episode, J -/
def hldEdrawnE : Row := ⟨0x94, 0x4, 1, 0, 32, .ro, 0x0, false⟩

/-- HLD_NEPIS.CNT [15:0] RO, reset 0x0000 (R253): Episodes since cold reset, saturating -/
def hldNepisCnt : Row := ⟨0x98, 0x4, 1, 0, 16, .ro, 0x0, false⟩

/-- HLD_NEPIS.NOARM [31:16] RC, reset 0x0000 (R253): Episodes with no group armed -/
def hldNepisNoarm : Row := ⟨0x98, 0x4, 1, 16, 16, .rc, 0x0, false⟩

/-- HLD_VBUS.VBUS [9:0] RO, reset 0x000 (R253): Bus monitor, 0.1 V units -/
def hldVbusVbus : Row := ⟨0x9c, 0x4, 1, 0, 10, .ro, 0x0, false⟩

/-- HLD_VBUS.VMIN [25:16] RO, reset 0x3FF (R253): Lowest bus in the present or last episode -/
def hldVbusVmin : Row := ⟨0x9c, 0x4, 1, 16, 10, .ro, 0x3ff, false⟩

/-- BAL_CFG.EN [0] RWJ, reset 0x1 (R254): Balance enabled -/
def balCfgEn : Row := ⟨0x40, 0x4, 1, 0, 1, .rwj, 0x1, true⟩

/-- BAL_CFG.TELEN [1] RWJ, reset 0x1 (R254): R252 -/
def balCfgTelen : Row := ⟨0x40, 0x4, 1, 1, 1, .rwj, 0x1, true⟩

/-- BAL_CFG.THR [15:8] RWJ, reset 0x14 (R254): Residual threshold, 0.1 % of S, 1–255 -/
def balCfgThr : Row := ⟨0x40, 0x4, 1, 8, 8, .rwj, 0x14, true⟩

/-- BAL_CFG.SUSN [23:16] RWJ, reset 0x0A (R254): Windows to suspect, 1–63 -/
def balCfgSusn : Row := ⟨0x40, 0x4, 1, 16, 8, .rwj, 0xa, true⟩

/-- BAL_CFG.RMIN [31:24] RWJ, reset 0x5A (R254): Least R_c, 0.01 units, 50–100 -/
def balCfgRmin : Row := ⟨0x40, 0x4, 1, 24, 8, .rwj, 0x5a, true⟩

/-- BAL_CFG2.MARGIN [7:0] RWJ, reset 0x0A (R254): R_c margin, 0.01 units, 1–50 -/
def balCfg2Margin : Row := ⟨0x44, 0x4, 1, 0, 8, .rwj, 0xa, true⟩

/-- BAL_CFG2.TELTOL [15:8] RWJ, reset 0x05 (R254): Telemetry tolerance, %, 1–50 -/
def balCfg2Teltol : Row := ⟨0x44, 0x4, 1, 8, 8, .rwj, 0x5, true⟩

/-- BAL_CFG2.SMIN [31:16] RWJ, reset 0x0320 (R254): Least mean S for judging, beads -/
def balCfg2Smin : Row := ⟨0x44, 0x4, 1, 16, 16, .rwj, 0x320, true⟩

/-- BAL_STAT.UNBAL [0] RO, reset 0x0 (R254): Last window unbalanced -/
def balStatUnbal : Row := ⟨0x48, 0x4, 1, 0, 1, .ro, 0x0, false⟩

/-- BAL_STAT.VOID [1] RO, reset 0x0 (R254): Last window void or unjudged -/
def balStatVoid : Row := ⟨0x48, 0x4, 1, 1, 1, .ro, 0x0, false⟩

/-- BAL_STAT.AMBIG [2] RO, reset 0x0 (R254): Last window ambiguous -/
def balStatAmbig : Row := ⟨0x48, 0x4, 1, 2, 1, .ro, 0x0, false⟩

/-- BAL_STAT.MULTI [3] RO, reset 0x0 (R254): R251 -/
def balStatMulti : Row := ⟨0x48, 0x4, 1, 3, 1, .ro, 0x0, false⟩

/-- BAL_STAT.NSUS [15:8] RO, reset 0x00 (R254): Suspects in force -/
def balStatNsus : Row := ⟨0x48, 0x4, 1, 8, 8, .ro, 0x0, false⟩

/-- BAL_STAT.LASTMARK [22:16] RO, reset 0x7F (R254): Last marked candidate; 0x7F none -/
def balStatLastmark : Row := ⟨0x48, 0x4, 1, 16, 7, .ro, 0x7f, false⟩

/-- BAL_WINUS.US [31:0] RO, reset 0x0 (R254): Microsecond count [31:0] at the last window end -/
def balWinusUs : Row := ⟨0x4c, 0x4, 1, 0, 32, .ro, 0x0, false⟩

/-- BAL_RMEAN.R [31:0] RO, reset 0x0 (R254): Mean raw residual, signed beads -/
def balRmeanR : Row := ⟨0x50, 0x4, 1, 0, 32, .ro, 0x0, false⟩

/-- BAL_SMEAN.S [31:0] RO, reset 0x0 (R254): Mean source total, beads -/
def balSmeanS : Row := ⟨0x54, 0x4, 1, 0, 32, .ro, 0x0, false⟩

/-- BAL_BEST.CAND [6:0] RO, reset 0x7F (R254): Largest R_c candidate -/
def balBestCand : Row := ⟨0x58, 0x4, 1, 0, 7, .ro, 0x7f, false⟩

/-- BAL_BEST.RC1 [15:8] RO, reset 0x00 (R254): Its R_c, 0.01 units -/
def balBestRc1 : Row := ⟨0x58, 0x4, 1, 8, 8, .ro, 0x0, false⟩

/-- BAL_BEST.RC2 [23:16] RO, reset 0x00 (R254): Second R_c, 0.01 units -/
def balBestRc2 : Row := ⟨0x58, 0x4, 1, 16, 8, .ro, 0x0, false⟩

/-- BAL_EPS.EPS [23:0] RO, reset 0x000000 (R254): ε̂ of BAL_BEST.CAND, Q4.20 -/
def balEpsEps : Row := ⟨0x5c, 0x4, 1, 0, 24, .ro, 0x0, false⟩

/-- BAL_NWIN.JUDGED [15:0] RO, reset 0x0000 (R254): Judged windows, saturating -/
def balNwinJudged : Row := ⟨0x60, 0x4, 1, 0, 16, .ro, 0x0, false⟩

/-- BAL_NWIN.VOID [31:16] RO, reset 0x0000 (R254): Void or unjudged windows, saturating -/
def balNwinVoid : Row := ⟨0x60, 0x4, 1, 16, 16, .ro, 0x0, false⟩

/-- BALc_ST.ELIG [0] RO, reset 0x0 (R254): Eligible (R247) -/
def balcStElig : Row := ⟨0x40, 0x8, 73, 0, 1, .ro, 0x0, false⟩

/-- BALc_ST.SUSPECT [1] RO, reset 0x0 (R254): R250 -/
def balcStSuspect : Row := ⟨0x40, 0x8, 73, 1, 1, .ro, 0x0, false⟩

/-- BALc_ST.KIND [2] RO, reset 0x0 (R254): 0 GAIN, 1 STUCK -/
def balcStKind : Row := ⟨0x40, 0x8, 73, 2, 1, .ro, 0x0, false⟩

/-- BALc_ST.TELSUS [3] RO, reset 0x0 (R254): R252 -/
def balcStTelsus : Row := ⟨0x40, 0x8, 73, 3, 1, .ro, 0x0, false⟩

/-- BALc_ST.RUN [9:4] RO, reset 0x00 (R254): Run count -/
def balcStRun : Row := ⟨0x40, 0x8, 73, 4, 6, .ro, 0x0, false⟩

/-- BALc_ST.RC [23:16] RO, reset 0x00 (R254): R_c of the last window, 0.01 units -/
def balcStRc : Row := ⟨0x40, 0x8, 73, 16, 8, .ro, 0x0, false⟩

/-- BALc_EPS.EPS [23:0] RO, reset 0x000000 (R254): ε̂ in force, Q4.20 -/
def balcEpsEps : Row := ⟨0x44, 0x8, 73, 0, 24, .ro, 0x0, false⟩

/-- BATs_CFG.EN [0] RWJ, reset 0x0 (R284): String estimated -/
def batCfgEn : Row := ⟨0x40, 0x4, 1, 0, 1, .rwj, 0x0, true⟩

/-- BATs_CFG.BAY [6:1] RWJ, reset 0x00 (R284): STORE bay, 0–47 -/
def batCfgBay : Row := ⟨0x40, 0x4, 1, 1, 6, .rwj, 0x0, true⟩

/-- BATs_CFG.GROUP [10:8] RWJ, reset 0x0 (R284): Battery group -/
def batCfgGroup : Row := ⟨0x40, 0x4, 1, 8, 3, .rwj, 0x0, true⟩

/-- BATs_CFG.THMA [15:11] RWJ, reset 0x00 (R284): First thermistor -/
def batCfgThma : Row := ⟨0x40, 0x4, 1, 11, 5, .rwj, 0x0, true⟩

/-- BATs_CFG.THMAEN [16] RWJ, reset 0x0 (R284): THMA used -/
def batCfgThmaen : Row := ⟨0x40, 0x4, 1, 16, 1, .rwj, 0x0, true⟩

/-- BATs_CFG.THMB [21:17] RWJ, reset 0x00 (R284): Second thermistor -/
def batCfgThmb : Row := ⟨0x40, 0x4, 1, 17, 5, .rwj, 0x0, true⟩

/-- BATs_CFG.THMBEN [22] RWJ, reset 0x0 (R284): THMB used -/
def batCfgThmben : Row := ⟨0x40, 0x4, 1, 22, 1, .rwj, 0x0, true⟩

/-- BATs_CFG.NCELL [27:23] RWJ, reset 0x0E (R284): Series cells, 13–16 -/
def batCfgNcell : Row := ⟨0x40, 0x4, 1, 23, 5, .rwj, 0xe, true⟩

/-- BATs_NAME.QNOM [15:0] RWJ, reset 0x03E8 (R284): Nameplate capacity, 0.1 Ah, 10–65,535 -/
def batNameQnom : Row := ⟨0x44, 0x4, 1, 0, 16, .rwj, 0x3e8, true⟩

/-- BATs_VLIM.VCUT [12:0] RWJ, reset 0x0B54 (R284): Cutoff, mV per cell, 2,000–4,500 -/
def batVlimVcut : Row := ⟨0x48, 0x4, 1, 0, 13, .rwj, 0xb54, true⟩

/-- BATs_VLIM.VTERM [28:16] RWJ, reset 0x1004 (R284): Termination level, mV per cell, 3,000–4,500 -/
def batVlimVterm : Row := ⟨0x48, 0x4, 1, 16, 13, .rwj, 0x1004, true⟩

/-- BATs_ISCL.ILSB [15:0] RWJ, reset 0x1770 (R284): µA per LSB of SV(280 + s) -/
def batIsclIlsb : Row := ⟨0x4c, 0x4, 1, 0, 16, .rwj, 0x1770, true⟩

/-- BATs_ISCL.OFSMAX [31:16] RWJ, reset 0x00C8 (R284): Offset bound, LSB -/
def batIsclOfsmax : Row := ⟨0x4c, 0x4, 1, 16, 16, .rwj, 0xc8, true⟩

/-- BATs_TERM.ITERM [7:0] RWJ, reset 0x32 (R284): Termination current, 0.001 C units -/
def batTermIterm : Row := ⟨0x50, 0x4, 1, 0, 8, .rwj, 0x32, true⟩

/-- BATs_TERM.ICHG [15:8] RWJ, reset 0x14 (R284): Charge current, 0.01 C units -/
def batTermIchg : Row := ⟨0x50, 0x4, 1, 8, 8, .rwj, 0x14, true⟩

/-- BATs_TERM.RECHG [23:16] RWJ, reset 0x61 (R284): FULL clear level, %, 50–99 -/
def batTermRechg : Row := ⟨0x50, 0x4, 1, 16, 8, .rwj, 0x61, true⟩

/-- BATs_TERM.IDMAX [31:24] RWJ, reset 0x0A (R284): Discharge availability, 0.1 C units -/
def batTermIdmax : Row := ⟨0x50, 0x4, 1, 24, 8, .rwj, 0xa, true⟩

/-- BATs_TIME.STALEH [7:0] RWJ, reset 0x48 (R284): Hours to STALE, 1–255 -/
def batTimeStaleh : Row := ⟨0x54, 0x4, 1, 0, 8, .rwj, 0x48, true⟩

/-- BATs_TIME.ROTD [15:8] RWJ, reset 0x0E (R284): Days to rotation due, 1–255 -/
def batTimeRotd : Row := ⟨0x54, 0x4, 1, 8, 8, .rwj, 0xe, true⟩

/-- BATs_TIME.ROTEN [16] RWJ, reset 0x1 (R284): Automatic rotation -/
def batTimeRoten : Row := ⟨0x54, 0x4, 1, 16, 1, .rwj, 0x1, true⟩

/-- BATs_TAX0.T0–T3 [31:0] RWJ, reset 0x140A00F6 (R284): Temperatures, signed °C, Tb in [8b + 7:8b] -/
def batTax0T : Row := ⟨0x58, 0x4, 1, 0, 32, .rwj, 0x140a00f6, true⟩

/-- BATs_TAX1.T4–T7 [31:0] RWJ, reset 0x372D2319 (R284): Same, T(4 + b) -/
def batTax1T : Row := ⟨0x5c, 0x4, 1, 0, 32, .rwj, 0x372d2319, true⟩

/-- BATs_RAX0.R0, R1 [31:0] RWJ, reset 0x000A0005 (R284): Rates, 0.01 C units -/
def batRax0R : Row := ⟨0x60, 0x4, 1, 0, 32, .rwj, 0xa0005, true⟩

/-- BATs_RAX1.R2, R3 [31:0] RWJ, reset 0x00320014 (R284): Rates -/
def batRax1R : Row := ⟨0x64, 0x4, 1, 0, 32, .rwj, 0x320014, true⟩

/-- BATs_RAX2.R4, R5 [31:0] RWJ, reset 0x00C80064 (R284): Rates -/
def batRax2R : Row := ⟨0x68, 0x4, 1, 0, 32, .rwj, 0xc80064, true⟩

/-- BATs_RAX3.R6, R7 [31:0] RWJ, reset 0x01F4012C (R284): Rates -/
def batRax3R : Row := ⟨0x6c, 0x4, 1, 0, 32, .rwj, 0x1f4012c, true⟩

/-- BATs_STAT.SVC [2:0] RO, reset 0x0 (R284): 0 ABSENT, 1 INSERTED, 2 SERVICE, 3 RESTING -/
def batStatSvc : Row := ⟨0x70, 0x4, 1, 0, 3, .ro, 0x0, false⟩

/-- BATs_STAT.FULL [3] RO, reset 0x0 (R284): R263 -/
def batStatFull : Row := ⟨0x70, 0x4, 1, 3, 1, .ro, 0x0, false⟩

/-- BATs_STAT.EMPTY [4] RO, reset 0x0 (R284): R264 -/
def batStatEmpty : Row := ⟨0x70, 0x4, 1, 4, 1, .ro, 0x0, false⟩

/-- BATs_STAT.COUNTDIS [5] RO, reset 0x0 (R284): R265 -/
def batStatCountdis : Row := ⟨0x70, 0x4, 1, 5, 1, .ro, 0x0, false⟩

/-- BATs_STAT.STALE [6] RO, reset 0x0 (R284): R267 -/
def batStatStale : Row := ⟨0x70, 0x4, 1, 6, 1, .ro, 0x0, false⟩

/-- BATs_STAT.NOTEMP [7] RO, reset 0x0 (R284): R257 -/
def batStatNotemp : Row := ⟨0x70, 0x4, 1, 7, 1, .ro, 0x0, false⟩

/-- BATs_STAT.NOID [8] RO, reset 0x0 (R284): R279 -/
def batStatNoid : Row := ⟨0x70, 0x4, 1, 8, 1, .ro, 0x0, false⟩

/-- BATs_STAT.KNOWN [9] RO, reset 0x0 (R284): Record loaded for a known module -/
def batStatKnown : Row := ⟨0x70, 0x4, 1, 9, 1, .ro, 0x0, false⟩

/-- BATs_STAT.PSEUDO [10] RO, reset 0x0 (R284): R266 -/
def batStatPseudo : Row := ⟨0x70, 0x4, 1, 10, 1, .ro, 0x0, false⟩

/-- BATs_STAT.LSTATE [13:11] RO, reset 0x0 (R284): Table 10.2 code -/
def batStatLstate : Row := ⟨0x70, 0x4, 1, 11, 3, .ro, 0x0, false⟩

/-- BATs_STAT.RECIDX [21:15] RO, reset 0x7F (R284): Module record, 0–63; 0x7F none -/
def batStatRecidx : Row := ⟨0x70, 0x4, 1, 15, 7, .ro, 0x7f, false⟩

/-- BATs_STAT.LDQ [25:22] RO, reset 0x0 (R284): Table 10.1 code of the last disqualification -/
def batStatLdq : Row := ⟨0x70, 0x4, 1, 22, 4, .ro, 0x0, false⟩

/-- BATs_SOC.SOC [13:0] RO, reset 0x0000 (R284): State of charge, 0.01 % -/
def batSocSoc : Row := ⟨0x74, 0x4, 1, 0, 14, .ro, 0x0, false⟩

/-- BATs_SOC.UNC [25:16] RO, reset 0x0C8 (R284): Uncertainty, 0.1 % -/
def batSocUnc : Row := ⟨0x74, 0x4, 1, 16, 10, .ro, 0xc8, false⟩

/-- BATs_RSOC.RSOC [13:0] RO, reset 0x0000 (R284): Usable fraction, 0.01 % -/
def batRsocRsoc : Row := ⟨0x78, 0x4, 1, 0, 14, .ro, 0x0, false⟩

/-- BATs_QLRN.QL [15:0] RO, reset 0x0000 (R284): Learned capacity, 0.1 Ah -/
def batQlrnQl : Row := ⟨0x7c, 0x4, 1, 0, 16, .ro, 0x0, false⟩

/-- BATs_QLRN.CYCLES [31:16] RO, reset 0x0000 (R284): Cycle count, saturating -/
def batQlrnCycles : Row := ⟨0x7c, 0x4, 1, 16, 16, .ro, 0x0, false⟩

/-- BATs_CNTLO.COUNT [31:0] RO, reset 0x0 (R284): COUNT [31:0], mC; a read latches the high byte -/
def batCntloCount : Row := ⟨0x80, 0x4, 1, 0, 32, .ro, 0x0, false⟩

/-- BATs_CNTHI.COUNT [7:0] RO, reset 0x00 (R284): COUNT [39:32] -/
def batCnthiCount : Row := ⟨0x84, 0x4, 1, 0, 8, .ro, 0x0, false⟩

/-- BATs_OFS.OFS [15:0] RO, reset 0x0000 (R284): Offset, signed, 1/16 LSB -/
def batOfsOfs : Row := ⟨0x88, 0x4, 1, 0, 16, .ro, 0x0, false⟩

/-- BATs_OFS.OFSOK [16] RO, reset 0x0 (R284): Calibrated since insertion -/
def batOfsOfsok : Row := ⟨0x88, 0x4, 1, 16, 1, .ro, 0x0, false⟩

/-- BATs_VI.V [15:0] RO, reset 0x0000 (R284): String voltage, 2 mV, 1 s mean -/
def batViV : Row := ⟨0x8c, 0x4, 1, 0, 16, .ro, 0x0, false⟩

/-- BATs_VI.I [31:16] RO, reset 0x0000 (R284): String current, signed, 0.1 A, 1 s mean -/
def batViI : Row := ⟨0x8c, 0x4, 1, 16, 16, .ro, 0x0, false⟩

/-- BATs_TV.TEMP [7:0] RO, reset 0x00 (R284): T, signed °C -/
def batTvTemp : Row := ⟨0x90, 0x4, 1, 0, 8, .ro, 0x0, false⟩

/-- BATs_TV.VINS [31:16] RO, reset 0x0000 (R284): Insertion voltage, 2 mV -/
def batTvVins : Row := ⟨0x90, 0x4, 1, 16, 16, .ro, 0x0, false⟩

/-- BATs_EUSE.E [31:0] RO, reset 0x0 (R284): Usable energy, J -/
def batEuseE : Row := ⟨0x94, 0x4, 1, 0, 32, .ro, 0x0, false⟩

/-- BATs_ZNOW.Z [15:0] RO, reset 0x0000 (R284): Z at the present SoC and T, 0.1 mΩ -/
def batZnowZ : Row := ⟨0x98, 0x4, 1, 0, 16, .ro, 0x0, false⟩

/-- BATs_IDLO.ID [31:0] RO, reset 0x0 (R284): Identity [31:0] -/
def batIdloId : Row := ⟨0x9c, 0x4, 1, 0, 32, .ro, 0x0, false⟩

/-- BATs_IDHI.ID [31:0] RO, reset 0x0 (R284): Identity [63:32] -/
def batIdhiId : Row := ⟨0xa0, 0x4, 1, 0, 32, .ro, 0x0, false⟩

/-- BATs_SINCE.S [31:0] RO, reset 0x0 (R284): Seconds since the last rest point, saturating -/
def batSinceS : Row := ⟨0xa4, 0x4, 1, 0, 32, .ro, 0x0, false⟩

/-- BATs_LRN.QMEAS [15:0] RO, reset 0x0000 (R284): Discharged since the learning start, 0.1 Ah -/
def batLrnQmeas : Row := ⟨0xa8, 0x4, 1, 0, 16, .ro, 0x0, false⟩

/-- BATs_LRN.NLRN [31:16] RO, reset 0x0000 (R284): Learnings completed, saturating -/
def batLrnNlrn : Row := ⟨0xa8, 0x4, 1, 16, 16, .ro, 0x0, false⟩

/-- BATs_DCHG.DCHG [15:0] RO, reset 0x0000 (R284): Discharge toward the next cycle, 0.1 Ah -/
def batDchgDchg : Row := ⟨0xac, 0x4, 1, 0, 16, .ro, 0x0, false⟩

/-- BATs_OCVk.E [31:0] RWJ, reset 0x0 (R284): OCV entries 2k, 2k + 1, 0.1 mV per cell, k = 0–83 -/
def batOcvE : Row := ⟨0x100, 0x4, 84, 0, 32, .rwj, 0x0, true⟩

/-- BATs_RCk.F [31:0] RWJ, reset 0x27102710 (R284): Rate-capacity entries, 0.01 %, k = 0–31 -/
def batRcF : Row := ⟨0x250, 0x4, 32, 0, 32, .rwj, 0x27102710, true⟩

/-- BATs_Zk.Z [31:0] RO, reset 0x0 (R284): Impedance entries, 0.1 mΩ, 0 unlearned, k = 0–83 -/
def batZZ : Row := ⟨0x2d0, 0x4, 84, 0, 32, .ro, 0x0, false⟩

/-- BATs_HTk.S [31:0] RO, reset 0x0 (R284): Seconds in temperature bin k, k = 0–15 -/
def batHtS : Row := ⟨0x440, 0x4, 16, 0, 32, .ro, 0x0, false⟩

/-- BATs_HSk.S [31:0] RO, reset 0x0 (R284): Seconds in SoC bin k, k = 0–9 -/
def batHsS : Row := ⟨0x480, 0x4, 10, 0, 32, .ro, 0x0, false⟩

/-- BATs_HIk.S [31:0] RO, reset 0x0 (R284): Seconds in current bin k, k = 0–15 -/
def batHiS : Row := ⟨0x4c0, 0x4, 16, 0, 32, .ro, 0x0, false⟩

/-- BATs_XV.VMAX [15:0] RO, reset 0x0000 (R284): Highest V, 2 mV -/
def batXvVmax : Row := ⟨0x500, 0x4, 1, 0, 16, .ro, 0x0, false⟩

/-- BATs_XV.VMIN [31:16] RO, reset 0xFFFF (R284): Lowest V, 2 mV -/
def batXvVmin : Row := ⟨0x500, 0x4, 1, 16, 16, .ro, 0xffff, false⟩

/-- BATs_XT.TMAX [7:0] RO, reset 0x80 (R284): Highest T, signed °C -/
def batXtTmax : Row := ⟨0x504, 0x4, 1, 0, 8, .ro, 0x80, false⟩

/-- BATs_XT.TMIN [15:8] RO, reset 0x7F (R284): Lowest T, signed °C -/
def batXtTmin : Row := ⟨0x504, 0x4, 1, 8, 8, .ro, 0x7f, false⟩

/-- BATs_XI.IDMX [15:0] RO, reset 0x0000 (R284): Highest discharge current, 0.1 A -/
def batXiIdmx : Row := ⟨0x508, 0x4, 1, 0, 16, .ro, 0x0, false⟩

/-- BATs_XI.ICMX [31:16] RO, reset 0x0000 (R284): Highest charge current, 0.1 A -/
def batXiIcmx : Row := ⟨0x508, 0x4, 1, 16, 16, .ro, 0x0, false⟩

/-- TIEn_CFG.EN [0] RWJ, reset 0x0 (R320): Port enabled -/
def tieCfgEn : Row := ⟨0x40, 0x4, 1, 0, 1, .rwj, 0x0, true⟩

/-- TIEn_CFG.DRP [2:1] RWJ, reset 0x2 (R320): 0 source, 1 sink, 2 dual role; 3 refused -/
def tieCfgDrp : Row := ⟨0x40, 0x4, 1, 1, 2, .rwj, 0x2, true⟩

/-- TIEn_CFG.HOST [3] RWJ, reset 0x0 (R320): Host-policy mode; set by TIE_POLICY -/
def tieCfgHost : Row := ⟨0x40, 0x4, 1, 3, 1, .rwj, 0x0, true⟩

/-- TIEn_CFG.ACCEN [4] RWJ, reset 0x0 (R320): Close onto an accessory -/
def tieCfgAccen : Row := ⟨0x40, 0x4, 1, 4, 1, .rwj, 0x0, true⟩

/-- TIEn_CFG.MOISTEN [5] RWJ, reset 0x1 (R320): Moisture sensing -/
def tieCfgMoisten : Row := ⟨0x40, 0x4, 1, 5, 1, .rwj, 0x1, true⟩

/-- TIEn_CFG.ACCSWAP [6] RWJ, reset 0x1 (R320): Accept SWAP -/
def tieCfgAccswap : Row := ⟨0x40, 0x4, 1, 6, 1, .rwj, 0x1, true⟩

/-- TIEn_CFG.BAY [13:8] RWJ, reset 0x00 (R320): Tie bay, 0–47 -/
def tieCfgBay : Row := ⟨0x40, 0x4, 1, 8, 6, .rwj, 0x0, true⟩

/-- TIEn_CFG.IDEF [25:16] RWJ, reset 0x028 (R320): Current without a contract, 50 mA units -/
def tieCfgIdef : Row := ⟨0x40, 0x4, 1, 16, 10, .rwj, 0x28, true⟩

/-- TIEn_CABLE.IUNM [9:0] RWJ, reset 0x1F4 (R320): Unmarked cable limit, 50 mA units -/
def tieCableIunm : Row := ⟨0x44, 0x4, 1, 0, 10, .rwj, 0x1f4, true⟩

/-- TIEn_CABLE.IMARK [25:16] RWJ, reset 0x3E8 (R320): Marked cable limit, 50 mA units -/
def tieCableImark : Row := ⟨0x44, 0x4, 1, 16, 10, .rwj, 0x3e8, true⟩

/-- TIEn_POL.PEXP [15:0] RWJ, reset 0x0000 (R320): Export limit, W -/
def tiePolPexp : Row := ⟨0x48, 0x4, 1, 0, 16, .rwj, 0x0, true⟩

/-- TIEn_POL.PIMP [31:16] RWJ, reset 0x0000 (R320): Import wanted, W -/
def tiePolPimp : Row := ⟨0x48, 0x4, 1, 16, 16, .rwj, 0x0, true⟩

/-- TIEn_ADV.VMIN [9:0] RWJ, reset 0x1CC (R320): Advertised window low, 100 mV -/
def tieAdvVmin : Row := ⟨0x4c, 0x4, 1, 0, 10, .rwj, 0x1cc, true⟩

/-- TIEn_ADV.VMAX [25:16] RWJ, reset 0x244 (R320): Advertised window high, 100 mV -/
def tieAdvVmax : Row := ⟨0x4c, 0x4, 1, 16, 10, .rwj, 0x244, true⟩

/-- TIEn_ADV2.IMAX [9:0] RWJ, reset 0x3E8 (R320): Advertised current, 50 mA units -/
def tieAdv2Imax : Row := ⟨0x50, 0x4, 1, 0, 10, .rwj, 0x3e8, true⟩

/-- TIEn_ADV2.EHOLD [29:16] RWJ, reset 0x0000 (R320): Hold-up energy offered, kJ -/
def tieAdv2Ehold : Row := ⟨0x50, 0x4, 1, 16, 14, .rwj, 0x0, true⟩

/-- TIEn_STAT.STATE [3:0] RO, reset 0x0 (R320): Table 11.6 code -/
def tieStatState : Row := ⟨0x60, 0x4, 1, 0, 4, .ro, 0x0, false⟩

/-- TIEn_STAT.ROLE [4] RO, reset 0x0 (R320): 1: source -/
def tieStatRole : Row := ⟨0x60, 0x4, 1, 4, 1, .ro, 0x0, false⟩

/-- TIEn_STAT.PARTNER [6:5] RO, reset 0x0 (R320): 0 none, 1 source, 2 sink, 3 accessory -/
def tieStatPartner : Row := ⟨0x60, 0x4, 1, 5, 2, .ro, 0x0, false⟩

/-- TIEn_STAT.MARKED [7] RO, reset 0x0 (R320): Marked cable -/
def tieStatMarked : Row := ⟨0x60, 0x4, 1, 7, 1, .ro, 0x0, false⟩

/-- TIEn_STAT.MOIST [9:8] RO, reset 0x0 (R320): 0 DRY, 1 DAMP, 2 WET -/
def tieStatMoist : Row := ⟨0x60, 0x4, 1, 8, 2, .ro, 0x0, false⟩

/-- TIEn_STAT.LIMITED [10] RO, reset 0x0 (R320): R312 -/
def tieStatLimited : Row := ⟨0x60, 0x4, 1, 10, 1, .ro, 0x0, false⟩

/-- TIEn_STAT.RETIRED [11] RO, reset 0x0 (R320): R318 -/
def tieStatRetired : Row := ⟨0x60, 0x4, 1, 11, 1, .ro, 0x0, false⟩

/-- TIEn_STAT.REJRSN [23:16] RO, reset 0x00 (R320): Last reason received -/
def tieStatRejrsn : Row := ⟨0x60, 0x4, 1, 16, 8, .ro, 0x0, false⟩

/-- TIEn_CONREQ.OBJ [31:0] RO, reset 0x0 (R320): REQUEST object of the contract -/
def tieConreqObj : Row := ⟨0x64, 0x4, 1, 0, 32, .ro, 0x0, false⟩

/-- TIEn_CONSUP.OBJ [31:0] RO, reset 0x0 (R320): SUPPLY object of the contract -/
def tieConsupObj : Row := ⟨0x68, 0x4, 1, 0, 32, .ro, 0x0, false⟩

/-- TIEn_CONLIM.OBJ [31:0] RO, reset 0x0 (R320): LIMIT object of the contract -/
def tieConlimObj : Row := ⟨0x6c, 0x4, 1, 0, 32, .ro, 0x0, false⟩

/-- TIEn_MOIST.RES [7:0] RO, reset 0xFF (R320): Lowest reading, 10 kΩ units, saturating -/
def tieMoistRes : Row := ⟨0x70, 0x4, 1, 0, 8, .ro, 0xff, false⟩

/-- TIEn_MOIST.PATH [9:8] RO, reset 0x0 (R320): 0 TS1–ground, 1 TS2–ground, 2 TS1–SNP, 3 TS2–SNP -/
def tieMoistPath : Row := ⟨0x70, 0x4, 1, 8, 2, .ro, 0x0, false⟩

/-- TIEn_TSV.TS1 [9:0] RO, reset 0x000 (R320): TS1 at the last sample, 5 mV units -/
def tieTsvTs1 : Row := ⟨0x74, 0x4, 1, 0, 10, .ro, 0x0, false⟩

/-- TIEn_TSV.TS2 [25:16] RO, reset 0x000 (R320): TS2 at the last sample, 5 mV units -/
def tieTsvTs2 : Row := ⟨0x74, 0x4, 1, 16, 10, .ro, 0x0, false⟩

/-- TIEn_NMSG.TX [15:0] RC, reset 0x0000 (R320): Frames sent, saturating -/
def tieNmsgTx : Row := ⟨0x78, 0x4, 1, 0, 16, .rc, 0x0, false⟩

/-- TIEn_NMSG.RX [31:16] RC, reset 0x0000 (R320): Frames taken, saturating -/
def tieNmsgRx : Row := ⟨0x78, 0x4, 1, 16, 16, .rc, 0x0, false⟩

/-- TIEn_NERR.CRC [7:0] RC, reset 0x00 (R320): Frames discarded -/
def tieNerrCrc : Row := ⟨0x7c, 0x4, 1, 0, 8, .rc, 0x0, false⟩

/-- TIEn_NERR.RETRY [15:8] RC, reset 0x00 (R320): Resends -/
def tieNerrRetry : Row := ⟨0x7c, 0x4, 1, 8, 8, .rc, 0x0, false⟩

/-- TIEn_NERR.TXFAIL [23:16] RC, reset 0x00 (R320): Messages failed -/
def tieNerrTxfail : Row := ⟨0x7c, 0x4, 1, 16, 8, .rc, 0x0, false⟩

/-- TIEn_NERR.UNK [31:24] RC, reset 0x00 (R320): Reserved types or revisions -/
def tieNerrUnk : Row := ⟨0x7c, 0x4, 1, 24, 8, .rc, 0x0, false⟩

/-- TIEn_NEV.HRST [7:0] RC, reset 0x00 (R320): Hard resets sent or received -/
def tieNevHrst : Row := ⟨0x80, 0x4, 1, 0, 8, .rc, 0x0, false⟩

/-- TIEn_NEV.COLL [15:8] RC, reset 0x00 (R320): Collisions -/
def tieNevColl : Row := ⟨0x80, 0x4, 1, 8, 8, .rc, 0x0, false⟩

/-- TIEn_NEV.BREACH [23:16] RC, reset 0x00 (R320): Breach stages reached -/
def tieNevBreach : Row := ⟨0x80, 0x4, 1, 16, 8, .rc, 0x0, false⟩

/-- TIEn_NEV.TSINV [31:24] RC, reset 0x00 (R320): Samples outside every window -/
def tieNevTsinv : Row := ⟨0x80, 0x4, 1, 24, 8, .rc, 0x0, false⟩

/-- TIEn_RXCAPk.OBJ [31:0] RO, reset 0x0 (R320): Object k of the last CAPS received -/
def tieRxcapObj : Row := ⟨0xc0, 0x4, 7, 0, 32, .ro, 0x0, false⟩

/-- TIEn_RXHDR.HDR [15:0] RO, reset 0x0000 (R320): Header of the last CAPS received -/
def tieRxhdrHdr : Row := ⟨0xdc, 0x4, 1, 0, 16, .ro, 0x0, false⟩

/-- SEQ_GCFG.BOOTEN [0] RWJ, reset 0x1 (R351): FL0 runs up at first RUN after cold reset -/
def seqGcfgBooten : Row := ⟨0x40, 0x4, 1, 0, 1, .rwj, 0x1, true⟩

/-- SEQ_GSTAT.RUNNING [7:0] RO, reset 0x00 (R351): Bit f: flight f not IDLE -/
def seqGstatRunning : Row := ⟨0x44, 0x4, 1, 0, 8, .ro, 0x0, false⟩

/-- SEQ_GSTAT.DEVSTART [15:8] RO, reset 0x00 (R351): Bit f: running from a device start -/
def seqGstatDevstart : Row := ⟨0x44, 0x4, 1, 8, 8, .ro, 0x0, false⟩

/-- SEQ_GSTAT.DEPERR [16] RO, reset 0x0 (R351): Last FLIGHT_RUN refused under R329 -/
def seqGstatDeperr : Row := ⟨0x44, 0x4, 1, 16, 1, .ro, 0x0, false⟩

/-- SEQ_ENTe.POL [0] RWJ, reset 0x1 (R351): Rails: 1 active high -/
def seqEntPol : Row := ⟨0x80, 0x4, 160, 0, 1, .rwj, 0x1, true⟩

/-- SEQ_ENTe.DROPDEP [1] RWJ, reset 0x1 (R351): R326 -/
def seqEntDropdep : Row := ⟨0x80, 0x4, 160, 1, 1, .rwj, 0x1, true⟩

/-- SEQ_ENTe.OVOFF [2] RWJ, reset 0x1 (R351): R325; rails only -/
def seqEntOvoff : Row := ⟨0x80, 0x4, 160, 2, 1, .rwj, 0x1, true⟩

/-- SEQ_ENTe.SUPEN [3] RWJ, reset 0x1 (R351): Supervision outside flights -/
def seqEntSupen : Row := ⟨0x80, 0x4, 160, 3, 1, .rwj, 0x1, true⟩

/-- SEQ_RAILn_LVL.UV [11:0] RWJ, reset 0x000 (R351): Undervoltage level, 0.5 mV units -/
def seqRailLvlUv : Row := ⟨0x300, 0x8, 96, 0, 12, .rwj, 0x0, true⟩

/-- SEQ_RAILn_LVL.OV [27:16] RWJ, reset 0xFFF (R351): Overvoltage level, 0.5 mV units -/
def seqRailLvlOv : Row := ⟨0x300, 0x8, 96, 16, 12, .rwj, 0xfff, true⟩

/-- SEQ_RAILn_LVL2.OFF [11:0] RWJ, reset 0x064 (R351): Off level, 0.5 mV units -/
def seqRailLvl2Off : Row := ⟨0x304, 0x8, 96, 0, 12, .rwj, 0x64, true⟩

/-- SEQ_RAILn_LVL2.PGDB [19:12] RWJ, reset 0x0A (R351): Good debounce, 10 µs units, 1–255 -/
def seqRailLvl2Pgdb : Row := ⟨0x304, 0x8, 96, 12, 8, .rwj, 0xa, true⟩

/-- SEQ_RAILn_LVL2.FLDB [27:20] RWJ, reset 0x14 (R351): Loss debounce, µs, 1–255 -/
def seqRailLvl2Fldb : Row := ⟨0x304, 0x8, 96, 20, 8, .rwj, 0x14, true⟩

/-- SEQ_DEPi.PARENT [7:0] RWJ, reset 0x00 (R351): Parent entity, 0–159 -/
def seqDepParent : Row := ⟨0x40, 0x4, 512, 0, 8, .rwj, 0x0, true⟩

/-- SEQ_DEPi.CHILD [15:8] RWJ, reset 0x00 (R351): Child entity, 0–159 -/
def seqDepChild : Row := ⟨0x40, 0x4, 512, 8, 8, .rwj, 0x0, true⟩

/-- SEQ_DEPi.PDEV [19:16] RWJ, reset 0x0 (R351): Iddex address of a remote parent -/
def seqDepPdev : Row := ⟨0x40, 0x4, 512, 16, 4, .rwj, 0x0, true⟩

/-- SEQ_DEPi.REMOTE [20] RWJ, reset 0x0 (R351): Parent on another device -/
def seqDepRemote : Row := ⟨0x40, 0x4, 512, 20, 1, .rwj, 0x0, true⟩

/-- SEQ_DEPi.EN [31] RWJ, reset 0x0 (R351): Edge enabled -/
def seqDepEn : Row := ⟨0x40, 0x4, 512, 31, 1, .rwj, 0x0, true⟩

/-- FLf_ONe.ONDLY [23:0] RWJ, reset 0x000000 (R351): On-delay, µs -/
def flOnOndly : Row := ⟨0x40, 0xc, 320, 0, 24, .rwj, 0x0, true⟩

/-- FLf_ONe.IN [24] RWJ, reset 0x0 (R351): Entity included -/
def flOnIn : Row := ⟨0x40, 0xc, 320, 24, 1, .rwj, 0x0, true⟩

/-- FLf_OFFe.OFFDLY [23:0] RWJ, reset 0x000000 (R351): Off-delay, µs -/
def flOffOffdly : Row := ⟨0x44, 0xc, 320, 0, 24, .rwj, 0x0, true⟩

/-- FLf_DLe.DL [23:0] RWJ, reset 0x000000 (R351): Deadline, µs, 1–16,777,215 -/
def flDlDl : Row := ⟨0x48, 0xc, 320, 0, 24, .rwj, 0x0, true⟩

/-- FLf_CFG.DIR [0] RWJ, reset 0x0; 0x1 for FL1 (R351): Default direction, 1 down -/
def flCfgDir : Row := ⟨0x40, 0x10, 8, 0, 1, .rwj, 0x0, true⟩

/-- FLf_CFG.RET [2:1] RWJ, reset 0x0 (R351): Return condition -/
def flCfgRet : Row := ⟨0x40, 0x10, 8, 1, 2, .rwj, 0x0, true⟩

/-- FLf_CFG.TRIG [3] RWJ, reset 0x0 (R351): Device start down on EXPIRED -/
def flCfgTrig : Row := ⟨0x40, 0x10, 8, 3, 1, .rwj, 0x0, true⟩

/-- FLf_CFG.PAIR [6:4] RWJ, reset 0x0 (R351): Up flight after the return wait -/
def flCfgPair : Row := ⟨0x40, 0x10, 8, 4, 3, .rwj, 0x0, true⟩

/-- FLf_CFG.RETRAIL [14:8] RWJ, reset 0x00 (R351): Rail for RET = 2, 0–95 -/
def flCfgRetrail : Row := ⟨0x40, 0x10, 8, 8, 7, .rwj, 0x0, true⟩

/-- FLf_STAT.STATE [2:0] RO, reset 0x0 (R351): Table 12.2 code -/
def flStatState : Row := ⟨0x44, 0x10, 8, 0, 3, .ro, 0x0, false⟩

/-- FLf_STAT.REV [3] RO, reset 0x0 (R351): Last run reversed -/
def flStatRev : Row := ⟨0x44, 0x10, 8, 3, 1, .ro, 0x0, false⟩

/-- FLf_STAT.RETPEND [4] RO, reset 0x0 (R351): R339 -/
def flStatRetpend : Row := ⟨0x44, 0x10, 8, 4, 1, .ro, 0x0, false⟩

/-- FLf_STAT.DEVSTART [5] RO, reset 0x0 (R351): Present or last run from a device start -/
def flStatDevstart : Row := ⟨0x44, 0x10, 8, 5, 1, .ro, 0x0, false⟩

/-- FLf_STAT.DIRNOW [6] RO, reset 0x0 (R351): 1: down run -/
def flStatDirnow : Row := ⟨0x44, 0x10, 8, 6, 1, .ro, 0x0, false⟩

/-- FLf_STAT.LANDING [12:8] RO, reset 0x1F (R351): Latest landing passed, 0–15; 0x1F none -/
def flStatLanding : Row := ⟨0x44, 0x10, 8, 8, 5, .ro, 0x1f, false⟩

/-- FLf_STAT.NBAD [23:16] RO, reset 0x00 (R351): Entities FAILED, SKIPPED or STUCK in the last run -/
def flStatNbad : Row := ⟨0x44, 0x10, 8, 16, 8, .ro, 0x0, false⟩

/-- FLf_TIME.T [31:0] RO, reset 0x0 (R351): Flight time, µs -/
def flTimeT : Row := ⟨0x48, 0x10, 8, 0, 32, .ro, 0x0, false⟩

/-- FLf_T0.US [31:0] RO, reset 0x0 (R351): Microsecond count [31:0] at the common start -/
def flT0Us : Row := ⟨0x4c, 0x10, 8, 0, 32, .ro, 0x0, false⟩

/-- FLf_LANDk.TMARK [23:0] RWJ, reset 0x000000 (R351): Mark, µs of flight time -/
def flLandTmark : Row := ⟨0x100, 0x4, 128, 0, 24, .rwj, 0x0, true⟩

/-- FLf_LANDk.EN [24] RWJ, reset 0x0 (R351): Landing enabled -/
def flLandEn : Row := ⟨0x100, 0x4, 128, 24, 1, .rwj, 0x0, true⟩

/-- FLf_LANDk.STOP [25] RWJ, reset 0x0 (R351): Flight stops here -/
def flLandStop : Row := ⟨0x100, 0x4, 128, 25, 1, .rwj, 0x0, true⟩

/-- FLf_LANDk.UP [26] RWJ, reset 0x0 (R351): Counts in up runs -/
def flLandUp : Row := ⟨0x100, 0x4, 128, 26, 1, .rwj, 0x0, true⟩

/-- FLf_LANDk.DN [27] RWJ, reset 0x0 (R351): Counts in down runs -/
def flLandDn : Row := ⟨0x100, 0x4, 128, 27, 1, .rwj, 0x0, true⟩

/-- SEQ_ESTe.STATE [3:0] RO, reset 0x0 (R351): Table 12.3 code -/
def seqEstState : Row := ⟨0x40, 0x4, 160, 0, 4, .ro, 0x0, false⟩

/-- SEQ_ESTe.GOOD [4] RO, reset 0x0 (R351): Judged good now -/
def seqEstGood : Row := ⟨0x40, 0x4, 160, 4, 1, .ro, 0x0, false⟩

/-- SEQ_ESTe.TAKEN [5] RO, reset 0x0 (R351): R333, last run -/
def seqEstTaken : Row := ⟨0x40, 0x4, 160, 5, 1, .ro, 0x0, false⟩

/-- SEQ_ESTe.FLIGHT [10:8] RO, reset 0x0 (R351): Last flight that switched the entity -/
def seqEstFlight : Row := ⟨0x40, 0x4, 160, 8, 3, .ro, 0x0, false⟩

/-- SEQ_ESTe.PGT [31:16] RO, reset 0x0000 (R351): Slot to good or fallen, 10 µs units, saturating -/
def seqEstPgt : Row := ⟨0x40, 0x4, 160, 16, 16, .ro, 0x0, false⟩

/-- SEQ_RMONn.MON [11:0] RO, reset 0x000 (R351): MON, 0.5 mV units, 1 ms mean -/
def seqRmonMon : Row := ⟨0x300, 0x4, 96, 0, 12, .ro, 0x0, false⟩

/-- IDX_CFG.EN [0] RWJ, reset 0x0 (R372): Link enabled -/
def idxCfgEn : Row := ⟨0x40, 0x4, 1, 0, 1, .rwj, 0x0, true⟩

/-- IDX_CFG.FANOUT [15:8] RWJ, reset 0x00 (R372): Master: bit f, flight f ordered to slaves -/
def idxCfgFanout : Row := ⟨0x40, 0x4, 1, 8, 8, .rwj, 0x0, true⟩

/-- IDX_CFG.FANIN [23:16] RWJ, reset 0x00 (R372): Slave: bit f, flight f run from orders -/
def idxCfgFanin : Row := ⟨0x40, 0x4, 1, 16, 8, .rwj, 0x0, true⟩

/-- IDX_CFG.PGRACE [31:24] RWJ, reset 0x14 (R372): Hold of lost peers' states, 100 ms units -/
def idxCfgPgrace : Row := ⟨0x40, 0x4, 1, 24, 8, .rwj, 0x14, true⟩

/-- IDX_PEERS.EXPECT [15:0] RWJ, reset 0x0000 (R372): Bit a: address a expected -/
def idxPeersExpect : Row := ⟨0x44, 0x4, 1, 0, 16, .rwj, 0x0, true⟩

/-- IDX_STAT.ADDR [3:0] RO, reset strap (here 0x0, log entry 10) (R372): Own address -/
def idxStatAddr : Row := ⟨0x48, 0x4, 1, 0, 4, .ro, 0x0, false⟩

/-- IDX_STAT.MASTER [4] RO, reset strap (here 0x1, log entry 10) (R372): Address 0 -/
def idxStatMaster : Row := ⟨0x48, 0x4, 1, 4, 1, .ro, 0x1, false⟩

/-- IDX_STAT.MHEARD [5] RO, reset 0x0 (R372): Master present -/
def idxStatMheard : Row := ⟨0x48, 0x4, 1, 5, 1, .ro, 0x0, false⟩

/-- IDX_STAT.SYNCOK [6] RO, reset 0x0 (R372): R357 -/
def idxStatSyncok : Row := ⟨0x48, 0x4, 1, 6, 1, .ro, 0x0, false⟩

/-- IDX_STAT.ADDRCONF [7] RO, reset 0x0 (R372): R370 -/
def idxStatAddrconf : Row := ⟨0x48, 0x4, 1, 7, 1, .ro, 0x0, false⟩

/-- IDX_PRES.HEARD [15:0] RO, reset 0x0000 (R372): Bit a: peer a present -/
def idxPresHeard : Row := ⟨0x4c, 0x4, 1, 0, 16, .ro, 0x0, false⟩

/-- IDX_PRES.LOST [31:16] RO, reset 0x0000 (R372): Bit a: peer a lost -/
def idxPresLost : Row := ⟨0x4c, 0x4, 1, 16, 16, .ro, 0x0, false⟩

/-- IDX_RET.RETIRED [15:0] RO, reset 0x0000 (R372): Bit a: peer a retired -/
def idxRetRetired : Row := ⟨0x50, 0x4, 1, 0, 16, .ro, 0x0, false⟩

/-- IDX_TOFSLO.OFS [31:0] RO, reset 0x0 (R372): Link offset [31:0], µs; a read latches the high word -/
def idxTofsloOfs : Row := ⟨0x54, 0x4, 1, 0, 32, .ro, 0x0, false⟩

/-- IDX_TOFSHI.OFS [31:0] RO, reset 0x0 (R372): Link offset [63:32], signed -/
def idxTofshiOfs : Row := ⟨0x58, 0x4, 1, 0, 32, .ro, 0x0, false⟩

/-- IDX_ALIGN.ERR [15:0] RO, reset 0x0000 (R372): Residual at the last edge, signed, ns -/
def idxAlignErr : Row := ⟨0x5c, 0x4, 1, 0, 16, .ro, 0x0, false⟩

/-- IDX_NERR.CRC [15:0] RC, reset 0x0000 (R372): Frames discarded, saturating -/
def idxNerrCrc : Row := ⟨0x60, 0x4, 1, 0, 16, .rc, 0x0, false⟩

/-- IDX_NERR.SYNCMISS [31:16] RC, reset 0x0000 (R372): Missed edges, saturating -/
def idxNerrSyncmiss : Row := ⟨0x60, 0x4, 1, 16, 16, .rc, 0x0, false⟩

/-- IDX_NFRM.TX [15:0] RC, reset 0x0000 (R372): Frames sent, saturating -/
def idxNfrmTx : Row := ⟨0x64, 0x4, 1, 0, 16, .rc, 0x0, false⟩

/-- IDX_NFRM.RX [31:16] RC, reset 0x0000 (R372): Frames taken, saturating -/
def idxNfrmRx : Row := ⟨0x64, 0x4, 1, 16, 16, .rc, 0x0, false⟩

/-- IDX_ORD.ID [7:0] RO, reset 0x00 (R372): Last order identity -/
def idxOrdId : Row := ⟨0x68, 0x4, 1, 0, 8, .ro, 0x0, false⟩

/-- IDX_ORD.FLIGHT [10:8] RO, reset 0x0 (R372): Its flight -/
def idxOrdFlight : Row := ⟨0x68, 0x4, 1, 8, 3, .ro, 0x0, false⟩

/-- IDX_ORD.OP [13:11] RO, reset 0x0 (R372): Its OP -/
def idxOrdOp : Row := ⟨0x68, 0x4, 1, 11, 3, .ro, 0x0, false⟩

/-- IDX_ORD.RESULT [23:16] RO, reset 0x00 (R372): Slave: own RESULT; master: worst slave RESULT -/
def idxOrdResult : Row := ⟨0x68, 0x4, 1, 16, 8, .ro, 0x0, false⟩

/-- IDX_PEERa.HEARD [0] RO, reset 0x0 (R372): Present -/
def idxPeerHeard : Row := ⟨0x80, 0x4, 16, 0, 1, .ro, 0x0, false⟩

/-- IDX_PEERa.LOST [1] RO, reset 0x0 (R372): R367 -/
def idxPeerLost : Row := ⟨0x80, 0x4, 16, 1, 1, .ro, 0x0, false⟩

/-- IDX_PEERa.RETIRED [2] RO, reset 0x0 (R372): R371 -/
def idxPeerRetired : Row := ⟨0x80, 0x4, 16, 2, 1, .ro, 0x0, false⟩

/-- IDX_PEERa.BADED [3] RO, reset 0x0 (R372): States forced BAD under R369 -/
def idxPeerBaded : Row := ⟨0x80, 0x4, 16, 3, 1, .ro, 0x0, false⟩

/-- IDX_PEERa.AGE [15:8] RO, reset 0xFF (R372): ms since its last frame, saturating -/
def idxPeerAge : Row := ⟨0x80, 0x4, 16, 8, 8, .ro, 0xff, false⟩

/-- IDX remote states: peer a at 0x100 + 0x30a, words 0-9 ENT, 10 and 11 flight bytes [31:0] RO, reset not stated (R372): Remote states and flight bytes of peer a -/
def idxRemW : Row := ⟨0x100, 0x4, 192, 0, 32, .ro, 0x0, false⟩

/-- TWT_CFG.REGEN [0] RWL, reset 0x1 (R399): Register target answers -/
def twtCfgRegen : Row := ⟨0x40, 0x4, 1, 0, 1, .rwl, 0x1, false⟩

/-- TWT_CFG.FASTEN [1] RWL, reset 0x1 (R399): Fast target answers -/
def twtCfgFasten : Row := ⟨0x40, 0x4, 1, 1, 1, .rwl, 0x1, false⟩

/-- TWT_CFG.PECWR [2] RWL, reset 0x0 (R399): R382 -/
def twtCfgPecwr : Row := ⟨0x40, 0x4, 1, 2, 1, .rwl, 0x0, false⟩

/-- TWT_CFG.TOUTEN [3] RWL, reset 0x1 (R399): R381 -/
def twtCfgTouten : Row := ⟨0x40, 0x4, 1, 3, 1, .rwl, 0x1, false⟩

/-- TWT_WIN.WIN [4:0] RW, reset 0x00 (R399): Register target window (R376) -/
def twtWinWin : Row := ⟨0x44, 0x4, 1, 0, 5, .rw, 0x0, false⟩

/-- TWT_STAT.ADDR [1:0] RO, reset strap (here 0x0, log entry 10) (R399): Strap s (R375) -/
def twtStatAddr : Row := ⟨0x48, 0x4, 1, 0, 2, .ro, 0x0, false⟩

/-- TWT_STAT.INXFR [2] RO, reset 0x0 (R399): A transaction is open -/
def twtStatInxfr : Row := ⟨0x48, 0x4, 1, 2, 1, .ro, 0x0, false⟩

/-- TWT_STAT.BUSERR [15:8] RC, reset 0x00 (R399): R380, saturating -/
def twtStatBuserr : Row := ⟨0x48, 0x4, 1, 8, 8, .rc, 0x0, false⟩

/-- TWT_STAT.TIMEOUT [23:16] RC, reset 0x00 (R399): R381, saturating -/
def twtStatTimeout : Row := ⟨0x48, 0x4, 1, 16, 8, .rc, 0x0, false⟩

/-- TWT_NERR.BLKNAK [7:0] RC, reset 0x00 (R399): R378, saturating -/
def twtNerrBlknak : Row := ⟨0x4c, 0x4, 1, 0, 8, .rc, 0x0, false⟩

/-- TWT_NERR.PECERR [15:8] RC, reset 0x00 (R399): R382 -/
def twtNerrPecerr : Row := ⟨0x4c, 0x4, 1, 8, 8, .rc, 0x0, false⟩

/-- TWT_NERR.PARTIAL [23:16] RC, reset 0x00 (R399): R377 -/
def twtNerrPartial : Row := ⟨0x4c, 0x4, 1, 16, 8, .rc, 0x0, false⟩

/-- TWT_NERR.RONAK [31:24] RC, reset 0x00 (R399): R383 -/
def twtNerrRonak : Row := ⟨0x4c, 0x4, 1, 24, 8, .rc, 0x0, false⟩

/-- TWT_NERR2.SHORT [7:0] RC, reset 0x00 (R399): R376 -/
def twtNerr2Short : Row := ⟨0x50, 0x4, 1, 0, 8, .rc, 0x0, false⟩

/-- TWT_NXFR.WR [15:0] RC, reset 0x0000 (R399): Write transactions committed, saturating -/
def twtNxfrWr : Row := ⟨0x54, 0x4, 1, 0, 16, .rc, 0x0, false⟩

/-- TWT_NXFR.RD [31:16] RC, reset 0x0000 (R399): Read transactions, saturating -/
def twtNxfrRd : Row := ⟨0x54, 0x4, 1, 16, 16, .rc, 0x0, false⟩

/-- TWCn_CFG.EN [0] RWJ, reset 0x0 (R400): Port enabled -/
def twcCfgEn : Row := ⟨0x40, 0x4, 1, 0, 1, .rwj, 0x0, true⟩

/-- TWCn_CFG.SPEED [2:1] RWJ, reset 0x1 (R400): 0 100 kHz, 1 400 kHz, 2 1 MHz; 3 refused -/
def twcCfgSpeed : Row := ⟨0x40, 0x4, 1, 1, 2, .rwj, 0x1, true⟩

/-- TWCn_CFG.CYCLE [3] RWJ, reset 0x1 (R400): R391 -/
def twcCfgCycle : Row := ⟨0x40, 0x4, 1, 3, 1, .rwj, 0x1, true⟩

/-- TWCn_CFG.PEC [4] RWJ, reset 0x1 (R400): R385 -/
def twcCfgPec : Row := ⟨0x40, 0x4, 1, 4, 1, .rwj, 0x1, true⟩

/-- TWCn_CFG.RETRY [11:8] RWJ, reset 0x2 (R400): R387, 0–15 -/
def twcCfgRetry : Row := ⟨0x40, 0x4, 1, 8, 4, .rwj, 0x2, true⟩

/-- TWCn_CFG.SKIPWAIT [23:16] RWJ, reset 0x3C (R400): R393, s, 1–255 -/
def twcCfgSkipwait : Row := ⟨0x40, 0x4, 1, 16, 8, .rwj, 0x3c, true⟩

/-- TWCn_STAT.STATE [2:0] RO, reset 0x0 (R400): Table 14.2 code -/
def twcStatState : Row := ⟨0x44, 0x4, 1, 0, 3, .ro, 0x0, false⟩

/-- TWCn_STAT.SDALOW [3] RO, reset 0x0 (R400): SDA low now -/
def twcStatSdalow : Row := ⟨0x44, 0x4, 1, 3, 1, .ro, 0x0, false⟩

/-- TWCn_STAT.SCLLOW [4] RO, reset 0x0 (R400): SCL low now -/
def twcStatScllow : Row := ⟨0x44, 0x4, 1, 4, 1, .ro, 0x0, false⟩

/-- TWCn_STAT.RETIRED [5] RO, reset 0x0 (R400): R397 -/
def twcStatRetired : Row := ⟨0x44, 0x4, 1, 5, 1, .ro, 0x0, false⟩

/-- TWCn_STAT.CURIDX [11:8] RO, reset 0x0 (R400): Entry taken by the cure -/
def twcStatCuridx : Row := ⟨0x44, 0x4, 1, 8, 4, .ro, 0x0, false⟩

/-- TWCn_STAT.CULPRIT [21:16] RO, reset 0x3F (R400): R392; 0x3F none -/
def twcStatCulprit : Row := ⟨0x44, 0x4, 1, 16, 6, .ro, 0x3f, false⟩

/-- TWCn_NERR.NAK [7:0] RC, reset 0x00 (R400): NAKs, saturating -/
def twcNerrNak : Row := ⟨0x48, 0x4, 1, 0, 8, .rc, 0x0, false⟩

/-- TWCn_NERR.PECERR [15:8] RC, reset 0x00 (R400): PEC errors -/
def twcNerrPecerr : Row := ⟨0x48, 0x4, 1, 8, 8, .rc, 0x0, false⟩

/-- TWCn_NERR.ARBLOST [23:16] RC, reset 0x00 (R400): Arbitration losses -/
def twcNerrArblost : Row := ⟨0x48, 0x4, 1, 16, 8, .rc, 0x0, false⟩

/-- TWCn_NERR.STRETCH [31:24] RC, reset 0x00 (R400): R389 -/
def twcNerrStretch : Row := ⟨0x48, 0x4, 1, 24, 8, .rc, 0x0, false⟩

/-- TWCn_NHANG.HANGS [7:0] RC, reset 0x00 (R400): Hangs, saturating -/
def twcNhangHangs : Row := ⟨0x4c, 0x4, 1, 0, 8, .rc, 0x0, false⟩

/-- TWCn_NHANG.CURED [15:8] RC, reset 0x00 (R400): Releases during a cure -/
def twcNhangCured : Row := ⟨0x4c, 0x4, 1, 8, 8, .rc, 0x0, false⟩

/-- TWCn_NHANG.CYCLED [23:16] RC, reset 0x00 (R400): Bays cycled -/
def twcNhangCycled : Row := ⟨0x4c, 0x4, 1, 16, 8, .rc, 0x0, false⟩

/-- TWCn_NHANG.SKIPPED [31:24] RC, reset 0x00 (R400): Bays skipped -/
def twcNhangSkipped : Row := ⟨0x4c, 0x4, 1, 24, 8, .rc, 0x0, false⟩

/-- TWCn_NXFR.CNT [31:0] RC, reset 0x0 (R400): Transactions completed -/
def twcNxfrCnt : Row := ⟨0x50, 0x4, 1, 0, 32, .rc, 0x0, false⟩

/-- TWCn_MAPk.ADDR [6:0] RWJ, reset 0x00 (R400): Module address -/
def twcMapAddr : Row := ⟨0x80, 0x4, 16, 0, 7, .rwj, 0x0, true⟩

/-- TWCn_MAPk.BAY [13:8] RWJ, reset 0x00 (R400): Bay, 0–47 -/
def twcMapBay : Row := ⟨0x80, 0x4, 16, 8, 6, .rwj, 0x0, true⟩

/-- TWCn_MAPk.NOPMB [14] RWJ, reset 0x0 (R400): No addressable module -/
def twcMapNopmb : Row := ⟨0x80, 0x4, 16, 14, 1, .rwj, 0x0, true⟩

/-- TWCn_MAPk.EN [15] RWJ, reset 0x0 (R400): Entry enabled -/
def twcMapEn : Row := ⟨0x80, 0x4, 16, 15, 1, .rwj, 0x0, true⟩

/-- TWCn_MAPk.CYC [16] RWJ, reset 0x1 (R400): Bay may be cycled -/
def twcMapCyc : Row := ⟨0x80, 0x4, 16, 16, 1, .rwj, 0x1, true⟩

/-- TWCn_HCMD.ADDR [6:0] RW, reset 0x00 (R400): Target address -/
def twcHcmdAddr : Row := ⟨0x100, 0x4, 1, 0, 7, .rw, 0x0, false⟩

/-- TWCn_HCMD.CODE [15:8] RW, reset 0x00 (R400): PMBus command code -/
def twcHcmdCode : Row := ⟨0x100, 0x4, 1, 8, 8, .rw, 0x0, false⟩

/-- TWCn_HCMD.PROT [19:16] RW, reset 0x0 (R400): 0 send byte, 1 write byte, 2 write word, 3 block write, 4 read byte, 5 read word, 6 block read, 7 process call; 8–15 invalid (R398) -/
def twcHcmdProt : Row := ⟨0x100, 0x4, 1, 16, 4, .rw, 0x0, false⟩

/-- TWCn_HCMD.WLEN [29:24] RW, reset 0x00 (R400): Block write bytes, 1–32 -/
def twcHcmdWlen : Row := ⟨0x100, 0x4, 1, 24, 6, .rw, 0x0, false⟩

/-- TWCn_HCMD.GO [31] W1S, reset 0x0 (R400): Start; clears when taken -/
def twcHcmdGo : Row := ⟨0x100, 0x4, 1, 31, 1, .w1s, 0x0, false⟩

/-- TWCn_HSTAT.BUSY [0] RO, reset 0x0 (R400): Waiting or running -/
def twcHstatBusy : Row := ⟨0x104, 0x4, 1, 0, 1, .ro, 0x0, false⟩

/-- TWCn_HSTAT.DONE [1] W1C, reset 0x0 (R400): Completed -/
def twcHstatDone : Row := ⟨0x104, 0x4, 1, 1, 1, .w1c, 0x0, false⟩

/-- TWCn_HSTAT.TRUNC [2] RO, reset 0x0 (R400): Block read longer than 32 bytes -/
def twcHstatTrunc : Row := ⟨0x104, 0x4, 1, 2, 1, .ro, 0x0, false⟩

/-- TWCn_HSTAT.RESULT [11:8] RO, reset 0x0 (R400): 0 OK, 1 address NAK, 2 data NAK, 3 PEC error, 4 ARBLOST, 5 STRETCH, 6 HUNG, 7 RETIRED, 8 bad PROT -/
def twcHstatResult : Row := ⟨0x104, 0x4, 1, 8, 4, .ro, 0x0, false⟩

/-- TWCn_HSTAT.RLEN [23:16] RO, reset 0x00 (R400): Bytes returned, up to 255 -/
def twcHstatRlen : Row := ⟨0x104, 0x4, 1, 16, 8, .ro, 0x0, false⟩

/-- TWCn_HDATAj.D [31:0] RW, reset 0x0 (R400): Write data or read data -/
def twcHdataD : Row := ⟨0x110, 0x4, 8, 0, 32, .rw, 0x0, false⟩

/-- SRVc_CFG.CAPEN [0] RW, reset 0x1 (R429): In capture frames -/
def srvCfgCapen : Row := ⟨0x40, 0x8, 48, 0, 1, .rw, 0x1, true⟩

/-- SRVc_CFG.STREN [1] RW, reset 0x0 (R429): In stream frames -/
def srvCfgStren : Row := ⟨0x40, 0x8, 48, 1, 1, .rw, 0x0, true⟩

/-- SRVc_CFG.CRATE [3:2] RW, reset 0x0 (R429): Capture code -/
def srvCfgCrate : Row := ⟨0x40, 0x8, 48, 2, 2, .rw, 0x0, true⟩

/-- SRVc_CFG.SRATE [5:4] RW, reset 0x0 (R429): Requested stream code -/
def srvCfgSrate : Row := ⟨0x40, 0x8, 48, 4, 2, .rw, 0x0, true⟩

/-- SRVc_CFG.PRIO [7:6] RW, reset 0x1 (R429): Stream priority, 0–3 -/
def srvCfgPrio : Row := ⟨0x40, 0x8, 48, 6, 2, .rw, 0x1, true⟩

/-- SRVc_CFG.CEFF [9:8] RO, reset 0x0 (R429): Capture code in force -/
def srvCfgCeff : Row := ⟨0x40, 0x8, 48, 8, 2, .ro, 0x0, false⟩

/-- SRVc_CFG.SEFF [11:10] RO, reset 0x0 (R429): Stream code in force -/
def srvCfgSeff : Row := ⟨0x40, 0x8, 48, 10, 2, .ro, 0x0, false⟩

/-- SRVc_VAL.SAMPLE [15:0] RO, reset 0x0000 (R429): Latest sample -/
def srvValSample : Row := ⟨0x44, 0x8, 48, 0, 16, .ro, 0x0, false⟩

/-- SRV_LLk.LOOP [3:0] RW, reset k (set in `llF`) (R429): Loop carried -/
def srvLlLoop : Row := ⟨0x200, 0x4, 16, 0, 4, .rw, 0x0, true⟩

/-- SRV_LLk.CAPEN [4] RW, reset 0x0 (R429): In capture frames -/
def srvLlCapen : Row := ⟨0x200, 0x4, 16, 4, 1, .rw, 0x0, true⟩

/-- SRV_LLk.STREN [5] RW, reset 0x0 (R429): In stream frames -/
def srvLlStren : Row := ⟨0x200, 0x4, 16, 5, 1, .rw, 0x0, true⟩

/-- SRV_LLk.CRATE [8:6] RW, reset 0x0 (R429): Capture code, 0–4 -/
def srvLlCrate : Row := ⟨0x200, 0x4, 16, 6, 3, .rw, 0x0, true⟩

/-- SRV_LLk.SRATE [11:9] RW, reset 0x0 (R429): Requested stream code, 0–4 -/
def srvLlSrate : Row := ⟨0x200, 0x4, 16, 9, 3, .rw, 0x0, true⟩

/-- SRV_LLk.PRIO [13:12] RW, reset 0x1 (R429): Stream priority -/
def srvLlPrio : Row := ⟨0x200, 0x4, 16, 12, 2, .rw, 0x1, true⟩

/-- SRV_LLk.SEFF [16:14] RO, reset 0x0 (R429): Stream code in force -/
def srvLlSeff : Row := ⟨0x200, 0x4, 16, 14, 3, .ro, 0x0, false⟩

/-- MEMn_OWN.OWNER [2:0] RO, reset Table 15.1 (set in `memF`) (R430): Owner in force -/
def memOwnOwner : Row := ⟨0x40, 0x20, 5, 0, 3, .ro, 0x0, false⟩

/-- MEMn_OWN.REQ [6:4] RW, reset as OWNER (set in `memF`) (R430): Write: start handover (R406) -/
def memOwnReq : Row := ⟨0x40, 0x20, 5, 4, 3, .rw, 0x0, false⟩

/-- MEMn_OWN.PENDING [8] RO, reset 0x0 (R430): Handover pending -/
def memOwnPending : Row := ⟨0x40, 0x20, 5, 8, 1, .ro, 0x0, false⟩

/-- MEMn_OWN.HELD [9] RO, reset 0x0 (R430): In a held window -/
def memOwnHeld : Row := ⟨0x40, 0x20, 5, 9, 1, .ro, 0x0, false⟩

/-- MEMn_OWN.RETIRED [10] RO, reset 0x0 (R430): R409 -/
def memOwnRetired : Row := ⟨0x40, 0x20, 5, 10, 1, .ro, 0x0, false⟩

/-- MEMn_ECC.CORR [15:0] RC, reset 0x0000 (R430): Corrected words, saturating -/
def memEccCorr : Row := ⟨0x44, 0x20, 5, 0, 16, .rc, 0x0, false⟩

/-- MEMn_ECC.UNCORR [23:16] RC, reset 0x00 (R430): Uncorrectable words -/
def memEccUncorr : Row := ⟨0x44, 0x20, 5, 16, 8, .rc, 0x0, false⟩

/-- MEMn_ECC.OVWR [31:24] RC, reset 0x00 (R430): OVERWRITTEN responses -/
def memEccOvwr : Row := ⟨0x44, 0x20, 5, 24, 8, .rc, 0x0, false⟩

/-- MEMn_TEST.REGION [7:0] RO, reset 0x00 (R430): Next region -/
def memTestRegion : Row := ⟨0x48, 0x20, 5, 0, 8, .ro, 0x0, false⟩

/-- MEMn_TEST.PASSES [15:8] RO, reset 0x00 (R430): Passes, wrapping -/
def memTestPasses : Row := ⟨0x48, 0x20, 5, 8, 8, .ro, 0x0, false⟩

/-- MEMn_TEST.TFAIL [23:16] RC, reset 0x00 (R430): Failing regions -/
def memTestTfail : Row := ⟨0x48, 0x20, 5, 16, 8, .rc, 0x0, false⟩

/-- MEMn_ERRADR.WORD [16:0] RO, reset 0x00000 (R430): Word of the last error -/
def memErradrWord : Row := ⟨0x4c, 0x20, 5, 0, 17, .ro, 0x0, false⟩

/-- MEMn_ERRADR.KIND [18:17] RO, reset 0x0 (R430): Token kind -/
def memErradrKind : Row := ⟨0x4c, 0x20, 5, 17, 2, .ro, 0x0, false⟩

/-- MEM_TCFG.PASS [11:0] RW, reset 0x258 (R430): Test pass, s, 60–3,600 -/
def memTcfgPass : Row := ⟨0x200, 0x4, 1, 0, 12, .rw, 0x258, false⟩

/-- MEM_TCFG.TEN [12] RW, reset 0x1 (R430): Transparent test on -/
def memTcfgTen : Row := ⟨0x200, 0x4, 1, 12, 1, .rw, 0x1, false⟩

/-- CAP_CFG.EN [0] RW, reset 0x1 (R431): Capture on -/
def capCfgEn : Row := ⟨0x40, 0x4, 1, 0, 1, .rw, 0x1, true⟩

/-- CAP_CFG.PRE [15:8] RW, reset 0x28 (R431): ms, 0–40 -/
def capCfgPre : Row := ⟨0x40, 0x4, 1, 8, 8, .rw, 0x28, true⟩

/-- CAP_CFG.POST [23:16] RW, reset 0x0A (R431): ms, 1–40 -/
def capCfgPost : Row := ⟨0x40, 0x4, 1, 16, 8, .rw, 0xa, true⟩

/-- CAP_CFG.SNPRE [31:24] RW, reset 0x08 (R431): ms, 1–40 -/
def capCfgSnpre : Row := ⟨0x40, 0x4, 1, 24, 8, .rw, 0x8, true⟩

/-- CAP_TRIG.SRCEN [3:0] RW, reset 0x7 (R431): Bit 0 FLT, 1 HLD, 2 CMP, 3 SW -/
def capTrigSrcen : Row := ⟨0x44, 0x4, 1, 0, 4, .rw, 0x7, true⟩

/-- CAP_TRIG.FCLS [6:4] RW, reset 0x3 (R431): Least class (R416) -/
def capTrigFcls : Row := ⟨0x44, 0x4, 1, 4, 3, .rw, 0x3, true⟩

/-- CAP_TRIG.HOLDT [15:8] RW, reset 0x0A (R431): s, 1–255 -/
def capTrigHoldt : Row := ⟨0x44, 0x4, 1, 8, 8, .rw, 0xa, true⟩

/-- CAP_CTL.SWTRIG [0] W1S, reset 0x0 (R431): Trigger -/
def capCtlSwtrig : Row := ⟨0x48, 0x4, 1, 0, 1, .w1s, 0x0, false⟩

/-- CAP_CTL.REL [2:1] W1S, reset 0x0 (R431): Bit k: release WINk -/
def capCtlRel : Row := ⟨0x48, 0x4, 1, 1, 2, .w1s, 0x0, false⟩

/-- CAP_STAT.FWORDS [13:0] RO, reset 0x1802 (R431): Words per DATA frame, header included (F, R415) -/
def capStatFwords : Row := ⟨0x4c, 0x4, 1, 0, 14, .ro, 0x1802, false⟩

/-- CAP_STAT.FREEB [22:16] RO, reset 0x40 (R431): Banks in the ring -/
def capStatFreeb : Row := ⟨0x4c, 0x4, 1, 16, 7, .ro, 0x40, false⟩

/-- CAP_RING.T [15:0] RO, reset 0x221D (R431): Ring time, 10 µs units (R415) -/
def capRingT : Row := ⟨0x50, 0x4, 1, 0, 16, .ro, 0x221d, false⟩

/-- CAP_FSEQ.FSEQ [31:0] RO, reset 0x0 (R431): Next FSEQ -/
def capFseqFseq : Row := ⟨0x54, 0x4, 1, 0, 32, .ro, 0x0, false⟩

/-- CAP_NTRIG.TRIGS [15:0] RC, reset 0x0000 (R431): Triggers -/
def capNtrigTrigs : Row := ⟨0x58, 0x4, 1, 0, 16, .rc, 0x0, false⟩

/-- CAP_NTRIG.MERGED [23:16] RC, reset 0x00 (R431): R417 -/
def capNtrigMerged : Row := ⟨0x58, 0x4, 1, 16, 8, .rc, 0x0, false⟩

/-- CAP_NTRIG.MISSED [31:24] RC, reset 0x00 (R431): R417, R418 -/
def capNtrigMissed : Row := ⟨0x58, 0x4, 1, 24, 8, .rc, 0x0, false⟩

/-- CAP_WINk_STAT.STATE [1:0] RO, reset 0x0 (R431): 0 FREE, 1 OPEN, 2 HELD -/
def capWinStatState : Row := ⟨0x40, 0x40, 2, 0, 2, .ro, 0x0, false⟩

/-- CAP_WINk_STAT.VAULTED [2] RO, reset 0x0 (R431): R420 -/
def capWinStatVaulted : Row := ⟨0x40, 0x40, 2, 2, 1, .ro, 0x0, false⟩

/-- CAP_WINk_STAT.VFAIL [3] RO, reset 0x0 (R431): R420, R421 -/
def capWinStatVfail : Row := ⟨0x40, 0x40, 2, 3, 1, .ro, 0x0, false⟩

/-- CAP_WINk_STAT.SRC [6:4] RO, reset 0x0 (R431): 0 FLT, 1 HLD, 2 CMP, 3 SW, 4 HOLD -/
def capWinStatSrc : Row := ⟨0x40, 0x40, 2, 4, 3, .ro, 0x0, false⟩

/-- CAP_WINk_STAT.NMERGE [15:8] RO, reset 0x00 (R431): Merged triggers -/
def capWinStatNmerge : Row := ⟨0x40, 0x40, 2, 8, 8, .ro, 0x0, false⟩

/-- CAP_WINk_STAT.PREEFF [23:16] RO, reset 0x00 (R431): PRE_eff, ms -/
def capWinStatPreeff : Row := ⟨0x40, 0x40, 2, 16, 8, .ro, 0x0, false⟩

/-- CAP_WINk_STAT.SLOT [31:24] RO, reset 0xFF (R431): Vault slot; 0xFF none -/
def capWinStatSlot : Row := ⟨0x40, 0x40, 2, 24, 8, .ro, 0xff, false⟩

/-- CAP_WINk_T.US [31:0] RO, reset 0x0 (R431): t, count [31:0] -/
def capWinTUs : Row := ⟨0x44, 0x40, 2, 0, 32, .ro, 0x0, false⟩

/-- CAP_WINk_FIRST.BANK [5:0] RO, reset 0x00 (R431): First frame's bank -/
def capWinFirstBank : Row := ⟨0x48, 0x40, 2, 0, 6, .ro, 0x0, false⟩

/-- CAP_WINk_FIRST.WORD [22:6] RO, reset 0x0 (R431): Its word -/
def capWinFirstWord : Row := ⟨0x48, 0x40, 2, 6, 17, .ro, 0x0, false⟩

/-- CAP_WINk_LAST.BANK [5:0] RO, reset 0x00 (R431): Last frame's bank -/
def capWinLastBank : Row := ⟨0x4c, 0x40, 2, 0, 6, .ro, 0x0, false⟩

/-- CAP_WINk_LAST.WORD [22:6] RO, reset 0x0 (R431): Last frame's word -/
def capWinLastWord : Row := ⟨0x4c, 0x40, 2, 6, 17, .ro, 0x0, false⟩

/-- CAP_WINk_MASKLO.HELD [31:0] RO, reset 0x0 (R431): Bit b: bank b held -/
def capWinMaskloHeld : Row := ⟨0x50, 0x40, 2, 0, 32, .ro, 0x0, false⟩

/-- CAP_WINk_MASKHI.HELD [31:0] RO, reset 0x0 (R431): Bit b: bank b held -/
def capWinMaskhiHeld : Row := ⟨0x54, 0x40, 2, 0, 32, .ro, 0x0, false⟩

/-- CAP_CMPk.CH [8:0] RW, reset 0x000 (R431): Survey channel -/
def capCmpCh : Row := ⟨0x40, 0x8, 16, 0, 9, .rw, 0x0, true⟩

/-- CAP_CMPk.EN [9] RW, reset 0x0 (R431): Enabled -/
def capCmpEn : Row := ⟨0x40, 0x8, 16, 9, 1, .rw, 0x0, true⟩

/-- CAP_CMPk.MODE [11:10] RW, reset 0x0 (R431): R416 -/
def capCmpMode : Row := ⟨0x40, 0x8, 16, 10, 2, .rw, 0x0, true⟩

/-- CAP_CMPk.DEB [15:12] RW, reset 0x0 (R431): Samples minus 1 -/
def capCmpDeb : Row := ⟨0x40, 0x8, 16, 12, 4, .rw, 0x0, true⟩

/-- CAP_CMPk_LVL.LO [15:0] RW, reset 0x0000 (R431): Code -/
def capCmpLvlLo : Row := ⟨0x44, 0x8, 16, 0, 16, .rw, 0x0, true⟩

/-- CAP_CMPk_LVL.HI [31:16] RW, reset 0xFFFF (R431): Code -/
def capCmpLvlHi : Row := ⟨0x44, 0x8, 16, 16, 16, .rw, 0xffff, true⟩

/-- CAP_VSLOTj.VALID [0] RO, reset 0x0 (R431): Snapshot complete -/
def capVslotValid : Row := ⟨0x40, 0x8, 16, 0, 1, .ro, 0x0, false⟩

/-- CAP_VSLOTj.LOCK [1] RW, reset 0x0 (R431): Not replaced -/
def capVslotLock : Row := ⟨0x40, 0x8, 16, 1, 1, .rw, 0x0, true⟩

/-- CAP_VSLOTj.CUT [2] RO, reset 0x0 (R431): R420 -/
def capVslotCut : Row := ⟨0x40, 0x8, 16, 2, 1, .ro, 0x0, false⟩

/-- CAP_VSLOTj.MIRROR1 [3] RO, reset 0x0 (R431): One device only -/
def capVslotMirror1 : Row := ⟨0x40, 0x8, 16, 3, 1, .ro, 0x0, false⟩

/-- CAP_VSLOTj.SRC [6:4] RO, reset 0x0 (R431): As WIN SRC -/
def capVslotSrc : Row := ⟨0x40, 0x8, 16, 4, 3, .ro, 0x0, false⟩

/-- CAP_VSLOTj_T.US [31:0] RO, reset 0x0 (R431): t, count [31:0] -/
def capVslotTUs : Row := ⟨0x44, 0x8, 16, 0, 32, .ro, 0x0, false⟩

/-- STR_CFG.EN [0] RW, reset 0x0 (R432): Stream on; setting it zeroes DHEAD and CTAIL -/
def strCfgEn : Row := ⟨0x40, 0x4, 1, 0, 1, .rw, 0x0, false⟩

/-- STR_CFG.MODE [1] RW, reset 0x0 (R432): 0 lossless, 1 lossy -/
def strCfgMode : Row := ⟨0x40, 0x4, 1, 1, 1, .rw, 0x0, false⟩

/-- STR_CFG.HIWAT [15:8] RW, reset 0x32 (R432): %, 1–99 -/
def strCfgHiwat : Row := ⟨0x40, 0x4, 1, 8, 8, .rw, 0x32, false⟩

/-- STR_CFG.LOWAT [23:16] RW, reset 0x19 (R432): %, below HIWAT -/
def strCfgLowat : Row := ⟨0x40, 0x4, 1, 16, 8, .rw, 0x19, false⟩

/-- STR_CFG.FLUSH [31:24] RW, reset 0x0A (R432): 0.1 ms units, 1–255 -/
def strCfgFlush : Row := ⟨0x40, 0x4, 1, 24, 8, .rw, 0xa, false⟩

/-- STR_DBASELO.BASE [31:0] RW, reset 0x0 (R432): Descriptor ring; LO [5:0] reserved -/
def strDbaseloBase : Row := ⟨0x44, 0x4, 1, 0, 32, .rw, 0x0, false⟩

/-- STR_DBASEHI.BASE [31:0] RW, reset 0x0 (R432): Descriptor ring; LO [5:0] reserved -/
def strDbasehiBase : Row := ⟨0x48, 0x4, 1, 0, 32, .rw, 0x0, false⟩

/-- STR_DSIZE.SIZE [2:0] RW, reset 0x0 (R432): 64 << SIZE; 7 as 6 -/
def strDsizeSize : Row := ⟨0x4c, 0x4, 1, 0, 3, .rw, 0x0, false⟩

/-- STR_CBASELO.BASE [31:0] RW, reset 0x0 (R432): Completion ring; LO [5:0] reserved -/
def strCbaseloBase : Row := ⟨0x50, 0x4, 1, 0, 32, .rw, 0x0, false⟩

/-- STR_CBASEHI.BASE [31:0] RW, reset 0x0 (R432): Completion ring; LO [5:0] reserved -/
def strCbasehiBase : Row := ⟨0x54, 0x4, 1, 0, 32, .rw, 0x0, false⟩

/-- STR_CSIZE.SIZE [2:0] RW, reset 0x0 (R432): 64 << SIZE; 7 as 6 -/
def strCsizeSize : Row := ⟨0x58, 0x4, 1, 0, 3, .rw, 0x0, false⟩

/-- STR_DTAIL.IDX [11:0] RW, reset 0x000 (R432): Host producer -/
def strDtailIdx : Row := ⟨0x5c, 0x4, 1, 0, 12, .rw, 0x0, false⟩

/-- STR_DHEAD.IDX [11:0] RO, reset 0x000 (R432): Next descriptor -/
def strDheadIdx : Row := ⟨0x60, 0x4, 1, 0, 12, .ro, 0x0, false⟩

/-- STR_CHEAD.IDX [11:0] RW, reset 0x000 (R432): Host consumer -/
def strCheadIdx : Row := ⟨0x64, 0x4, 1, 0, 12, .rw, 0x0, false⟩

/-- STR_CTAIL.IDX [11:0] RO, reset 0x000 (R432): Next completion -/
def strCtailIdx : Row := ⟨0x68, 0x4, 1, 0, 12, .ro, 0x0, false⟩

/-- STR_CTAIL.PHASE [12] RO, reset 0x1 (R432): R423 -/
def strCtailPhase : Row := ⟨0x68, 0x4, 1, 12, 1, .ro, 0x1, false⟩

/-- STR_STAT.RUNNING [0] RO, reset 0x0 (R432): Reader moving -/
def strStatRunning : Row := ⟨0x6c, 0x4, 1, 0, 1, .ro, 0x0, false⟩

/-- STR_STAT.STALLED [1] RO, reset 0x0 (R432): R426 -/
def strStatStalled : Row := ⟨0x6c, 0x4, 1, 1, 1, .ro, 0x0, false⟩

/-- STR_STAT.NOMEM [2] RO, reset 0x0 (R432): R422 -/
def strStatNomem : Row := ⟨0x6c, 0x4, 1, 2, 1, .ro, 0x0, false⟩

/-- STR_STAT.FILL [15:8] RO, reset 0x00 (R432): % -/
def strStatFill : Row := ⟨0x6c, 0x4, 1, 8, 8, .ro, 0x0, false⟩

/-- STR_STAT.STEPS [23:16] RO, reset 0x00 (R432): Codes lowered, summed -/
def strStatSteps : Row := ⟨0x6c, 0x4, 1, 16, 8, .ro, 0x0, false⟩

/-- STR_FSEQ.FSEQ [31:0] RO, reset 0x0 (R432): Next FSEQ -/
def strFseqFseq : Row := ⟨0x70, 0x4, 1, 0, 32, .ro, 0x0, false⟩

/-- STR_NLOSS.FRAMES [31:0] RC, reset 0x0 (R432): Frames stalled or lost -/
def strNlossFrames : Row := ⟨0x74, 0x4, 1, 0, 32, .rc, 0x0, false⟩

/-- FLT_CFG.PNCLS [2:0] RWJ, reset 0x3 (R453): Least class that holds the pair at fault -/
def fltCfgPncls : Row := ⟨0x40, 0x4, 1, 0, 3, .rwj, 0x3, true⟩

/-- FLT_CFG.HBEN [3] RWJ, reset 0x0 (R453): Heartbeat mode (R450) -/
def fltCfgHben : Row := ⟨0x40, 0x4, 1, 3, 1, .rwj, 0x0, true⟩

/-- FLT_CFG.HOLDMAX [7:4] RWJ, reset 0x2 (R453): R445 -/
def fltCfgHoldmax : Row := ⟨0x40, 0x4, 1, 4, 4, .rwj, 0x2, true⟩

/-- FLT_BUCKET.N [3:0] RWJ, reset 0x4 (R453): Units to permanent, 1–15 -/
def fltBucketN : Row := ⟨0x44, 0x4, 1, 0, 4, .rwj, 0x4, true⟩

/-- FLT_BUCKET.W [15:8] RWJ, reset 0x0A (R453): Leak time, s, 1–255 -/
def fltBucketW : Row := ⟨0x44, 0x4, 1, 8, 8, .rwj, 0xa, true⟩

/-- FLT_SUM.SUM [31:0] RO, reset 0x0 (R453): Table 16.5 -/
def fltSumSum : Row := ⟨0x48, 0x4, 1, 0, 32, .ro, 0x0, false⟩

/-- FLT_NTOK.TOKENS [15:0] RC, reset 0x0000 (R453): Tokens taken, saturating -/
def fltNtokTokens : Row := ⟨0x4c, 0x4, 1, 0, 16, .rc, 0x0, false⟩

/-- FLT_NTOK.IGNORED [31:16] RC, reset 0x0000 (R453): Tokens classed IGNORE -/
def fltNtokIgnored : Row := ⟨0x4c, 0x4, 1, 16, 16, .rc, 0x0, false⟩

/-- FLT_NPERM.PERM [15:0] RC, reset 0x0000 (R453): Permanent judgements -/
def fltNpermPerm : Row := ⟨0x50, 0x4, 1, 0, 16, .rc, 0x0, false⟩

/-- FLT_NPERM.RETIRES [31:16] RC, reset 0x0000 (R453): Retirements -/
def fltNpermRetires : Row := ⟨0x50, 0x4, 1, 16, 16, .rc, 0x0, false⟩

/-- FLT_STAT.HOLDUSED [3:0] RO, reset 0x0 (R453): Warm resets ordered in the last 600 s, sliding window (R445) -/
def fltStatHoldused : Row := ⟨0x54, 0x4, 1, 0, 4, .ro, 0x0, false⟩

/-- FLT_STAT.PNFAIL [4] RO, reset 0x0 (R453): R451 -/
def fltStatPnfail : Row := ⟨0x54, 0x4, 1, 4, 1, .ro, 0x0, false⟩

/-- FLT_CLRk.TYPE [3:0] RWJ, reset 0x0 (R453): 0 bay, 1 phase, 2 survey channel, 3 segment, 4 tie port, 5 bank, 6 Iddex peer, 7 suspicion -/
def fltClrType : Row := ⟨0x60, 0x4, 5, 0, 4, .rwj, 0x0, true⟩

/-- FLT_CLRk.OP [4] RWJ, reset 0x0 (R453): 0 restore, 1 retire -/
def fltClrOp : Row := ⟨0x60, 0x4, 5, 4, 1, .rwj, 0x0, true⟩

/-- FLT_CLRk.INDEX [16:8] RWJ, reset 0x000 (R453): Channel number -/
def fltClrIndex : Row := ⟨0x60, 0x4, 5, 8, 9, .rwj, 0x0, true⟩

/-- FLT_CLRk.VALID [31] RWJ, reset 0x0 (R453): Apply at commit (R443) -/
def fltClrValid : Row := ⟨0x60, 0x4, 5, 31, 1, .rwj, 0x0, true⟩

/-- FLT_INJ.TGT [3:0] RWL, reset 0x0 (R453): R452 -/
def fltInjTgt : Row := ⟨0x80, 0x4, 1, 0, 4, .rwl, 0x0, false⟩

/-- FLT_INJ.INDEX [11:4] RWL, reset 0x00 (R453): Target instance -/
def fltInjIndex : Row := ⟨0x80, 0x4, 1, 4, 8, .rwl, 0x0, false⟩

/-- FLT_INJ.MODE [13:12] RWL, reset 0x1 (R453): Bits inverted, 1–2 -/
def fltInjMode : Row := ⟨0x80, 0x4, 1, 12, 2, .rwl, 0x1, false⟩

/-- FLT_INJ.ARM [15] RWL, reset 0x0 (R453): Armed; clears when the injection is made -/
def fltInjArm : Row := ⟨0x80, 0x4, 1, 15, 1, .rwl, 0x0, false⟩

/-- FLT_ACK.ENTRY [6:0] WO, reset 0x00 (R453): Entry to close -/
def fltAckEntry : Row := ⟨0x84, 0x4, 1, 0, 7, .wo, 0x0, false⟩

/-- FLT_ACK.GEN [23:16] WO, reset 0x00 (R453): Its GEN -/
def fltAckGen : Row := ⟨0x84, 0x4, 1, 16, 8, .wo, 0x0, false⟩

/-- FLT_ACKALL.ALL [0] WO, reset 0x0 (R453): 1: close every entry -/
def fltAckallAll : Row := ⟨0x88, 0x4, 1, 0, 1, .wo, 0x0, false⟩

/-- FLT_OVRi.SRC [9:0] RWJ, reset 0x000 (R453): Source -/
def fltOvrSrc : Row := ⟨0x40, 0x4, 128, 0, 10, .rwj, 0x0, true⟩

/-- FLT_OVRi.KIND [15:10] RWJ, reset 0x00 (R453): Kind -/
def fltOvrKind : Row := ⟨0x40, 0x4, 128, 10, 6, .rwj, 0x0, true⟩

/-- FLT_OVRi.ANYK [16] RWJ, reset 0x0 (R453): Match every kind -/
def fltOvrAnyk : Row := ⟨0x40, 0x4, 128, 16, 1, .rwj, 0x0, true⟩

/-- FLT_OVRi.CLASS [19:17] RWJ, reset 0x0 (R453): Class -/
def fltOvrClass : Row := ⟨0x40, 0x4, 128, 17, 3, .rwj, 0x0, true⟩

/-- FLT_OVRi.N [23:20] RWJ, reset 0x0 (R453): Bucket size; 0 global -/
def fltOvrN : Row := ⟨0x40, 0x4, 128, 20, 4, .rwj, 0x0, true⟩

/-- FLT_OVRi.W [30:24] RWJ, reset 0x00 (R453): Leak time, s; 0 global -/
def fltOvrW : Row := ⟨0x40, 0x4, 128, 24, 7, .rwj, 0x0, true⟩

/-- FLT_OVRi.EN [31] RWJ, reset 0x0 (R453): Override enabled -/
def fltOvrEn : Row := ⟨0x40, 0x4, 128, 31, 1, .rwj, 0x0, true⟩

/-- FLT_RBAYLO.RET [31:0] RO, reset 0x0 (R453): Bit n: BAYn retired -/
def fltRbayloRet : Row := ⟨0x300, 0x4, 1, 0, 32, .ro, 0x0, false⟩

/-- FLT_RBAYHI.RET [15:0] RO, reset 0x0000 (R453): Bit n: BAY(32 + n) -/
def fltRbayhiRet : Row := ⟨0x304, 0x4, 1, 0, 16, .ro, 0x0, false⟩

/-- FLT_RPHLO.RET [31:0] RO, reset 0x0 (R453): Bit j: PHj, PH(32 + j) -/
def fltRphloRet : Row := ⟨0x308, 0x4, 1, 0, 32, .ro, 0x0, false⟩

/-- FLT_RPHHI.RET [31:0] RO, reset 0x0 (R453): Bit j: PHj, PH(32 + j) -/
def fltRphhiRet : Row := ⟨0x30c, 0x4, 1, 0, 32, .ro, 0x0, false⟩

/-- FLT_RSVk.RET [31:0] RO, reset 0x0 (R453): Bit j: SV(32k + j) -/
def fltRsvRet : Row := ⟨0x310, 0x4, 12, 0, 32, .ro, 0x0, false⟩

/-- FLT_RMISC.TWC [7:0] RO, reset 0x00 (R453): Bit n: TWCn -/
def fltRmiscTwc : Row := ⟨0x340, 0x4, 1, 0, 8, .ro, 0x0, false⟩

/-- FLT_RMISC.TIE [11:8] RO, reset 0x0 (R453): Bit n: TIEn -/
def fltRmiscTie : Row := ⟨0x340, 0x4, 1, 8, 4, .ro, 0x0, false⟩

/-- FLT_RMISC.IDX [31:16] RO, reset 0x0000 (R453): Bit a: peer a -/
def fltRmiscIdx : Row := ⟨0x340, 0x4, 1, 16, 16, .ro, 0x0, false⟩

/-- FLT_RMEMk.RET [31:0] RO, reset 0x0 (R453): Bit j: bank 32k + j -/
def fltRmemRet : Row := ⟨0x344, 0x4, 3, 0, 32, .ro, 0x0, false⟩

/-- FLT_OPENk_TOKLO.TOK [31:0] RO, reset 0x0 (R453): Token [31:0] -/
def fltOpenTokloTok : Row := ⟨0x40, 0x10, 128, 0, 32, .ro, 0x0, false⟩

/-- FLT_OPENk_TOKHI.TOK [31:0] RO, reset 0x0 (R453): Token [63:32] -/
def fltOpenTokhiTok : Row := ⟨0x44, 0x10, 128, 0, 32, .ro, 0x0, false⟩

/-- FLT_OPENk_TIME.US [31:0] RO, reset 0x0 (R453): Microsecond counter [47:16] at the stamp -/
def fltOpenTimeUs : Row := ⟨0x48, 0x10, 128, 0, 32, .ro, 0x0, false⟩

/-- FLT_OPENk_INFO.COUNT [15:0] RO, reset 0x0000 (R453): Tokens merged, saturating -/
def fltOpenInfoCount : Row := ⟨0x4c, 0x10, 128, 0, 16, .ro, 0x0, false⟩

/-- FLT_OPENk_INFO.CLASS [18:16] RO, reset 0x0 (R453): Highest class -/
def fltOpenInfoClass : Row := ⟨0x4c, 0x10, 128, 16, 3, .ro, 0x0, false⟩

/-- FLT_OPENk_INFO.PERM [19] RO, reset 0x0 (R453): A permanent judgement -/
def fltOpenInfoPerm : Row := ⟨0x4c, 0x10, 128, 19, 1, .ro, 0x0, false⟩

/-- FLT_OPENk_INFO.INJ [20] RO, reset 0x0 (R453): R452 -/
def fltOpenInfoInj : Row := ⟨0x4c, 0x10, 128, 20, 1, .ro, 0x0, false⟩

/-- FLT_OPENk_INFO.VALID [21] RO, reset 0x0 (R453): Entry open -/
def fltOpenInfoValid : Row := ⟨0x4c, 0x10, 128, 21, 1, .ro, 0x0, false⟩

/-- FLT_OPENk_INFO.GEN [30:23] RO, reset 0x00 (R453): Generation -/
def fltOpenInfoGen : Row := ⟨0x4c, 0x10, 128, 23, 8, .ro, 0x0, false⟩

/-- FLT_BKTk.CNT [8j + 3:8j] RO, reset 0x0 (R453): Units of source 4k + j; highest channel on shared sources -/
def fltBktCnt0 : Row := ⟨0x40, 0x4, 256, 0, 4, .ro, 0x0, false⟩

/-- FLT_BKTk.CNT [8j + 3:8j] RO, reset 0x0 (R453): Units of source 4k + j; highest channel on shared sources -/
def fltBktCnt1 : Row := ⟨0x40, 0x4, 256, 8, 4, .ro, 0x0, false⟩

/-- FLT_BKTk.CNT [8j + 3:8j] RO, reset 0x0 (R453): Units of source 4k + j; highest channel on shared sources -/
def fltBktCnt2 : Row := ⟨0x40, 0x4, 256, 16, 4, .ro, 0x0, false⟩

/-- FLT_BKTk.CNT [8j + 3:8j] RO, reset 0x0 (R453): Units of source 4k + j; highest channel on shared sources -/
def fltBktCnt3 : Row := ⟨0x40, 0x4, 256, 24, 4, .ro, 0x0, false⟩

/-- FLT_BKTk.PERM [8j + 4] RO, reset 0x0 (R453): Last judgement permanent -/
def fltBktPerm0 : Row := ⟨0x40, 0x4, 256, 4, 1, .ro, 0x0, false⟩

/-- FLT_BKTk.PERM [8j + 4] RO, reset 0x0 (R453): Last judgement permanent -/
def fltBktPerm1 : Row := ⟨0x40, 0x4, 256, 12, 1, .ro, 0x0, false⟩

/-- FLT_BKTk.PERM [8j + 4] RO, reset 0x0 (R453): Last judgement permanent -/
def fltBktPerm2 : Row := ⟨0x40, 0x4, 256, 20, 1, .ro, 0x0, false⟩

/-- FLT_BKTk.PERM [8j + 4] RO, reset 0x0 (R453): Last judgement permanent -/
def fltBktPerm3 : Row := ⟨0x40, 0x4, 256, 28, 1, .ro, 0x0, false⟩

/-- GAL_CUR.SEQ [31:0] RW, reset 0x0 (R474): BAR4 cursor; a write loads the window -/
def galCurSeq : Row := ⟨0x40, 0x4, 1, 0, 32, .rw, 0x0, false⟩

/-- GAL_WIN.WORDS [13:0] RO, reset 0x0000 (R474): Words loaded, 0–8,192 -/
def galWinWords : Row := ⟨0x44, 0x4, 1, 0, 14, .ro, 0x0, false⟩

/-- GAL_WIN.NREC [24:14] RO, reset 0x000 (R474): Records loaded -/
def galWinNrec : Row := ⟨0x44, 0x4, 1, 14, 11, .ro, 0x0, false⟩

/-- GAL_WIN.READY [25] RO, reset 0x0 (R474): Load complete -/
def galWinReady : Row := ⟨0x44, 0x4, 1, 25, 1, .ro, 0x0, false⟩

/-- GAL_WIN.SKIP [26] RO, reset 0x0 (R474): R464 -/
def galWinSkip : Row := ⟨0x44, 0x4, 1, 26, 1, .ro, 0x0, false⟩

/-- GAL_WIN.FROMNVM [27] RO, reset 0x0 (R474): Load read the long-term log -/
def galWinFromnvm : Row := ⟨0x44, 0x4, 1, 27, 1, .ro, 0x0, false⟩

/-- GAL_NEXT.SEQ [31:0] RO, reset 0x0 (R474): First record not loaded -/
def galNextSeq : Row := ⟨0x48, 0x4, 1, 0, 32, .ro, 0x0, false⟩

/-- GAL_TCUR.SEQ [31:0] RW, reset 0x0 (R474): Fast window cursor -/
def galTcurSeq : Row := ⟨0x4c, 0x4, 1, 0, 32, .rw, 0x0, false⟩

/-- GAL_TWIN.WOFS [15:0] RO, reset 0x0000 (R474): Window offset in words from the cursor -/
def galTwinWofs : Row := ⟨0x50, 0x4, 1, 0, 16, .ro, 0x0, false⟩

/-- GAL_TWIN.READY [16] RO, reset 0x0 (R474): Load complete -/
def galTwinReady : Row := ⟨0x50, 0x4, 1, 16, 1, .ro, 0x0, false⟩

/-- GAL_TWIN.SKIP [17] RO, reset 0x0 (R474): R464 -/
def galTwinSkip : Row := ⟨0x50, 0x4, 1, 17, 1, .ro, 0x0, false⟩

/-- GAL_STAT.FSTATE [1:0] RO, reset 0x0 (R474): Table 17.3 code -/
def galStatFstate : Row := ⟨0x54, 0x4, 1, 0, 2, .ro, 0x0, false⟩

/-- GAL_STAT.FREEZEBROKEN [2] RO, reset 0x0 (R474): Last thaw not by command -/
def galStatFreezebroken : Row := ⟨0x54, 0x4, 1, 2, 1, .ro, 0x0, false⟩

/-- GAL_STAT.ONECOPY [3] RO, reset 0x0 (R474): R460 -/
def galStatOnecopy : Row := ⟨0x54, 0x4, 1, 3, 1, .ro, 0x0, false⟩

/-- GAL_STAT.NVM0OK [4] RO, reset 0x1 (R474): Log on xSPI device 0 in service -/
def galStatNvm0ok : Row := ⟨0x54, 0x4, 1, 4, 1, .ro, 0x1, false⟩

/-- GAL_STAT.NVM1OK [5] RO, reset 0x1 (R474): Log on xSPI device 1 in service -/
def galStatNvm1ok : Row := ⟨0x54, 0x4, 1, 5, 1, .ro, 0x1, false⟩

/-- GAL_STAT.KEYSET [6] RO, reset kept (here 0x0, log entry 10) (R474): R473 -/
def galStatKeyset : Row := ⟨0x54, 0x4, 1, 6, 1, .ro, 0x0, false⟩

/-- GAL_STAT.SPILL [15:8] RO, reset 0x00 (R474): Spill fill, % -/
def galStatSpill : Row := ⟨0x54, 0x4, 1, 8, 8, .ro, 0x0, false⟩

/-- GAL_STAT.TAIL [23:16] RO, reset 0x00 (R474): Tail unflushed, % -/
def galStatTail : Row := ⟨0x54, 0x4, 1, 16, 8, .ro, 0x0, false⟩

/-- GAL_NEXTSEQ.SEQ [31:0] RO, reset restored (here 0x1, log entry 10) (R474): SEQ of the next record -/
def galNextseqSeq : Row := ⟨0x58, 0x4, 1, 0, 32, .ro, 0x1, false⟩

/-- GAL_OLDEST.SEQ [31:0] RO, reset restored (here 0x1, log entry 10) (R474): Lowest readable SEQ -/
def galOldestSeq : Row := ⟨0x5c, 0x4, 1, 0, 32, .ro, 0x1, false⟩

/-- GAL_OPH.OPH [31:0] RO, reset restored (here 0x0, log entry 10) (R474): Operating hours, 1/4096 h -/
def galOphOph : Row := ⟨0x60, 0x4, 1, 0, 32, .ro, 0x0, false⟩

/-- GAL_PCC.PCC [23:0] RO, reset restored (here 0x0, log entry 10) (R474): Power-cycle count -/
def galPccPcc : Row := ⟨0x64, 0x4, 1, 0, 24, .ro, 0x0, false⟩

/-- GAL_SUB.SUB [19:0] RO, reset 0x00000 (R474): µs since the last OPH step -/
def galSubSub : Row := ⟨0x68, 0x4, 1, 0, 20, .ro, 0x0, false⟩

/-- GAL_NONCE.NONCE [31:0] RO, reset restored (here 0x0, log entry 10) (R474): R472 -/
def galNonceNonce : Row := ⟨0x6c, 0x4, 1, 0, 32, .ro, 0x0, false⟩

/-- GAL_NREF.SPACE [15:0] RC, reset 0x0000 (R474): R459, saturating -/
def galNrefSpace : Row := ⟨0x70, 0x4, 1, 0, 16, .rc, 0x0, false⟩

/-- GAL_NREF.LEN [31:16] RC, reset 0x0000 (R474): R459, saturating -/
def galNrefLen : Row := ⟨0x70, 0x4, 1, 16, 16, .rc, 0x0, false⟩

/-- GAL_NREC.CNT [31:0] RC, reset 0x0 (R474): Records accepted -/
def galNrecCnt : Row := ⟨0x74, 0x4, 1, 0, 32, .rc, 0x0, false⟩

/-- GAL_NDISC.CNT [15:0] RO, reset 0x0000 (R474): R461, since cold reset, saturating -/
def galNdiscCnt : Row := ⟨0x78, 0x4, 1, 0, 16, .ro, 0x0, false⟩

/-- GAL_CLRSEQ.SEQ [31:0] RO, reset restored (here 0x0, log entry 10) (R474): SEQ of the last CLEARED record -/
def galClrseqSeq : Row := ⟨0x7c, 0x4, 1, 0, 32, .ro, 0x0, false⟩

/-- GAL_KEYk.KEY [31:0] WO, reset 0x0 (R474): Clear key word k -/
def galKeyKey : Row := ⟨0x80, 0x4, 8, 0, 32, .wo, 0x0, false⟩

/-- GAL_KEYCTL.LOAD [0] W1S, reset 0x0 (R474): Store the key (R473) -/
def galKeyctlLoad : Row := ⟨0xa0, 0x4, 1, 0, 1, .w1s, 0x0, false⟩

/-- GAL_CFG.FLUSHT [7:0] RWJ, reset 0x0A (R474): Flush wait, 0.1 s units, 1–255 -/
def galCfgFlusht : Row := ⟨0x40, 0x4, 1, 0, 8, .rwj, 0xa, true⟩

/-- GAL_CFG.LOGSZ [13:8] RWJ, reset 0x10 (R474): Log length, 4 MiB units, 1–32 -/
def galCfgLogsz : Row := ⟨0x40, 0x4, 1, 8, 6, .rwj, 0x10, true⟩

/-- GAL_NVBASE.BASE [15:0] RWJ, reset 0x0800 (R474): Log start, 64 KiB sectors -/
def galNvbaseBase : Row := ⟨0x44, 0x4, 1, 0, 16, .rwj, 0x800, true⟩

/-- GAL_NVSTAT.HEAD [15:0] RO, reset restored (here 0x0, log entry 10) (R474): Next sector to write -/
def galNvstatHead : Row := ⟨0x48, 0x4, 1, 0, 16, .ro, 0x0, false⟩

/-- GAL_NVSTAT.WRAPS [31:16] RO, reset restored (here 0x0, log entry 10) (R474): Erases made for wrap, saturating -/
def galNvstatWraps : Row := ⟨0x48, 0x4, 1, 16, 16, .ro, 0x0, false⟩

/-- THM_LVL.WARN [7:0] RWJ, reset 0x6E (R485): °C -/
def thmLvlWarn : Row := ⟨0x40, 0x4, 1, 0, 8, .rwj, 0x6e, true⟩

/-- THM_LVL.THROTTLE [15:8] RWJ, reset 0x76 (R485): °C -/
def thmLvlThrottle : Row := ⟨0x40, 0x4, 1, 8, 8, .rwj, 0x76, true⟩

/-- THM_LVL.SHUTDOWN [23:16] RWJ, reset 0x80 (R485): °C, up to 140 -/
def thmLvlShutdown : Row := ⟨0x40, 0x4, 1, 16, 8, .rwj, 0x80, true⟩

/-- THM_HYS.WHYS [3:0] RWJ, reset 0x5 (R485): °C, 1–15 -/
def thmHysWhys : Row := ⟨0x44, 0x4, 1, 0, 4, .rwj, 0x5, true⟩

/-- THM_HYS.THYS [7:4] RWJ, reset 0x5 (R485): °C, 1–15 -/
def thmHysThys : Row := ⟨0x44, 0x4, 1, 4, 4, .rwj, 0x5, true⟩

/-- THM_HYS.SHYS [11:8] RWJ, reset 0xA (R485): °C, 1–15 -/
def thmHysShys : Row := ⟨0x44, 0x4, 1, 8, 4, .rwj, 0xa, true⟩

/-- THM_STAT.LEVEL [2:0] RO, reset 0x0 (R485): Table 18.1 code -/
def thmStatLevel : Row := ⟨0x48, 0x4, 1, 0, 3, .ro, 0x0, false⟩

/-- THM_STAT.FAST [3] RO, reset 0x0 (R485): 250 µs sample period -/
def thmStatFast : Row := ⟨0x48, 0x4, 1, 3, 1, .ro, 0x0, false⟩

/-- THM_STAT.LBRK [4] RO, reset 0x0 (R485): L-die sensor broken -/
def thmStatLbrk : Row := ⟨0x48, 0x4, 1, 4, 1, .ro, 0x0, false⟩

/-- THM_STAT.PBRK [5] RO, reset 0x0 (R485): P-die sensor broken -/
def thmStatPbrk : Row := ⟨0x48, 0x4, 1, 5, 1, .ro, 0x0, false⟩

/-- THM_STAT.LOFF [6] RO, reset 0x0 (R485): L-die powered down -/
def thmStatLoff : Row := ⟨0x48, 0x4, 1, 6, 1, .ro, 0x0, false⟩

/-- THM_STAT.HARDTRIP [7] RO, reset 0x0 (R485): R483 -/
def thmStatHardtrip : Row := ⟨0x48, 0x4, 1, 7, 1, .ro, 0x0, false⟩

/-- THM_LDIE.TEMP [15:0] RO, reset 0x0000 (R485): L-die, signed, 1/8 °C -/
def thmLdieTemp : Row := ⟨0x4c, 0x4, 1, 0, 16, .ro, 0x0, false⟩

/-- THM_LDIE.FAILS [17:16] RO, reset 0x0 (R485): Consecutive failed conversions -/
def thmLdieFails : Row := ⟨0x4c, 0x4, 1, 16, 2, .ro, 0x0, false⟩

/-- THM_PDIE.TEMP [15:0] RO, reset 0x0000 (R485): P-die, signed, 1/8 °C -/
def thmPdieTemp : Row := ⟨0x50, 0x4, 1, 0, 16, .ro, 0x0, false⟩

/-- THM_PDIE.FAILS [17:16] RO, reset 0x0 (R485): Consecutive failed conversions -/
def thmPdieFails : Row := ⟨0x50, 0x4, 1, 16, 2, .ro, 0x0, false⟩

/-- THM_MAX.LMAX [7:0] RC, reset 0x80 (R485): Highest L-die reading, signed °C -/
def thmMaxLmax : Row := ⟨0x54, 0x4, 1, 0, 8, .rc, 0x80, false⟩

/-- THM_MAX.PMAX [15:8] RC, reset 0x80 (R485): Highest P-die reading, signed °C -/
def thmMaxPmax : Row := ⟨0x54, 0x4, 1, 8, 8, .rc, 0x80, false⟩

/-- THM_NEVT.NTHR [7:0] RC, reset 0x00 (R485): THROTTLING entries, saturating -/
def thmNevtNthr : Row := ⟨0x58, 0x4, 1, 0, 8, .rc, 0x0, false⟩

/-- THM_NEVT.NSHD [15:8] RC, reset 0x00 (R485): SHUTDOWN entries -/
def thmNevtNshd : Row := ⟨0x58, 0x4, 1, 8, 8, .rc, 0x0, false⟩

/-- THM_NEVT.NBRK [23:16] RC, reset 0x00 (R485): Sensors found broken -/
def thmNevtNbrk : Row := ⟨0x58, 0x4, 1, 16, 8, .rc, 0x0, false⟩

/-- THMn_CFG.R26 [15:0] RWJ, reset 0x03E8 (R485): Resistance at 25 °C, 10 Ω units -/
def thmCfgR26 : Row := ⟨0x80, 0x8, 32, 0, 16, .rwj, 0x3e8, true⟩

/-- THMn_CFG.BETA [28:16] RWJ, reset 0x0D6B (R485): BETA, K, 1,000–8,000 -/
def thmCfgBeta : Row := ⟨0x80, 0x8, 32, 16, 13, .rwj, 0xd6b, true⟩

/-- THMn_CFG.EN [31] RWJ, reset 0x0 (R485): Input converted -/
def thmCfgEn : Row := ⟨0x80, 0x8, 32, 31, 1, .rwj, 0x0, true⟩

/-- THMn_MON.TEMP [15:0] RO, reset 0x0000 (R485): Signed, 1/8 °C -/
def thmMonTemp : Row := ⟨0x84, 0x8, 32, 0, 16, .ro, 0x0, false⟩

/-- THMn_MON.VALID [16] RO, reset 0x0 (R485): R484 -/
def thmMonValid : Row := ⟨0x84, 0x8, 32, 16, 1, .ro, 0x0, false⟩

/-- THMn_MON.OVER [17] RO, reset 0x0 (R485): At or above HIGH -/
def thmMonOver : Row := ⟨0x84, 0x8, 32, 17, 1, .ro, 0x0, false⟩

/-- THMn_MON.HIGH [31:24] RWJ, reset 0x55 (R485): Report level, signed °C -/
def thmMonHigh : Row := ⟨0x84, 0x8, 32, 24, 8, .rwj, 0x55, true⟩

/-- LAN_ZCFG.ZAUTO [0] RWJ, reset 0x1 (R496): R492 -/
def lanZcfgZauto : Row := ⟨0x40, 0x4, 1, 0, 1, .rwj, 0x1, true⟩

/-- LAN_ZCFG.ZINT [15:8] RWJ, reset 0x10 (R496): INTC for impedance points, 1–255 -/
def lanZcfgZint : Row := ⟨0x40, 0x4, 1, 8, 8, .rwj, 0x10, true⟩

/-- LAN_ZCFG.ZAMP [31:16] RWJ, reset 0x00C8 (R496): Impedance amplitude, 10 mA units -/
def lanZcfgZamp : Row := ⟨0x40, 0x4, 1, 16, 16, .rwj, 0xc8, true⟩

/-- LAN_ZFREQ.F [17:0] RWJ, reset 0x0000A (R496): Impedance frequency, Hz, 1–1,000 -/
def lanZfreqF : Row := ⟨0x44, 0x4, 1, 0, 18, .rwj, 0xa, true⟩

/-- LAN_LIM.DEVLIM [7:0] RWJ, reset 0x14 (R496): Deviation limit, 0.1 % of target, 1–100 -/
def lanLimDevlim : Row := ⟨0x48, 0x4, 1, 0, 8, .rwj, 0x14, true⟩

/-- LAN_LIM.CMIN [15:8] RWJ, reset 0x50 (R496): Least coherence, 0.01 units -/
def lanLimCmin : Row := ⟨0x48, 0x4, 1, 8, 8, .rwj, 0x50, true⟩

/-- LAN_STAT.STATE [1:0] RO, reset 0x0 (R496): 0 IDLE, 1 SWEEP, 2 IMPEDANCE -/
def lanStatState : Row := ⟨0x50, 0x4, 1, 0, 2, .ro, 0x0, false⟩

/-- LAN_STAT.LOOP [5:2] RO, reset 0x0 (R496): Loop measured -/
def lanStatLoop : Row := ⟨0x50, 0x4, 1, 2, 4, .ro, 0x0, false⟩

/-- LAN_STAT.POINT [7:6] RO, reset 0x0 (R496): Table 19.1 -/
def lanStatPoint : Row := ⟨0x50, 0x4, 1, 6, 2, .ro, 0x0, false⟩

/-- LAN_STAT.DONEPTS [14:8] RO, reset 0x00 (R496): Points completed -/
def lanStatDonepts : Row := ⟨0x50, 0x4, 1, 8, 7, .ro, 0x0, false⟩

/-- LAN_STAT.MARGINOK [15] RO, reset 0x0 (R496): R494 -/
def lanStatMarginok : Row := ⟨0x50, 0x4, 1, 15, 1, .ro, 0x0, false⟩

/-- LAN_STAT.ABORT [19:16] RO, reset 0x0 (R496): Table 19.2; 0 none -/
def lanStatAbort : Row := ⟨0x50, 0x4, 1, 16, 4, .ro, 0x0, false⟩

/-- LAN_XOVER.F [17:0] RO, reset 0x3FFFF (R496): Crossover, Hz; 0x3FFFF none -/
def lanXoverF : Row := ⟨0x54, 0x4, 1, 0, 18, .ro, 0x3ffff, false⟩

/-- LAN_MARGIN.PM [15:0] RO, reset 0x7FFF (R496): Phase margin, signed, 0.01°; 0x7FFF none -/
def lanMarginPm : Row := ⟨0x58, 0x4, 1, 0, 16, .ro, 0x7fff, false⟩

/-- LAN_MARGIN.GM [31:16] RO, reset 0x7FFF (R496): Gain margin, signed Q8.8 dB; 0x7FFF none -/
def lanMarginGm : Row := ⟨0x58, 0x4, 1, 16, 16, .ro, 0x7fff, false⟩

/-- LAN_NRUN.SWEEPS [15:0] RC, reset 0x0000 (R496): Sweeps completed, saturating -/
def lanNrunSweeps : Row := ⟨0x5c, 0x4, 1, 0, 16, .rc, 0x0, false⟩

/-- LAN_NRUN.ZPTS [31:16] RC, reset 0x0000 (R496): Impedance entries written, saturating -/
def lanNrunZpts : Row := ⟨0x5c, 0x4, 1, 16, 16, .rc, 0x0, false⟩

/-- LAN_PTk_F.F [17:0] RO, reset 0x00000 (R496): Point frequency, Hz -/
def lanPtFF : Row := ⟨0x100, 0x8, 64, 0, 18, .ro, 0x0, false⟩

/-- LAN_PTk_F.VALID [18] RO, reset 0x0 (R496): Point completed -/
def lanPtFValid : Row := ⟨0x100, 0x8, 64, 18, 1, .ro, 0x0, false⟩

/-- LAN_PTk_F.LOWSNR [19] RO, reset 0x0 (R496): R488 -/
def lanPtFLowsnr : Row := ⟨0x100, 0x8, 64, 19, 1, .ro, 0x0, false⟩

/-- LAN_PTk_T.GAIN [15:0] RO, reset 0x0000 (R496): Gain, signed Q8.8 dB -/
def lanPtTGain : Row := ⟨0x104, 0x8, 64, 0, 16, .ro, 0x0, false⟩

/-- LAN_PTk_T.PHASE [31:16] RO, reset 0x0000 (R496): Unwrapped phase, signed, 0.01° -/
def lanPtTPhase : Row := ⟨0x104, 0x8, 64, 16, 16, .ro, 0x0, false⟩

/-- BIST_STAT.STATE [1:0] RO, reset 0x0 (R506): 0 IDLE, 1 LOGIC, 2 MEMORY, 3 PDIE -/
def bistStatState : Row := ⟨0x40, 0x4, 1, 0, 2, .ro, 0x0, false⟩

/-- BIST_STAT.PASS [2] RO, reset 0x0 (R506): Last test passed -/
def bistStatPass : Row := ⟨0x40, 0x4, 1, 2, 1, .ro, 0x0, false⟩

/-- BIST_STAT.ABORTED [3] RO, reset 0x0 (R506): R500 -/
def bistStatAborted : Row := ⟨0x40, 0x4, 1, 3, 1, .ro, 0x0, false⟩

/-- BIST_STAT.PAUSED [4] RO, reset 0x0 (R506): R501 -/
def bistStatPaused : Row := ⟨0x40, 0x4, 1, 4, 1, .ro, 0x0, false⟩

/-- BIST_STAT.TEST [7:5] RO, reset 0x0 (R506): Last test -/
def bistStatTest : Row := ⟨0x40, 0x4, 1, 5, 3, .ro, 0x0, false⟩

/-- BIST_STAT.BANK [14:8] RO, reset 0x00 (R506): Last bank tested -/
def bistStatBank : Row := ⟨0x40, 0x4, 1, 8, 7, .ro, 0x0, false⟩

/-- BIST_STAT.PUPASS [15] RO, reset 0x0 (R506): Power-up PDIE passed -/
def bistStatPupass : Row := ⟨0x40, 0x4, 1, 15, 1, .ro, 0x0, false⟩

/-- BIST_DUR.US [31:0] RO, reset 0x0 (R506): Duration of the last test, µs -/
def bistDurUs : Row := ⟨0x44, 0x4, 1, 0, 32, .ro, 0x0, false⟩

/-- BIST_SIGLO.SIG [31:0] RO, reset 0x0 (R506): Signature [31:0] -/
def bistSigloSig : Row := ⟨0x48, 0x4, 1, 0, 32, .ro, 0x0, false⟩

/-- BIST_SIGHI.SIG [31:0] RO, reset 0x0 (R506): Signature [63:32] -/
def bistSighiSig : Row := ⟨0x4c, 0x4, 1, 0, 32, .ro, 0x0, false⟩

/-- BIST_EXPLO.SIG [31:0] RO, reset 0x0 (R506): Expected signature [31:0], from OTP -/
def bistExploSig : Row := ⟨0x50, 0x4, 1, 0, 32, .ro, 0x0, false⟩

/-- BIST_EXPHI.SIG [31:0] RO, reset 0x0 (R506): Expected signature [63:32] -/
def bistExphiSig : Row := ⟨0x54, 0x4, 1, 0, 32, .ro, 0x0, false⟩

/-- BIST_NRUN.RUNS [15:0] RC, reset 0x0000 (R506): Tests completed, saturating -/
def bistNrunRuns : Row := ⟨0x58, 0x4, 1, 0, 16, .rc, 0x0, false⟩

/-- BIST_NRUN.FAILS [31:16] RC, reset 0x0000 (R506): Tests failed or aborted, saturating -/
def bistNrunFails : Row := ⟨0x58, 0x4, 1, 16, 16, .rc, 0x0, false⟩

/-- BIST_PROG.WORD [16:0] RO, reset 0x00000 (R506): MEMORY: next word -/
def bistProgWord : Row := ⟨0x5c, 0x4, 1, 0, 17, .ro, 0x0, false⟩

/-- POLn_STAT.RUNNING [0] RO, reset 0x0 (R521): Core running -/
def polStatRunning : Row := ⟨0x40, 0x4, 1, 0, 1, .ro, 0x0, false⟩

/-- POLn_STAT.STOPPED [1] RO, reset 0x0 (R521): R509 -/
def polStatStopped : Row := ⟨0x40, 0x4, 1, 1, 1, .ro, 0x0, false⟩

/-- POLn_STAT.RESTARTS [5:2] RO, reset 0x0 (R521): Restarts in the last 600 s -/
def polStatRestarts : Row := ⟨0x40, 0x4, 1, 2, 4, .ro, 0x0, false⟩

/-- POLn_MBCTL.GO [0] W1S, reset 0x0 (R521): Start an exchange -/
def polMbctlGo : Row := ⟨0x44, 0x4, 1, 0, 1, .w1s, 0x0, false⟩

/-- POLn_MBCTL.BUSY [1] RO, reset 0x0 (R521): Exchange open -/
def polMbctlBusy : Row := ⟨0x44, 0x4, 1, 1, 1, .ro, 0x0, false⟩

/-- POLn_MBCTL.DONE [2] W1C, reset 0x0 (R521): Answer ready -/
def polMbctlDone : Row := ⟨0x44, 0x4, 1, 2, 1, .w1c, 0x0, false⟩

/-- POLn_REQk.D [31:0] RW, reset 0x0 (R521): Request word -/
def polReqD : Row := ⟨0x80, 0x4, 16, 0, 32, .rw, 0x0, false⟩

/-- POLn_RSPk.D [31:0] RO, reset 0x0 (R521): Response word -/
def polRspD : Row := ⟨0xc0, 0x4, 16, 0, 32, .ro, 0x0, false⟩

/-- POL_HPM.BAT [0] RWJ, reset 0x0 (R521): R510 -/
def polHpmBat : Row := ⟨0x50, 0x4, 1, 0, 1, .rwj, 0x0, true⟩

/-- POL_HPM.SHARE [1] RWJ, reset 0x0 (R521): R510 -/
def polHpmShare : Row := ⟨0x50, 0x4, 1, 1, 1, .rwj, 0x0, true⟩

/-- POL_HPM.TIE [2] RO, reset 0x0 (R521): Any port in host-policy mode -/
def polHpmTie : Row := ⟨0x50, 0x4, 1, 2, 1, .ro, 0x0, false⟩

/-- POL_FWSEL.ACTIVE [0] RO, reset 0x0 (R521): Firmware slot running -/
def polFwselActive : Row := ⟨0x54, 0x4, 1, 0, 1, .ro, 0x0, false⟩

/-- POL_FWSEL.SELECTED [1] RO, reset 0x0 (R521): Firmware slot selected -/
def polFwselSelected : Row := ⟨0x54, 0x4, 1, 1, 1, .ro, 0x0, false⟩

/-- POL_FWSEL.TRIAL [2] RO, reset 0x0 (R521): Running from a TRIAL selection -/
def polFwselTrial : Row := ⟨0x54, 0x4, 1, 2, 1, .ro, 0x0, false⟩

/-- POL_FWSEL.NOFW [3] RO, reset 0x0 (R521): R515 -/
def polFwselNofw : Row := ⟨0x54, 0x4, 1, 3, 1, .ro, 0x0, false⟩

/-- POL_FWSEL.IMGACT [5:4] RO, reset 0x0 (R521): Image applied: 0 A, 1 B, 2 OTP -/
def polFwselImgact : Row := ⟨0x54, 0x4, 1, 4, 2, .ro, 0x0, false⟩

/-- POL_FWSEL.IMGSEL [7:6] RO, reset 0x0 (R521): Image selected -/
def polFwselImgsel : Row := ⟨0x54, 0x4, 1, 6, 2, .ro, 0x0, false⟩

/-- POL_RBCNT.CNT [31:0] RO, reset restored (here 0x0, log entry 10) (R521): Rollback counter -/
def polRbcntCnt : Row := ⟨0x58, 0x4, 1, 0, 32, .ro, 0x0, false⟩

/-- NVC_CFG.MIRROR [0] RWL, reset 0x1 (R521): R513 -/
def nvcCfgMirror : Row := ⟨0x40, 0x4, 1, 0, 1, .rwl, 0x1, false⟩

/-- NVC_XSRC.BANK [5:0] RW, reset 0x00 (R521): Source bank, 0–63 -/
def nvcXsrcBank : Row := ⟨0x44, 0x4, 1, 0, 6, .rw, 0x0, false⟩

/-- NVC_XDST.SLOT [2:0] RW, reset 0x0 (R521): 0–3 as NVC_SLOTk, 4 OTP -/
def nvcXdstSlot : Row := ⟨0x48, 0x4, 1, 0, 3, .rw, 0x0, false⟩

/-- NVC_XDST.OFS [7:4] RW, reset 0x0 (R521): Offset, 64 KiB units -/
def nvcXdstOfs : Row := ⟨0x48, 0x4, 1, 4, 4, .rw, 0x0, false⟩

/-- NVC_XLEN.LEN [8:0] RW, reset 0x000 (R521): 4 KiB units, 1–256 -/
def nvcXlenLen : Row := ⟨0x4c, 0x4, 1, 0, 9, .rw, 0x0, false⟩

/-- NVC_CTL.GO [0] W1S, reset 0x0 (R521): Start a transfer -/
def nvcCtlGo : Row := ⟨0x50, 0x4, 1, 0, 1, .w1s, 0x0, false⟩

/-- NVC_CTL.VERIFY [1] W1S, reset 0x0 (R521): Verify slot NVC_XDST.SLOT -/
def nvcCtlVerify : Row := ⟨0x50, 0x4, 1, 1, 1, .w1s, 0x0, false⟩

/-- NVC_STAT.BUSY [0] RO, reset 0x0 (R521): Transfer or verification running -/
def nvcStatBusy : Row := ⟨0x54, 0x4, 1, 0, 1, .ro, 0x0, false⟩

/-- NVC_STAT.RESULT [3:1] RO, reset 0x0 (R521): 0 OK, 1 refused, 2 program fail, 3 verify fail, 4 PC3 stopped -/
def nvcStatResult : Row := ⟨0x54, 0x4, 1, 1, 3, .ro, 0x0, false⟩

/-- NVC_STAT.DEV0OK [4] RO, reset 0x1 (R521): Device 0 in service -/
def nvcStatDev0ok : Row := ⟨0x54, 0x4, 1, 4, 1, .ro, 0x1, false⟩

/-- NVC_STAT.DEV1OK [5] RO, reset 0x1 (R521): Device 1 in service -/
def nvcStatDev1ok : Row := ⟨0x54, 0x4, 1, 5, 1, .ro, 0x1, false⟩

/-- NVC_SLOTk.VALID [0] RO, reset 0x0 (R521): Last verification passed -/
def nvcSlotValid : Row := ⟨0x60, 0x4, 4, 0, 1, .ro, 0x0, false⟩

/-- NVC_SLOTk.RBIDX [31:1] RO, reset 0x0 (R521): RBIDX [30:0] (firmware slots); 0 for images -/
def nvcSlotRbidx : Row := ⟨0x60, 0x4, 4, 1, 31, .ro, 0x0, false⟩

/-- GLB_CFG.DROPHARD [0] RWJ, reset 0x0 (R540): R532 -/
def glbCfgDrophard : Row := ⟨0x80, 0x4, 1, 0, 1, .rwj, 0x0, true⟩

/-- GLB_STATE.STATE [2:0] RO, reset 0x3 (R540): 0 OFF, 1 KEEPALIVE-BOOT, 2 HOLD, 3 RUN, 4 THROTTLED, 5 BENCH -/
def glbStateState : Row := ⟨0x84, 0x4, 1, 0, 3, .ro, 0x3, false⟩

/-- GLB_RSTCAUSE.CAUSE [3:0] RO, reset 0x0 (R540): Last reset or hold: 0 cold, otherwise the Table 22.4 code -/
def glbRstcauseCause : Row := ⟨0x88, 0x4, 1, 0, 4, .ro, 0x0, false⟩

/-- GLB_RSTCAUSE.BOOTKIND [15:8] RO, reset 0x00 (R540): BOOT record kind at the last RUN entry -/
def glbRstcauseBootkind : Row := ⟨0x88, 0x4, 1, 8, 8, .ro, 0x0, false⟩

/-- GLB_NRST.WARM [7:0] RC, reset 0x00 (R540): Warm resets since cold reset, saturating -/
def glbNrstWarm : Row := ⟨0x8c, 0x4, 1, 0, 8, .rc, 0x0, false⟩

/-- GLB_NRST.HARD [15:8] RC, reset 0x00 (R540): Hard resets -/
def glbNrstHard : Row := ⟨0x8c, 0x4, 1, 8, 8, .rc, 0x0, false⟩

/-- GLB_NRST.HOLD [23:16] RC, reset 0x00 (R540): Holds of code 5–8, and causes counted under R535 -/
def glbNrstHold : Row := ⟨0x8c, 0x4, 1, 16, 8, .rc, 0x0, false⟩

/-- GLB_NRST.SHORT [31:24] RC, reset 0x00 (R540): RESET_N pulses ignored (R527) -/
def glbNrstShort : Row := ⟨0x8c, 0x4, 1, 24, 8, .rc, 0x0, false⟩

/-- GLB_BOOTT.ISL [15:0] RO, reset 0x0000 (R540): Island good to HOLD, 0.1 ms units, last cold boot -/
def glbBoottIsl : Row := ⟨0x90, 0x4, 1, 0, 16, .ro, 0x0, false⟩

/-- GLB_BOOTT.LDIE [31:16] RO, reset 0x0000 (R540): L-die boot start to RUN, 0.1 ms units, last boot -/
def glbBoottLdie : Row := ⟨0x90, 0x4, 1, 16, 16, .ro, 0x0, false⟩

/-- GLB_PFW.NOW [0] RO, reset 0x0 (R540): AUX_PFW_N asserted -/
def glbPfwNow : Row := ⟨0x94, 0x4, 1, 0, 1, .ro, 0x0, false⟩

/-- GLB_PFW.DONE [1] RO, reset 0x0 (R540): Writes of R537 complete -/
def glbPfwDone : Row := ⟨0x94, 0x4, 1, 1, 1, .ro, 0x0, false⟩

/-- GLB_PFW.CNT [15:8] RC, reset 0x00 (R540): Warnings, saturating -/
def glbPfwCnt : Row := ⟨0x94, 0x4, 1, 8, 8, .rc, 0x0, false⟩

/-- KAI_STAT.AUXOK [0] RO, reset 0x1 (R540): Auxiliary island regulator good -/
def kaiStatAuxok : Row := ⟨0x40, 0x4, 1, 0, 1, .ro, 0x1, false⟩

/-- KAI_STAT.HVOK [1] RO, reset 0x0 (R540): Bus island regulator good -/
def kaiStatHvok : Row := ⟨0x40, 0x4, 1, 1, 1, .ro, 0x0, false⟩

/-- KAI_STAT.INHOLD [2] RO, reset 0x0 (R540): Island in hold -/
def kaiStatInhold : Row := ⟨0x40, 0x4, 1, 2, 1, .ro, 0x0, false⟩

/-- KAI_STAT.BRIDGEOK [3] RO, reset 0x0 (R540): Die bridge trained -/
def kaiStatBridgeok : Row := ⟨0x40, 0x4, 1, 3, 1, .ro, 0x0, false⟩

/-- KAI_STAT.HOLDCAUSE [7:4] RO, reset 0x0 (R540): Table 22.4 code of the last hold -/
def kaiStatHoldcause : Row := ⟨0x40, 0x4, 1, 4, 4, .ro, 0x0, false⟩

/-- KAI_STAT.LATCHKEPT [8] RO, reset 0x0 (R540): Gate latches kept at the last hard reset -/
def kaiStatLatchkept : Row := ⟨0x40, 0x4, 1, 8, 1, .ro, 0x0, false⟩

/-- KAI_STAT.PDFAIL [9] RO, reset 0x0 (R540): P-die BIST failed in BENCH; returns from hold end in BENCH (R503) -/
def kaiStatPdfail : Row := ⟨0x40, 0x4, 1, 9, 1, .ro, 0x0, false⟩

/-- KAI_SUP.VAUX [8:0] RO, reset 0x000 (R540): VAUX33, 10 mV units -/
def kaiSupVaux : Row := ⟨0x44, 0x4, 1, 0, 9, .ro, 0x0, false⟩

/-- KAI_SUP.VHV [25:16] RO, reset 0x000 (R540): VHV, 0.1 V units -/
def kaiSupVhv : Row := ⟨0x44, 0x4, 1, 16, 10, .ro, 0x0, false⟩

/-- KAI_HOLDUS.US [31:0] RO, reset 0x0 (R540): Microsecond count [31:0] at the last hold entry -/
def kaiHoldusUs : Row := ⟨0x48, 0x4, 1, 0, 32, .ro, 0x0, false⟩

/-- KAI_HOLDDUR.MS [31:0] RO, reset 0x0 (R540): Length of the last hold, ms, saturating -/
def kaiHolddurMs : Row := ⟨0x4c, 0x4, 1, 0, 32, .ro, 0x0, false⟩

/-- KAI_ISLBUF.USED [8:0] RO, reset 0x000 (R540): Island buffer entries at the last RUN entry, 0–256 -/
def kaiIslbufUsed : Row := ⟨0x50, 0x4, 1, 0, 9, .ro, 0x0, false⟩

/-- KAI_ISLBUF.OVF [31:16] RO, reset 0x0000 (R540): Overflow count at the last RUN entry (R17) -/
def kaiIslbufOvf : Row := ⟨0x50, 0x4, 1, 16, 16, .ro, 0x0, false⟩

/-- KAI_BRIDGE.RESEND [15:0] RC, reset 0x0000 (R540): Bridge transfers resent, saturating -/
def kaiBridgeResend : Row := ⟨0x54, 0x4, 1, 0, 16, .rc, 0x0, false⟩

/-- KAI_BRIDGE.TRAIN [23:16] RC, reset 0x00 (R540): Bridge trainings -/
def kaiBridgeTrain : Row := ⟨0x54, 0x4, 1, 16, 8, .rc, 0x0, false⟩

/-- KAI_RUNMASK.LOOP [15:0] RO, reset 0x0000 (R540): Bit n: LOOPn running at the last hard reset (R533) -/
def kaiRunmaskLoop : Row := ⟨0x58, 0x4, 1, 0, 16, .ro, 0x0, false⟩

/-- KAI_NREG.AUXLOSS [7:0] RC, reset 0x00 (R540): Auxiliary regulator losses, saturating -/
def kaiNregAuxloss : Row := ⟨0x5c, 0x4, 1, 0, 8, .rc, 0x0, false⟩

/-- KAI_NREG.HVLOSS [15:8] RC, reset 0x00 (R540): Bus regulator losses -/
def kaiNregHvloss : Row := ⟨0x5c, 0x4, 1, 8, 8, .rc, 0x0, false⟩

/-- PG_CTL.ENABLE (RWJ where JRNL = 1) (Table 3.2, R51). -/
def pgEnable : Row := ⟨0xc, 0, 1, 0, 1, .rw, 0, false⟩

/-- PG_CTL.ENABLE on a page with JRNL = 1 (Table 3.2, R51). -/
def pgEnableJ : Row := ⟨0xc, 0, 1, 0, 1, .rwj, 0, false⟩

/-- PG_STAT.CBUSY (Table 3.2, R51). -/
def pgCbusy : Row := ⟨0x10, 0, 1, 2, 1, .ro, 0, false⟩

/-- PG_STAT.CPEND (Table 3.2, R51). -/
def pgCpend : Row := ⟨0x10, 0, 1, 3, 1, .ro, 0, false⟩

/-- PG_EVT: EVT [29:0], LOCKREJ [30], JREJ [31] (Table 3.2, R51). -/
def pgEvt : Row := ⟨0x14, 0, 1, 0, 32, .w1c, 0, false⟩

/-- PG_EVTEN.EN (Table 3.2, R51). -/
def pgEvten : Row := ⟨0x18, 0, 1, 0, 32, .rw, 0, false⟩

/-- PG_LOCK.LOCK, kept in eMRAM (R56) (Table 3.2, R51). -/
def pgLock : Row := ⟨0x20, 0, 1, 0, 1, .w1s, 0, false⟩

/-- PG_LSEQ.SEQ (Table 3.2, R51). -/
def pgLseq : Row := ⟨0x24, 0, 1, 0, 32, .ro, 0, false⟩

/-- The block rows of group tmb. -/
def tmbRows : List Row :=
  [tmbCfgAutoret, tmbCfgForceint, tmbStatPlllock, tmbStatXtalok, tmbStatOnint, tmbStatCalok, tmbStatSlewing, tmbUsLoUs]
  ++ [tmbUsHiUs, tmbCalTapcode, tmbCalCalcnt, tmbXlossXlosscnt]

/-- The block rows of group fab. -/
def fabRows : List Row :=
  [fabCfgLpwarn, fabCfgAbcwarn, fabLptokTok, fabLptokStop, fabHscycCyc, fabAbclateCnt, fabBallateCnt, fabSeqlateCnt]
  ++ [fabAbcminMin, fabRacelateCnt, fabLplateLatecnt, fabLplateRun, fabLpminMinslack]

/-- The block rows of group evt0. -/
def evt0Rows : List Row :=
  [evtCfgGen, evtEoiVec, evtVpendPend, evtModGap]

/-- The block rows of group evt1. -/
def evt1Rows : List Row :=
  [evtRtVec0, evtRtVec1, evtRtVec2, evtRtVec3, evtRtEn0, evtRtEn1, evtRtEn2, evtRtEn3]
  ++ [evtRtLog0, evtRtLog1, evtRtLog2, evtRtLog3]

/-- The block rows of group evt2. -/
def evt2Rows : List Row :=
  [evtSumPend]

/-- The block rows of group evt3. -/
def evt3Rows : List Row :=
  [evtQpopSrc, evtQpopValid, evtQpopOvf, evtQpopStamp, evtQcntCnt]

/-- The block rows of group glb. -/
def glbRows : List Row :=
  [glbIdPart, glbIdStep, glbLockkeyKey, glbLockstatStage, glbLockstatFails, glbLockstatLockout, glbErraddrAddr, glbErraddrPath]
  ++ [glbErraddrWrite, glbCfgDrophard, glbStateState, glbRstcauseCause, glbRstcauseBootkind, glbNrstWarm, glbNrstHard, glbNrstHold]
  ++ [glbNrstShort, glbBoottIsl, glbBoottLdie, glbPfwNow, glbPfwDone, glbPfwCnt]

/-- The block rows of group pex. -/
def pexRows : List Row :=
  [pexLinkSpeed, pexLinkWidth, pexLinkL0, pexLinkL1, pexLinkReversed, pexLinkThrlim, pexLinkLtssm, pexCmdBme]
  ++ [pexCmdMse, pexCmdMsixen, pexCmdFmask, pexCmdAspml1, pexAeruncStat, pexAercorStat, pexNerrRxerr, pexNerrReplay]
  ++ [pexNlinkDown, pexNlinkRetrain, pexCfgMaxspd]

/-- The block rows of group cmd0. -/
def cmd0Rows : List Row :=
  [cmdCfgRingen, cmdCfgTwen, cmdCfgMirror, cmdRbaseloBase, cmdRbasehiBase, cmdRsizeSize, cmdPbaseloBase, cmdPbasehiBase]
  ++ [cmdPsizeSize, cmdRheadIdx, cmdPtailIdx, cmdPtailPhase]

/-- The block rows of group cmd1. -/
def cmd1Rows : List Row :=
  [cmdLastSeq, cmdDoneseqSeq, cmdJfillCnt, cmdJstatJm0ok, cmdJstatJm1ok, cmdJstatJmsused, cmdJstatRebuild, cmdJstatMirrorlost]
  ++ [cmdJstatReplay, cmdReplayCnt, cmdReplayDiscard]

/-- The block rows of group cmd2. -/
def cmd2Rows : List Row :=
  [cmdNrejCnt, cmdNdupCnt, cmdNsupCnt, cmdNfailCnt]

/-- The block rows of group cmd3. -/
def cmd3Rows : List Row :=
  [cmdTwstatBusy, cmdTwstatQcnt, cmdTwstatBusynak]

/-- The block rows of group cmdf. -/
def cmdfRows : List Row :=
  [cmdRtailIdx, cmdPheadIdx, cmdLastfSeq]

/-- The block rows of group bay. -/
def bayRows : List Row :=
  [bayCfgRole, bayCfgAdopt, bayCfgRmode, bayCfgUrgopen, bayCfgThren, bayCfgLink, bayRampIgate, bayRampDvdt]
  ++ [bayRampRampt, bayPlimPlim, bayIlimIlim, bayIlimFtrip, bayTfltTflt, bayTfltRevlim, bayRetryBudget, bayRetryRwin]
  ++ [bayRetryTogdly, bayDebPresdb, bayDebUrgdb, bayRshRsh, bayCtlArm, bayAlimAlim, bayAlimThstep, bayStatState]
  ++ [bayStatAlt, bayStatPresent, bayStatLimiting, bayStatFoldback, bayStatTripped, bayStatRetired, bayStatAdopted, bayStatPgood]
  ++ [bayStatTripkind, bayStatRetryleft, bayImeasVsh, bayVmeasVmod, bayVmeasVsys, bayPwrPwr, bayNtripFast, bayNtripSlow]
  ++ [bayNtripRamp, bayNtripOther, bayTripusUs, bayPeakPeak]

/-- The block rows of group loop. -/
def loopRows : List Row :=
  [loopCfgType, loopCfgMode, loopCfgVdiv, loopCfgAvg, loopCfgOvact, loopCfgStopmode, loopCfgSnsen, loopCfgExtdiv]
  ++ [loopPhmaploPh, loopPhmaphiPh, loopPerPer, loopVsetVset, loopIsetIset, loopOntOndly, loopOfftOffdly, loopRampRon]
  ++ [loopRampRoff, loopDutyDmin, loopDutyDmax, loopIlimIlim, loopIlimTlim, loopProtOvp, loopProtUvp, loopProtUvt]
  ++ [loopProtPgwin, loopSnsLwin, loopSnsSnsdb, loopSnsOfflvl, loopIsclIfs, loopIsclLimstep, loopVchgVchg, loopCoef0C]
  ++ [loopCoef1C]
  ++ [loopStatState, loopStatPgood, loopStatIlimit, loopStatLocalsns, loopStatBank, loopStatSwpend, loopStatFaultkind, loopStatNph]
  ++ [loopVrefVref, loopVmeasVout, loopImeasIout, loopDnowDuty, loopAlimAlim, loopNfltOv, loopNfltUv, loopNfltOvld]
  ++ [loopNfltSnsl, loopFltusUs]

/-- The block rows of group ph. -/
def phRows : List Row :=
  [phImcfgGain, phImcfgOfs, phLimIpk, phLimBlank, phLimPkn, phLimDidt, phMonImbpct, phMonImbt]
  ++ [phMonFltlvl, phMonStgen, phShedShedlvl, phShedSheden, phShedAddlvl, phShedDwell, phStatState, phStatImbal]
  ++ [phStatPklim, phStatAssigned, phStatLoop, phStatRank, phStatFaultkind, phImeasI, phImeasDev, phCntPkcnt]
  ++ [phCntSheds, phCntCancels, phFltusUs, phPcfgVinch, phPcfgVnom, phPstepIstep, phLossElo, phLossEhi]
  ++ [phPinPin, phPlossPloss, phPnowPnow, phNactSw, phNactShed, phNactRet]

/-- The block rows of group abc0. -/
def abc0Rows : List Row :=
  [abcCfgSharemode, abcCfgChgen, abcCfgSpare, abcCfgHead, abcCfgFmin, abcCapCap, abcCapslewSlew, abcTrimStep]
  ++ [abcTrimMax, abcTrimDead, abcLosscfgLoss0, abcLosscfgRpath, abcStatCapbind, abcStatSupplybind, abcStatFloorshort, abcStatHoldup]
  ++ [abcStatLearn, abcStatRest, abcStatSat, abcStatResvlow, abcStatNover, abcCapeffCap, abcSupplySup, abcBudgetB]
  ++ [abcSrctotS, abcContotC, abcLossnowL, abcResidR, abcFloorsF, abcSpareSp, abcCycusUs, abcSpanSpan]
  ++ [abcGapcycCnt, abcNtrimfCnt, abcExpheadExp, abcGrefRef, abcGrefActive, abcGrefDisch, abcGchgChg, abcGdisDis]

/-- The block rows of group abc1. -/
def abc1Rows : List Row :=
  [rodCfgKind, rodCfgPrio, rodCfgWeight, rodFloorFloor, rodCeilCeil, rodEnfTgrace, rodEnfRelhyst, rodEnfNothr]
  ++ [rodEnfNolim]

/-- The block rows of group abc2. -/
def abc2Rows : List Row :=
  [rodBalBal, rodGrantGrant, rodDemandDem, rodRstOver, rodRstThrottling, rodRstLimited, rodRstFloorshort, rodRstAudited]
  ++ [rodRstSat, rodRstActive, rodRstThstep, rodRstOverms, rodEnloEn, rodEnhiEn, rodPeakPeak]

/-- The block rows of group abc3. -/
def abc3Rows : List Row :=
  [abcMapbayRod, abcMapbayEn, abcMaploopRod, abcMaploopEn, abcMapgrpRod, abcMapgrpEn, abcMapgrpLoop, abcMaptieRod]
  ++ [abcMaptieEn, abcTrimTrim, abcTrimTrimok]

/-- The block rows of group hld. -/
def hldRows : List Row :=
  [hldCfgEn, hldCfgLvlen, hldCfgSlpen, hldCfgAlten, hldCfgAutopre, hldCfgGrpen, hldLvlVhold, hldLvlVrec]
  ++ [hldRateShold, hldRateTpace, hldRateHgrace, hldRateRect, hldTgtTarget, hldPreIpre, hldPreIauto, hldStatState]
  ++ [hldStatLvl, hldStatSlp, hldStatAlt, hldStatExpired, hldStatEustale, hldStatInhold, hldStatArmed, hldStatCause]
  ++ [hldTrigusUs, hldDurMs, hldBudgetB, hldEuseE, hldEdrawnE, hldNepisCnt, hldNepisNoarm, hldVbusVbus]
  ++ [hldVbusVmin]

/-- The block rows of group bal0. -/
def bal0Rows : List Row :=
  [balCfgEn, balCfgTelen, balCfgThr, balCfgSusn, balCfgRmin, balCfg2Margin, balCfg2Teltol, balCfg2Smin]
  ++ [balStatUnbal, balStatVoid, balStatAmbig, balStatMulti, balStatNsus, balStatLastmark, balWinusUs, balRmeanR]
  ++ [balSmeanS, balBestCand, balBestRc1, balBestRc2, balEpsEps, balNwinJudged, balNwinVoid]

/-- The block rows of group bal1. -/
def bal1Rows : List Row :=
  [balcStElig, balcStSuspect, balcStKind, balcStTelsus, balcStRun, balcStRc, balcEpsEps]

/-- The block rows of group bat. -/
def batRows : List Row :=
  [batCfgEn, batCfgBay, batCfgGroup, batCfgThma, batCfgThmaen, batCfgThmb, batCfgThmben, batCfgNcell]
  ++ [batNameQnom, batVlimVcut, batVlimVterm, batIsclIlsb, batIsclOfsmax, batTermIterm, batTermIchg, batTermRechg]
  ++ [batTermIdmax, batTimeStaleh, batTimeRotd, batTimeRoten, batTax0T, batTax1T, batRax0R, batRax1R]
  ++ [batRax2R, batRax3R, batStatSvc, batStatFull, batStatEmpty, batStatCountdis, batStatStale, batStatNotemp]
  ++ [batStatNoid, batStatKnown, batStatPseudo, batStatLstate, batStatRecidx, batStatLdq, batSocSoc, batSocUnc]
  ++ [batRsocRsoc, batQlrnQl, batQlrnCycles, batCntloCount, batCnthiCount, batOfsOfs, batOfsOfsok, batViV]
  ++ [batViI, batTvTemp, batTvVins, batEuseE, batZnowZ, batIdloId, batIdhiId, batSinceS]
  ++ [batLrnQmeas, batLrnNlrn, batDchgDchg, batOcvE, batRcF, batZZ, batHtS, batHsS]
  ++ [batHiS, batXvVmax, batXvVmin, batXtTmax, batXtTmin, batXiIdmx, batXiIcmx]

/-- The block rows of group tie. -/
def tieRows : List Row :=
  [tieCfgEn, tieCfgDrp, tieCfgHost, tieCfgAccen, tieCfgMoisten, tieCfgAccswap, tieCfgBay, tieCfgIdef]
  ++ [tieCableIunm, tieCableImark, tiePolPexp, tiePolPimp, tieAdvVmin, tieAdvVmax, tieAdv2Imax, tieAdv2Ehold]
  ++ [tieStatState, tieStatRole, tieStatPartner, tieStatMarked, tieStatMoist, tieStatLimited, tieStatRetired, tieStatRejrsn]
  ++ [tieConreqObj, tieConsupObj, tieConlimObj, tieMoistRes, tieMoistPath, tieTsvTs1, tieTsvTs2, tieNmsgTx]
  ++ [tieNmsgRx, tieNerrCrc, tieNerrRetry, tieNerrTxfail, tieNerrUnk, tieNevHrst, tieNevColl, tieNevBreach]
  ++ [tieNevTsinv, tieRxcapObj, tieRxhdrHdr]

/-- The block rows of group seq0. -/
def seq0Rows : List Row :=
  [seqGcfgBooten, seqGstatRunning, seqGstatDevstart, seqGstatDeperr, seqEntPol, seqEntDropdep, seqEntOvoff, seqEntSupen]
  ++ [seqRailLvlUv, seqRailLvlOv, seqRailLvl2Off, seqRailLvl2Pgdb, seqRailLvl2Fldb]

/-- The block rows of group seq1. -/
def seq1Rows : List Row :=
  [seqDepParent, seqDepChild, seqDepPdev, seqDepRemote, seqDepEn]

/-- The block rows of group trd. -/
def trdRows : List Row :=
  [flOnOndly, flOnIn, flOffOffdly, flDlDl]

/-- The block rows of group seq6. -/
def seq6Rows : List Row :=
  [flCfgDir, flCfgRet, flCfgTrig, flCfgPair, flCfgRetrail, flStatState, flStatRev, flStatRetpend]
  ++ [flStatDevstart, flStatDirnow, flStatLanding, flStatNbad, flTimeT, flT0Us, flLandTmark, flLandEn]
  ++ [flLandStop, flLandUp, flLandDn]

/-- The block rows of group seq7. -/
def seq7Rows : List Row :=
  [seqEstState, seqEstGood, seqEstTaken, seqEstFlight, seqEstPgt, seqRmonMon]

/-- The block rows of group idx. -/
def idxRows : List Row :=
  [idxCfgEn, idxCfgFanout, idxCfgFanin, idxCfgPgrace, idxPeersExpect, idxStatAddr, idxStatMaster, idxStatMheard]
  ++ [idxStatSyncok, idxStatAddrconf, idxPresHeard, idxPresLost, idxRetRetired, idxTofsloOfs, idxTofshiOfs, idxAlignErr]
  ++ [idxNerrCrc, idxNerrSyncmiss, idxNfrmTx, idxNfrmRx, idxOrdId, idxOrdFlight, idxOrdOp, idxOrdResult]
  ++ [idxPeerHeard, idxPeerLost, idxPeerRetired, idxPeerBaded, idxPeerAge, idxRemW]

/-- The block rows of group twt. -/
def twtRows : List Row :=
  [twtCfgRegen, twtCfgFasten, twtCfgPecwr, twtCfgTouten, twtWinWin, twtStatAddr, twtStatInxfr, twtStatBuserr]
  ++ [twtStatTimeout, twtNerrBlknak, twtNerrPecerr, twtNerrPartial, twtNerrRonak, twtNerr2Short, twtNxfrWr, twtNxfrRd]

/-- The block rows of group twc. -/
def twcRows : List Row :=
  [twcCfgEn, twcCfgSpeed, twcCfgCycle, twcCfgPec, twcCfgRetry, twcCfgSkipwait, twcStatState, twcStatSdalow]
  ++ [twcStatScllow, twcStatRetired, twcStatCuridx, twcStatCulprit, twcNerrNak, twcNerrPecerr, twcNerrArblost, twcNerrStretch]
  ++ [twcNhangHangs, twcNhangCured, twcNhangCycled, twcNhangSkipped, twcNxfrCnt, twcMapAddr, twcMapBay, twcMapNopmb]
  ++ [twcMapEn, twcMapCyc, twcHcmdAddr, twcHcmdCode, twcHcmdProt, twcHcmdWlen, twcHcmdGo, twcHstatBusy]
  ++ [twcHstatDone, twcHstatTrunc, twcHstatResult, twcHstatRlen, twcHdataD]

/-- The block rows of group srv. -/
def srvRows : List Row :=
  [srvCfgCapen, srvCfgStren, srvCfgCrate, srvCfgSrate, srvCfgPrio, srvCfgCeff, srvCfgSeff, srvValSample]

/-- The block rows of group srvl. -/
def srvlRows : List Row :=
  [srvLlLoop, srvLlCapen, srvLlStren, srvLlCrate, srvLlSrate, srvLlPrio, srvLlSeff]

/-- The block rows of group mem. -/
def memRows : List Row :=
  [memOwnOwner, memOwnReq, memOwnPending, memOwnHeld, memOwnRetired, memEccCorr, memEccUncorr, memEccOvwr]
  ++ [memTestRegion, memTestPasses, memTestTfail, memErradrWord, memErradrKind]

/-- The block rows of group memt. -/
def memtRows : List Row :=
  [memTcfgPass, memTcfgTen]

/-- The block rows of group cap0. -/
def cap0Rows : List Row :=
  [capCfgEn, capCfgPre, capCfgPost, capCfgSnpre, capTrigSrcen, capTrigFcls, capTrigHoldt, capCtlSwtrig]
  ++ [capCtlRel, capStatFwords, capStatFreeb, capRingT, capFseqFseq, capNtrigTrigs, capNtrigMerged, capNtrigMissed]

/-- The block rows of group cap1. -/
def cap1Rows : List Row :=
  [capWinStatState, capWinStatVaulted, capWinStatVfail, capWinStatSrc, capWinStatNmerge, capWinStatPreeff, capWinStatSlot, capWinTUs]
  ++ [capWinFirstBank, capWinFirstWord, capWinLastBank, capWinLastWord, capWinMaskloHeld, capWinMaskhiHeld]

/-- The block rows of group cap2. -/
def cap2Rows : List Row :=
  [capCmpCh, capCmpEn, capCmpMode, capCmpDeb, capCmpLvlLo, capCmpLvlHi]

/-- The block rows of group cap3. -/
def cap3Rows : List Row :=
  [capVslotValid, capVslotLock, capVslotCut, capVslotMirror1, capVslotSrc, capVslotTUs]

/-- The block rows of group str0. -/
def str0Rows : List Row :=
  [strCfgEn, strCfgMode, strCfgHiwat, strCfgLowat, strCfgFlush, strDbaseloBase, strDbasehiBase, strDsizeSize]
  ++ [strCbaseloBase, strCbasehiBase, strCsizeSize, strDtailIdx, strDheadIdx, strCheadIdx, strCtailIdx, strCtailPhase]
  ++ [strStatRunning, strStatStalled, strStatNomem, strStatFill, strStatSteps, strFseqFseq, strNlossFrames]

/-- The block rows of group flt0. -/
def flt0Rows : List Row :=
  [fltCfgPncls, fltCfgHben, fltCfgHoldmax, fltBucketN, fltBucketW, fltSumSum, fltNtokTokens, fltNtokIgnored]
  ++ [fltNpermPerm, fltNpermRetires, fltStatHoldused, fltStatPnfail, fltClrType, fltClrOp, fltClrIndex, fltClrValid]
  ++ [fltInjTgt, fltInjIndex, fltInjMode, fltInjArm, fltAckEntry, fltAckGen, fltAckallAll]

/-- The block rows of group flt1. -/
def flt1Rows : List Row :=
  [fltOvrSrc, fltOvrKind, fltOvrAnyk, fltOvrClass, fltOvrN, fltOvrW, fltOvrEn, fltRbayloRet]
  ++ [fltRbayhiRet, fltRphloRet, fltRphhiRet, fltRsvRet, fltRmiscTwc, fltRmiscTie, fltRmiscIdx, fltRmemRet]

/-- The block rows of group flt2. -/
def flt2Rows : List Row :=
  [fltOpenTokloTok, fltOpenTokhiTok, fltOpenTimeUs, fltOpenInfoCount, fltOpenInfoClass, fltOpenInfoPerm, fltOpenInfoInj, fltOpenInfoValid]
  ++ [fltOpenInfoGen]

/-- The block rows of group flt3. -/
def flt3Rows : List Row :=
  [fltBktCnt0, fltBktCnt1, fltBktCnt2, fltBktCnt3, fltBktPerm0, fltBktPerm1, fltBktPerm2, fltBktPerm3]

/-- The block rows of group gal0. -/
def gal0Rows : List Row :=
  [galCurSeq, galWinWords, galWinNrec, galWinReady, galWinSkip, galWinFromnvm, galNextSeq, galTcurSeq]
  ++ [galTwinWofs, galTwinReady, galTwinSkip, galStatFstate, galStatFreezebroken, galStatOnecopy, galStatNvm0ok, galStatNvm1ok]
  ++ [galStatKeyset, galStatSpill, galStatTail, galNextseqSeq, galOldestSeq, galOphOph, galPccPcc, galSubSub]
  ++ [galNonceNonce, galNrefSpace, galNrefLen, galNrecCnt, galNdiscCnt, galClrseqSeq, galKeyKey, galKeyctlLoad]

/-- The block rows of group gal1. -/
def gal1Rows : List Row :=
  [galCfgFlusht, galCfgLogsz, galNvbaseBase, galNvstatHead, galNvstatWraps]

/-- The block rows of group thm. -/
def thmRows : List Row :=
  [thmLvlWarn, thmLvlThrottle, thmLvlShutdown, thmHysWhys, thmHysThys, thmHysShys, thmStatLevel, thmStatFast]
  ++ [thmStatLbrk, thmStatPbrk, thmStatLoff, thmStatHardtrip, thmLdieTemp, thmLdieFails, thmPdieTemp, thmPdieFails]
  ++ [thmMaxLmax, thmMaxPmax, thmNevtNthr, thmNevtNshd, thmNevtNbrk, thmCfgR26, thmCfgBeta, thmCfgEn]
  ++ [thmMonTemp, thmMonValid, thmMonOver, thmMonHigh]

/-- The block rows of group lan. -/
def lanRows : List Row :=
  [lanZcfgZauto, lanZcfgZint, lanZcfgZamp, lanZfreqF, lanLimDevlim, lanLimCmin, lanStatState, lanStatLoop]
  ++ [lanStatPoint, lanStatDonepts, lanStatMarginok, lanStatAbort, lanXoverF, lanMarginPm, lanMarginGm, lanNrunSweeps]
  ++ [lanNrunZpts, lanPtFF, lanPtFValid, lanPtFLowsnr, lanPtTGain, lanPtTPhase]

/-- The block rows of group bist. -/
def bistRows : List Row :=
  [bistStatState, bistStatPass, bistStatAborted, bistStatPaused, bistStatTest, bistStatBank, bistStatPupass, bistDurUs]
  ++ [bistSigloSig, bistSighiSig, bistExploSig, bistExphiSig, bistNrunRuns, bistNrunFails, bistProgWord]

/-- The block rows of group pol. -/
def polRows : List Row :=
  [polStatRunning, polStatStopped, polStatRestarts, polMbctlGo, polMbctlBusy, polMbctlDone, polReqD, polRspD]

/-- The block rows of group pol0. -/
def pol0Rows : List Row :=
  [polHpmBat, polHpmShare, polHpmTie, polFwselActive, polFwselSelected, polFwselTrial, polFwselNofw, polFwselImgact]
  ++ [polFwselImgsel, polRbcntCnt]

/-- The block rows of group nvc. -/
def nvcRows : List Row :=
  [nvcCfgMirror, nvcXsrcBank, nvcXdstSlot, nvcXdstOfs, nvcXlenLen, nvcCtlGo, nvcCtlVerify, nvcStatBusy]
  ++ [nvcStatResult, nvcStatDev0ok, nvcStatDev1ok, nvcSlotValid, nvcSlotRbidx]

/-- The block rows of group kai. -/
def kaiRows : List Row :=
  [kaiStatAuxok, kaiStatHvok, kaiStatInhold, kaiStatBridgeok, kaiStatHoldcause, kaiStatLatchkept, kaiStatPdfail, kaiSupVaux]
  ++ [kaiSupVhv, kaiHoldusUs, kaiHolddurMs, kaiIslbufUsed, kaiIslbufOvf, kaiBridgeResend, kaiBridgeTrain, kaiRunmaskLoop]
  ++ [kaiNregAuxloss, kaiNregHvloss]

end Reg

/-- The pages of Table 3.1. -/
def pageListed (pg : Nat) : Bool :=
  pg ≤ 0x002 || (0x004 ≤ pg && pg ≤ 0x00B) || (0x010 ≤ pg && pg ≤ 0x066) || (0x070 ≤ pg && pg ≤ 0x08B)
  || (0x090 ≤ pg && pg ≤ 0x098) || (0x0A0 ≤ pg && pg ≤ 0x0A8) || pg == 0x0B0 || (0x0C0 ≤ pg && pg ≤ 0x0C7)
  || (0x0D0 ≤ pg && pg ≤ 0x0E7) || (0x0F0 ≤ pg && pg ≤ 0x0F3) || pg == 0x0F8 || pg == 0x0F9 || pg == 0x100 || pg == 0x108
  || (0x110 ≤ pg && pg ≤ 0x113) || pg == 0x118 || pg == 0x120 || pg == 0x130

/-- The block rows of page `pg`; page 0x208 stands for the command fast registers of BAR4 (Table 4.8). -/
def pageRows (pg : Nat) : List Row :=
  if pg == 0x000 then Reg.glbRows else if pg == 0x001 then Reg.tmbRows else if pg == 0x002 then Reg.fabRows
  else if pg == 0x004 then Reg.evt0Rows else if pg == 0x005 then Reg.evt1Rows else if pg == 0x006 then Reg.evt2Rows
  else if pg == 0x007 then Reg.evt3Rows else if pg == 0x008 then Reg.cmd0Rows else if pg == 0x009 then Reg.cmd1Rows
  else if pg == 0x00A then Reg.cmd2Rows else if pg == 0x00B then Reg.cmd3Rows
  else if 0x010 ≤ pg && pg ≤ 0x03F then Reg.bayRows else if 0x040 ≤ pg && pg ≤ 0x04F then Reg.loopRows
  else if 0x050 ≤ pg && pg ≤ 0x05F then Reg.phRows
  else if pg == 0x060 then Reg.abc0Rows else if pg == 0x061 then Reg.abc1Rows else if pg == 0x062 then Reg.abc2Rows
  else if pg == 0x063 then Reg.abc3Rows else if pg == 0x064 then Reg.bal0Rows else if pg == 0x065 then Reg.bal1Rows
  else if pg == 0x066 then Reg.hldRows else if 0x070 ≤ pg && pg ≤ 0x087 then Reg.batRows
  else if 0x088 ≤ pg && pg ≤ 0x08B then Reg.tieRows
  else if pg == 0x090 then Reg.seq0Rows else if pg == 0x091 then Reg.seq1Rows
  else if 0x092 ≤ pg && pg ≤ 0x095 then Reg.trdRows else if pg == 0x096 then Reg.seq6Rows
  else if pg == 0x097 then Reg.seq7Rows else if pg == 0x098 then Reg.idxRows else if pg == 0x0A0 then Reg.twtRows
  else if 0x0A1 ≤ pg && pg ≤ 0x0A8 then Reg.twcRows else if pg == 0x0B0 then Reg.thmRows
  else if pg == 0x0C7 then Reg.srvRows ++ Reg.srvlRows else if 0x0C0 ≤ pg && pg ≤ 0x0C6 then Reg.srvRows
  else if pg == 0x0D0 then Reg.memRows ++ Reg.memtRows else if 0x0D1 ≤ pg && pg ≤ 0x0DF then Reg.memRows
  else if pg == 0x0E0 then Reg.cap0Rows else if pg == 0x0E1 then Reg.cap1Rows else if pg == 0x0E2 then Reg.cap2Rows
  else if pg == 0x0E3 then Reg.cap3Rows else if pg == 0x0E4 then Reg.str0Rows
  else if pg == 0x0F0 then Reg.flt0Rows else if pg == 0x0F1 then Reg.flt1Rows else if pg == 0x0F2 then Reg.flt2Rows
  else if pg == 0x0F3 then Reg.flt3Rows else if pg == 0x0F8 then Reg.gal0Rows else if pg == 0x0F9 then Reg.gal1Rows
  else if pg == 0x100 then Reg.lanRows else if pg == 0x108 then Reg.bistRows
  else if pg == 0x110 then Reg.polRows ++ Reg.pol0Rows else if 0x111 ≤ pg && pg ≤ 0x113 then Reg.polRows
  else if pg == 0x118 then Reg.nvcRows else if pg == 0x120 then Reg.pexRows else if pg == 0x130 then Reg.kaiRows
  else if pg == 0x208 then Reg.cmdfRows else []

/-- PG_CAP.JRNL: the page holds RWJ registers (block chapters). -/
def pageJrnl (pg : Nat) : Bool :=
  pg == 0x000 || (0x010 ≤ pg && pg ≤ 0x098) || (0x0A1 ≤ pg && pg ≤ 0x0B0) || pg == 0x0F0 || pg == 0x0F1 || pg == 0x0F9
  || pg == 0x100 || pg == 0x108 || (0x110 ≤ pg && pg ≤ 0x113)

/-- PG_CAP.LOCKABLE: the page holds RWL registers. -/
def pageLockable (pg : Nat) : Bool := pg == 0x0A0 || pg == 0x0F0 || pg == 0x0F8 || pg == 0x118

/-- PG_CAP.STAGED. -/
def pageStaged (pg : Nat) : Bool :=
  (pageJrnl pg && pg != 0x108) || (0x0C0 ≤ pg && pg ≤ 0x0C7) || (0x0E0 ≤ pg && pg ≤ 0x0E3)

/-- PG_CAP.PDIE; pages 0x001 and 0x002, of which no chapter says it, read 1 (log entry 11). -/
def pagePdie (pg : Nat) : Bool :=
  pg == 0x001 || pg == 0x002 || (0x010 ≤ pg && pg ≤ 0x05F) || pg == 0x066 || pg == 0x0B0 || pg == 0x130

/-- PG_CAP.BLKCAP; 0 where no chapter gives it (log entry 11). -/
def pageBlkcap (pg : Nat) : Nat :=
  if 0x010 ≤ pg && pg ≤ 0x03F then 0x0001 else if 0x040 ≤ pg && pg ≤ 0x04F then 0x0007
  else if 0x060 ≤ pg && pg ≤ 0x063 then 0x0040 else if pg == 0x064 || pg == 0x065 then 0x0049 else if pg == 0x066 then 0x0008
  else if 0x070 ≤ pg && pg ≤ 0x087 then 0x0010 else if 0x088 ≤ pg && pg ≤ 0x08B then 0x0007
  else if 0x090 ≤ pg && pg ≤ 0x097 then 0x00A0 else if pg == 0x098 then 0x0010 else if pg == 0x0A0 then 0x0003
  else if 0x0A1 ≤ pg && pg ≤ 0x0A8 then 0x0007 else if pg == 0x0B0 then 0x0020 else if 0x0C0 ≤ pg && pg ≤ 0x0C7 then 0x0180
  else if 0x0D0 ≤ pg && pg ≤ 0x0DF then 0x0050 else if 0x0E0 ≤ pg && pg ≤ 0x0E3 then 0x0010
  else if 0x0E4 ≤ pg && pg ≤ 0x0E7 then 0x0001 else if 0x0F0 ≤ pg && pg ≤ 0x0F3 then 0x0080
  else if pg == 0x0F8 || pg == 0x0F9 then 0x0008 else if pg == 0x100 then 0x0040 else if pg == 0x108 then 0x0007
  else if 0x110 ≤ pg && pg ≤ 0x113 then 0x0010 else if pg == 0x120 then 0x0002 else if pg == 0x130 then 0x0003 else 0

/-- The first page of the block that holds `pg`, its block code, and whether the block has one page to an instance
(Table 3.1). -/
def pageBlock (pg : Nat) : Nat × Nat × Bool :=
  if pg == 0x000 then (0x000, 0x0001, false) else if pg == 0x001 then (0x001, 0x0002, false)
  else if pg == 0x002 then (0x002, 0x0003, false) else if 0x004 ≤ pg && pg ≤ 0x007 then (0x004, 0x0004, false)
  else if 0x008 ≤ pg && pg ≤ 0x00B then (0x008, 0x0005, false) else if 0x010 ≤ pg && pg ≤ 0x03F then (0x010, 0x0010, true)
  else if 0x040 ≤ pg && pg ≤ 0x04F then (0x040, 0x0011, true) else if 0x050 ≤ pg && pg ≤ 0x05F then (0x050, 0x0012, true)
  else if 0x060 ≤ pg && pg ≤ 0x063 then (0x060, 0x0020, false) else if pg == 0x064 || pg == 0x065 then (0x064, 0x0021, false)
  else if pg == 0x066 then (0x066, 0x0022, false) else if 0x070 ≤ pg && pg ≤ 0x087 then (0x070, 0x0023, true)
  else if 0x088 ≤ pg && pg ≤ 0x08B then (0x088, 0x0024, true) else if 0x090 ≤ pg && pg ≤ 0x097 then (0x090, 0x0030, false)
  else if pg == 0x098 then (0x098, 0x0031, false) else if pg == 0x0A0 then (0x0A0, 0x0032, false)
  else if 0x0A1 ≤ pg && pg ≤ 0x0A8 then (0x0A1, 0x0033, true) else if pg == 0x0B0 then (0x0B0, 0x0040, false)
  else if 0x0C0 ≤ pg && pg ≤ 0x0C7 then (0x0C0, 0x0041, false) else if 0x0D0 ≤ pg && pg ≤ 0x0DF then (0x0D0, 0x0042, false)
  else if 0x0E0 ≤ pg && pg ≤ 0x0E3 then (0x0E0, 0x0043, false) else if 0x0E4 ≤ pg && pg ≤ 0x0E7 then (0x0E4, 0x0044, false)
  else if 0x0F0 ≤ pg && pg ≤ 0x0F3 then (0x0F0, 0x0050, false) else if pg == 0x0F8 || pg == 0x0F9 then (0x0F8, 0x0051, false)
  else if pg == 0x100 then (0x100, 0x0060, false) else if pg == 0x108 then (0x108, 0x0061, false)
  else if 0x110 ≤ pg && pg ≤ 0x113 then (0x110, 0x0062, true) else if pg == 0x118 then (0x118, 0x0063, false)
  else if pg == 0x120 then (0x120, 0x0064, false) else if pg == 0x130 then (0x130, 0x0065, false) else (0, 0, false)

/-- PG_ID of a page: [31:16] block code, [15:8] instance, [7:0] page in block (Table 3.1, R51). -/
def pageId (pg : Nat) : Nat :=
  match pageBlock pg with
  | (first, code, perInst) =>
    if perInst then code * 65536 + (pg - first) * 256 else code * 65536 + (pg - first)

/-- PG_CAP of a page (R51). -/
def pageCap (pg : Nat) : Nat :=
  b2n (pageJrnl pg) + 2 * b2n (pageLockable pg) + 4 * b2n (pageStaged pg) + 8 * b2n (pagePdie pg) + 65536 * pageBlkcap pg

/-- The reset owner of bank `m` (Table 15.1); the other fields of a page have their row's value. -/
def bankOwnerReset (m : Nat) : Nat := if m < 64 then 1 else if m < 68 then 4 else if m < 76 then 0 else 5

/-- The block fields of page `pg` whose register lies at offset `off`. -/
def fieldsAt (pg off : Nat) : List Fld :=
  (pageRows pg).filterMap fun r => (r.indexAt off).map fun i =>
    if (0x0D0 ≤ pg && pg ≤ 0x0DF) && (r == Reg.memOwnOwner || r == Reg.memOwnReq) then
      { r.at pg i with reset := bankOwnerReset (5 * (pg - 0x0D0) + i) }
    else if pg == 0x0C7 && r == Reg.srvLlLoop then { r.at pg i with reset := i }
    else if pg == 0x096 && r == Reg.flCfgDir && i == 1 then { r.at pg i with reset := 1 }
    else r.at pg i

/-- Whether the key names a staged field (R57). -/
def stagedKey (k : Nat) : Bool :=
  (fieldsAt (k / 131072) (k % 131072 / 32)).any fun f => f.lo == k % 32 && f.staged

/-- A field of the common header of page `pg`. -/
def hdr (r : Row) (pg : Nat) : Fld := r.at pg 0

/-- A field of instance `n` of block BAY. -/
def bayF (r : Row) (n : Nat) : Fld := r.at (0x010 + n) 0

/-- A field of instance `n` of block LOOP. -/
def loopF (r : Row) (n : Nat) : Fld := r.at (0x040 + n) 0

/-- A field of instance `n` of block BAT. -/
def batF (r : Row) (n : Nat) : Fld := r.at (0x070 + n) 0

/-- A field of instance `n` of block TIE. -/
def tieF (r : Row) (n : Nat) : Fld := r.at (0x088 + n) 0

/-- A field of instance `n` of block TWC. -/
def twcF (r : Row) (n : Nat) : Fld := r.at (0x0a1 + n) 0

/-- A field of instance `n` of block POL. -/
def polF (r : Row) (n : Nat) : Fld := r.at (0x110 + n) 0

/-- Coefficient `i` of bank `b` of LOOPn. -/
def coefF (n b i : Nat) : Fld := (if b = 0 then Reg.loopCoef0C else Reg.loopCoef1C).at (0x040 + n) i

/-- A field of PHn. -/
def phF (r : Row) (n : Nat) : Fld := r.at (0x050 + n / 4) (n % 4)

/-- A loop-power field of LOOPi. -/
def pwrF (r : Row) (i : Nat) : Fld := r.at (0x050 + i) 0

/-- A repeated loop-power field of LOOPi. -/
def pwrFk (r : Row) (i k : Nat) : Fld := r.at (0x050 + i) k

/-- A repeated field of BATs. -/
def batFk (r : Row) (n k : Nat) : Fld := r.at (0x070 + n) k

/-- A repeated field of TIEn. -/
def tieFk (r : Row) (n k : Nat) : Fld := r.at (0x088 + n) k

/-- A repeated field of TWCn. -/
def twcFk (r : Row) (n k : Nat) : Fld := r.at (0x0A1 + n) k

/-- A repeated field of POLn. -/
def polFk (r : Row) (n k : Nat) : Fld := r.at (0x110 + n) k

/-- A tread field of entity `e` in flight `f` (R351). -/
def trdF (r : Row) (f e : Nat) : Fld := r.at (0x092 + f / 2) (160 * (f % 2) + e)

/-- A field of survey channel `c`. -/
def srvF (r : Row) (c : Nat) : Fld := r.at (0x0C0 + c / 48) (c % 48)

/-- A field of bank `m`; OWNER and REQ have the reset value of Table 15.1. -/
def memF (r : Row) (m : Nat) : Fld :=
  if r == Reg.memOwnOwner || r == Reg.memOwnReq then { r.at (0x0D0 + m / 5) (m % 5) with reset := bankOwnerReset m }
  else r.at (0x0D0 + m / 5) (m % 5)

/-- A field of loop lane `k`; LOOP has reset value `k`. -/
def llF (r : Row) (k : Nat) : Fld :=
  if r == Reg.srvLlLoop then { r.at 0x0C7 k with reset := k } else r.at 0x0C7 k

/-- A field of flight `f` on page 0x096; DIR of FL1 has reset value 1. -/
def flF (r : Row) (f : Nat) : Fld :=
  if r == Reg.flCfgDir && f == 1 then { r.at 0x096 f with reset := 1 } else r.at 0x096 f

/-- A field of landing `k` of flight `f`. -/
def landF (r : Row) (f k : Nat) : Fld := r.at 0x096 (16 * f + k)

/-- Instance `k` of a row of page 0x000. -/
def glbF (r : Row) (k : Nat) : Fld := r.at 0x000 k

/-- Instance `k` of a row of page 0x001. -/
def tmbF (r : Row) (k : Nat) : Fld := r.at 0x001 k

/-- Instance `k` of a row of page 0x002. -/
def fabF (r : Row) (k : Nat) : Fld := r.at 0x002 k

/-- Instance `k` of a row of page 0x004. -/
def evt0F (r : Row) (k : Nat) : Fld := r.at 0x004 k

/-- Instance `k` of a row of page 0x005. -/
def evt1F (r : Row) (k : Nat) : Fld := r.at 0x005 k

/-- Instance `k` of a row of page 0x007. -/
def evt3F (r : Row) (k : Nat) : Fld := r.at 0x007 k

/-- Instance `k` of a row of page 0x008. -/
def cmd0F (r : Row) (k : Nat) : Fld := r.at 0x008 k

/-- Instance `k` of a row of page 0x009. -/
def cmd1F (r : Row) (k : Nat) : Fld := r.at 0x009 k

/-- Instance `k` of a row of page 0x00a. -/
def cmd2F (r : Row) (k : Nat) : Fld := r.at 0x00a k

/-- Instance `k` of a row of page 0x00b. -/
def cmd3F (r : Row) (k : Nat) : Fld := r.at 0x00b k

/-- Instance `k` of a row of page 0x208. -/
def cmdfF (r : Row) (k : Nat) : Fld := r.at 0x208 k

/-- Instance `k` of a row of page 0x060. -/
def abc0F (r : Row) (k : Nat) : Fld := r.at 0x060 k

/-- Instance `k` of a row of page 0x061. -/
def abc1F (r : Row) (k : Nat) : Fld := r.at 0x061 k

/-- Instance `k` of a row of page 0x062. -/
def abc2F (r : Row) (k : Nat) : Fld := r.at 0x062 k

/-- Instance `k` of a row of page 0x063. -/
def abc3F (r : Row) (k : Nat) : Fld := r.at 0x063 k

/-- Instance `k` of a row of page 0x064. -/
def bal0F (r : Row) (k : Nat) : Fld := r.at 0x064 k

/-- Instance `k` of a row of page 0x065. -/
def bal1F (r : Row) (k : Nat) : Fld := r.at 0x065 k

/-- Instance `k` of a row of page 0x066. -/
def hldF (r : Row) (k : Nat) : Fld := r.at 0x066 k

/-- Instance `k` of a row of page 0x090. -/
def seq0F (r : Row) (k : Nat) : Fld := r.at 0x090 k

/-- Instance `k` of a row of page 0x091. -/
def seq1F (r : Row) (k : Nat) : Fld := r.at 0x091 k

/-- Instance `k` of a row of page 0x097. -/
def seq7F (r : Row) (k : Nat) : Fld := r.at 0x097 k

/-- Instance `k` of a row of page 0x098. -/
def idxF (r : Row) (k : Nat) : Fld := r.at 0x098 k

/-- Instance `k` of a row of page 0x0a0. -/
def twtF (r : Row) (k : Nat) : Fld := r.at 0x0a0 k

/-- Instance `k` of a row of page 0x0b0. -/
def thmF (r : Row) (k : Nat) : Fld := r.at 0x0b0 k

/-- Instance `k` of a row of page 0x0d0. -/
def memtF (r : Row) (k : Nat) : Fld := r.at 0x0d0 k

/-- Instance `k` of a row of page 0x0e0. -/
def cap0F (r : Row) (k : Nat) : Fld := r.at 0x0e0 k

/-- Instance `k` of a row of page 0x0e1. -/
def cap1F (r : Row) (k : Nat) : Fld := r.at 0x0e1 k

/-- Instance `k` of a row of page 0x0e2. -/
def cap2F (r : Row) (k : Nat) : Fld := r.at 0x0e2 k

/-- Instance `k` of a row of page 0x0e3. -/
def cap3F (r : Row) (k : Nat) : Fld := r.at 0x0e3 k

/-- Instance `k` of a row of page 0x0e4. -/
def str0F (r : Row) (k : Nat) : Fld := r.at 0x0e4 k

/-- Instance `k` of a row of page 0x0f0. -/
def flt0F (r : Row) (k : Nat) : Fld := r.at 0x0f0 k

/-- Instance `k` of a row of page 0x0f1. -/
def flt1F (r : Row) (k : Nat) : Fld := r.at 0x0f1 k

/-- Instance `k` of a row of page 0x0f2. -/
def flt2F (r : Row) (k : Nat) : Fld := r.at 0x0f2 k

/-- Instance `k` of a row of page 0x0f8. -/
def gal0F (r : Row) (k : Nat) : Fld := r.at 0x0f8 k

/-- Instance `k` of a row of page 0x0f9. -/
def gal1F (r : Row) (k : Nat) : Fld := r.at 0x0f9 k

/-- Instance `k` of a row of page 0x100. -/
def lanF (r : Row) (k : Nat) : Fld := r.at 0x100 k

/-- Instance `k` of a row of page 0x108. -/
def bistF (r : Row) (k : Nat) : Fld := r.at 0x108 k

/-- Instance `k` of a row of page 0x110. -/
def pol0F (r : Row) (k : Nat) : Fld := r.at 0x110 k

/-- Instance `k` of a row of page 0x118. -/
def nvcF (r : Row) (k : Nat) : Fld := r.at 0x118 k

/-- Instance `k` of a row of page 0x120. -/
def pexF (r : Row) (k : Nat) : Fld := r.at 0x120 k

/-- Instance `k` of a row of page 0x130. -/
def kaiF (r : Row) (k : Nat) : Fld := r.at 0x130 k

/-- The ranges that the register tables state for RWJ fields (lowest and highest value). -/
def regLimits : List (Row × Nat × Nat) :=
  [(Reg.bayRampIgate, 1, 63), (Reg.bayRampDvdt, 1, 250), (Reg.bayRampRampt, 1, 200), (Reg.bayPlimPlim, 1, 2000), (Reg.bayIlimIlim, 5, 300)]
  ++ [(Reg.bayIlimFtrip, 10, 300), (Reg.bayTfltTflt, 1, 1000), (Reg.bayTfltRevlim, 1, 100), (Reg.bayRetryRwin, 1, 3600), (Reg.bayRetryTogdly, 1, 1000)]
  ++ [(Reg.bayDebPresdb, 1, 255), (Reg.bayDebUrgdb, 1, 255), (Reg.bayRshRsh, 1, 65535), (Reg.loopPerPer, 200, 4000), (Reg.loopRampRon, 1, 1000), (Reg.loopRampRoff, 1, 1000)]
  ++ [(Reg.loopIlimTlim, 1, 1000), (Reg.loopProtOvp, 10, 250), (Reg.loopProtUvp, 10, 250), (Reg.loopProtUvt, 1, 255), (Reg.loopProtPgwin, 5, 100)]
  ++ [(Reg.loopSnsLwin, 10, 200), (Reg.loopSnsSnsdb, 1, 255), (Reg.loopSnsOfflvl, 1, 255), (Reg.loopIsclLimstep, 1, 255), (Reg.phImcfgGain, 1, 65535)]
  ++ [(Reg.phImcfgOfs, 0, 15000), (Reg.phLimIpk, 1, 4095), (Reg.phLimPkn, 1, 255), (Reg.phMonImbpct, 5, 100), (Reg.phMonImbt, 1, 255)]
  ++ [(Reg.phMonFltlvl, 100, 200), (Reg.phShedDwell, 1, 255), (Reg.phPcfgVnom, 1, 65535), (Reg.phPstepIstep, 1, 4095), (Reg.abcCfgHead, 0, 100)]
  ++ [(Reg.abcCfgFmin, 0, 50), (Reg.abcTrimStep, 1, 255), (Reg.abcTrimMax, 1, 255), (Reg.abcTrimDead, 1, 255), (Reg.rodEnfTgrace, 1, 255)]
  ++ [(Reg.rodEnfRelhyst, 0, 50), (Reg.hldRateShold, 1, 255), (Reg.hldRateTpace, 1, 10), (Reg.hldRateHgrace, 1, 255), (Reg.hldRateRect, 1, 255)]
  ++ [(Reg.hldTgtTarget, 1, 65535), (Reg.balCfgThr, 1, 255), (Reg.balCfgSusn, 1, 63), (Reg.balCfgRmin, 50, 100), (Reg.balCfg2Margin, 1, 50)]
  ++ [(Reg.balCfg2Teltol, 1, 50), (Reg.batCfgBay, 0, 47), (Reg.batCfgNcell, 13, 16), (Reg.batNameQnom, 10, 65535), (Reg.batVlimVcut, 2000, 4500)]
  ++ [(Reg.batVlimVterm, 3000, 4500), (Reg.batTermRechg, 50, 99), (Reg.batTimeStaleh, 1, 255), (Reg.batTimeRotd, 1, 255), (Reg.tieCfgBay, 0, 47)]
  ++ [(Reg.seqRailLvl2Pgdb, 1, 255), (Reg.seqRailLvl2Fldb, 1, 255), (Reg.seqDepParent, 0, 159), (Reg.seqDepChild, 0, 159), (Reg.flCfgRetrail, 0, 95)]
  ++ [(Reg.flDlDl, 1, 16777215)]
  ++ [(Reg.twcCfgSkipwait, 1, 255), (Reg.twcMapBay, 0, 47), (Reg.fltBucketN, 1, 15), (Reg.fltBucketW, 1, 255), (Reg.galCfgFlusht, 1, 255)]
  ++ [(Reg.galCfgLogsz, 1, 32), (Reg.thmHysWhys, 1, 15), (Reg.thmHysThys, 1, 15), (Reg.thmHysShys, 1, 15), (Reg.thmCfgBeta, 1000, 8000)]
  ++ [(Reg.lanZcfgZint, 1, 255), (Reg.lanZfreqF, 1, 1000), (Reg.lanLimDevlim, 1, 100)]

/-- The value `v` of the register at `off` of page `pg` keeps every range its table states (R78). -/
def rangeOk (pg off v : Nat) : Bool :=
  regLimits.all fun x => !((pageRows pg).contains x.1 && (x.1.indexAt off).isSome)
    || (decide (x.2.1 ≤ bits v x.1.lo x.1.width) && decide (bits v x.1.lo x.1.width ≤ x.2.2))

end Sys2Proof.Machine
end

