-- ==== Sys2Proof/Machine/Store.lean ====
section
/-!
DEFINITION. A register store: the values that differ from their reset value, as a list of (key, value) pairs with keys
strictly rising. A key that is not listed reads as its field's reset value.
-/

namespace Sys2Proof.Machine

/-- Register values by field key (`Fld.key`). -/
abbrev Store := List (Nat × Nat)

/-- The value at key `k`, or `d` where the store lists none. -/
def Store.get : Store → Nat → Nat → Nat
  | [], _, d => d
  | (a, x) :: r, k, d => if a = k then x else Store.get r k d

/-- The store with value `v` at key `k`; a value equal to the default `d` is not listed. -/
def Store.put : Store → Nat → Nat → Nat → Store
  | [], k, d, v => if v = d then [] else [(k, v)]
  | (a, x) :: r, k, d, v =>
    if k < a then (if v = d then (a, x) :: r else (k, v) :: (a, x) :: r)
    else if k = a then (if v = d then r else (k, v) :: r)
    else (a, x) :: Store.put r k d v

/-- Keys strictly rising. -/
def Store.sorted : Store → Bool
  | [] => true
  | [_] => true
  | (a, _) :: (b, y) :: r => decide (a < b) && Store.sorted ((b, y) :: r)

/-- The store with value `v` at key `k`, whatever the default (used only to move values between stores of one map). -/
def Store.ins (k v : Nat) : Store → Store
  | [] => [(k, v)]
  | (a, x) :: r => if k < a then (k, v) :: (a, x) :: r else if k = a then (k, v) :: r else (a, x) :: Store.ins k v r

/-- `dst` with every key `k`, `lo ≤ k < hi`, `sel k`, taken from `src`, and its other keys as they are. -/
def Store.copy (sel : Nat → Bool) (lo hi : Nat) (src dst : Store) : Store :=
  (src.filter fun p => decide (lo ≤ p.1) && decide (p.1 < hi) && sel p.1).foldr (fun p m => Store.ins p.1 p.2 m)
    (dst.filter fun p => !(decide (lo ≤ p.1) && decide (p.1 < hi) && sel p.1))

/-- The store without the keys `lo ≤ k < hi`. -/
def Store.clear (lo hi : Nat) (m : Store) : Store := m.filter fun p => p.1 < lo || hi ≤ p.1

end Sys2Proof.Machine
end

