-- ==== Sys2Proof/Machine/State.lean ====
section
/-!
DEFINITION. The state of the NM9648 as plain data: the register stores, and what the chapters give the device beside its
registers (modes, queues, the journal, the gallery, timers that run, the links). `State.reset` is the device right after
the cold reset of a part that leaves the factory.
-/

namespace Sys2Proof.Machine

/-- The device states of Table 1.5 (R19). -/
inductive Mode
  | off | boot | hold | run | throttled | bench
deriving DecidableEq, Repr, Inhabited

/-- A fault token (R434), with the whole microsecond count of its detection; one that comes from the island buffer is
marked (R436), and one of the log of an xSPI device names the device (R463). -/
structure Tok where
  src : Nat := 0
  kind : Nat := 0
  detail : Nat := 0
  us : Nat := 0
  island : Bool := false
  dev : Nat := 0
deriving DecidableEq, Repr, Inhabited

/-- An entry of the event queue (R70). -/
structure QEntry where
  src : Nat := 0
  ovf : Bool := false
  stamp : Nat := 0
deriving DecidableEq, Repr, Inhabited

/-- One MSI-X vector (R68): its message is held, a gap runs, and its table entry is masked. -/
structure VecS where
  held : Bool := false
  gap : Bool := false
  masked : Bool := true
deriving DecidableEq, Repr, Inhabited

/-- A ring report that is held (R89): its four words (R83), and the SEQ whose DONE report it is. -/
structure Report where
  words : List Nat := []
  doneSeq : Option Nat := .none
deriving DecidableEq, Repr, Inhabited

/-- What an applied command waits for before its done point (Table 4.2). -/
inductive Wait
  | none
  /-- The commit of the page in progress. -/
  | commit (page : Nat)
  /-- The commit that waits behind the one in progress (R58). -/
  | commitNext (page : Nat)
  | bayOn (n : Nat)
  | bayOpen (n : Nat)
  | loopGood (n : Nat)
  | loopOff (n : Nat)
  | coef (n : Nat)
  /-- A LOOP_COEF behind a pending bank switch: nothing is written yet (R147). -/
  | coefNext (n : Nat)
  /-- The enforcement issue of the first settle that applies the page (R221). -/
  | settle (page : Nat) (applied : Bool)
  | learn (s : Nat)
  | restOpen (s : Nat)
  | tie (n : Nat)
  | tiePolicy (n : Nat)
  | flight (f : Nat)
  | bist
  | lan
  | image
  | clear
deriving DecidableEq, Repr, Inhabited

/-- A position of the command journal (R93): the journaled words, the status word, and where its execution stands. -/
structure JEntry where
  seq : Nat := 0
  words : List Nat := []
  /-- The macros that hold a valid copy of the position: bit 0 JM0, bit 1 JM1, bit 2 JMS (R93 to R95). -/
  copies : Nat := 0
  twoWire : Bool := false
  /-- CODE and REASON once recorded. -/
  status : Option (Nat × Nat) := .none
  issued : Bool := false
  applied : Bool := false
  replayed : Bool := false
  wait : Wait := .none
deriving DecidableEq, Repr, Inhabited

/-- A record offered to the gallery (R455 to R457): one payload for each member of a chain; `island` is the detection
count of an island buffer entry. -/
structure Offer where
  typ : Nat := 0
  src : Nat := 0
  payloads : List (List Nat) := []
  island : Option Nat := .none
  broken : Bool := false
deriving DecidableEq, Repr, Inhabited

/-- An accepted record (Table 17.1). -/
structure Rec where
  typ : Nat := 0
  src : Nat := 0
  cont : Bool := false
  more : Bool := false
  island : Bool := false
  broken : Bool := false
  spilled : Bool := false
  oneCopy : Bool := false
  seq : Nat := 0
  oph : Nat := 0
  pcc : Nat := 0
  sub : Nat := 0
  payload : List Nat := []
  /-- The microsecond count of its acceptance. -/
  atUs : Nat := 0
deriving DecidableEq, Repr, Inhabited

/-- A unit in a fault bucket (R440, R441): source, channel on a shared source, the detection count and the leak time, s. -/
structure BktUnit where
  src : Nat := 0
  chan : Nat := 0
  us : Nat := 0
  w : Nat := 0
deriving DecidableEq, Repr, Inhabited

/-- What a bay holds beside its registers (chapter 5). -/
structure BayS where
  /-- Class of the ALT line: 0 absent, 1 present, 2 urgent (R102). -/
  alt : Nat := 0
  /-- The ALT class is frozen by a throttle train (R106). -/
  frozen : Bool := false
  /-- The slow-limit timer, 0.1 µs units, and the microsecond count up to which it is counted (R113). -/
  slow : Nat := 0
  slowUs : Nat := 0
  /-- Urgent is in effect (R105). -/
  urgent : Bool := false
  /-- The last turn-off used the 2 A pull-down, and not the 20 mA one (R108). -/
  fastOpen : Bool := false
  /-- The owner of a timed open: 0 none, 1 hang cure, 2 tie hard reset, 3 rest by rotation (R123). -/
  owner : Nat := 0
  /-- The ramp timer runs (R111, R124). -/
  rampTimer : Bool := false
  /-- No automatic toggle follows: the bay was TRIPPED when hold began or tripped in hold (R121). -/
  heldTrip : Bool := false
  /-- Microsecond counts of the automatic toggles in the retry window (R120). -/
  retries : List Nat := []
  /-- A throttle train runs; the step ordered during it; release trains still to repeat (R106). -/
  train : Bool := false
  next : Option Nat := none
  relLeft : Nat := 0
  /-- The owner of a timed open that a command ended, to be told (R123). -/
  aborted : Nat := 0
  /-- The bay became present in hold or at boot: V_ins of its string, whose insertion is judged when RUN resumes (Table 1.4,
  R278). -/
  insPending : Option Nat := .none
  /-- Sums of the survey samples of the cycle in progress: bus code times current code, and current code (R197); and the
  closed sums not yet posted by a settle that issued (R41). -/
  cycVI : Int := 0
  cycI : Int := 0
  sumVI : Int := 0
  sumI : Int := 0
  /-- Sums of the present millisecond: shunt code, and system-side code times shunt code (Table 5.7). -/
  msI : Int := 0
  msVI : Int := 0
  /-- The sum of the module-side codes of the present millisecond, and their mean over the last one (R124). -/
  msM : Nat := 0
  vMean : Nat := 0
  /-- Sums of posted power and of target since the last trim slot, beads, and their number (R211). -/
  trimP : ℚ := 0
  trimT : ℚ := 0
  trimN : Nat := 0
  /-- The share of the FEED demand in force, beads (R210). -/
  target : ℚ := 0
  /-- The trim write of the slot that is on its way, with the trim that it would leave, mV, and the number of trim writes
  (R211). -/
  trimTo : Option Int := .none
  trimId : Nat := 0
deriving DecidableEq, Repr, Inhabited

/-- What a loop holds beside its registers (chapter 6). -/
structure LoopS where
  /-- The target: 0.1 mV units, or signed 10 mA units in current mode. -/
  target : Int := 0
  /-- The working reference, in 1/40 µV, or 1/40 µA in current mode (R152). -/
  wref : Int := 0
  /-- Rates of the present move given by a command; 0 takes the page value (Table 6.5). -/
  rateUp : Nat := 0
  rateDn : Nat := 0
  /-- The stop in force coasts (R156). -/
  coast : Bool := false
  /-- Error history and duty history, newest first (R145): error words, and 2⁻³⁰ units. -/
  e : List Int := [0, 0, 0]
  u : List Nat := [0, 0, 0]
  /-- A computed duty that waits for the latch point. -/
  fresh : Option Nat := .none
  /-- The duty in force, 2⁻³⁰ units. -/
  duty : Nat := 0
  /-- RESET of the pending bank switch, and the LOOP_COEF commands that wait behind it (R147). -/
  coefReset : Bool := false
  coefWait : List Nat := []
  /-- The overload timer, in 1/4000 µs (R160). -/
  ovl : Nat := 0
  /-- The loop current of the last sample, mA (R186). -/
  lastI : Option Int := .none
  /-- The hold-up fast path drives the loop (R159). -/
  held : Bool := false
  /-- A start that waits for a phase to rejoin, and whether it has an on-delay (R181). -/
  deferred : Option Bool := .none
  /-- The phases are held low after an overvoltage (R162, OVACT = 1). -/
  heldLow : Bool := false
  /-- Sums of the means in progress (Table 6.8, R192): 2.5 ns counts, loop current (mA), point voltage (µV), input power
  and loss (µW), over 1 ms, and input power over 100 µs. -/
  msCnt : Nat := 0
  msN : Nat := 0
  iSum : Int := 0
  vSum : Int := 0
  pSum : Int := 0
  lSum : Int := 0
  p100Cnt : Nat := 0
  p100N : Nat := 0
  p100Sum : Int := 0
  /-- Sum of PNOW over the closed cycles not yet posted, beads (R203). -/
  pnSum : Int := 0
  /-- The last remote reading, µV at the output (R144; log entry 53). -/
  remote : Int := 0
  /-- The coefficients of the pending switch go with the commit that waits in CPEND (R58, R147). -/
  coefNext : Bool := false
deriving DecidableEq, Repr, Inhabited

/-- What a phase holds beside its registers (chapter 7). -/
structure PhS where
  /-- Consecutive truncated periods (R177). -/
  trunc : Nat := 0
  /-- A peak crossing truncated the present period. -/
  cut : Bool := false
  /-- Consecutive judged windows above the imbalance level, and at or below the end level (R191). -/
  above : Nat := 0
  below : Nat := 0
  /-- The rejoin timer runs: the token is classed transient (R179). -/
  rejoin : Bool := false
  /-- The phase rejoins at the next loop period start (R179, R180). -/
  joinNext : Bool := false
  /-- The IMON code of the last period (12 bits over 2.0 V) and the current it gives, mA (R172). -/
  code : Nat := 0
  i : Int := 0
  /-- The survey codes of the millisecond in progress, and whether the phase was in the switching set for all of it
  (R172, R191). -/
  iSum : Nat := 0
  iN : Nat := 0
  whole : Bool := false
  /-- The PWM output in the present loop period, in taps from its start (R150, R151, R182): whether the phase switches, its
  offset, its on-time (0 where none is emitted), and where the on-time of the period before it ends. -/
  driven : Bool := false
  off : Nat := 0
  on : Nat := 0
  tail : Nat := 0
  /-- The interpolator tap code in use on the DPWM channel (R34). -/
  tap : Nat := 0
deriving DecidableEq, Repr, Inhabited

/-- A supervised rail: its enable is driven active, and it is judged good and fallen (chapter 12). -/
structure RailS where
  /-- The sum of the MON codes of the present millisecond. -/
  sum : Nat := 0
  on : Bool := false
  good : Bool := false
  fell : Bool := true
deriving DecidableEq, Repr, Inhabited

/-- A dependency edge in force (R329). -/
structure Edge where
  parent : Nat := 0
  child : Nat := 0
  /-- The Iddex address of a remote parent. -/
  remote : Option Nat := .none
deriving DecidableEq, Repr, Inhabited

/-- An entity of a run: its slot and deadline in flight time, and where it stands: 0 its slot is to come, 1 its deadline
runs, 2 it reached the target or was taken, 3 it ended FAILED, SKIPPED or STUCK, 4 dropped and not yet fallen,
5 past its slot and waiting for a remote parent, 6 dropped and fallen. -/
structure Tread where
  ent : Nat := 0
  slot : Nat := 0
  dl : Nat := 0
  at_ : Nat := 0
  /-- ONDLY at the start of the run, which a reversal uses (R340, R349). -/
  on : Nat := 0
deriving DecidableEq, Repr, Inhabited

/-- A flight (chapter 12). -/
structure FlightS where
  treads : List Tread := []
  edges : List Edge := []
  /-- Landings of the run that are not passed: number, TMARK, STOP. -/
  lands : List (Nat × Nat × Bool) := []
  /-- A landing that counts in down runs has been passed. -/
  dnPassed : Bool := false
  /-- The mark of the STOP landing at which the flight is LANDED. -/
  mark : Nat := 0
  /-- The journaled command that the run executes. -/
  seq : Option Nat := .none
  /-- The run is carried out from an Iddex order. -/
  order : Bool := false
  /-- The direction in which the run was started (R344). -/
  startDown : Bool := false
  /-- The return condition holds (R338). -/
  cond : Bool := false
  /-- The microsecond count at which the flight became LANDED. -/
  landUs : Nat := 0
  /-- Master: the identity of the last order for the flight; every expected slave with its last RESULT, 6 for missed, 8
  for missed with its late acknowledgement logged, 7 for lost (R365); and the own status once the own run is complete. -/
  ordId : Nat := 0
  slaves : List (Nat × Nat) := []
  own : Option Bool := .none
deriving DecidableEq, Repr, Inhabited

/-- A flight order of the Iddex master (R361). -/
structure OrderS where
  op : Nat := 0
  flight : Nat := 0
  action : Nat := 0
  id : Nat := 0
  t0 : Nat := 0
deriving DecidableEq, Repr, Inhabited

/-- The Iddex link (chapter 13). -/
structure IdxS where
  /-- Orders to be sent, each in as many frames as given. -/
  orders : List (OrderS × Nat) := []
  /-- Slave: the identity last acted on, and the acknowledgement: identity, flight, RESULT. -/
  acted : Option Nat := .none
  ack : Option (Nat × Nat × Nat) := .none
  fcnt : Nat := 0
  /-- The local count at the last edge, the link offset (R355), and whether a frame may still give the master's count at
  that edge; taken and missed edges in a row. -/
  edge : Nat := 0
  tofs : Int := 0
  edged : Bool := false
  hits : Nat := 0
  misses : Nat := 0
  /-- Slots in a row whose frame was heard wrong (R370). -/
  wrong : Nat := 0
deriving DecidableEq, Repr, Inhabited

/-- A message of a tie port (R298): its type, its identity, its objects, and how often it has been sent. -/
structure TieMsg where
  typ : Nat := 0
  id : Nat := 0
  objs : List Nat := []
  sent : Nat := 1
deriving DecidableEq, Repr, Inhabited

/-- What a tie port holds beside its registers (chapter 11). -/
structure TieS where
  /-- The class of TS1: 0 none, 1 source, 2 sink, 3 accessory; and whether TS2 is marked (R290). -/
  cls : Nat := 0
  marked : Bool := false
  /-- TS2 holds its accessory class. -/
  acc : Bool := false
  /-- The attach-default role is source (R292). -/
  defSource : Bool := false
  /-- The next MSGID, and type and identity of the last frame taken (R300). -/
  msgId : Nat := 0
  last : Option (Nat × Nat) := .none
  /-- The message on its way, whether its frame has ended, and the messages behind it (R301). -/
  tx : Option TieMsg := .none
  ended : Bool := false
  queue : List TieMsg := []
  /-- The type of the delivered message whose answer is awaited; 0 none. -/
  await : Nat := 0
  /-- CAPS sends without a REQUEST, and whether the 150 ms repeat runs (R303). -/
  capsN : Nat := 0
  capsTimer : Bool := false
  /-- The source sends CAPS once its bay is ON (R292, R311). -/
  capsOnOn : Bool := false
  /-- The objects of the last CAPS sent, and of the last CAPS received are in TIEn_RXCAPk. -/
  capsSent : List Nat := []
  /-- The REQUEST object of the exchange in progress, with its SUPPLY and LIMIT objects. -/
  req : Option (Nat × Nat × Nat) := .none
  /-- The source of a transition waits for its bay (R305). -/
  moving : Bool := false
  /-- A SWAP is asked for: the role wanted is source; the backoff runs (R309). -/
  swapTo : Option Bool := .none
  backoff : Bool := false
  /-- Energy exported on the TIE rod since the trigger of the last episode, beads × cycles (R307); settles with EXPHEAD below P_C (R306). -/
  energy : Nat := 0
  low : Nat := 0
  /-- TIE_POLICY settings that wait for an answer: HOST and DRP. -/
  policy : Option (Bool × Nat) := .none
  /-- WET gives way after readings in a row (R296). -/
  dryN : Nat := 0
  /-- The microsecond count at which the last swap completed (R314). -/
  swapUs : Option Nat := .none
deriving DecidableEq, Repr, Inhabited

/-- What a rod holds beside its registers (chapter 8). -/
structure RodS where
  /-- Its last balances since it became active or RUN was entered, newest first, at most 10 (R207). -/
  hist : List Int := []
  /-- Microsecond counts at which it became over, and at which its throttle step last moved (R207, R208). -/
  overUs : Nat := 0
  stepUs : Nat := 0
  /-- The energy account, 12.5 µJ units (R201). -/
  en : Int := 0
deriving DecidableEq, Repr, Inhabited

/-- A learning discharge of one group (R213, R215, R276). -/
structure MoveS where
  /-- Asked for by PC1 and not yet admitted; in force. -/
  ask : Bool := false
  on : Bool := false
  /-- Settles in a row in which a condition failed, and in which P_dis was 0. -/
  fails : Nat := 0
  zero : Nat := 0
  /-- Power ordered, beads; 0 none (Table 10.5). -/
  pow : Nat := 0
deriving DecidableEq, Repr, Inhabited

/-- The raw figures of a settle, for the balance (R247, R248): regressors of the candidates, r, S, and the weight. -/
structure RawS where
  x : List (Option ℚ) := []
  /-- Posted power of the FEED bays, beads. -/
  pow : List (Nat × ℚ) := []
  r : Int := 0
  s : Int := 0
  weight : Nat := 1
deriving DecidableEq, Repr, Inhabited

/-- What a settle has formed and not yet issued (R202): register values by key (key, reset value, value), rod states, and
orders. -/
structure SettleP where
  regs : List (Nat × Nat × Nat) := []
  rods : List RodS := []
  moves : List MoveS := []
  restFails : Nat := 0
  /-- Targets of FEED bays, beads, and posted power of bays. -/
  targets : List (Nat × Nat) := []
  powers : List (Nat × ℚ) := []
  raw : RawS := {}
  /-- Orders: BAYn_ALIM, LOOPn_ALIM, throttle steps, loop references (10 mA). -/
  balim : List (Nat × Nat) := []
  lalim : List (Nat × Nat) := []
  steps : List (Nat × Nat) := []
  refs : List (Nat × Int) := []
  /-- Events raised. -/
  evs : List Nat := []
  /-- Moves: groups whose discharge starts and groups whose discharge ends; the rest that is admitted, refused, ended. -/
  learnOn : List Nat := []
  learnOff : List Nat := []
  restOn : Option Nat := .none
  restNo : Bool := false
  restOff : Bool := false
  /-- The release asked for by a two-wire port: port, and whether it is granted (R218). -/
  release : Option (Nat × Bool) := .none
  /-- The microsecond count at which it was formed. -/
  us : Nat := 0
deriving DecidableEq, Repr, Inhabited

/-- What the abacus holds beside its registers (chapter 8). -/
structure AbcS where
  /-- Samples in the cycle in progress, in the closed sums, and the cycles that the closed sums cover. -/
  cycN : Nat := 0
  sumN : Nat := 0
  span : Nat := 0
  pend : Option SettleP := .none
  rods : Vector RodS 64 := Vector.replicate 64 {}
  moves : Vector MoveS 8 := Vector.replicate 8 {}
  /-- A rest that is asked for, the strings whose BAT_REST waits behind it, oldest first, the rest in force, and settles in a
  row in which its condition failed (R214, R215, R283). -/
  restAsk : Option Nat := .none
  restWait : List Nat := []
  rest : Option Nat := .none
  restFails : Nat := 0
  /-- Consecutive late settles (R43). -/
  lateRun : Nat := 0
  /-- The raw figures of the last settle that issued, until the balance has taken them. -/
  raw : Option RawS := .none
deriving DecidableEq, Repr, Inhabited

/-- The hold-up fast path beside its registers (chapter 9). -/
structure HldS where
  /-- Microsecond counts of the last trigger and of the last update of HLD_EUSE. -/
  trigUs : Nat := 0
  euUs : Nat := 0
  /-- A settle of the episode has issued (R236); the first one ends a rest (R242). -/
  settled : Bool := false
  /-- Energy drawn by the armed loops, 12.5 µJ units (R241). -/
  drawn : Int := 0
deriving DecidableEq, Repr, Inhabited

/-- A balance candidate over the window in progress (R247 to R252): weighted sums of x, x² and x r; its member stayed
closed or running; the telemetry runs, and the figure read in the window. -/
structure BalC where
  sx : ℚ := 0
  sxx : ℚ := 0
  sxr : ℚ := 0
  steady : Bool := true
  telRun : Nat := 0
  telOk : Nat := 0
  telBad : Bool := false
  telSum : ℚ := 0
  telN : Nat := 0
  telFail : Bool := false
  /-- Sum of the posted power of the window, for the comparison of R252. -/
  pow : ℚ := 0
deriving DecidableEq, Repr, Inhabited

/-- The balance (chapter 9): cycles entered by weight, void cycles, sums of r, r², S; the least and greatest survey codes
of the window by channel; the last candidate that was compared. -/
structure BalS where
  n : Nat := 0
  void : Nat := 0
  sr : Int := 0
  srr : Int := 0
  ss : Int := 0
  cand : Vector BalC 73 := Vector.replicate 73 {}
  lo : Store := []
  hi : Store := []
deriving DecidableEq, Repr, Inhabited

/-- A module record (R280): identity, learned capacity and DCHG in mC, when its module was last seen, and the register
fields of the BAT page that it holds, by key within the page. -/
structure ModRec where
  idx : Nat := 0
  id : Nat := 0
  ql : Nat := 0
  dchg : Int := 0
  seen : Nat := 0
  regs : Store := []
deriving DecidableEq, Repr, Inhabited

/-- What a battery string holds beside its registers (chapter 10). -/
structure BatS where
  /-- The coulomb counter, mC, and the residue, 1/16 pC (R258). -/
  count : Int := 0
  res : Int := 0
  /-- The anchor: SoC in percent, and the count at it (R260). -/
  socA : ℚ := 0
  cntA : Int := 0
  /-- Learned capacity, mC; 0 while none is loaded. -/
  ql : Nat := 0
  /-- COUNT_start and COUNT_max of a discharge (R270). -/
  cnt0 : Int := 0
  cntMax : Int := 0
  /-- Charged at more than C/100 since FULL last cleared (R263). -/
  charged : Bool := false
  /-- UNC in 1/14,400,000,000 %, and the microsecond count from which it grows in PSEUDO (R266). -/
  unc : Nat := 288000000000
  uncUs : Nat := 0
  /-- The microsecond count of the last rest point, and whether there has been one (R267). -/
  sinceUs : Nat := 0
  rested : Bool := false
  /-- Sums for the 1 s means of V and I and for the 10 s mean of T. -/
  vSum : Int := 0
  iSum : Int := 0
  viN : Nat := 0
  viUs : Nat := 0
  tSum : Int := 0
  tN : Nat := 0
  /-- DCHG with every rise of COUNT so far, mC (R274). -/
  dchg : Int := 0
  /-- Rest: 0 none, 1 asked by rotation, 2 asked by a command, 3 in force; a rest point was taken in it; the string is due;
  a request is to be repeated (R277). -/
  rest : Nat := 0
  restPt : Bool := false
  due : Bool := false
  again : Bool := false
  /-- Offset calibration runs (R259). -/
  cal : Bool := false
  /-- Identity reads tried since insertion; none while the identity is settled (R279). -/
  tries : Option Nat := .none
deriving DecidableEq, Repr, Inhabited

/-- A transaction of a controller port (R387): class 0 trim, 1 identity, 2 telemetry, 3 host, of a bay, a string, or
nothing; retries and arbitration losses so far; it waits for t_BUF or for a STOP. -/
structure Xact where
  cls : Nat := 3
  arg : Nat := 0
  /-- The number of a trim write among those of its bay (R211). -/
  tag : Nat := 0
  addr : Nat := 0
  code : Nat := 0
  data : List Nat := []
  /-- The port sends the last byte: the bytes of the transaction end with its PEC (R385). -/
  write : Bool := false
  retries : Nat := 0
  losses : Nat := 0
  again : Bool := false
deriving DecidableEq, Repr, Inhabited

/-- What a controller port holds beside its registers (chapter 14). -/
structure TwcS where
  queue : List Xact := []
  run : Option Xact := .none
  /-- The 35 ms line judgement runs (R396). -/
  judge : Bool := false
  /-- The cure: entries taken once, skipped entries, entries to be asked again (R391, R393). -/
  taken : List Nat := []
  skipped : List Nat := []
  again : List Nat := []
  /-- The entry for which a release is asked; the entry whose bay is cycled, and whether its ramp back has begun. -/
  ask : Option Nat := .none
  cyc : Option Nat := .none
  back : Bool := false
deriving DecidableEq, Repr, Inhabited

/-- The loop analyzer and impedance engine beside its registers (chapter 19). -/
structure LanS where
  /-- The command that runs a sweep; the group of an automatic point. -/
  seq : Option Nat := .none
  group : Nat := 0
  /-- Arguments of the sweep (R495). -/
  fstart : Nat := 0
  fstop : Nat := 0
  npts : Nat := 0
  settle : Nat := 0
  intc : Nat := 0
  amp : Nat := 0
  /-- The phase accumulator of the generator, 2⁻³² of a turn. -/
  phase : Nat := 0
  /-- Results of the points: frequency, gain (Q8.8 dB), unwrapped phase (0.01°), and whether it is LOWSNR. -/
  pts : List (Nat × Int × Int × Bool) := []
  /-- When an impedance entry (168 × string + entry) was last measured, and when it was last LOWSNR (R492). -/
  zDone : List (Nat × Nat) := []
  zWait : List (Nat × Nat) := []
deriving DecidableEq, Repr, Inhabited

/-- A frame that a ring holds (R411, R412): its type, US, FSEQ, and its words as (bank, first word, number). -/
structure FrameR where
  typ : Nat := 1
  us : Nat := 0
  fseq : Nat := 0
  segs : List (Nat × Nat × Nat) := []
deriving DecidableEq, Repr, Inhabited

/-- A trigger window (R416 to R420): t, PRE_eff in µs, the frames of its snapshot, whether the snapshot is CUT, whether it
has ended, and whether its release has been asked for. -/
structure WinS where
  t : Nat := 0
  pre : Nat := 0
  snap : List FrameR := []
  cut : Bool := false
  ended : Bool := false
  rel : Bool := false
deriving DecidableEq, Repr, Inhabited

/-- A ring's writer (R411 to R415): its place, its frames, oldest first, its layout generation, whether a LAYOUT frame is
due, and the codes and the lanes' loops of the layout in force. -/
structure RingS where
  bank : Nat := 0
  word : Nat := 0
  frames : List FrameR := []
  fseq : Nat := 0
  lgen : Nat := 0
  due : Bool := true
  codes : List (Option Nat) := []
  loops : List Nat := []
deriving DecidableEq, Repr, Inhabited

/-- The capture side (R414 to R421): the start of the frame in progress, whether a trigger fell in it and whether the rates
of THROTTLED are in force, when the device last entered or left THROTTLED, the two windows, the trigger times of the vault
slots and their contents. -/
structure CapS where
  ring : RingS := {}
  began : Option Nat := .none
  trig : Bool := false
  throt : Bool := false
  modeUs : Nat := 0
  win : Vector WinS 2 := Vector.replicate 2 {}
  vaultT : Vector Nat 16 := Vector.replicate 16 0
  vault : List (Nat × List Nat) := []
  /-- Hold entry, while a window of source HOLD may be closed for it (R428). -/
  holdT : Option Nat := .none
deriving DecidableEq, Repr, Inhabited

/-- A host buffer in use (R423): descriptor index, address, words of room, HTAG, words written, and the byte offset of the
first frame header. -/
structure BufS where
  idx : Nat := 0
  addr : Nat := 0
  room : Nat := 0
  htag : Nat := 0
  used : Nat := 0
  first : Option Nat := .none
deriving DecidableEq, Repr, Inhabited

/-- The stream side (R422 to R427): codes lowered by steps (channel c, or 384 + k for lane k) as last ordered and in force,
when the last step was ordered, the fill at the last step instant, step instants in a row below LOWAT, a layout set by a
step, lossy mode in force, frames missing in a stall (US of the first, number), frames lost (FSEQ of the first, number),
the words of the frame that is being copied that are still to be copied, whether that frame is the oldest of the ring, the
buffer in use, and the descriptors that the host has placed. -/
structure StrS where
  ring : RingS := {}
  lowered : List (Nat × Nat) := []
  lowNow : List (Nat × Nat) := []
  stepUs : Nat := 0
  fill : ℚ := 0
  lowRun : Nat := 0
  decim : Bool := false
  lossy : Bool := false
  stall : Option (Nat × Nat) := .none
  lost : Option (Nat × Nat) := .none
  rest : List Nat := []
  cur : Bool := false
  buf : Option BufS := .none
  descs : List (Nat × List Nat) := []
deriving DecidableEq, Repr, Inhabited

/-- The gallery (chapter 17): the tail, the spill, the long-term log with the sector of each record, the next SEQ, the SEQ
of the last CLEARED record, pages written to the log, renewals of the nonce, the clear key, refusals since the last REFUSED
record by reason, OPH at the start of the microsecond counter and the highest OPH in an eMRAM slot, PCC, the cause of a thaw
that a reset brought, the windows, and whether a load of either is not complete. -/
structure GalS where
  tail : List Rec := []
  spill : List Rec := []
  nvm : List (Rec × Nat) := []
  next : Nat := 1
  clr : Nat := 0
  pages : Nat := 0
  nonce : Nat := 0
  key : Option (List Nat) := .none
  refS : Nat := 0
  refL : Nat := 0
  ophBase : Nat := 0
  ophNvm : Nat := 0
  pcc : Nat := 0
  thaw : Option Nat := .none
  win : List Nat := []
  twin : List Nat := []
  load : Bool := false
  tload : Bool := false
deriving DecidableEq, Repr, Inhabited

/-- The fault collector beside its registers (chapter 16): bucket units, the times of ordered warm resets (eMRAM) and of the
last HOLD token that acted as CONTAIN, the order in force, a HOLD token deferred past replay, the time of the last
injection, an overflow of the open list and of the island buffer, and the fault pair: swapped, and failed. -/
structure FltS where
  units : List BktUnit := []
  resets : List Int := []
  limUs : Option Int := .none
  order : Option Nat := .none
  deferred : Bool := false
  injUs : Option Nat := .none
  ovf : Bool := false
  islOvf : Bool := false
  swapped : Bool := false
  pairFail : Bool := false
deriving DecidableEq, Repr, Inhabited

/-- The instructions of the TAP (R553). -/
inductive TapInstr
  | bypass | idcode | samplePreload | extest | clamp
deriving DecidableEq, Repr, Inhabited

/-- The TAP (R553): its instruction register, which IEEE 1149.1 resets to IDCODE (PRESUMED, log entry 120), and the levels that
the boundary register holds for the balls of `boundaryBalls`, in that order. -/
structure TapS where
  ir : TapInstr := .idcode
  boundary : List Bool := []
deriving DecidableEq, Repr, Inhabited

/-- The whole device (chapters 2, 3, 18, 20 to 22): the L-die is held in reset, because PE_PERST_N
is low or its supplies have not yet been good for 1 ms since the cold reset; a hard reset is in progress; the L-die supplies that
are out (0 VAUX33, 1 VDDL, 2 VDDS, 3 VDD18, 4 VDDPX); the start of the L-die boot under way; no RUN entry since the cold
reset; a hard reset since the last RUN entry; the start of the 10 ms of a temperature shutdown; the power-up P-die BIST
(passed, signature, duration) and whether the boot presence debounce has ended; the last heartbeat; failed sends in a row of
a bridge transfer; the path of the lock key sequence; restarts of policy cores (core, time); open mailbox
exchanges (core, request words); the firmware slot and the image slot that are selected, and the selections that wait for a
boot (slot, TRIAL); the last verification of each slot; the NVC transfer in progress (bank, slot, offset and length in words)
and the slot that is being verified; the words of the slots (slot × 2¹⁸ + word; 4 is the OTP); the BIST that runs (test, bank,
SEQ, start) and the logic BIST result that the island holds (SEQ, signature, duration); valid conversions in a row of the two
die sensors, and the time since which both readings are cool; the PLL has been on the
crystal since the cold reset, and FORCEINT holds it on the internal oscillator; a journal copy above LAST that the next scan
will erase; the boundary-scan TAP. -/
structure SysS where
  perst : Bool := true
  rstN : Bool := false
  supOut : List Nat := []
  boot : Option Nat := .none
  cold : Bool := true
  hard : Bool := false
  grace : Option Nat := .none
  pdie : Option (Bool × Nat × Nat) := .none
  present : Bool := false
  hbUs : Nat := 0
  bridge : Nat := 0
  lockPath : Nat := 0
  restarts : List (Nat × Nat) := []
  mbx : List (Nat × List Nat) := []
  fwSel : Nat := 0
  imgSel : Nat := 0
  fwPend : Option (Nat × Bool) := .none
  imgPend : Option (Nat × Bool) := .none
  verified : List (Nat × Bool) := []
  xfer : Option (Nat × Nat × Nat × Nat) := .none
  verify : Option Nat := .none
  slots : Store := []
  bist : Option (Nat × Nat × Nat × Nat) := .none
  logic : Option (Nat × Nat × Nat) := .none
  lGood : Nat := 3
  pGood : Nat := 3
  coolUs : Option Nat := .none
  xtalEver : Bool := false
  forced : Bool := false
  stale : Bool := false
  tap : TapS := {}
deriving DecidableEq, Repr, Inhabited

/-- What leaves the device on its links, in order (DESIGN CHOICE, log entry 3). -/
inductive Out
  | msix (vector : Nat)
  | ringReport (address : Nat) (words : List Nat)
  | hostWrite (address : Nat) (words : List Nat)
  | tieMessage (tie header : Nat) (objects : List Nat) (frame : Nat)
  | tieReceipt (tie header frame : Nat)
  | tieHardReset (tie : Nat)
  | iddexFrame (bytes : List Nat)
  | iddexSync
  | pmbus (port address code : Nat) (data : List Nat)
  | throttle (bay pulses : Nat)
  | pairMarker
  | configRetry
deriving DecidableEq, Repr, Inhabited

/-- What stops the block. -/
inductive Fault
  /-- Raised by COLD_RESET with the TEST_MODE ball high: production test "is not supported in a shelf" (R549), and no rule gives it
  an effect. Safe: the model stops where the manual describes nothing. -/
  | productionTest
deriving DecidableEq, Repr

/-- Why a command has no meaning here. -/
inductive Refusal
  /-- No meaning is written for the command yet; raised by `exec`'s refused arms only. Safe: the model stops. -/
  | notModelled (mnemonic : String)
deriving DecidableEq, Repr

/-- The state. -/
structure State where
  /-- Commands that wait, first in, first out. -/
  pending : List Instr := []
  mode : Mode := .boot
  /-- The microsecond counter, 64 bits (R33). -/
  us : Nat := 0
  /-- Register values as a read returns them: shadow values of staged fields (R57). -/
  regs : Store := []
  /-- Active values of staged fields. -/
  act : Store := []
  /-- Snapshots of pages whose commit is not applied (R58). -/
  snap : Store := []
  /-- When the snapshot of a page was taken: page and microsecond count (R58). -/
  snapUs : List (Nat × Nat) := []
  /-- Parts of a divided snapshot that are applied: page and part (R58, R194). -/
  partsDone : List (Nat × Nat) := []
  /-- What left the device, oldest first. -/
  out : List Out := []
  /-- The last value returned to a host read. -/
  rdata : Nat := 0
  /-- Survey samples in the present millisecond. -/
  svN : Nat := 0
  /-- The microsecond count at which hold began (R201). -/
  holdUs : Nat := 0
  /-- How many free values have been drawn (the model's own). -/
  draws : Nat := 0
  /-- Sources that are pending (R67). -/
  evPend : List Nat := []
  evq : List QEntry := []
  evqOvf : Bool := false
  vec : Vector VecS 32 := Vector.replicate 32 {}
  /-- Address and data words of the MSI-X table (R60): word 4 v + i of entry v, i < 3. -/
  msix : Store := []
  /-- Page and offset of the last JREJ and of the last LOCKREJ (R52, R55). -/
  jrejDetail : Nat := 0
  lockrejDetail : Nat := 0
  /-- Tokens sent and not yet taken by the collector (R17, R436). -/
  tokenQ : List Tok := []
  islBuf : List Tok := []
  islOvf : Nat := 0
  offers : List Offer := []
  /-- Occupied and freed positions of the journal that are still held, oldest acceptance first (R93). -/
  jnl : List JEntry := []
  /-- The command whose journal write met a failure, with its path (R94). -/
  jHeld : Option (List Nat × Bool) := .none
  /-- Injections armed on the journal macros (R452): bit m for macro m. -/
  jInject : Nat := 0
  /-- The command entries that the host has placed in its memory, by address (R88). -/
  hostRing : List (Nat × List Nat) := []
  repHeld : List Report := []
  /-- The report ring is full, and RPTHELD has been raised for it (R89). -/
  rptFull : Bool := false
  /-- A spell of redirection is on (R90), and a fatal AER error has been logged. -/
  redirect : Bool := false
  aerFatal : Bool := false
  twq : List (List Nat) := []
  twHeld : List (List Nat) := []
  /-- The 64 staged command bytes (R91). -/
  twStage : List Byte := List.replicate 64 0
  /-- The staged command waits behind the power-fail warning (R537). -/
  twWaiting : Bool := false
  /-- The power-fail warning is on: commands are neither fetched nor checked (R537, R538). -/
  pfwOn : Bool := false
  /-- A GLB_WARMRESET has its DONE report issued, so a warm reset begins (R530). -/
  warmArmed : Bool := false
  bay : Vector BayS 48 := Vector.replicate 48 {}
  loop : Vector LoopS 16 := Vector.replicate 16 {}
  ph : Vector PhS 64 := Vector.replicate 64 {}
  rail : Vector RailS 96 := Vector.replicate 96 {}
  fl : Vector FlightS 8 := Vector.replicate 8 {}
  idx : IdxS := {}
  tie : Vector TieS 4 := Vector.replicate 4 {}
  abc : AbcS := {}
  hld : HldS := {}
  bal : BalS := {}
  bat : Vector BatS 24 := Vector.replicate 24 {}
  /-- Module records: working copies in island RAM, and the copies in eMRAM (R281); a deferred commit is due, and the
  microsecond count of the last one. -/
  recs : List ModRec := []
  recsNvm : List ModRec := []
  recDue : Bool := false
  recUs : Nat := 0
  twc : Vector TwcS 8 := Vector.replicate 8 {}
  /-- Pointers of the register target and of the fast target (R376, R383), and the bytes that the last two-wire read sent. -/
  twPtr : Nat := 0
  twFast : Nat := 0
  rbytes : List Nat := []
  lan : LanS := {}
  mem : Memory := []
  cap : CapS := {}
  str : StrS := {}
  /-- Words stored with inverted check bits (R452): bank, word, and whether the error cannot be corrected. -/
  memBad : List (Nat × Nat × Bool) := []
  gal : GalS := {}
  flt : FltS := {}
  sys : SysS := {}
deriving DecidableEq, Repr, Inhabited

/-- The NM9648 right after the cold reset of a part that leaves the factory. -/
def State.reset : State := {}

end Sys2Proof.Machine
end

