-- ==== Sys2Proof/Machine/Ops.lean ====
section
/-!
DEFINITION. The named operations over State that every meaning shares: register fields, events and their vectors,
tokens, gallery offers, commits, and the done points of journaled commands.
-/

namespace Sys2Proof.Machine

/-- The outcome of a command. -/
abbrev Res := Host.Outcome State Fault Refusal

/-! ### Register fields -/

/-- The value of a field as a read returns it, in its width: the shadow value of a staged field (R57). -/
def State.rd (s : State) (f : Fld) : Nat := s.regs.get f.key f.reset % 2 ^ f.width

/-- The value in effect: the active value of a staged field (R57). -/
def State.eff (s : State) (f : Fld) : Nat := (if f.staged then s.act.get f.key f.reset else s.regs.get f.key f.reset) % 2 ^ f.width

/-- A one-bit field as a truth value. -/
def State.rdB (s : State) (f : Fld) : Bool := s.rd f != 0

/-- A one-bit field in effect as a truth value. -/
def State.effB (s : State) (f : Fld) : Bool := s.eff f != 0

/-- The field set to `v`, cut to its width. -/
def State.wr (s : State) (f : Fld) (v : Nat) : State := { s with regs := s.regs.put f.key f.reset (v % 2 ^ f.width) }

/-- A one-bit field set to a truth value. -/
def State.wrB (s : State) (f : Fld) (b : Bool) : State := s.wr f (b2n b)

/-- The active value of a staged field set to `v`. -/
def State.wrA (s : State) (f : Fld) (v : Nat) : State := { s with act := s.act.put f.key f.reset (v % 2 ^ f.width) }

/-- Shadow and active value of a staged field set to `v` (a load of the page, R18, R519). -/
def State.load (s : State) (f : Fld) (v : Nat) : State := (s.wr f v).wrA f v

/-- A counter that saturates, increased by `n`. -/
def State.inc (s : State) (f : Fld) (n : Nat := 1) : State := s.wr f (sat f.width (s.rd f + n))

/-- A counter that wraps, increased by `n`. -/
def State.incWrap (s : State) (f : Fld) (n : Nat := 1) : State := s.wr f (s.rd f + n)

/-- Bit `b` of a field set to `x`. -/
def State.wrBit (s : State) (f : Fld) (b : Nat) (x : Bool) : State := s.wr f (putBit (s.rd f) b x)

/-- The low 32 bits of the microsecond counter. -/
def State.us32 (s : State) : Nat := s.us % 2 ^ 32

/-- What left the device, with one more entry. -/
def State.emit (s : State) (o : Out) : State := { s with out := s.out ++ [o] }

/-- The answer of a host read. -/
def State.answer (s : State) (v : Nat) : State := { s with rdata := v % 2 ^ 32 }

/-- A draw of a free value: the counter moves on (log entry 23). -/
def State.draw (s : State) (place : Nat) : BitVec 64 × State :=
  (Config.openValue place s.draws, { s with draws := s.draws + 1 })

/-! ### Device states -/

/-- RUN or its sub-state THROTTLED (Table 1.5). -/
def State.inRun (s : State) : Bool := s.mode == .run || s.mode == .throttled

/-- The L-die runs: RUN, THROTTLED or BENCH. -/
def State.lUp (s : State) : Bool := s.mode == .run || s.mode == .throttled || s.mode == .bench

/-- The throttle actions apply: the thermal level is THROTTLING (R481). -/
def State.throttling (s : State) : Bool := s.rd (thmF Reg.thmStatLevel 0) == 2

/-- The island is powered. -/
def State.islandUp (s : State) : Bool := s.mode != .off

/-! ### Retirements (R442), held in the FLT_R registers -/

/-- The register and bit that hold the retirement of channel `i` of a type: 0 bay, 1 phase, 2 survey channel, 3 segment,
4 tie port, 5 bank, 6 Iddex peer (Table 16.7). -/
def retBit (typ i : Nat) : Fld × Nat :=
  if typ = 0 then (if i < 32 then (flt1F Reg.fltRbayloRet 0, i) else (flt1F Reg.fltRbayhiRet 0, i - 32))
  else if typ = 1 then (if i < 32 then (flt1F Reg.fltRphloRet 0, i) else (flt1F Reg.fltRphhiRet 0, i - 32))
  else if typ = 2 then (flt1F Reg.fltRsvRet (i / 32), i % 32)
  else if typ = 3 then (flt1F Reg.fltRmiscTwc 0, i)
  else if typ = 4 then (flt1F Reg.fltRmiscTie 0, i)
  else if typ = 5 then (flt1F Reg.fltRmemRet (i / 32), i % 32)
  else (flt1F Reg.fltRmiscIdx 0, i)

/-- The channel is retired. -/
def State.retired (s : State) (typ i : Nat) : Bool := bitOf (s.rd (retBit typ i).1) (retBit typ i).2

/-- The retirement of a channel set or ended. -/
def State.setRetired (s : State) (typ i : Nat) (x : Bool) : State := s.wrBit (retBit typ i).1 (retBit typ i).2 x

/-! ### Gallery offers (R455 to R459) -/

/-- The words a member takes in the tail: the header and its payload. -/
def recWords (payload : List Nat) : Nat := 5 + payload.length

/-- LEN of every member is valid and the chain has at most 8 members (R455, R457, R459). -/
def Offer.lenOk (o : Offer) : Bool := o.payloads.length ≤ 8 && o.payloads.length ≥ 1 && o.payloads.all fun p => p.length ≤ 250

/-! ### Events (R66 to R70) -/

/-- The page and PG_EVT bit of an event source; none for a source that sets no bit. -/
def evBit (n : Nat) : Option (Nat × Nat) :=
  if n = 0 then some (0x000, 0) else if n = 1 then some (0x000, 1) else if n = 4 then some (0x000, 4)
  else if n = 5 then some (0x000, 5) else if n = 6 then some (0x120, 0) else if n = 7 then some (0x120, 1)
  else if 8 ≤ n ∧ n ≤ 11 then some (0x001, n - 8) else if 16 ≤ n ∧ n ≤ 23 then some (0x002, n - 16)
  else if 24 ≤ n ∧ n ≤ 27 then some (0x130, n - 24) else if 32 ≤ n ∧ n ≤ 43 then some (0x008, n - 32)
  else if 64 ≤ n ∧ n ≤ 255 then some (0x010 + (n - 64) / 4, (n - 64) % 4)
  else if 256 ≤ n ∧ n ≤ 319 then some (0x040 + (n - 256) / 4, (n - 256) % 4)
  else if 320 ≤ n ∧ n ≤ 383 then some (0x050 + (n - 320) / 4, (n - 320) % 4)
  else if 384 ≤ n ∧ n ≤ 392 then some (0x060, n - 384) else if 400 ≤ n ∧ n ≤ 404 then some (0x066, n - 400)
  else if 408 ≤ n ∧ n ≤ 411 then some (0x064, n - 408)
  else if 448 ≤ n ∧ n ≤ 543 then some (0x070 + (n - 448) / 4, (n - 448) % 4)
  else if 544 ≤ n ∧ n ≤ 575 then some (0x088 + (n - 544) / 8, (n - 544) % 8)
  else if 576 ≤ n ∧ n ≤ 735 then some (0x090 + (n - 576) / 20, (n - 576) % 20)
  else if 736 ≤ n ∧ n ≤ 767 then some (0x090 + (n - 736) / 4, 20 + (n - 736) % 4)
  else if 768 ≤ n ∧ n ≤ 776 then some (0x098, n - 768) else if 784 ≤ n ∧ n ≤ 799 then some (0x098, 9 + (n - 784))
  else if 800 ≤ n ∧ n ≤ 804 then some (0x0A0, n - 800) else if 808 ≤ n ∧ n ≤ 847 then some (0x0A1 + (n - 808) / 5, (n - 808) % 5)
  else if 848 ≤ n ∧ n ≤ 854 then some (0x0B0, n - 848) else if 880 ≤ n ∧ n ≤ 885 then some (0x0E0, n - 880)
  else if 888 ≤ n ∧ n ≤ 893 then some (0x0E4, n - 888) else if 896 ≤ n ∧ n ≤ 901 then some (0x0D0, n - 896)
  else if 944 ≤ n ∧ n ≤ 951 then some (0x0F0, n - 944) else if 952 ≤ n ∧ n ≤ 975 then some (0x0F1, n - 952)
  else if 976 ≤ n ∧ n ≤ 980 then some (0x0F8, n - 976) else if n = 981 then some (0x0F9, 0)
  else if 982 ≤ n ∧ n ≤ 984 then some (0x0F8, n - 977)
  else if 992 ≤ n ∧ n ≤ 995 then some (0x110 + (n - 992), 0) else if 996 ≤ n ∧ n ≤ 999 then some (0x110, n - 994)
  else if 1000 ≤ n ∧ n ≤ 1002 then some (0x100, n - 1000) else if n = 1008 ∨ n = 1009 then some (0x108, n - 1008)
  else if 1012 ≤ n ∧ n ≤ 1015 then some (0x110 + (n - 1012), 1) else if 1016 ≤ n ∧ n ≤ 1018 then some (0x118, n - 1016)
  else none

/-- The page on which a source lies, whether or not it sets a bit there. -/
def evPage (n : Nat) : Nat :=
  match evBit n with
  | some (pg, _) => pg
  | none =>
    if n ≤ 5 then 0x000 else if n ≤ 15 then 0x001 else if n ≤ 31 then 0x130 else if n ≤ 63 then 0x008
    else if n ≤ 399 then 0x060 else if n ≤ 407 then 0x066 else if n ≤ 447 then 0x064 else if n ≤ 783 then 0x098
    else if n ≤ 807 then 0x0A0 else if n ≤ 879 then 0x0B0 else if n ≤ 887 then 0x0E0 else if n ≤ 895 then 0x0E4
    else if n ≤ 943 then 0x0D0 else if n ≤ 991 then 0x0F8 else if n ≤ 1011 then 0x100 else 0x110

/-- A P-die source: one on a page with PG_CAP.PDIE = 1, or EV24 to EV31 (R17). -/
def pdieSource (n : Nat) : Bool := (24 ≤ n && n ≤ 31) || pagePdie (evPage n)

/-- The route of a source: vector, EN and LOG (EVT_RTk). -/
def State.route (s : State) (n : Nat) : Nat × Bool × Bool :=
  let v := if n % 4 = 0 then (Reg.evtRtVec0, Reg.evtRtEn0, Reg.evtRtLog0)
    else if n % 4 = 1 then (Reg.evtRtVec1, Reg.evtRtEn1, Reg.evtRtLog1)
    else if n % 4 = 2 then (Reg.evtRtVec2, Reg.evtRtEn2, Reg.evtRtLog2)
    else (Reg.evtRtVec3, Reg.evtRtEn3, Reg.evtRtLog3)
  (s.rd (evt1F v.1 (n / 4)), s.rdB (evt1F v.2.1 (n / 4)), s.rdB (evt1F v.2.2 (n / 4)))

/-- A vector is pending while any pending source routed to it has EN = 1 (R68). -/
def State.vecPending (s : State) (v : Nat) : Bool :=
  s.evPend.any fun n => (s.route n).1 == v && (s.route n).2.1

/-- The vector is masked: by its table entry, by the function mask, or because MSI-X or bus mastering is not enabled (R68,
R74; log entry 70). -/
def State.vecMasked (s : State) (v : Nat) : Bool :=
  (vget s.vec v).masked || s.rdB (pexF Reg.pexCmdFmask 0) || !s.rdB (pexF Reg.pexCmdMsixen 0) || !s.rdB (pexF Reg.pexCmdBme 0)

/-- One message on vector `v` leaves; its gap starts when EVT_MODv.GAP is not 0 (R68). -/
def State.sendMsg (s : State) (v : Nat) : State :=
  { s.emit (.msix v) with vec := vmod s.vec v fun x => { x with held := false, gap := s.rd ((Reg.evtModGap).at 0x004 v) != 0 } }

/-- No condition of R68 holds a message on `v` back. -/
def State.vecFree (s : State) (v : Nat) : Bool :=
  s.rdB (evt0F Reg.evtCfgGen 0) && !s.vecMasked v && !(vget s.vec v).gap

/-- A message on `v` falls due: sent at once, or held (R68). -/
def State.due (s : State) (v : Nat) : State :=
  if s.vecFree v then s.sendMsg v else { s with vec := vmod s.vec v fun x => { x with held := true } }

/-- A held message whose last holding condition ended: sent if the vector is still pending, dropped otherwise (R68). -/
def State.release (s : State) (v : Nat) : State :=
  if (vget s.vec v).held && s.vecFree v then
    if s.vecPending v then s.sendMsg v else { s with vec := vmod s.vec v fun x => { x with held := false } }
  else s

/-- Every vector whose message may go is released. -/
def State.releaseAll (s : State) : State := (List.range 32).foldl State.release s

/-- The vectors that are pending in `s` and were not in `old` get a message due. -/
def State.dueNew (old s : State) : State :=
  (List.range 32).foldl (fun t v => if s.vecPending v && !old.vecPending v then t.due v else t) s

/-- Append an entry to the event queue, with stamp `us` (R70). -/
def State.queueEv (s : State) (n us : Nat) : State :=
  if s.evq.length < 64 then
    { s with evq := s.evq ++ [{ src := n, ovf := s.evqOvf, stamp := us % 2 ^ 20 }], evqOvf := false }
  else { s with evqOvf := true }

/-- Source `n` becomes pending (R67), if it is not so already. -/
def State.pend (s : State) (n us : Nat) : State :=
  if s.evPend.contains n then s
  else
    let t := { s.queueEv n us with evPend := s.evPend ++ [n] }
    if (s.route n).2.1 && !s.vecPending (s.route n).1 then t.due (s.route n).1 else t

/-- Bit `b` of PG_EVT of page `pg` rises for source `n`, and the source becomes pending where PG_EVTEN lets it. -/
def State.setEvt (s : State) (pg b n us : Nat) : State :=
  let t := s.wrBit (hdr Reg.pgEvt pg) b true
  if bitOf (s.rd (hdr Reg.pgEvten pg)) b then t.pend n us else t

/-- Whether PG_EVT bit `b` of page `pg` is set. -/
def State.evtSet (s : State) (pg b : Nat) : Bool := bitOf (s.rd (hdr Reg.pgEvt pg)) b

/-- A refused offer is counted (R459). -/
def State.refused (s : State) (len : Bool) : State :=
  if len then { s.inc (gal0F Reg.galNrefLen 0) with gal := { s.gal with refL := s.gal.refL + 1 } }
  else { s.inc (gal0F Reg.galNrefSpace 0) with gal := { s.gal with refS := s.gal.refS + 1 } }

/-- A record that the writer refuses: counted, and RECREF (EV979) raised (R459). Its own EVENT record, where EV979 is routed
with LOG, finds no room as well and is counted. -/
def State.refuse (s : State) (len : Bool) : State :=
  let t := s.refused len
  let u := t.setEvt 0x0F8 3 979 s.us
  if !s.evtSet 0x0F8 3 && (s.route 979).2.2 then u.refused false else u

/-- A record is offered to the gallery: it waits at the writer's input, or is refused at the source (R459). Nothing is
offered while the L-die does not run. -/
def State.offer (s : State) (o : Offer) : State :=
  if !s.lUp then s
  else if !o.lenOk then s.refuse true
  else if s.offers.length < 64 then { s with offers := s.offers ++ [o] }
  else s.refuse false

/-- A record of one member. -/
def State.record (s : State) (typ src : Nat) (payload : List Nat) : State :=
  s.offer { typ := typ, src := src, payloads := [payload] }

/-- Add an entry to the island buffer, which keeps the first 256 and counts the rest (R17). -/
def State.islPush (s : State) (t : Tok) : State :=
  if s.islBuf.length < 256 then { s with islBuf := s.islBuf ++ [t] } else { s with islOvf := s.islOvf + 1 }

/-- An event condition of bit `b` on page `pg`, source `n` (R67). PG_EVT bits do not rise while the L-die is down: a
P-die event then becomes an island buffer entry (R17), any other is lost. -/
def State.raiseBit (s : State) (pg b n : Nat) : State :=
  if s.lUp then
    let t := s.setEvt pg b n s.us
    if !s.evtSet pg b && (s.route n).2.2 then t.record 0x02 n [s.us32] else t
  else if pdieSource n && s.islandUp then s.islPush { src := n, us := s.us }
  else s

/-- The event of source `n`. -/
def State.raise (s : State) (n : Nat) : State :=
  match evBit n with
  | some (pg, b) => s.raiseBit pg b n
  | none => s

/-- A fault token goes to the collector; while the L-die is down, a P-die token goes to the island buffer and any other
is lost (R17). -/
def State.token (s : State) (src kind detail : Nat) : State :=
  let t : Tok := { src := src, kind := kind, detail := detail % 2 ^ 32, us := s.us }
  if s.lUp then { s with tokenQ := s.tokenQ ++ [t] }
  else if pdieSource src && s.islandUp then s.islPush t
  else s

/-- A token whose source's event is raised with it. While the L-die is down the token's own buffer entry stands for the
event as well (R17). -/
def State.tokenEv (s : State) (src kind detail : Nat) : State :=
  if s.lUp then (s.raise src).token src kind detail else s.token src kind detail

/-- A LATE event of kind 0x2E under the race rule (R47): a token on the source, counted in FAB_RACELATE. FAB_RACELATE, FAB_ABCLATE, FAB_BALLATE and
FAB_SEQLATE wrap at 32 bits (DESIGN CHOICE: Table 2.6 says neither wrapping nor saturating; log entry 94). -/
def State.late (s : State) (src : Nat) (detail : Nat := 0) : State :=
  (s.incWrap (fabF Reg.fabRacelateCnt 0)).token src 0x2E detail

/-- The armed injection has been made (R452): ARM clears, INJECT. -/
def State.injected (s : State) : State :=
  ({ s with flt := { s.flt with injUs := some s.us } }.wr (flt0F Reg.fltInjArm 0) 0).raise 951

/-- JREJ of a page (R52). -/
def State.jrej (s : State) (pg off : Nat) : State :=
  { s.raiseBit pg 31 2 with jrejDetail := pg * 4096 + off }

/-- LOCKREJ of a page (R55). -/
def State.lockrej (s : State) (pg off : Nat) : State :=
  { s.raiseBit pg 30 3 with lockrejDetail := pg * 4096 + off }

/-- ACCESSERR (EV4) with the access in GLB_ERRADDR (R50, R61, R62). -/
def State.accessErr (s : State) (addr path : Nat) (write : Bool) : State :=
  ((((s.wr (glbF Reg.glbErraddrAddr 0) addr).wr (glbF Reg.glbErraddrPath 0) path).wrB
    (glbF Reg.glbErraddrWrite 0) write)).raise 4

/-- A lock key sequence is aborted (R72): STAGE 0, FAILS and LOCKKEYFAIL; the fourth failure sets LOCKOUT (R73). -/
def State.lockAbort (s : State) : State :=
  let n := s.rd (glbF Reg.glbLockstatFails 0) + 1
  let a := (s.wr (glbF Reg.glbLockstatStage 0) 0).wr (glbF Reg.glbLockstatFails 0) n
  (if 4 ≤ n then a.wr (glbF Reg.glbLockstatLockout 0) 1 else a).raise 5

/-- The PCIe link is up. -/
def State.linkUp (s : State) : Bool := s.rd (pexF Reg.pexLinkSpeed 0) != 0

/-- Requests to the BARs are served: the L-die runs, the link is up, and Memory Space Enable is set (R65; log entry 71). -/
def State.barOn (s : State) : Bool := s.lUp && s.linkUp && s.rdB (pexF Reg.pexCmdMse 0)

/-- The path of a host access whose row names none: BAR0, or the two-wire target where no BAR is served (log entry 71). -/
def State.hostPath (s : State) : Nat := if s.barOn then 0 else 3

/-- A host write to another register than GLB_LOCKKEY, through BAR0 where it is served: it aborts a sequence that runs on BAR0
(R72). -/
def State.barWrite (s : State) : State :=
  if s.barOn ∧ s.rd (glbF Reg.glbLockstatStage 0) ≠ 0 ∧ s.sys.lockPath = 0 then s.lockAbort else s

/-- No NVC operation runs: BUSY, and the GO or VERIFY bit that started it (log entry 92), are clear. -/
def State.nvcIdle (s : State) : State :=
  ((s.wr (nvcF Reg.nvcStatBusy 0) 0).wr (nvcF Reg.nvcCtlGo 0) 0).wr (nvcF Reg.nvcCtlVerify 0) 0

/-- The xSPI devices that a write goes to (R513). -/
def State.nvcDevs (s : State) : List Nat :=
  (if s.rdB (nvcF Reg.nvcStatDev0ok 0) then [0] else [])
    ++ (if s.rdB (nvcF Reg.nvcCfgMirror 0) && s.rdB (nvcF Reg.nvcStatDev1ok 0) then [1] else [])

/-- A program or erase on a device failed after two retries: NVMDEV with its token, and the device is out of service (R513,
R572). -/
def State.nvcFail (s : State) (d : Nat) : State :=
  (s.wr (nvcF (if d = 0 then Reg.nvcStatDev0ok else Reg.nvcStatDev1ok) 0) 0).tokenEv 1018 0x01 0

/-- Whether a page has the bit `b` both set in PG_EVT and enabled in PG_EVTEN. -/
def State.evtOn (s : State) (pg b : Nat) : Bool :=
  bitOf (s.rd (hdr Reg.pgEvt pg)) b && bitOf (s.rd (hdr Reg.pgEvten pg)) b

/-- The source of PG_EVT bit `b` of page `pg`. -/
def evtSource (pg b : Nat) : Option Nat :=
  if b = 31 then some 2 else if b = 30 then some 3
  else (List.range 1024).find? fun n => evBit n == some (pg, b)

/-- The sources pending after bit clears on page `pg`: EV2 and EV3 stay while any page holds their bit (R67). -/
def State.stillPending (s : State) (pg : Nat) (n : Nat) : Bool :=
  if n = 2 then (List.range 512).any fun p => pageListed p && s.evtOn p 31
  else if n = 3 then (List.range 512).any fun p => pageListed p && s.evtOn p 30
  else
    match evBit n with
    | some (p, b) => p != pg || bitOf (s.rd (hdr Reg.pgEvt pg)) b
    | none => true

/-- The bits of `mask` of PG_EVT on page `pg` clear, and their sources' pending state ends (R67). -/
def State.clearEvt (s : State) (pg mask : Nat) : State :=
  let t := s.wr (hdr Reg.pgEvt pg) (clrMask (s.rd (hdr Reg.pgEvt pg)) mask)
  { t with evPend := t.evPend.filter fun n => t.stillPending pg n }

/-! ### Staging and COMMIT (R57 to R59) -/

/-- The first key of a page. -/
def pageLo (pg : Nat) : Nat := pg * 131072

/-- The first key after a page. -/
def pageHi (pg : Nat) : Nat := (pg + 1) * 131072

/-- A snapshot of every shadow value of the page is taken. -/
def State.takeSnap (s : State) (pg : Nat) : State :=
  { s with snap := Store.copy stagedKey (pageLo pg) (pageHi pg) s.regs s.snap,
           snapUs := (s.snapUs.filter fun p => p.1 != pg) ++ [(pg, s.us)] }

/-- A commit of page `pg` is taken (R58): a snapshot now, or CPEND while one is in progress. -/
def State.commit (s : State) (pg : Nat) : State :=
  if s.rdB (hdr Reg.pgCbusy pg) then s.wr (hdr Reg.pgCpend pg) 1
  else (s.takeSnap pg).wr (hdr Reg.pgCbusy pg) 1

/-- The wait of a command whose commit is taken now on page `pg`. -/
def State.commitWait (s : State) (pg : Nat) : Wait :=
  if s.rdB (hdr Reg.pgCbusy pg) then .commitNext pg else .commit pg

/-- The part of the page's snapshot with keys `lo ≤ k < hi` becomes active (R58). -/
def State.applyPart (s : State) (lo hi : Nat) : State :=
  { s with act := Store.copy stagedKey lo hi s.snap s.act }

/-- A shadow value of the page differs from its active value (PG_STAT.STAGED). -/
def State.staged (s : State) (pg : Nat) : Bool :=
  (s.regs.filter fun p => decide (pageLo pg ≤ p.1) && decide (p.1 < pageHi pg) && stagedKey p.1)
    != (s.act.filter fun p => decide (pageLo pg ≤ p.1) && decide (p.1 < pageHi pg) && stagedKey p.1)

/-- The shadow values of a page return to the active ones (hold discards a set that was not committed, R14, R18). -/
def State.dropStaged (s : State) (pg : Nat) : State :=
  ((({ s with regs := Store.copy stagedKey (pageLo pg) (pageHi pg) s.act s.regs,
              snap := Store.clear (pageLo pg) (pageHi pg) s.snap,
              partsDone := s.partsDone.filter fun p => p.1 != pg }).wr (hdr Reg.pgCbusy pg) 0).wr (hdr Reg.pgCpend pg) 0)

end Sys2Proof.Machine
end

