-- ==== Sys2Proof/Machine/JournalOps.lean ====
section
/-!
DEFINITION. The command journal, its reports and done points (chapter 4): what every opcode of Table 4.2 shares.
-/

namespace Sys2Proof.Machine

/-! ### Reports (R83, R84, R88 to R92) -/

/-- w0 of a report without PHASE (Table 4.3). -/
def repWord (typ code reason : Nat) (replayed mismatch twoWire redirect : Bool) : Nat :=
  typ + code * 256 + reason * 65536 + b2n replayed * 16777216 + b2n mismatch * 33554432 + b2n twoWire * 67108864
    + b2n redirect * 134217728

/-- Entries of the command ring: 64 << SIZE, SIZE 7 taken as 6 (R88). -/
def State.ringSize (s : State) : Nat := 64 * 2 ^ min 6 (s.rd (cmd0F Reg.cmdRsizeSize 0))

/-- Slots of the report ring. -/
def State.repSize (s : State) : Nat := 64 * 2 ^ min 6 (s.rd (cmd0F Reg.cmdPsizeSize 0))

/-- The report ring is full when PTAIL + 1 equals PHEAD, modulo its size (R89). -/
def State.repFull (s : State) : Bool :=
  (s.rd (cmd0F Reg.cmdPtailIdx 0) + 1) % s.repSize == s.rd (cmdfF Reg.cmdPheadIdx 0) % s.repSize

/-- A ring report can be written now: the ring is set up and not full, and no earlier report is held. -/
def State.ringReady (s : State) : Bool := s.rdB (cmd0F Reg.cmdCfgRingen 0) && !s.repFull

/-- RPTHELD is raised when the report ring becomes full (R89). -/
def State.ringFollow (s : State) : State :=
  if s.rdB (cmd0F Reg.cmdCfgRingen 0) && s.repFull then (if s.rptFull then s else { s.raise 40 with rptFull := true })
  else { s with rptFull := false }

/-- The address of entry `i` of the command ring at CMD_RBASE (R88). -/
def State.ringAddr (s : State) (i : Nat) : Nat :=
  s.rd (cmd0F Reg.cmdRbasehiBase 0) * 2 ^ 32 + s.rd (cmd0F Reg.cmdRbaseloBase 0) * 64 + 64 * i

/-- The address of slot `i` of the report ring at CMD_PBASE (R88). -/
def State.repAddr (s : State) (i : Nat) : Nat :=
  s.rd (cmd0F Reg.cmdPbasehiBase 0) * 2 ^ 32 + s.rd (cmd0F Reg.cmdPbaseloBase 0) * 64 + 16 * i

/-- A report is written at PTAIL, and PTAIL advances with PHASE alternating on each wrap (R88). -/
def State.writeRing (s : State) (words : List Nat) : State :=
  let i := s.rd (cmd0F Reg.cmdPtailIdx 0)
  let ph := s.rd (cmd0F Reg.cmdPtailPhase 0)
  let t := s.emit (.ringReport (s.repAddr i) (words.set 0 (nth words 0 + ph * 2147483648)))
  (if i + 1 ≥ s.repSize then (t.wr (cmd0F Reg.cmdPtailIdx 0) 0).wr (cmd0F Reg.cmdPtailPhase 0) (1 - ph)
    else t.wr (cmd0F Reg.cmdPtailIdx 0) (i + 1)).ringFollow

/-- A report enters the two-wire report queue, or is held while the queue is full (R92). -/
def State.writeTw (s : State) (words : List Nat) : State :=
  if s.twq.length < 64 && s.twHeld.isEmpty then { s with twq := s.twq ++ [words] } else { s with twHeld := s.twHeld ++ [words] }

/-- A report goes to the two-wire path, or to the ring path: redirected during a spell (R90), held while the ring is full
(R89) or not enabled (DESIGN CHOICE: no rule says what becomes of a ring report with RINGEN = 0; log entry 96), written
otherwise. -/
def State.report (s : State) (twoWire : Bool) (w0 seq htag : Nat) : State :=
  let words := [w0, seq, htag, s.us32]
  if twoWire then s.writeTw words
  else if s.redirect then s.writeTw (words.set 0 (w0 + 134217728))
  else if s.ringReady && s.repHeld.isEmpty then s.writeRing words
  else { s with repHeld := s.repHeld ++ [{ words := words }] }

/-! ### Journal positions (R93) -/

/-- The held position of SEQ, if one holds a command with this SEQ. -/
def State.jFind (s : State) (seq : Nat) : Option JEntry := s.jnl.find? fun e => e.seq == seq

/-- Positions occupied: accepted commands whose DONE report is not issued (R93). -/
def State.jFill (s : State) : Nat := (s.jnl.filter fun e => !e.issued).length

/-- The entry of SEQ changed. -/
def State.jMod (s : State) (seq : Nat) (f : JEntry → JEntry) : State :=
  { s with jnl := s.jnl.map fun e => if e.seq = seq then f e else e }

/-- The opcode, instance and arguments of a journaled command (Table 4.1). -/
def JEntry.opc (e : JEntry) : Nat := bits (nth e.words 0) 0 12
/-- INST of a journaled command. -/
def JEntry.inst (e : JEntry) : Nat := bits (nth e.words 0) 16 8
/-- Argument `i` of a journaled command. -/
def JEntry.arg (e : JEntry) (i : Nat) : Nat := nth e.words (4 + i)
/-- HTAG of a journaled command. -/
def JEntry.htag (e : JEntry) : Nat := nth e.words 2

/-- The argument words of each opcode (Table 4.2); none for an opcode that is not in the table. -/
def opArgs (opc : Nat) : Option Nat :=
  if opc = 0x000 ∨ opc = 0x001 ∨ opc = 0x002 ∨ opc = 0x003 then some 0
  else if opc = 0x010 then some 12 else if opc = 0x100 then some 2 else if opc = 0x101 ∨ opc = 0x102 then some 1
  else if opc = 0x103 then some 4 else if opc = 0x200 ∨ opc = 0x201 ∨ opc = 0x202 then some 4 else if opc = 0x203 then some 8
  else if opc = 0x300 then some 4 else if opc = 0x400 then some 2 else if opc = 0x401 then some 4 else if opc = 0x500 then some 8
  else if opc = 0x600 ∨ opc = 0x601 then some 2 else if opc = 0x700 then some 2 else if opc = 0x701 then some 3
  else if opc = 0x800 then some 2 else if opc = 0xB00 then some 1 else if opc = 0xB01 then some 8 else if opc = 0xC00 then some 2
  else if opc = 0xC01 then some 6 else if opc = 0xC02 then some 2 else none

/-- The words the journal stores: w0 to w3 and the counted arguments; unused words are not written (R25, R77). -/
def journalWords (ws : List Nat) : List Nat :=
  let n := (opArgs (bits (nth ws 0) 0 12)).getD 0
  (ws.take (4 + n)) ++ List.replicate (12 - n) 0

/-- The status word of a position (R93): status, PATH, and whether the DONE report is issued; the places of its bits are the
model's (DESIGN CHOICE, log entry 98). -/
def JEntry.statusWord (e : JEntry) : Nat :=
  (match e.status with | some (c, r) => c + 256 * r + 65536 | none => 0) + 131072 * b2n e.twoWire + 262144 * b2n e.issued

/-- The 20 words of each copy of a position (R93): the 64-byte field, the status word, the CRC-32 over both, 8 reserved bytes. -/
def JEntry.position (e : JEntry) : List Nat :=
  let ws := e.words ++ [e.statusWord]
  ws ++ [(crc32 (wordBytes ws)).toNat, 0, 0]

/-- The supersede class of an opcode (Table 4.2): B 1, L 2, T 3, F 4; 0 for none. -/
def opClass (opc : Nat) : Nat :=
  if opc = 0x100 ∨ opc = 0x101 ∨ opc = 0x102 then 1 else if opc = 0x200 ∨ opc = 0x201 ∨ opc = 0x202 then 2
  else if opc = 0x701 then 3 else if opc = 0x800 then 4 else 0

/-- The status of a command is recorded (R85), and counted: SUPERSEDED in CMD_NSUP, FAILED in CMD_NFAIL with CMDFAIL. -/
def State.setStatus (s : State) (seq code reason : Nat) : State :=
  let t := s.jMod seq fun e => { e with status := some (code, reason) }
  if code = 1 then t.inc (cmd2F Reg.cmdNsupCnt 0)
  else if code = 3 then (t.inc (cmd2F Reg.cmdNfailCnt 0)).raise 42
  else t

/-- The done point of a command that has no status yet. -/
def State.done (s : State) (seq : Nat) (code reason : Nat := 0) : State :=
  match s.jFind seq with
  | some e => if e.status.isNone then (s.setStatus seq code reason).jMod seq fun x => { x with wait := .none } else s
  | none => s

/-- One waiting command reaches its done point: recorded, or, when the done bound fired before, discarded and logged as
LATE on EV42 (R87). -/
def State.doneOne (code reason : Nat) (s : State) (e : JEntry) : State :=
  let t := s.jMod e.seq fun x => { x with wait := .none }
  if e.status.isNone then t.setStatus e.seq code reason else t.late 42

/-- Every applied command that satisfies `p` reaches its done point with this status. -/
def State.doneEntries (s : State) (p : JEntry → Bool) (code reason : Nat := 0) : State :=
  (s.jnl.filter fun e => e.applied && p e).foldl (State.doneOne code reason) s

/-- Every applied command whose wait satisfies `p` reaches its done point with this status. -/
def State.doneWhere (s : State) (p : Wait → Bool) (code reason : Nat := 0) : State := s.doneEntries (fun e => p e.wait) code reason

/-- The commands that wait for `w`. -/
def State.doneWait (s : State) (w : Wait) (code reason : Nat := 0) : State := s.doneWhere (fun x => x == w) code reason

/-- The wait of a command. -/
def State.setWait (s : State) (seq : Nat) (w : Wait) : State := s.jMod seq fun e => { e with wait := w }

/-- At the application of `e`, an earlier command of the same class and INST that is applied but not done completes
SUPERSEDED (R86). One that its done bound has ended waits no longer: the done point to come is that of `e` (R87). -/
def State.supersede (s : State) (e : JEntry) : State :=
  if opClass e.opc = 0 then s
  else
    (s.jnl.filter fun x => x.applied && x.seq != e.seq && opClass x.opc == opClass e.opc && x.inst == e.inst).foldl
      (fun t x => (if x.status.isNone then t.setStatus x.seq 1 0 else t).jMod x.seq fun y => { y with wait := .none }) s

/-- The command completes REFUSED with the reason (R78). -/
def State.refuseCmd (s : State) (e : JEntry) (reason : Nat) : State := s.done e.seq 2 reason

/-- PG_LSEQ of the page the command applies to (R51; log entry 40). -/
def State.lseq (s : State) (pg : Nat) (e : JEntry) : State := s.wr (hdr Reg.pgLseq pg) e.seq

/-- After a page's snapshot is applied: commands that wait for it are done, and CPEND starts the next commit (R58). -/
def State.commitDone (s : State) (pg : Nat) : State :=
  let t := (s.wr (hdr Reg.pgCbusy pg) 0).doneWait (.commit pg)
  if s.rdB (hdr Reg.pgCpend pg) then
    let u := ((t.wr (hdr Reg.pgCpend pg) 0).takeSnap pg).wr (hdr Reg.pgCbusy pg) 1
    { u with jnl := u.jnl.map fun e => if e.wait = .commitNext pg then { e with wait := .commit pg } else e }
  else t

/-! ### Macros (R94) -/

/-- A journal macro is in service: JM0, JM1 by their OK bits, JMS (2) once the rebuild has put it into service. -/
def State.macroOk (s : State) (m : Nat) : Bool :=
  if m = 0 then s.rdB (cmd1F Reg.cmdJstatJm0ok 0) else if m = 1 then s.rdB (cmd1F Reg.cmdJstatJm1ok 0)
  else s.rdB (cmd1F Reg.cmdJstatJmsused 0)

/-- A rebuild is in progress. -/
def State.rebuilding (s : State) : Bool := s.rdB (cmd1F Reg.cmdJstatRebuild 0)

/-- The mirror is lost. -/
def State.mirrorLost (s : State) : Bool := s.rdB (cmd1F Reg.cmdJstatMirrorlost 0)

/-- REJECT report of a command that is not journaled (R80): counted in CMD_NREJc, REJECT raised, and JFULL for code 0x21. -/
def State.reject (s : State) (ws : List Nat) (twoWire : Bool) (code : Nat) : State :=
  let t := ((s.report twoWire (repWord 4 code 0 false false twoWire false) (nth ws 1) (nth ws 2)).inc
    (cmd2F Reg.cmdNrejCnt (code - 0x20))).raise 32
  if code = 0x21 then t.raise 34 else t

/-- BUSY of the staging path ends once the command's report is in the queue (R91, R92). -/
def State.twFree (s : State) : State := if s.twHeld.isEmpty then s.wr (cmd3F Reg.cmdTwstatBusy 0) 0 else s

/-- A journal macro fails (R94): a token of kind 0x01 MACRO on EV36 with MACROFAIL, and the macro leaves service. The
first failure starts a rebuild into JMS; a further one, after JMS is in service or during the rebuild, loses the mirror:
a command held in the rebuild receives REJECT MIRROR_LOST, and the gallery merges its spill (R460). -/
def State.macroFail (s : State) (m : Nat) : State :=
  let t := State.tokenEv { s with jnl := s.jnl.map fun e => { e with copies := clrMask e.copies (2 ^ m) } } 36 0x01 m
  let u := if m = 0 then t.wr (cmd1F Reg.cmdJstatJm0ok 0) 0 else if m = 1 then t.wr (cmd1F Reg.cmdJstatJm1ok 0) 0 else t
  if s.mirrorLost then u
  else if s.rebuilding || s.rdB (cmd1F Reg.cmdJstatJmsused 0) then
    let spilled := s.rebuilding && s.rd (gal0F Reg.galStatFstate 0) == 0
    let w := if spilled then u.wr (gal0F Reg.galStatFstate 0) 2 else u
    let v := ((w.wr (cmd1F Reg.cmdJstatRebuild 0) 0).wr (cmd1F Reg.cmdJstatMirrorlost 0) 1).raise 38
    match v.jHeld with
    | some (ws, tw) =>
      let x : State := { v.reject ws tw 0x25 with jHeld := none }
      if tw then x.twFree else x
    | none => v
  else u.wr (cmd1F Reg.cmdJstatRebuild 0) 1

/-- The macros that a write is made to: those in service (JMS once it is used). -/
def State.macros (s : State) : List Nat := [0, 1, 2].filter fun m => s.macroOk m

/-- The macros in service whose copy does not verify: by the operand `bad` (bit m for macro m, failing after two rewrites) or
by an injection armed on it (R94, R452). -/
def State.macroBad (s : State) (bad : Nat) : List Nat := s.macros.filter fun m => bitOf bad m || bitOf s.jInject m

/-- A copy in each macro in service, as a mask (R93). -/
def State.copyMask (s : State) : Nat := s.macros.foldl setBit 0

/-- An injection armed on the macros that the write reaches is made: INJECT (EV951) and ARM clear (R452). -/
def State.macroInject (s : State) : State :=
  if s.macros.any fun m => bitOf s.jInject m then { s with jInject := 0 }.injected else s

/-! ### Checking and acceptance (R79 to R82) -/

/-- The read of a position that the journal still holds, for R81; a copy whose CRC is wrong retires its macro (R94). -/
def State.dupRead (s : State) (ws : List Nat) (bad : Nat) : State :=
  if (s.jFind (nth ws 1)).isSome then (s.macros.filter fun m => bitOf bad m).foldl State.macroFail s else s

/-- The DUPLICATE report of R81: the recorded status of the original, PENDING while it is not done, UNKNOWN when it is no
longer or was never held. -/
def State.duplicate (s : State) (ws : List Nat) (twoWire : Bool) : State :=
  let seq := nth ws 1
  let last := s.rd (cmd1F Reg.cmdLastSeq 0)
  let held := if (last + 2 ^ 32 - seq) % 2 ^ 32 ≥ 32768 then none else s.jFind seq
  let w0 := match held with
    | none => repWord 3 0x11 0 false false twoWire false
    | some e =>
      let mis := nth e.words 3 != nth ws 3
      match e.status with
      | none => repWord 3 0x10 0 false mis twoWire false
      | some (code, reason) => repWord 3 code reason false mis twoWire false
  ((s.report twoWire w0 seq (nth ws 2)).inc (cmd2F Reg.cmdNdupCnt 0)).raise 33

/-- The command is accepted (R80 step 7): its position written in the journal, LAST advanced, the ACCEPT report issued,
JHIGH raised when CMD_JFILL rises to 24,576 (Table 4.9). -/
def State.accept (s : State) (ws : List Nat) (twoWire : Bool) : State :=
  let seq := nth ws 1
  let e : JEntry := { seq := seq, words := journalWords ws, twoWire := twoWire, copies := s.copyMask }
  let t := { s with jnl := (s.jnl.filter fun (x : JEntry) => x.seq % 32768 != seq % 32768) ++ [e] }
  let u := (t.wr (cmd1F Reg.cmdLastSeq 0) seq).wr (cmd1F Reg.cmdJfillCnt 0) t.jFill
  let v := u.report twoWire (repWord 1 0 0 false false twoWire false) seq (nth ws 2)
  if s.jFill < 24576 ∧ 24576 ≤ t.jFill then v.raise 35 else v

/-- An accepted command is applied by `ap` (R85), superseding under R86. A command that its own checks then refuse has
superseded all the same (DESIGN CHOICE, log entry 95). -/
def State.applyBy (ap : JEntry → State → State) (seq : Nat) (s : State) : State :=
  let t := s.jMod seq fun e => { e with applied := true }
  match t.jFind seq with
  | some e => ap e (t.supersede e)
  | none => t

/-- The check of an arriving command (R80), in the order of its steps, and the application of an accepted one. While the
L-die is down nothing arrives (R65), and from a power-fail warning to its end nothing is checked (R537). -/
def State.check (ap : JEntry → State → State) (ws : List Nat) (twoWire : Bool) (bad : Nat) (s : State) : State :=
  let seq := nth ws 1
  let d := (seq + 2 ^ 32 - s.rd (cmd1F Reg.cmdLastSeq 0)) % 2 ^ 32
  if !s.lUp || s.pfwOn then s
  else if cmdChk ws != nth ws 3 then s.reject ws twoWire 0x22
  else if bits (nth ws 0) 12 4 != 1 then s.reject ws twoWire 0x23
  else if d = 0 ∨ 2 ^ 31 ≤ d then (s.dupRead ws bad).duplicate ws twoWire
  else if 2 ≤ d then s.reject ws twoWire 0x20
  else if 32768 ≤ s.jFill then s.reject ws twoWire 0x21
  else if s.rebuilding then s.reject ws twoWire 0x24
  else if s.mirrorLost then s.reject ws twoWire 0x25
  else
    match s.macroBad bad with
    | [] => State.applyBy ap seq (s.accept ws twoWire)
    | l =>
      let t := l.foldl State.macroFail s.macroInject
      if t.mirrorLost then t.reject ws twoWire 0x25 else { t with jHeld := some (ws, twoWire) }

/-- The 16 words of a command entry (Table 4.1): the header and the arguments of its opcode. A header with no CHK carries
the right one (R77). -/
def cmdWords (opc inst : Nat) (h : CmdHdr) (args : List Nat) : List Nat :=
  let a := args ++ List.replicate (12 - args.length) 0
  let ws := [opc + h.ver.toNat * 4096 + inst * 65536, h.seq.toNat, h.htag.toNat, 0] ++ a
  match h.chk with
  | some c => ws.set 3 c.toNat
  | none => ws.set 3 (cmdChk ws)

/-- Commands arrive on the path: the staging path is enabled and not BUSY (R91), or the ring path is enabled, no spell of
redirection is on and the report ring takes reports (R88 to R90). -/
def State.pathOpen (s : State) (twoWire : Bool) : Bool :=
  if twoWire then s.rdB (cmd0F Reg.cmdCfgTwen 0) && !s.rdB (cmd3F Reg.cmdTwstatBusy 0)
  else s.rdB (cmd0F Reg.cmdCfgRingen 0) && !s.redirect && !s.repFull && s.repHeld.isEmpty

/-- A command arrives: on the ring path it is the entry at CMD_RHEAD, which advances past it (R88); an entry that CMD_RTAIL does
not cover yet comes with the write that covers it. -/
def State.arrive (s : State) (twoWire : Bool) : State :=
  if twoWire then s
  else
    let i := s.rd (cmd0F Reg.cmdRheadIdx 0)
    let j := (i + 1) % s.ringSize
    let a := if s.rd (cmdfF Reg.cmdRtailIdx 0) % s.ringSize = i then s.wr (cmdfF Reg.cmdRtailIdx 0) j else s
    a.wr (cmd0F Reg.cmdRheadIdx 0) j

/-- A command of one opcode arrives on its path and is checked. -/
def State.command (s : State) (ap : JEntry → State → State) (opc inst : Nat) (h : CmdHdr) (args : List Nat) : State :=
  if s.pathOpen h.twoWire then State.check ap (cmdWords opc inst h args) h.twoWire h.jbad.toNat (s.arrive h.twoWire) else s

end Sys2Proof.Machine
end

