-- ==== Sys2Proof/Machine/CaptureOps.lean ====
section
/-!
DEFINITION. Rings, frames, trigger windows and vault snapshots (chapter 15).
-/

namespace Sys2Proof.Machine

/-- The capture side changed. -/
def State.capMod (s : State) (f : CapS → CapS) : State := { s with cap := f s.cap }

/-- The stream side changed. -/
def State.strMod (s : State) (f : StrS → StrS) : State := { s with str := f s.str }

/-- Words of a bank: 1 MiB for CB0 to CB63, 64 KiB for SB0 to SB15 (R410). -/
def bankWords (m : Nat) : Nat := if m < 64 then 131072 else 8192

/-- MEMn_OWN.OWNER (Table 15.1); a retired bank reads 0 (R407). -/
def State.owner (s : State) (m : Nat) : Nat := if s.retired 5 m then 0 else s.rd (memF Reg.memOwnOwner m)

/-- The bank is in a held window. -/
def State.held (s : State) (m : Nat) : Bool := s.rdB (memF Reg.memOwnHeld m)

/-- The banks of the capture ring, ascending (R415). -/
def State.capBanks (s : State) : List Nat := (List.range 64).filter fun m => s.owner m == 1 && !s.held m

/-- The banks of the stream ring, ascending (R422). -/
def State.strBanks (s : State) : List Nat := (List.range 64).filter fun m => s.owner m == 2

/-! ### Rates and layouts (R403, R404, R411, R413) -/

/-- One code lower in THROTTLED for a survey channel with PRIO 0 (R404). -/
def State.throtStep (s : State) (c : Nat) : Nat := b2n (s.cap.throt && s.eff (srvF Reg.srvCfgPrio c) == 0)

/-- How far stream steps in force have lowered a channel (c) or lane (384 + k). -/
def State.loweredOf (s : State) (i : Nat) : Nat := match s.str.lowNow.find? fun p => p.1 == i with | some p => p.2 | none => 0

/-- The capture code of channel c or lane 384 + k; none while it is absent. -/
def State.capCode (s : State) (i : Nat) : Option Nat :=
  if i < 384 then
    (if s.effB (srvF Reg.srvCfgCapen i) then some (min 3 (s.eff (srvF Reg.srvCfgCrate i) + s.throtStep i)) else none)
  else if s.effB (llF Reg.srvLlCapen (i - 384)) && !s.cap.throt then some (min 4 (s.eff (llF Reg.srvLlCrate (i - 384)))) else none

/-- The stream code of channel c or lane 384 + k; none while it is absent. -/
def State.strCode (s : State) (i : Nat) : Option Nat :=
  if i < 384 then
    (if s.effB (srvF Reg.srvCfgStren i) then some (min 3 (s.eff (srvF Reg.srvCfgSrate i) + s.throtStep i + s.loweredOf i)) else none)
  else if s.effB (llF Reg.srvLlStren (i - 384)) && !s.cap.throt then
    some (min 4 (s.eff (llF Reg.srvLlSrate (i - 384)) + s.loweredOf i))
  else none

/-- The 384 survey channels and 16 lanes. -/
def allSources : List Nat := List.range 400

/-- The words that a source takes in a frame at a code. -/
def codeWords (i : Nat) (c : Option Nat) : Nat :=
  match c with
  | none => 0
  | some k => if i < 384 then 16 / 2 ^ k else 192 / 2 ^ k

/-- The data words of a frame with the given codes, by source. -/
def layoutWords (codes : List (Option Nat)) : Nat := sumN ((codes.zipIdx).map fun p => codeWords p.2 p.1)

/-- F: the words of a DATA frame (R415). -/
def State.frameWords (s : State) : Nat := 2 + layoutWords (allSources.map s.capCode)

/-- The 26 words of a LAYOUT frame (R413). -/
def RingS.layoutPayload (r : RingS) : List Nat :=
  let nib (i : Nat) : Nat := match (r.codes.getD i .none) with | some k => k + 4 | none => 0
  let lane (k : Nat) : Nat :=
    (match (r.codes.getD (384 + k) .none) with | some c => c + 8 | none => 0) + 16 * nth r.loops k
  ((List.range 24).map fun w => sumN ((List.range 16).map fun j => nib (16 * w + j) * 16 ^ j))
    ++ ((List.range 2).map fun w => sumN ((List.range 8).map fun j => lane (8 * w + j) * 256 ^ j))

/-- Words w0 and w1 of a frame header (Table 15.2); `flags` are bits [7:4] of w0. -/
def frameHeader (typ flags lgen us fseq nwords : Nat) : List Nat :=
  [typ + 16 * flags + 256 * (lgen % 256) + 65536 * (us % 2 ^ 48), fseq % 2 ^ 32 + 2 ^ 32 * nwords]

/-! ### Writing a ring (R415, R426, R427) -/

/-- The bank after `b` in a ring, wrapping. -/
def nextBank (banks : List Nat) (b : Nat) : Nat := (banks.find? fun m => b < m).getD (banks.headD 0)

/-- Where `n` words go from a place of a ring: pieces, and the place after them. -/
def placeWords (banks : List Nat) : Nat → Nat → Nat → Nat → List (Nat × Nat × Nat) × Nat × Nat
  | 0, b, w, _ => ([], b, w)
  | k + 1, b, w, n =>
    if n = 0 then ([], b, w)
    else
      let b' := if banks.contains b && w < bankWords b then b else nextBank banks b
      let w' := if banks.contains b && w < bankWords b then w else 0
      let m := min n (bankWords b' - w')
      let r := placeWords banks k b' (w' + m) (n - m)
      ((b', w', m) :: r.1, r.2.1, r.2.2)

/-- Two pieces share a word. -/
def segMeets (x y : Nat × Nat × Nat) : Bool := x.1 == y.1 && x.2.1 < y.2.1 + y.2.2 && y.2.1 < x.2.1 + x.2.2

/-- A frame shares a word with one of the pieces. -/
def FrameR.meets (f : FrameR) (segs : List (Nat × Nat × Nat)) : Bool := f.segs.any fun x => segs.any (segMeets x)

/-- The words of a frame. -/
def FrameR.size (f : FrameR) : Nat := sumN (f.segs.map (·.2.2))

/-- The banks that hold a frame. -/
def FrameR.banks (f : FrameR) : List Nat := f.segs.map (·.1)

/-- The words of a frame as memory holds them. -/
def State.frameMem (s : State) (f : FrameR) : List Nat := f.segs.flatMap fun x => s.mem.words (wordAddr x.1 x.2.1) x.2.2

/-- Words written into the pieces. -/
def memPieces (m : Memory) : List (Nat × Nat × Nat) → List Nat → Memory
  | [], _ => m
  | (b, w, n) :: r, ws => memPieces (m.putWords (wordAddr b w) (ws.take n)) r (ws.drop n)

/-- A frame written at a ring's place: the memory and the ring, with the frames that it overwrites, oldest first. -/
def ringWrite (m : Memory) (r : RingS) (banks : List Nat) (typ flags us : Nat) (payload : List Nat) :
    Memory × RingS × List FrameR :=
  let ws := frameHeader typ flags r.lgen us r.fseq payload.length ++ payload
  let p := placeWords banks 66 r.bank r.word ws.length
  let old := r.frames.filter fun f => f.meets p.1
  (memPieces m p.1 ws,
   { r with bank := p.2.1, word := p.2.2, fseq := (r.fseq + 1) % 2 ^ 32,
            frames := (r.frames.filter fun f => !f.meets p.1) ++ [{ typ := typ, us := us, fseq := r.fseq, segs := p.1 }] },
   old)

/-- A word lies in one of the pieces. -/
def inSegs (segs : List (Nat × Nat × Nat)) (b w : Nat) : Bool := segs.any fun x => x.1 == b && x.2.1 ≤ w && w < x.2.1 + x.2.2

/-- Pieces of banks were written: their check bits are good again, but for an armed injection on one of the banks, which is
made in the first word written (R452). -/
def State.touched (s : State) (segs : List (Nat × Nat × Nat)) : State :=
  let a := { s with memBad := s.memBad.filter fun p => !inSegs segs p.1 p.2.1 }
  if s.rdB (flt0F Reg.fltInjArm 0) && s.rd (flt0F Reg.fltInjTgt 0) == 0 then
    match segs.find? fun x => x.1 == s.rd (flt0F Reg.fltInjIndex 0) && x.2.2 != 0 with
    | some x => { a with memBad := a.memBad ++ [(x.1, x.2.1, s.rd (flt0F Reg.fltInjMode 0) == 2)] }.injected
    | none => a
  else a

/-- The pieces of the frame that was written last. -/
def RingS.last (r : RingS) : List (Nat × Nat × Nat) := match r.frames.getLast? with | some f => f.segs | none => []

/-- The payload words of a frame, exactly as many as its layout has. -/
def dataWords (n : Nat) (ws : List Nat) : List Nat := (List.range n).map (nth ws)

/-- A DATA frame of the capture ring, with the LAYOUT frame that comes first where one is due. -/
def State.capWrite (s : State) (us : Nat) (ws : List Nat) : State :=
  let banks := s.capBanks
  if !s.effB (cap0F Reg.capCfgEn 0) || banks.isEmpty then s
  else
    let codes := s.cap.ring.codes
    let a := if s.cap.ring.due || us % 1024 == 0 then
        let w := ringWrite s.mem s.cap.ring banks 3 (2 * b2n s.cap.throt) us s.cap.ring.layoutPayload
        { s with mem := w.1, cap := { s.cap with ring := { w.2.1 with due := false } } }.touched w.2.1.last
      else s
    let w := ringWrite a.mem a.cap.ring banks 1 (b2n a.cap.trig + 2 * b2n a.cap.throt) us (dataWords (layoutWords codes) ws)
    ({ a with mem := w.1, cap := { a.cap with ring := w.2.1 } }.touched w.2.1.last).wr (cap0F Reg.capFseqFseq 0) w.2.1.fseq

/-! ### Triggers and windows (R416 to R419) -/

/-- The hidden part of a window. -/
def State.winx (s : State) (k : Nat) : WinS := vget s.cap.win k

/-- The hidden part of a window changed. -/
def State.winMod (s : State) (k : Nat) (f : WinS → WinS) : State := s.capMod fun c => { c with win := vmod c.win k f }

/-- CAP_WINk_STAT.STATE: 0 FREE, 1 OPEN, 2 HELD. -/
def State.winSt (s : State) (k : Nat) : Nat := s.rd (cap1F Reg.capWinStatState k)

/-- The ring time of a number of words, µs (R415). -/
def State.ringUs (s : State) (words : Nat) : ℚ := (64 * words : Nat) / ((s.frameWords : ℚ) + 7 / 4)

/-- PRE_eff in µs, rounded down; none when it is below 0 (R418). -/
def State.preEff (s : State) : Option Nat :=
  let free := s.ringUs (131072 * s.capBanks.length)
  let x : ℚ := min ((1000 * s.eff (cap0F Reg.capCfgPre 0) : Nat) : ℚ)
    (free - (1000 * s.eff (cap0F Reg.capCfgPost 0) : Nat) - s.ringUs 131072)
  if x < 0 then none else some x.floor.toNat

/-- The CAPTRIG record (Table 17.2). -/
def State.trigRecord (s : State) (src win t : Nat) : State := s.record 0x10 880 [src, win, t % 2 ^ 32]

/-- A trigger that finds no window is missed (R417, R418). -/
def State.trigMissed (s : State) (src t : Nat) : State :=
  ((s.inc (cap0F Reg.capNtrigMissed 0)).raise 882).trigRecord src 0xFF t

/-- A trigger of source `src` at `t` (R416 to R418); with CAP_CFG.EN = 0 none is taken (DEDUCED, log entry 37). -/
def State.capTrigger (s : State) (src t : Nat) : State :=
  if !s.lUp || !s.effB (cap0F Reg.capCfgEn 0) then s
  else
    let a := ((s.inc (cap0F Reg.capNtrigTrigs 0)).raise 880).capMod fun c => { c with trig := true }
    if a.winSt 0 = 1 ∨ a.winSt 1 = 1 then
      let k := if a.winSt 0 = 1 then 0 else 1
      ((a.inc (cap0F Reg.capNtrigMerged 0)).inc (cap1F Reg.capWinStatNmerge k)).trigRecord src k t
    else
      match (List.range 2).find? (fun k => a.winSt k == 0), a.preEff with
      | some k, some pre =>
        let b := (((((((((a.wr (cap1F Reg.capWinStatState k) 1).wr (cap1F Reg.capWinStatVaulted k) 0).wr
          (cap1F Reg.capWinStatVfail k) 0).wr (cap1F Reg.capWinStatSrc k) src).wr (cap1F Reg.capWinStatNmerge k) 0).wr
          (cap1F Reg.capWinStatPreeff k) (pre / 1000)).wr (cap1F Reg.capWinStatSlot k) 0xFF).wr (cap1F Reg.capWinTUs k) t).winMod k
          fun _ => { t := t, pre := pre })
        b.trigRecord src k t
      | _, _ => a.trigMissed src t

/-- The frames from the last LAYOUT frame at or before `t0`, or from the oldest frame without one. -/
def framesFrom (l : List FrameR) (t0 : Nat) : List FrameR :=
  match (l.zipIdx.filter fun p => p.1.typ == 3 && p.1.us ≤ t0).getLast? with
  | some p => l.drop p.2
  | none => l

/-- The most recent frames that fit in `room` words. -/
def lastFrames (room : Nat) : List FrameR → List FrameR
  | [] => []
  | f :: r => if sumN ((f :: r).map FrameR.size) ≤ room then f :: r else lastFrames room r

/-- A snapshot is being written to a vault slot. -/
def State.slotBusy (s : State) (j : Nat) : Bool :=
  [0, 1].any fun k => s.winSt k == 2 && !(s.winx k).ended && s.rd (cap1F Reg.capWinStatSlot k) == j

/-- The vault slot that a snapshot takes (R421): an invalid slot, which holds no trigger, or else the unlocked one with the
oldest trigger. A slot that the snapshot of the other window is being written to is not taken (DEDUCED, log entry 37). -/
def State.vaultSlot (s : State) : Option Nat :=
  match (List.range 16).find? fun j => !s.rdB (cap3F Reg.capVslotValid j) && !s.slotBusy j with
  | some j => some j
  | none =>
    ((List.range 16).filter fun j => !s.effB (cap3F Reg.capVslotLock j) && !s.slotBusy j).foldl (fun best j =>
      match best with
      | some b => if vget s.cap.vaultT j < vget s.cap.vaultT b then some j else some b
      | none => some j) none

/-- CAP_VSLOTj [6:0] (Table 15.6). -/
def State.vslotFlags (s : State) (j : Nat) : Nat :=
  s.rd (cap3F Reg.capVslotValid j) + 2 * s.rd (cap3F Reg.capVslotLock j) + 4 * s.rd (cap3F Reg.capVslotCut j)
    + 8 * s.rd (cap3F Reg.capVslotMirror1 j) + 16 * s.rd (cap3F Reg.capVslotSrc j)

/-- The SNAPSHOT record (Table 17.2). -/
def State.snapRecord (s : State) (k slot flags : Nat) : State :=
  s.record 0x11 (if s.rdB (cap1F Reg.capWinStatVfail k) then 884 else 883) [slot, flags, s.rd (cap1F Reg.capWinTUs k)]

/-- The snapshot of a window begins (R420, R421): its frames, cut to the 8 MiB slot with a LAYOUT frame first. -/
def State.snapBegin (s : State) (k : Nat) : State :=
  let w := s.winx k
  match s.vaultSlot with
  | none => ((s.wr (cap1F Reg.capWinStatVfail k) 1).snapRecord k 0xFF 0).winMod k fun x => { x with ended := true }
  | some j =>
    let all := framesFrom s.cap.ring.frames (w.t - 1000 * s.eff (cap0F Reg.capCfgSnpre 0))
    let cut := decide (1048576 < sumN (all.map FrameR.size))
    let kept := lastFrames (1048576 - 28) all
    let lay := (all.take (all.length - kept.length)).reverse.find? fun f => f.typ == 3
    let frames := if cut then (match lay with | some f => f :: kept | none => kept) else all
    ((s.wr (cap1F Reg.capWinStatSlot k) j).wr (cap3F Reg.capVslotValid j) 0).winMod k fun x => { x with snap := frames, cut := cut }

/-- A window closes with the frame that ends now (R418): its banks are held, and its snapshot begins. -/
def State.winClose (s : State) (k : Nat) : State :=
  let w := s.winx k
  let fs := framesFrom s.cap.ring.frames (w.t - w.pre)
  let banks := (fs.flatMap FrameR.banks).eraseDups
  let mask := sumN (banks.map fun b => 2 ^ b)
  let first := (fs.head?.bind fun f => f.segs.head?).getD (0, 0, 0)
  let last := (fs.getLast?.bind fun f => f.segs.head?).getD (0, 0, 0)
  let a := banks.foldl (fun t b => t.wr (memF Reg.memOwnHeld b) 1) (s.wr (cap1F Reg.capWinStatState k) 2)
  let b := (((((a.wr (cap1F Reg.capWinMaskloHeld k) mask).wr (cap1F Reg.capWinMaskhiHeld k) (mask / 2 ^ 32)).wr
    (cap1F Reg.capWinFirstBank k) first.1).wr (cap1F Reg.capWinFirstWord k) first.2.1).wr (cap1F Reg.capWinLastBank k) last.1).wr
    (cap1F Reg.capWinLastWord k) last.2.1
  (b.raise 881).snapBegin k

/-- A held window is released once its snapshot has ended and its release has been asked for (R419). -/
def State.winRelease (s : State) (k : Nat) : State :=
  let w := s.winx k
  if s.winSt k = 2 ∧ w.ended ∧ w.rel then
    let mask := s.rd (cap1F Reg.capWinMaskloHeld k) + 2 ^ 32 * s.rd (cap1F Reg.capWinMaskhiHeld k)
    let other := 1 - k
    let omask := if s.winSt other = 2 then s.rd (cap1F Reg.capWinMaskloHeld other) + 2 ^ 32 * s.rd (cap1F Reg.capWinMaskhiHeld other) else 0
    let gone := (List.range 64).filter fun m => bitOf mask m && !bitOf omask m
    let a := gone.foldl (fun t m => t.wr (memF Reg.memOwnHeld m) 0) (s.wr (cap1F Reg.capWinStatState k) 0)
    let b := (a.wr (cap1F Reg.capWinMaskloHeld k) 0).wr (cap1F Reg.capWinMaskhiHeld k) 0
    (b.winMod k fun _ => {}).capMod fun c =>
      { c with ring := { c.ring with frames := c.ring.frames.filter fun f => !f.banks.any fun m => gone.contains m } }
  else s

/-- FWORDS, FREEB and the ring time (R415). -/
def State.capShow (s : State) : State :=
  let n := s.capBanks.length
  ((s.wr (cap0F Reg.capStatFwords 0) s.frameWords).wr (cap0F Reg.capStatFreeb 0) n).wr (cap0F Reg.capRingT 0)
    (sat 16 (qround (s.ringUs (131072 * n) / 10)).toNat)

/-! ### Memory errors (R409) -/

/-- An uncorrectable word of a bank is found by a read (R409). -/
def State.eccUnc (s : State) (m w : Nat) : State :=
  ((((s.inc (memF Reg.memEccUncorr m)).wr (memF Reg.memErradrWord m) w).wr (memF Reg.memErradrKind m) 2).raise 899).token 899 0x02
    (m + 128 * w)

/-- A single-bit error of a bank is corrected in a read (R409). -/
def State.eccCorr (s : State) (m w : Nat) : State :=
  (((s.inc (memF Reg.memEccCorr m)).wr (memF Reg.memErradrWord m) w).wr (memF Reg.memErradrKind m) 1).raise 898

/-- The words of a list (bank, word) that lie in a frame. -/
def FrameR.bad (f : FrameR) (l : List (Nat × Nat)) : List (Nat × Nat) := l.filter fun u => inSegs f.segs u.1 u.2

/-- Words that read as uncorrectable, or as corrected: those that the read met, and those of injections. -/
def State.badWords (s : State) (l : List (Nat × Nat)) (unc : Bool) : List (Nat × Nat) :=
  l ++ (s.memBad.filter fun p => p.2.2 == unc).map fun p => (p.1, p.2.1)

/-- The words of a frame as a reader takes them: an uncorrectable word reads 0, and the ECC flag of the header is set. -/
def State.frameRead (s : State) (f : FrameR) (unc : List (Nat × Nat)) : List Nat :=
  let bad := f.bad (s.badWords unc true)
  let ws := f.segs.flatMap fun x => (List.range x.2.2).map fun i =>
    if bad.contains (x.1, x.2.1 + i) then 0 else s.mem.word (wordAddr x.1 (x.2.1 + i))
  if bad.isEmpty then ws else ws.set 0 (setBit (nth ws 0) 6)

/-- The errors that a read of frames found; a corrected word is written back. -/
def State.eccFound (s : State) (fs : List FrameR) (unc corr : List (Nat × Nat)) : State :=
  let u := fs.flatMap fun f => f.bad (s.badWords unc true)
  let c := fs.flatMap fun f => f.bad (s.badWords corr false)
  let a := c.foldl (fun t p => t.eccCorr p.1 p.2) (u.foldl (fun t p => t.eccUnc p.1 p.2) s)
  { a with memBad := a.memBad.filter fun p => p.2.2 || !c.contains (p.1, p.2.1) }

end Sys2Proof.Machine
end

