-- ==== Sys2Proof/Machine/LoopOps.lean ====
section
/-!
DEFINITION. Loops and phases: states, starts, stops, retargets, faults, the switching set, and the limits that a loop
command or a page write is judged by (chapters 6 and 7).
-/

namespace Sys2Proof.Machine

/-! ### Survey readings -/

/-- The last survey sample of channel `c`. -/
def State.sv (s : State) (c : Nat) : Nat := s.rd (srvF Reg.srvValSample c)

/-- The bus reading, mV: SV336, 2 mV per LSB (R10, R11). -/
def State.busMv (s : State) : Nat := 2 * s.sv 336

/-- VLS of a loop, 0.1 mV units: SV(351 + n), 0.5 mV per LSB (R10). -/
def State.vls (s : State) (n : Nat) : Nat := 5 * s.sv (351 + n)

/-- The reading of a voltage channel in 1/160 mV, in which every channel's LSB is whole (R10, R100; log entry 50); an open
value for a channel that carries no voltage. -/
def State.svFine (s : State) (c : Nat) : Nat :=
  if (48 ≤ c ∧ c ≤ 95) ∨ (256 ≤ c ∧ c ≤ 279) ∨ c = 336 then 320 * s.sv c
  else if 160 ≤ c ∧ c ≤ 255 then 5 * s.sv c
  else if 337 ≤ c ∧ c ≤ 346 then 16 * s.sv c
  else if 347 ≤ c ∧ c ≤ 350 then 160 * s.sv c
  else if 351 ≤ c ∧ c ≤ 366 then 80 * s.sv c
  else if 367 ≤ c ∧ c ≤ 381 then 0
  else 160 * ((Config.openValue (1000 + c) (s.sv c)).toNat % 131072)

/-- The reading of a voltage channel in whole mV. -/
def State.svMv (s : State) (c : Nat) : Nat := s.svFine c / 160

/-! ### The parts of a loop -/

/-- LOOPn_STAT.STATE (Table 6.4). -/
def State.loopSt (s : State) (n : Nat) : Nat := s.rd (loopF Reg.loopStatState n)

/-- The hidden part of a loop. -/
def State.lp (s : State) (n : Nat) : LoopS := vget s.loop n

/-- The hidden part of a loop changed. -/
def State.loopMod (s : State) (n : Nat) (f : LoopS → LoopS) : State := { s with loop := vmod s.loop n f }

/-- "Running" of R165: RAMP, REG, OFFDELAY and RAMPDOWN. -/
def loopRunCode (st : Nat) : Bool := 2 ≤ st && st ≤ 5

/-- The loop is running. -/
def State.loopRunning (s : State) (n : Nat) : Bool := loopRunCode (s.loopSt n)

/-- The loop regulates a current (MODE = 1). -/
def State.loopCur (s : State) (n : Nat) : Bool := s.effB (loopF Reg.loopCfgMode n)

/-- The loop is BIDIR and in current mode. -/
def State.loopBidirCur (s : State) (n : Nat) : Bool := s.eff (loopF Reg.loopCfgType n) == 2 && s.loopCur n

/-- The total divider of a divider code and an external ratio (R138). -/
def divider (vdiv extdiv : Nat) : Nat := (if vdiv = 0 then 1 else if vdiv = 1 then 4 else 10) * max 1 extdiv

/-- The total divider in effect. -/
def State.loopDiv (s : State) (n : Nat) : Nat :=
  divider (s.eff (loopF Reg.loopCfgVdiv n)) (s.eff (loopF Reg.loopCfgExtdiv n))

/-- A voltage target of `v` 0.1 mV units gives an ADC-side reference between 0.2 V and 1.4 V (R138). -/
def refOk (v div : Nat) : Bool := 2000 * div ≤ v && v ≤ 14000 * div

/-- The phases assigned to the loop in ascending number (R136). -/
def State.loopPhases (s : State) (n : Nat) : List Nat :=
  (List.range 64).filter fun j =>
    if j < 32 then bitOf (s.eff (loopF Reg.loopPhmaploPh n)) j else bitOf (s.eff (loopF Reg.loopPhmaphiPh n)) (j - 32)

/-- PHn_STAT.STATE (Table 7.3). -/
def State.phSt (s : State) (j : Nat) : Nat := s.rd (phF Reg.phStatState j)

/-- The hidden part of a phase. -/
def State.phx (s : State) (j : Nat) : PhS := vget s.ph j

/-- The hidden part of a phase changed. -/
def State.phMod (s : State) (j : Nat) (f : PhS → PhS) : State := { s with ph := vmod s.ph j f }

/-- The loop that a phase is assigned to. -/
def State.phLoop (s : State) (j : Nat) : Option Nat := (List.range 16).find? fun n => (s.loopPhases n).contains j

/-- The codes of phases in the switching set: SWITCHING, DWELL and PARKED. -/
def phInSet (st : Nat) : Bool := 1 ≤ st && st ≤ 3

/-- The switching set of a loop. -/
def State.switchSet (s : State) (n : Nat) : List Nat := (s.loopPhases n).filter fun j => phInSet (s.phSt j)

/-- The start offset in taps of the phase of rank `j` among `k` in a period `per` (R150, R182). -/
def phaseOffset (j per k : Nat) : Nat := if k = 0 then 0 else j * per * 64 / k

/-- The on-time in taps that a duty of `d` 2⁻³⁰ units gives in a period of `per` counter periods: less than a counter period
is not emitted, and an off-time of less than one is emitted as high throughout (R151). -/
def onTaps (d per : Nat) : Nat :=
  let n := rdiv (d * per * 64) (2 ^ 30)
  if n < 64 then 0 else if per * 64 < n + 64 then per * 64 else n

/-- A PWM output in a new loop period of `taps` taps (R150, R151, R182): it starts at `off` with the on-time `on`. Its old
period ends at the new start where the start moves earlier, with the lesser of its on-time and what is left of it; where it
moves later, the output is low in between. A phase that joins has no old period. -/
def PhS.place (p : PhS) (off on taps : Nat) : PhS :=
  let old := if off < p.off then min p.on (taps - (p.off - off)) else p.on
  { p with driven := true, off := off, on := on, tail := if p.driven then p.off + old - taps else 0 }

/-- The three levels of a PWM output (R135, R171). -/
inductive Level
  | low
  | high
  | tri
deriving DecidableEq, Repr

/-! ### Phase states -/

/-- A phase's state code written: a phase outside the switching set is tri-stated at once. -/
def State.movePh (s : State) (j st : Nat) : State :=
  (s.wr (phF Reg.phStatState j) st).phMod j fun p =>
    { p with whole := p.whole && phInSet st, driven := p.driven && phInSet st }

/-- A phase's state code written, with its event: SHED, OUT or RETIRED entered, or the switching set rejoined (R196). -/
def State.setPh (s : State) (j st : Nat) : State :=
  let old := s.phSt j
  let t := s.movePh j st
  if old = st then t
  else if st = 4 ∨ st = 5 ∨ st = 6 ∨ (phInSet st ∧ 4 ≤ old) ∨ (st = 0 ∧ 5 ≤ old) then t.raise (320 + j) else t

/-- The working reference, whole µV (µA in current mode). -/
def LoopS.ref (l : LoopS) : Int := l.wref / 40

/-- VREF follows the working reference: 0.1 mV units, or 10 mA units sign-extended (Table 6.8). -/
def State.showRef (s : State) (n : Nat) : State :=
  s.wr (loopF Reg.loopVrefVref n) (tw 20 (if s.loopCur n then Int.tdiv (s.lp n).wref 400000 else Int.tdiv (s.lp n).wref 4000))

/-- The level of PHn_PWM `at` taps after the loop period's start (R151, R162, R171): tri-state unless the phase switches, low
after an overvoltage that holds the loop's phases low, and low once the peak limit has cut the period (R176). -/
def State.phPwm (s : State) (j t : Nat) : Level :=
  let p := s.phx j
  if p.driven then (if !p.cut && (t < p.tail || (p.off ≤ t && t < p.off + p.on)) then .high else .low)
  else if s.phSt j == 0 && (s.phLoop j).any fun n => (s.lp n).heldLow then .low
  else .tri

/-- PGOOD written, with the STATE event on a change (R154, R170). -/
def State.setPgood (s : State) (n : Nat) (x : Bool) : State :=
  if s.rdB (loopF Reg.loopStatPgood n) == x then s else (s.wrB (loopF Reg.loopStatPgood n) x).raise (256 + 4 * n)

/-- ILIMIT written, with the ILIMIT event when it sets (R160, R170). -/
def State.setIlimit (s : State) (n : Nat) (x : Bool) : State :=
  if s.rdB (loopF Reg.loopStatIlimit n) == x then s
  else
    let t := s.wrB (loopF Reg.loopStatIlimit n) x
    if x then t.raise (256 + 4 * n + 3) else t

/-- Every phase of the loop is tri-stated: a phase in SWITCHING to SHED becomes IDLE, and so does one that was to rejoin at
the next period start (Table 7.3, R179, R180). -/
def State.idlePhases (s : State) (n : Nat) : State :=
  (s.loopPhases n).foldl (fun t j =>
    if (1 ≤ t.phSt j ∧ t.phSt j ≤ 4) ∨ (t.phx j).joinNext then (t.phMod j fun p => { p with joinNext := false }).setPh j 0 else t) s

/-- The loop leaves the running states: phases tri-stated, PGOOD and ILIMIT clear, no power drawn, state `st`. PGOOD clears
because the loop has no target any more (DEDUCED from R154, log entry 103). -/
def State.loopTri (s : State) (n st : Nat) : State :=
  let t := (((s.idlePhases n).setPgood n false).wr (loopF Reg.loopStatIlimit n) 0).wr (loopF Reg.loopStatState n) st
  let u := (((((t.wr (pwrF Reg.phPinPin n) 0).wr (pwrF Reg.phPlossPloss n) 0).wr (pwrF Reg.phPnowPnow n) 0).wr
    (loopF Reg.loopImeasIout n) 0).wr (loopF Reg.loopDnowDuty n) 0).loopMod n fun l =>
      { l with fresh := none, duty := 0, lastI := none, msCnt := 0, msN := 0, iSum := 0, vSum := 0, pSum := 0, lSum := 0,
               p100Cnt := 0, p100N := 0, p100Sum := 0 }
  if st = 0 then u.raise (256 + 4 * n) else u

/-- Token bits [47:16] of a loop fault: working reference in 2 mV units, duty in 2⁻¹² units (R163). -/
def State.loopDetail (s : State) (n : Nat) : Nat :=
  tw 16 ((s.lp n).ref / 2000) + 65536 * ((s.lp n).duty / 2 ^ 18 % 4096)

/-- A running loop enters FAULT (R162 to R165): kind, time and counter recorded, FAULT event, and a token unless the kind
is LATESTOP. A LOOP_START or LOOP_VSET fails; a LOOP_STOP in current mode is done and the loop is STOPPED (R163). -/
def State.loopFault (s : State) (n kind : Nat) : State :=
  if !s.loopRunning n then s
  else
    let det := s.loopDetail n
    let a := ((s.wr (loopF Reg.loopStatFaultkind n) kind).wr (loopF Reg.loopFltusUs n) s.us32)
    let b := if kind = 1 then a.inc (loopF Reg.loopNfltOv n) else if kind = 3 then a.inc (loopF Reg.loopNfltOvld n) else a
    let low := kind == 1 && b.effB (loopF Reg.loopCfgOvact n) && b.eff (loopF Reg.loopCfgType n) == 0
    let stopping := s.loopCur n && s.jnl.any fun e => e.applied && e.wait == .loopOff n
    let c := (b.loopTri n (if stopping then 0 else 6)).loopMod n fun l => { l with heldLow := low }
    let d := if kind = 5 then c.raise (256 + 4 * n + 1) else c.tokenEv (256 + 4 * n + 1) kind det
    let e := d.doneWait (.loopGood n) 3 0x11
    if stopping then e.doneWait (.loopOff n) else e

/-- The loop enters FAULT when no phase of its switching set is left (R181). -/
def State.nophase (s : State) (n : Nat) : State :=
  if s.loopRunning n && (s.switchSet n).isEmpty then s.loopFault n 6 else s

/-! ### Starts, retargets and stops -/

/-- The start of R153: the working reference begins at VLS, or at 0 A; the histories are set; the idle phases switch. A start
also ends the run of late results (DESIGN CHOICE: R43 names the on-time result only; log entry 102). -/
def State.loopBegin (s : State) (n : Nat) : State :=
  let dmin := s.eff (loopF Reg.loopDutyDmin n) * 2 ^ 14
  let a := s.loopMod n fun l =>
    { l with wref := if s.loopCur n then 0 else 4000 * (s.vls n : Nat), e := [0, 0, 0], u := [dmin, dmin, dmin], fresh := none,
             duty := dmin, ovl := 0, lastI := none, deferred := none, heldLow := false }
  let b := (s.loopPhases n).foldl (fun t j => if t.phSt j = 0 then t.setPh j 1 else t) (a.wr (loopF Reg.loopStatState n) 2)
  (((b.wr (fabF Reg.fabLplateRun n) 0).wrBit (fabF Reg.fabLptokStop 0) n false).showRef n).nophase n

/-- The start of a loop from STOPPED or FAULT (Table 6.4): deferred while no assigned phase is idle and one is OUT
(R181), ONDELAY with an on-delay, RAMP without. -/
def State.loopStart (s : State) (n : Nat) (delay : Bool) : State :=
  let ps := s.loopPhases n
  if !(ps.any fun j => s.phSt j == 0) && (ps.any fun j => s.phSt j == 5) then
    s.loopMod n fun l => { l with deferred := some delay }
  else if delay then (s.loopMod n fun l => { l with deferred := none }).wr (loopF Reg.loopStatState n) 1
  else s.loopBegin n

/-- A deferred start proceeds once a phase of the loop is idle (R181). -/
def State.loopUndefer (s : State) (n : Nat) : State :=
  match (s.lp n).deferred with
  | some d => if (s.loopPhases n).any fun j => s.phSt j == 0 then s.loopStart n d else s
  | none => s

/-- The target argument of a command in the loop's mode (R166). -/
def State.loopTarget (s : State) (n a : Nat) : Int := if s.loopCur n then sx 16 (bits a 0 16) else (bits a 0 20 : Nat)

/-- The target in the units of the working reference. -/
def State.loopGoal (s : State) (n : Nat) : Int := (s.lp n).target * (if s.loopCur n then 400000 else 4000)

/-- The working reference equals the target. -/
def State.loopAtGoal (s : State) (n : Nat) : Bool := (s.lp n).wref == s.loopGoal n

/-- A loop that is running takes a new target (R155, R157, R167): the move restarts from the present working reference;
PGOOD clears when the target differs from it (R154). -/
def State.loopRetarget (s : State) (n : Nat) (target : Int) (up dn : Nat) : State :=
  let a := s.loopMod n fun l => { l with target := target, rateUp := up, rateDn := dn, coast := false }
  if a.loopAtGoal n && a.rdB (loopF Reg.loopStatPgood n) then a.wr (loopF Reg.loopStatState n) 3
  else (if a.loopAtGoal n then a else a.setPgood n false).wr (loopF Reg.loopStatState n) 2

/-- The output on VLS is below OFFLVL (10 mV units). -/
def State.loopLow (s : State) (n : Nat) : Bool := s.vls n < 100 * s.eff (loopF Reg.loopSnsOfflvl n)

/-- The off-delay ends: tri-state in coast, RAMPDOWN otherwise (R156). The ramp to 0 is a new target that differs from the
working reference, so PGOOD clears (DEDUCED from R154, log entry 103). -/
def State.loopOffEnd (s : State) (n : Nat) : State :=
  if (s.lp n).coast || s.effB (loopF Reg.loopCfgStopmode n) then
    let t := s.loopTri n 0
    if s.loopCur n || t.loopLow n then t.doneWait (.loopOff n) else t
  else if s.loopCur n && (s.lp n).wref == 0 then (s.loopTri n 0).doneWait (.loopOff n)
  else (s.setPgood n false).wr (loopF Reg.loopStatState n) 5

/-- A stop (R156, R163, Table 6.4). A FAULT loop is STOPPED when the stop completes: the output below OFFLVL, or at once in
current mode. -/
def State.loopStop (s : State) (n : Nat) (delay coast : Bool) (dn : Nat) : State :=
  let st := s.loopSt n
  let a := s.loopMod n fun l => { l with coast := coast, rateDn := dn, rateUp := 0, deferred := none }
  if st = 2 ∨ st = 3 ∨ st = 4 then
    if delay then a.wr (loopF Reg.loopStatState n) 4 else a.loopOffEnd n
  else if st = 5 then (if coast && !delay then a.loopOffEnd n else a)
  else
    let low := s.loopCur n || s.loopLow n
    let b := if st = 1 ∨ (st = 6 ∧ low) then (a.wr (loopF Reg.loopStatState n) 0).raise (256 + 4 * n) else a
    if low then b.doneWait (.loopOff n) else b

/-! ### Phase faults and rejoins -/

/-- Token bits [47:16] of a phase fault: period current in 0.1 A units, loop number (R178). -/
def State.phDetail (s : State) (j : Nat) : Nat :=
  tw 16 (ssat 16 (irdiv (s.phx j).i 100)) + 65536 * ((s.phLoop j).getD 0)

/-- A phase fault that stops the phase (R178): OUT for PEAK and STAGE, RETIRED for IMONOPEN; its token and event; a loop
without a switching phase faults (R181). -/
def State.phFault (s : State) (j kind : Nat) : State :=
  let det := s.phDetail j
  let a := (s.wr (phF Reg.phStatFaultkind j) kind).wr (phF Reg.phFltusUs j) s.us32
  let b := if kind = 4 then (a.setRetired 1 j true).movePh j 6 else a.movePh j 5
  let c := (b.tokenEv (320 + j) kind det).phMod j fun p => { p with trunc := 0, cut := false, rejoin := false, joinNext := false }
  match c.phLoop j with
  | some n => c.nophase n
  | none => c

/-- A phase rejoins: SWITCHING when its loop runs, IDLE otherwise; a start that waited for it proceeds (R179 to R181). -/
def State.phJoin (s : State) (j : Nat) : State :=
  let a := s.phMod j fun p => { p with rejoin := false, joinNext := false }
  match s.phLoop j with
  | some n => if s.loopRunning n then a.setPh j 1 else (a.setPh j 0).loopUndefer n
  | none => a.setPh j 0

/-- A phase that is OUT, or RETIRED and restored, rejoins at the next loop period start; without a running loop it is IDLE at
once (R179, R180). -/
def State.phJoinNext (s : State) (j : Nat) : State :=
  match s.phLoop j with
  | some n => if s.loopRunning n then s.phMod j fun p => { p with joinNext := true, rejoin := false } else s.phJoin j
  | none => s.phJoin j

/-- A phase is retired by the collector (R179, R190). -/
def State.phRetire (s : State) (j : Nat) : State :=
  let a := (s.setPh j 6).phMod j fun p => { p with rejoin := false, joinNext := false }
  match a.phLoop j with
  | some n => a.nophase n
  | none => a

/-- Every parked phase of the loop switches again, and every shed phase rejoins (R187, R235). -/
def State.returnPhases (s : State) (n : Nat) : State :=
  (s.loopPhases n).foldl (fun t j => if t.phSt j = 3 ∨ t.phSt j = 4 ∨ t.phSt j = 2 then t.setPh j 1 else t) s

end Sys2Proof.Machine
end

