-- ==== Sys2Proof/Machine/BayOps.lean ====
section
/-!
DEFINITION. Bays: states, latch-off, opening, closing, timed opens and throttle trains (chapter 5), as the operations that
the bay events, the bay commands and the other units share.
-/

namespace Sys2Proof.Machine

/-- BAYn_STAT.STATE (Table 5.5). -/
def State.bayState (s : State) (n : Nat) : Nat := s.rd (bayF Reg.bayStatState n)

/-- BAYn_CFG.ROLE in effect: 0 FEED, 1 STORE, 2 BRANCH, 3 TIE. -/
def State.bayRole (s : State) (n : Nat) : Nat := s.eff (bayF Reg.bayCfgRole n)

/-- "Any closed" of Table 5.5: RAMP, ADOPT, ON and LIMIT. -/
def bayClosedCode (st : Nat) : Bool := st == 2 || st == 10 || st == 3 || st == 4

/-- The bay is in RAMP, ADOPT, ON or LIMIT. -/
def State.bayClosed (s : State) (n : Nat) : Bool := bayClosedCode (s.bayState n)

/-- The hidden part of a bay changed. -/
def State.bayMod (s : State) (n : Nat) (f : BayS → BayS) : State := { s with bay := vmod s.bay n f }

/-- The slow-limit timer brought up to the present microsecond: up at 1 µs per µs in LIMIT, down at 0.1 µs per µs (R113). -/
def State.slowCount (s : State) (n : Nat) : State :=
  s.bayMod n fun b =>
    let d := s.us - b.slowUs
    { b with slow := if s.bayState n = 4 then b.slow + 10 * d else b.slow - d, slowUs := s.us }

/-- A bay's state code written, with the status bits that follow it: LIMITING, TRIPPED, RETIRED; PGOOD only in ON and
LIMIT, FOLDBACK only in RAMP (log entry 41). A bay that enters or leaves LIMIT has its slow-limit timer counted up to here. -/
def State.setBay (s : State) (n st : Nat) : State :=
  let s := if s.bayState n = 4 ∨ st = 4 then s.slowCount n else s
  let t := (((s.wr (bayF Reg.bayStatState n) st).wrB (bayF Reg.bayStatLimiting n) (st == 4)).wrB
    (bayF Reg.bayStatTripped n) (st == 5 || st == 6)).wrB (bayF Reg.bayStatRetired n) (st == 9)
  let u := if st == 3 || st == 4 then t else t.wr (bayF Reg.bayStatPgood n) 0
  if st == 2 then u else u.wr (bayF Reg.bayStatFoldback n) 0

/-- BAYn_CTL.ARM written. -/
def State.setArm (s : State) (n : Nat) (x : Bool) : State := s.wrB (bayF Reg.bayCtlArm n) x

/-- The open state that presence calls for: PRESENT, or EMPTY with nothing present (Table 5.5). -/
def State.bayToOpen (s : State) (n : Nat) : State := s.setBay n (if s.rdB (bayF Reg.bayStatPresent n) then 1 else 0)

/-- V_DS: the magnitude of system-side voltage minus module-side voltage, 2 mV units (R100). -/
def State.bayVds (s : State) (n : Nat) : Nat :=
  let a := s.rd (bayF Reg.bayVmeasVsys n)
  let b := s.rd (bayF Reg.bayVmeasVmod n)
  (a - b) + (b - a)

/-- V_DS is at most 2 % of the system-side voltage (R111, R124). -/
def State.bayMet (s : State) (n : Nat) : Bool := 50 * s.bayVds n ≤ s.rd (bayF Reg.bayVmeasVsys n)

/-- How a gate is driven: off, held at its full voltage, pulled down at 2 A or 20 mA (R108), charged by a current, µA, or
regulated to a slope of the module-side voltage, 0.1 V/ms (R109, R111). -/
inductive Drive
  | off
  | held
  | pull (fast : Bool)
  | current (ua : Nat)
  | slope (dvdt : Nat)
deriving DecidableEq, Repr, Inhabited

/-- The drive of a bay's gate: a ramp in its own mode until V_DS is at most 2 %, then the pump's 63 µA, which also closes an
adopted bay (R109, R111, R124). -/
def State.gateDrive (s : State) (n : Nat) : Drive :=
  let st := s.bayState n
  if st = 2 then
    if s.bayMet n then .current 63
    else if s.effB (bayF Reg.bayCfgRmode n) then .slope (s.eff (bayF Reg.bayRampDvdt n))
    else .current (s.eff (bayF Reg.bayRampIgate n))
  else if st = 10 then .current 63
  else if st = 3 ∨ st = 4 then .held
  else if st = 5 ∨ st = 6 ∨ st = 7 ∨ st = 8 then .pull (vget s.bay n).fastOpen
  else .off

/-- RETRYLEFT: the budget less the automatic toggles in the window (R120). -/
def State.bayRetryLeft (s : State) (n : Nat) : State :=
  s.wr (bayF Reg.bayStatRetryleft n) (s.eff (bayF Reg.bayRetryBudget n) - (vget s.bay n).retries.length)

/-- The counter of a latch-off kind (Table 5.8). -/
def tripCounter (kind : Nat) : Row :=
  if kind = 1 then Reg.bayNtripFast else if kind = 2 then Reg.bayNtripSlow else if kind = 3 then Reg.bayNtripRamp
  else Reg.bayNtripOther

/-- ALIM is the binding limit of the bay (R113, R119); of two equal limits ILIM binds (DESIGN CHOICE, log entry 99). -/
def State.bayAlimBinds (s : State) (n : Nat) : Bool := s.rd (bayF Reg.bayAlimAlim n) < s.eff (bayF Reg.bayIlimIlim n)

/-- The effective limit: the lower of ILIM and ALIM, 0.5 mV units (R113). -/
def State.bayLimit (s : State) (n : Nat) : Nat := min (s.eff (bayF Reg.bayIlimIlim n)) (s.rd (bayF Reg.bayAlimAlim n))

/-- Token bits [47:16] of a latch-off: peak shunt voltage, V_DS in 50 mV units, ALIM binding (R119). -/
def State.tripDetail (s : State) (n peak : Nat) : Nat :=
  sat 16 peak + 65536 * sat 12 (s.bayVds n / 25) + 268435456 * b2n (s.bayAlimBinds n)

/-- The records that every latch-off leaves: TRIPKIND, TRIPUS, the counter, PEAK, the token and the TRIP event (R119). -/
def State.tripMarks (s : State) (n kind peak : Nat) : State :=
  let t := ((s.wr (bayF Reg.bayStatTripkind n) kind).wr (bayF Reg.bayTripusUs n) s.us32).inc (bayF (tripCounter kind) n)
  let u := t.wr (bayF Reg.bayPeakPeak n) (max (t.rd (bayF Reg.bayPeakPeak n)) (sat 16 peak))
  u.tokenEv (64 + 4 * n + 1) kind (s.tripDetail n peak)

/-- A latch-off of a closed bay: gate down at 2 A, latched, TRIPPED; a BAY_ARM or BAY_TOGGLE in execution fails (R119,
R127). On a bay in OPENING the token is raised and the latch clears at once (R127), also on a TIE bay that its port opened
with ARM = 1 (DESIGN CHOICE, log entry 100). -/
def State.bayTrip (s : State) (n kind peak : Nat) : State :=
  if s.bayClosed n then
    let t := (s.tripMarks n kind peak).setBay n 5
    (t.bayMod n fun b => { b with fastOpen := true, rampTimer := false, owner := 0, heldTrip := !s.lUp }).doneWait (.bayOn n) 3 0x11
  else if s.bayState n == 8 then (s.tripMarks n kind peak).bayMod n fun b => { b with fastOpen := true }
  else s

/-- A closed bay opens: ARM = 0 and OPENING, with the 2 A or the 20 mA pull-down (R108, Table 5.5). -/
def State.bayOpenGate (s : State) (n : Nat) (fast : Bool) : State :=
  ((s.setArm n false).setBay n 8).bayMod n fun b => { b with fastOpen := fast, rampTimer := false, owner := 0 }

/-- A bay starts its ramp with the ramp timer (Table 5.5). -/
def State.bayRamp (s : State) (n : Nat) : State :=
  ((s.setArm n true).setBay n 2).bayMod n fun b => { b with rampTimer := true, owner := 0, heldTrip := false }

/-- A bay closes: by adoption when allowed and V_DS is at most 2 % (R125), by a ramp otherwise. -/
def State.bayClose (s : State) (n : Nat) (adopt : Bool) : State :=
  if adopt && s.bayMet n then
    ((s.setArm n true).setBay n 10).bayMod n fun b => { b with rampTimer := false, owner := 0, heldTrip := false }
  else s.bayRamp n

/-- A timed open of a bay that is ON or LIMIT, for an owner (R123); no effect in other states. -/
def State.bayTimedOpen (s : State) (n owner : Nat) : State :=
  if s.bayState n == 3 || s.bayState n == 4 then
    (s.setBay n 7).bayMod n fun b => { b with owner := owner, fastOpen := false }
  else s

/-- The end of a timed open: the bay ramps back under its own settings (Table 5.5). -/
def State.bayCycleEnd (s : State) (n : Nat) : State :=
  if s.bayState n == 7 then (s.setBay n 2).bayMod n fun b => { b with rampTimer := true, owner := 0 } else s

/-- A retired bay is open with ARM = 0 (R122); its STATE event (Table 5.9). Commands in execution fail (R78). -/
def State.bayRetire (s : State) (n : Nat) : State :=
  (((s.setArm n false).setBay n 9).bayMod n fun b => { b with owner := 0, rampTimer := false, heldTrip := false }).raise
    (64 + 4 * n + 3)

/-- The retirement of a bay is cleared: PRESENT or EMPTY with an empty retry record, STATE event (R122). -/
def State.bayRestore (s : State) (n : Nat) : State :=
  if s.bayState n == 9 then
    (((s.bayToOpen n).bayMod n fun b => { b with retries := [] }).bayRetryLeft n).raise (64 + 4 * n + 3)
  else s

/-- A tripped bay is classed transient: it waits TOGDLY when its kind and its budget allow an automatic toggle (R120),
stays TRIPPED after a hold (R121); answers false where the collector retires it. -/
def State.bayMayToggle (s : State) (n kind : Nat) : Bool :=
  (1 ≤ kind && kind ≤ 4) && (vget s.bay n).retries.length < s.eff (bayF Reg.bayRetryBudget n)

/-- A rod is active through its bays: a member is in RAMP, ADOPT, ON or LIMIT (R198). -/
def State.rodBayActive (s : State) (r : Nat) : Bool :=
  (List.range 48).any fun n => s.effB (abc3F Reg.abcMapbayEn n) && s.eff (abc3F Reg.abcMapbayRod n) == r && s.bayClosed n

/-- The consumer rod of a BRANCH bay fits (R219). -/
def State.rodFits (s : State) (n : Nat) : Bool :=
  if !s.effB (abc3F Reg.abcMapbayEn n) then true
  else
    let r := s.eff (abc3F Reg.abcMapbayRod n)
    s.rodBayActive r || s.eff (abc1F Reg.rodFloorFloor r) + s.rd (abc0F Reg.abcFloorsF 0) + s.rd (abc0F Reg.abcLossnowL 0)
      ≤ s.rd (abc0F Reg.abcBudgetB 0)

/-- The reason with which a BAY_ARM on bay `n` is refused, if it is (R122, R129). -/
def State.bayArmRefused (s : State) (n : Nat) (force : Bool) : Option Nat :=
  let st := s.bayState n
  if st = 9 then some 0x03
  else if st = 0 ∨ st = 5 ∨ st = 6 ∨ s.mode = .bench then some 0x04
  else if s.bayRole n = 2 ∧ !s.rodFits n ∧ !force then some 0x04
  else none

/-- A class-B command meets a timed open: it ends, and its owner will be told (R123). -/
def State.bayAbort (s : State) (n : Nat) : State :=
  if s.bayState n == 7 then s.bayMod n fun b => { b with aborted := b.owner, owner := 0 } else s

/-- A bay in OPENING is closed again: OPENING ends, with its STATE event (Table 5.9). -/
def State.openingEnds (s : State) (n : Nat) : State := if s.bayState n = 8 then s.raise (64 + 4 * n + 3) else s

/-- The effect of an admitted BAY_ARM (R126): a close from PRESENT, a ramp from OPENING or from a timed open. On a TIE bay
it only sets ARM, and a timed open ends with the bay open (R287, R311). -/
def State.bayArm (s : State) (n : Nat) (adopt : Bool) : State :=
  let st := s.bayState n
  if s.bayRole n = 3 then (if st = 7 then ((s.bayAbort n).setBay n 8).setArm n true else s.setArm n true)
  else if st = 1 then s.bayClose n adopt else if st = 8 ∨ st = 7 then ((s.bayAbort n).openingEnds n).bayRamp n else s

/-- The effect of a BAY_OPEN (R126): a closed bay opens, a latch clears, a timed open ends in OPENING. -/
def State.bayOpen (s : State) (n : Nat) (fast : Bool) : State :=
  let st := s.bayState n
  if bayClosedCode st || st == 7 then (s.bayAbort n).bayOpenGate n fast
  else if st == 8 then (s.setArm n false).bayMod n fun b => { b with fastOpen := b.fastOpen || fast }
  else if st == 5 || st == 6 then (s.setArm n false).bayToOpen n
  else s.setArm n false

/-- A port close of a TIE bay (R287): a ramp, only while ARM = 1 and the bay is open and present. -/
def State.bayPortClose (s : State) (n : Nat) : State :=
  if s.rdB (bayF Reg.bayCtlArm n) && (s.bayState n == 1 || (s.bayState n == 8 && s.rdB (bayF Reg.bayStatPresent n))) then
    (s.openingEnds n).bayRamp n
  else s

/-- A port open of a TIE bay (R287): ARM stays, with the 2 A pull-down when fast. -/
def State.bayPortOpen (s : State) (n : Nat) (fast : Bool) : State :=
  if s.bayClosed n || s.bayState n == 7 then
    (s.setBay n 8).bayMod n fun b => { b with fastOpen := fast, rampTimer := false, owner := 0 }
  else if s.bayState n == 8 then s.bayMod n fun b => { b with fastOpen := b.fastOpen || fast }
  else s

/-- Presence of a bay set (R101, R103), with its PRESENCE event; an open bay without a latch follows. -/
def State.bayPresent (s : State) (n : Nat) (x : Bool) : State :=
  let t := (s.wrB (bayF Reg.bayStatPresent n) x).raise (64 + 4 * n)
  if t.bayState n ≤ 1 then t.setBay n (b2n x) else t

/-- One throttle train leaves: s pulses for step s, 8 for release; the ALT class freezes (R106). -/
def State.sendTrain (s : State) (n step : Nat) : State :=
  ((s.emit (.throttle n (if step = 0 then 8 else step))).wr (bayF Reg.bayStatAlt n) 3).bayMod n
    fun b => { b with train := true, frozen := true, next := none }

/-- The bay takes throttle orders: a BRANCH bay with THREN, out of hold (R106). -/
def State.throttles (s : State) (n : Nat) : Bool :=
  s.bayRole n == 2 && s.effB (bayF Reg.bayCfgThren n) && s.lUp

/-- The abacus orders throttle step `step` for a bay; a step ordered during a train follows it (R106). -/
def State.orderStep (s : State) (n step : Nat) : State :=
  if !s.throttles n then s
  else
    let t := (s.wr (bayF Reg.bayAlimThstep n) step).bayMod n fun b => { b with relLeft := if step = 0 then 2 else 0 }
    if (vget s.bay n).train then t.bayMod n fun b => { b with next := some step } else t.sendTrain n step

end Sys2Proof.Machine
end

