-- ==== Sys2Proof/Machine/FlightOps.lean ====
section
/-!
DEFINITION. Flights: entities, treads, dependencies, runs, failures, returns and device starts (chapter 12), with the
orders of the Iddex master that start and stop them (R361 to R365).
-/

namespace Sys2Proof.Machine

/-! ### Entities (Table 12.1): rails 0 to 95, loops 96 to 111, bays 112 to 159 -/

/-- The hidden part of a rail changed. -/
def State.railMod (s : State) (n : Nat) (f : RailS → RailS) : State := { s with rail := vmod s.rail n f }

/-- The hidden part of a flight. -/
def State.flx (s : State) (f : Nat) : FlightS := vget s.fl f

/-- The hidden part of a flight changed. -/
def State.flMod (s : State) (f : Nat) (g : FlightS → FlightS) : State := { s with fl := vmod s.fl f g }

/-- RAILe_EN is at its high level: driven to the active level of SEQ_ENTe.POL while the rail is on (R322). -/
def State.railEn (s : State) (n : Nat) : Bool := (vget s.rail n).on == s.effB (seq0F Reg.seqEntPol n)

/-- The entity is on. -/
def State.entOn (s : State) (e : Nat) : Bool :=
  if e < 96 then (vget s.rail e).on
  else if e < 112 then 1 ≤ s.loopSt (e - 96) && s.loopSt (e - 96) ≤ 3
  else bayClosedCode (s.bayState (e - 112)) || s.bayState (e - 112) == 7

/-- The entity is judged good. -/
def State.entGood (s : State) (e : Nat) : Bool :=
  if e < 96 then (vget s.rail e).good
  else if e < 112 then s.rdB (loopF Reg.loopStatPgood (e - 96))
  else s.rdB (bayF Reg.bayStatPgood (e - 112))

/-- The entity is judged fallen. -/
def State.entFell (s : State) (e : Nat) : Bool :=
  if e < 96 then (vget s.rail e).fell
  else if e < 112 then s.loopSt (e - 96) == 0 || s.loopSt (e - 96) == 6
  else
    let st := s.bayState (e - 112)
    st == 0 || st == 1 || st == 5 || st == 6 || st == 9

/-- SEQ_ESTe.STATE (Table 12.3). -/
def State.est (s : State) (e : Nat) : Nat := s.rd (seq7F Reg.seqEstState e)

/-- An entity's state code written; its event on GOOD, LOST, FAILED, SKIPPED, STUCK and OFF (R352, Table 12.3). -/
def State.setEst (s : State) (e st : Nat) : State :=
  let t := s.wr (seq7F Reg.seqEstState e) st
  if s.est e ≠ st ∧ (st = 0 ∨ st = 3 ∨ st = 4 ∨ st = 6 ∨ st = 7 ∨ st = 8) then t.raise (576 + e) else t

/-- FLf_STAT.STATE (Table 12.2). -/
def State.flState (s : State) (f : Nat) : Nat := s.rd (flF Reg.flStatState f)

/-- The flights that are not IDLE and include entity `e`. -/
def State.runsOf (s : State) (e : Nat) : List Nat :=
  (List.range 8).filter fun f => s.flState f != 0 && (s.flx f).treads.any fun t => t.ent == e

/-- The flight runs down at present. -/
def State.flDown (s : State) (f : Nat) : Bool := s.rdB (flF Reg.flStatDirnow f)

/-- Token bits [47:16] of an entity token: flight, a flight runs, MON (R352). -/
def State.entDetail (s : State) (e : Nat) : Nat :=
  let mon := if e < 96 then s.sv (160 + e) / 16 else 0
  match s.runsOf e with
  | f :: _ => f + 8 + 16 * mon
  | [] => s.rd (seq7F Reg.seqEstFlight e) + 16 * mon

/-- A token of an entity: 1 NOGOOD, 2 STUCK, 3 EARLY, 4 LOST, 5 OV. -/
def State.entToken (s : State) (e kind : Nat) : State := s.token (576 + e) kind (s.entDetail e)

/-- The edges in force (R329). -/
def State.edges (s : State) : List Edge :=
  ((List.range 512).filter fun i => s.effB (seq1F Reg.seqDepEn i)).map fun i =>
    { parent := s.eff (seq1F Reg.seqDepParent i), child := s.eff (seq1F Reg.seqDepChild i),
      remote := if s.effB (seq1F Reg.seqDepRemote i) then some (s.eff (seq1F Reg.seqDepPdev i)) else none }

/-- The set with every dependant of its members, over local edges. -/
def closure (es : List Edge) : Nat → List Nat → List Nat
  | 0, set => set
  | k + 1, set =>
    let new := ((es.filter fun x => x.remote.isNone && set.contains x.parent && !set.contains x.child).map (·.child)).eraseDups
    if new.isEmpty then set else closure es k (set ++ new)

/-- The dependants of the entities of `set` (R329). -/
def dependants (es : List Edge) (set : List Nat) : List Nat := (closure es 160 set).filter fun e => !set.contains e

/-! ### Switching -/

/-- The loop can start to its page target (R323, R168). -/
def State.loopCanStart (s : State) (n : Nat) : Bool :=
  let running := loopRunCode (s.loopSt n)
  let ok := if s.loopCur n then true else refOk (s.eff (loopF Reg.loopVsetVset n)) (s.loopDiv n)
  ok && (running || (s.loopPhases n).any fun j => s.phSt j == 0)

/-- The entity switched on; none where it cannot be (R322, R323). -/
def State.entSwitchOn (s : State) (e : Nat) : Option State :=
  if e < 96 then some (s.railMod e fun r => { r with on := true, fell := false })
  else if e < 112 then
    let n := e - 96
    if !s.loopCanStart n then none
    else
      let tgt : Int := if s.loopCur n then sx 16 (s.eff (loopF Reg.loopIsetIset n)) else (s.eff (loopF Reg.loopVsetVset n) : Nat)
      if loopRunCode (s.loopSt n) then some (s.loopRetarget n tgt 0 0)
      else some ((s.loopMod n fun l => { l with target := tgt, rateUp := 0, rateDn := 0 }).loopStart n false)
  else
    let n := e - 112
    if s.bayRole n = 3 then none
    else
      match s.bayArmRefused n false with
      | some _ => none
      | none => some (s.bayArm n false)

/-- The entity switched off (Table 12.1). -/
def State.entSwitchOff (s : State) (e : Nat) : State :=
  if e < 96 then s.railMod e fun r => { r with on := false }
  else if e < 112 then s.loopStop (e - 96) false false 0
  else s.bayOpen (e - 112) false

/-! ### Treads -/

/-- The tread of entity `e` in flight `f` set to `a`. -/
def State.setTread (s : State) (f e a : Nat) : State :=
  s.flMod f fun x => { x with treads := x.treads.map fun t => if t.ent = e then { t with at_ := a } else t }

/-- Where entity `e` stands in flight `f`. -/
def State.treadAt (s : State) (f e : Nat) : Option Nat := ((s.flx f).treads.find? fun t => t.ent == e).map (·.at_)

/-- SEQ_ESTe.PGT: the time from the slot to good or fallen, 10 µs units, saturating. -/
def State.markPgt (s : State) (f e : Nat) : State :=
  match (s.flx f).treads.find? fun t => t.ent == e with
  | some t => s.wr (seq7F Reg.seqEstPgt e) (sat 16 ((s.us32 + 2 ^ 32 - (s.rd (flF Reg.flT0Us f) + t.slot) % 2 ^ 32) % 2 ^ 32 / 10))
  | none => s

/-! ### The common start (R331, R361 to R364) -/

/-- This device is the Iddex master, with the link enabled. -/
def State.idxMaster (s : State) : Bool := s.rdB (idxF Reg.idxStatMaster 0) && s.effB (idxF Reg.idxCfgEn 0)

/-- A new order of the master, sent in two frames (R361). -/
def State.sendOrder (s : State) (op f action t0 : Nat) : State :=
  let id := (s.rd (idxF Reg.idxOrdId 0) + 1) % 256
  let t := (((s.wr (idxF Reg.idxOrdId 0) id).wr (idxF Reg.idxOrdFlight 0) f).wr (idxF Reg.idxOrdOp 0) op).wr
    (idxF Reg.idxOrdResult 0) 0
  let o : OrderS := { op := op, flight := f, action := action, id := id, t0 := t0 % 2 ^ 32 }
  let u := { t with idx := { t.idx with orders := t.idx.orders ++ [(o, 2)] } }
  (u.flMod f fun x => { x with ordId := id }).raise 775

/-- The flight's runs are fanned out to the slaves (R362). -/
def State.fansOut (s : State) (f : Nat) : Bool := s.idxMaster && bitOf (s.eff (idxF Reg.idxCfgFanout 0)) f

/-- The flight is run from orders on this slave (R363). -/
def State.fansIn (s : State) (f : Nat) : Bool :=
  !s.rdB (idxF Reg.idxStatMaster 0) && s.effB (idxF Reg.idxCfgEn 0) && bitOf (s.eff (idxF Reg.idxCfgFanin 0)) f

/-- The addresses that an order goes to, without the own address. -/
def State.expected (s : State) : List Nat :=
  (List.range 16).filter fun a => bitOf (s.eff (idxF Reg.idxPeersExpect 0)) a && a != s.rd (idxF Reg.idxStatAddr 0)

/-- SEQ_GSTAT follows the flights: RUNNING and DEVSTART. -/
def State.gstat (s : State) : State :=
  (List.range 8).foldl (fun t f =>
    (t.wrBit (seq0F Reg.seqGstatRunning 0) f (t.flState f != 0)).wrBit (seq0F Reg.seqGstatDevstart 0) f
      (t.flState f != 0 && t.rdB (flF Reg.flStatDevstart f))) s

/-- The entities that a flight includes. -/
def State.included (s : State) (f : Nat) : List Nat := (List.range 160).filter fun e => s.effB (trdF Reg.flOnIn f e)

/-- The bad entities of a run, and whether every entity reached its target. -/
def FlightS.allOk (x : FlightS) : Bool := x.treads.all fun t => t.at_ == 2

/-- Every included entity has been judged (R332). -/
def FlightS.judged (x : FlightS) : Bool := x.treads.all fun t => t.at_ == 2 || t.at_ == 3 || t.at_ == 6

/-- The command of a flight is done (R349, R365): with its own status, and, on a master whose flight was ordered to
slaves, once every counted slave reports DONE or is lost; ORDERFAIL unless every expected slave reports DONE OK. -/
def State.flCommandDone (s : State) (f : Nat) : State :=
  let x := s.flx f
  match x.own with
  | none => s
  | some ok =>
    if x.slaves.any fun p => p.2 == 0 || p.2 == 1 || p.2 == 5 then s
    else
      let good := ok && x.slaves.all fun p => p.2 == 2
      let a := s.flMod f fun y => { y with own := none, slaves := [], seq := none }
      let b := if !x.slaves.isEmpty && !(x.slaves.all fun p => p.2 == 2) then (a.raise 776).token 776 0x01 0 else a
      b.doneWait (.flight f) (if good then 0 else 3) (if good then 0 else 0x11)

/-- The acknowledgement of a slave follows the end of the run (R363). -/
def State.flAck (s : State) (f result : Nat) : State :=
  if (s.flx f).order then
    match s.idx.ack with
    | some (id, g, _) => if g = f then { s with idx := { s.idx with ack := some (id, g, result) } }.wr (idxF Reg.idxOrdResult 0) result else s
    | none => s
  else s

/-- The flight time of a running flight (R331), 0 before its common start. -/
def State.flTime (s : State) (f : Nat) : Nat :=
  let d := (s.us32 + 2 ^ 32 - s.rd (flF Reg.flT0Us f)) % 2 ^ 32
  if d < 2 ^ 31 then d else 0

/-- FLf_TIME takes the flight time of a flight whose clock runs. -/
def State.flStamp (s : State) (f : Nat) : State :=
  let st := s.flState f
  if st = 1 ∨ st = 2 ∨ st = 5 then s.wr (flF Reg.flTimeT f) (s.flTime f) else s

/-- The run of a flight is complete when every included entity has been judged (R332, Table 12.2). -/
def State.flCheck (s : State) (f : Nat) : State :=
  let st := s.flState f
  let x := s.flx f
  if (st = 1 ∨ st = 2 ∨ st = 5) ∧ x.judged then
    let nbad := (x.treads.filter fun t => t.at_ == 3).length
    let pend := st = 2 ∧ s.rdB (flF Reg.flStatRetpend f)
    let a := (((s.flStamp f).wr (flF Reg.flStatNbad f) nbad).wr (flF Reg.flStatState f) (if pend then 4 else 0)).raise (736 + 4 * f + 2)
    let b := (a.flAck f (if x.allOk then 2 else 3)).flMod f fun y => { y with own := some x.allOk }
    (if x.seq.isSome then b.flCommandDone f else b).gstat
  else s

/-- Every flight that may be complete is checked. -/
def State.flCheckAll (s : State) : State := (List.range 8).foldl State.flCheck s

/-- A flight stops with no further slot (Table 12.2): IDLE, DONE event. -/
def State.flStop (s : State) (f : Nat) : State :=
  if s.flState f = 0 then s
  else
    ((((s.flStamp f).wr (flF Reg.flStatState f) 0).wr (flF Reg.flStatRetpend f) 0).flMod f fun x =>
      { x with treads := [], lands := [], seq := none, own := none, slaves := [] }).raise (736 + 4 * f + 2) |>.gstat

/-- The landings of a flight that count in a direction, in mark order as the table gives them (R330). -/
def State.landings (s : State) (f : Nat) (down : Bool) : List (Nat × Nat × Bool) :=
  ((List.range 16).filter fun k => s.effB (landF Reg.flLandEn f k)
      && s.effB (landF (if down then Reg.flLandDn else Reg.flLandUp) f k)).map fun k =>
    (k, s.eff (landF Reg.flLandTmark f k), s.effB (landF Reg.flLandStop f k))

/-- A run of flight `f` begins on the common start `t0` over the given treads (R331): START event, entities of an up run
that stand OFF, FAILED or SKIPPED wait for their slots (Table 12.3). -/
def State.flBegin (s : State) (f : Nat) (down rev dev : Bool) (treads : List Tread) (t0 : Nat) : State :=
  let a := (((((((s.wr (flF Reg.flStatState f) (if rev then 5 else if down then 2 else 1)).wrB (flF Reg.flStatRev f) rev).wr
    (flF Reg.flStatRetpend f) 0).wrB (flF Reg.flStatDevstart f) dev).wrB (flF Reg.flStatDirnow f) down).wr
    (flF Reg.flT0Us f) t0).wr (flF Reg.flTimeT f) 0)
  let b := treads.foldl (fun t x =>
    let u := t.wr (seq7F Reg.seqEstTaken x.ent) 0
    if !down && (u.est x.ent == 0 || u.est x.ent == 6 || u.est x.ent == 7) && !u.entOn x.ent then u.setEst x.ent 1 else u) a
  b.flMod f fun x => { x with treads := treads }

/-- The start of a run of flight `f` over all its included entities (R328, R331). -/
def State.flRun (s : State) (f : Nat) (down dev order : Bool) (seq : Option Nat) (t0 : Nat)
    (slaves : List (Nat × Nat) := []) : State :=
  let treads := (s.included f).map fun e =>
    ({ ent := e, slot := if down then s.eff (trdF Reg.flOffOffdly f e) else s.eff (trdF Reg.flOnOndly f e),
       dl := s.eff (trdF Reg.flDlDl f e), on := s.eff (trdF Reg.flOnOndly f e) } : Tread)
  let a := s.flMod f fun x =>
    { x with edges := s.edges, lands := s.landings f down, dnPassed := false, mark := 0, seq := seq, order := order,
             startDown := down, own := none, slaves := slaves }
  ((((a.wr (flF Reg.flStatLanding f) 0x1F).wr (flF Reg.flStatNbad f) 0).flBegin f down false dev treads t0).raise
    (736 + 4 * f)).gstat.flCheck f

/-- The FLIGHT record of a device start (R342, R578). -/
def State.flRecord (s : State) (f src origin action op id t0 : Nat) : State :=
  s.record 0x12 src [f + 8 * origin, action + 256 * op, id, t0 % 2 ^ 32]

/-- The flights that share an included entity with flight `f` and are not IDLE. -/
def State.sharing (s : State) (f : Nat) : List Nat :=
  (List.range 8).filter fun g => g != f && s.flState g != 0 && (s.flx g).treads.any fun t => (s.included f).contains t.ent

/-- A device start (R342, R343): stops every running flight that shares an included entity, its own run too, a commanded one FAILED with a
PREEMPTED token; none is made on a flight that is run from orders (R364). -/
def State.deviceStart (s : State) (f : Nat) (down : Bool) : State :=
  if s.fansIn f then s
  else
    let b := (f :: s.sharing f).foldl (fun t g =>
      let cmd := (t.flx g).seq.isSome
      let u := t.flStop g
      if cmd then ((u.doneWait (.flight g) 3 0x11).token (736 + 4 * g + 3) 0x01 f).raise (736 + 4 * g + 3) else u) s
    let t0 := b.us + 50
    (b.flRun f down true false none t0).flRecord f (736 + 4 * f) 0 (if down then 2 else 1) 0 0 t0

/-! ### Failures and falls -/

/-- Entities switched off out of slot: each one that is on goes to FALLING, and its tread in an up run is dropped, in a
down run counts as switched off by the run (R326, R334, R336). -/
def State.dropEnts (s : State) (es : List Nat) : State :=
  es.foldl (fun t e =>
    if !t.entOn e then t
    else
      let u := (t.setEst e 5).entSwitchOff e
      (u.runsOf e).foldl (fun v f =>
        match v.treadAt f e with
        | some a => if v.flDown f then (if a = 0 then v.setTread f e 1 else v) else if a ≤ 2 ∨ a = 5 then v.setTread f e 4 else v
        | none => v) u) s

/-- Dropped entities that have fallen at once are judged. -/
def State.settleDrop (s : State) (e : Nat) : State :=
  if s.entFell e ∧ (s.est e = 5 ∨ s.est e = 8) then
    let a := s.setEst e 0
    (a.runsOf e).foldl (fun t f =>
      match t.treadAt f e with
      | some x => if x = 1 ∧ t.flDown f then (t.setTread f e 2).markPgt f e else if x = 4 then t.setTread f e 6 else t
      | none => t) a
  else s

/-- Every entity of a list that has fallen is judged. -/
def State.settleDrops (s : State) (es : List Nat) : State := es.foldl State.settleDrop s

/-- An entity fails in an up run (R334): FAILED, NOGOOD, switched off with its dependants; dependants whose slot is to
come are SKIPPED. -/
def State.flFail (s : State) (f e : Nat) : State :=
  let deps := dependants (s.flx f).edges [e]
  let a := (((s.setEst e 6).entToken e 0x01).setTread f e 3).entSwitchOff e
  let b := a.dropEnts deps
  let c := deps.foldl (fun t d =>
    match t.treadAt f d with
    | some x => if x = 0 ∨ x = 5 then (t.setEst d 7).setTread f d 3 else t
    | none => t) b
  (c.settleDrops deps).flCheckAll

/-- An entity that cannot be switched on, or whose parent on another device is BAD, is passed over: FAILED at its slot, or
SKIPPED (R323, R366). -/
def State.flSkip (s : State) (f e : Nat) : State :=
  let deps := dependants (s.flx f).edges [e]
  let a := (e :: deps).foldl (fun t d =>
    match t.treadAt f d with
    | some x => if x = 0 ∨ x = 5 then (t.setEst d 7).setTread f d 3 else t
    | none => t) s
  ((a.dropEnts deps).settleDrops deps).flCheckAll

/-- An entity becomes good (Table 12.3): RISING and LOST go to GOOD; the tread of an up run is done. -/
def State.entBecomesGood (s : State) (e : Nat) : State :=
  let a := s.wr (seq7F Reg.seqEstGood e) 1
  if !s.lUp then a
  else
    let b := if a.est e = 2 ∨ a.est e = 4 then a.setEst e 3 else a
    ((b.runsOf e).foldl (fun t f =>
      if !t.flDown f && t.treadAt f e == some 1 then (t.setTread f e 2).markPgt f e else t) b).flCheckAll

/-- The return condition of a flight begins to hold: it is taken (R339). The switched set of a reversal (R340) is what the run has
passed; an entity that a command took is not in it (log entry 117). -/
def State.condTaken (s : State) (f : Nat) : State :=
  let a := s.flMod f fun x => { x with cond := true }
  if a.flDown f && (a.flState f == 2 || a.flState f == 3) then
    let b := if a.fansOut f then a.sendOrder 4 f 0 a.us else a
    if (b.flx f).dnPassed then
      let x := b.flx f
      let set := x.treads.filter fun t => t.at_ != 0 && t.at_ != 5 && !b.rdB (seq7F Reg.seqEstTaken t.ent)
      let least := set.foldl (fun m t => min m t.on) (2 ^ 24)
      let treads := set.map fun t => { t with slot := t.on - least, at_ := 0 }
      ((b.flBegin f false true (b.rdB (flF Reg.flStatDevstart f)) treads (b.us + 50)).raise (736 + 4 * f + 2)).gstat.flCheck f
    else b.wr (flF Reg.flStatRetpend f) 1
  else a

/-- The return condition of a flight ceases (R338, R341). -/
def State.condCease (s : State) (f : Nat) : State :=
  let a := s.flMod f fun x => { x with cond := false }
  if a.flState f = 4 then ((a.wr (flF Reg.flStatState f) 0).wr (flF Reg.flStatRetpend f) 0).gstat else a

/-- Flights whose return condition is of kind `ret`, and satisfies `p`. -/
def State.retFlights (s : State) (ret : Nat) (p : Nat → Bool) : List Nat :=
  (List.range 8).filter fun f => s.eff (flF Reg.flCfgRet f) == ret && p f

/-- An entity stops being good (R326, R335, R336). -/
def State.entLosesGood (s : State) (e : Nat) : State :=
  let a := s.wr (seq7F Reg.seqEstGood e) 0
  if !s.inRun || a.est e != 3 then a
  else
    let runs := a.runsOf e
    match runs.find? fun f => a.flDown f && a.treadAt f e == some 0 && a.flState f != 6 with
    | some f =>
      let deps := dependants (a.flx f).edges [e]
      (((a.entToken e 0x03).dropEnts (e :: deps)).settleDrops (e :: deps)).flCheckAll
    | none =>
      let up := runs.any fun f => !a.flDown f && a.flState f != 6
      if a.effB (seq0F Reg.seqEntSupen e) || up then
        let b := (a.setEst e 4).entToken e 0x04
        if b.effB (seq0F Reg.seqEntDropdep e) then
          let deps := dependants b.edges [e]
          ((b.dropEnts deps).settleDrops deps).flCheckAll
        else b
      else a

/-- An entity is judged fallen (R337). -/
def State.entFalls (s : State) (e : Nat) : State := if s.lUp then (s.settleDrop e).flCheckAll else s

/-- A class-B or class-L command takes an entity of a running flight (R333). -/
def State.entTaken (s : State) (e : Nat) : State :=
  ((s.runsOf e).foldl (fun t f =>
    match t.treadAt f e with
    | some x =>
      if (x = 0 ∨ x = 1 ∨ x = 5) ∧ t.flState f ≠ 6 then (t.setTread f e 2).wr (seq7F Reg.seqEstTaken e) 1 else t
    | none => t) s).flCheckAll

/-- A rising loop that enters FAULT, or a rising bay that latches off, fails at once (R323); in hold, and in a flight that is
HELD, nothing is judged (R16, R344). -/
def State.entFaults (s : State) (e : Nat) : State :=
  if !s.lUp then s
  else (s.runsOf e).foldl (fun t f => if !t.flDown f && t.flState f != 6 && t.treadAt f e == some 1 then t.flFail f e else t) s

/-- What the sequencer sees of a loop or bay that another unit changed: good, good lost, fallen, faulted. -/
def State.entFollow (old s : State) (e : Nat) : State :=
  let a := if !old.entGood e && s.entGood e then s.entBecomesGood e
    else if old.entGood e && !s.entGood e then s.entLosesGood e else s
  let bad (t : State) : Bool := if e < 112 then t.loopSt (e - 96) == 6 else (t.bayState (e - 112) == 5 || t.bayState (e - 112) == 9)
  let b := if !bad old && bad s then a.entFaults e else a
  if !old.entFell e && s.entFell e then b.entFalls e else b

/-- The sequencer follows every loop and bay. -/
def State.flightFollow (old s : State) : State :=
  (List.range 64).foldl (fun t i => State.entFollow old t (96 + i)) s

/-! ### Slots -/

/-- The remote state code of entity `e` of peer `a` as held (R360, R369): 0 DOWN, 1 RISING, 2 GOOD, 3 BAD. -/
def State.remoteCode (s : State) (a e : Nat) : Nat :=
  if s.retired 6 a || s.rdB (idxF Reg.idxPeerBaded a) then 3 else bits (s.rd (idxF Reg.idxRemW (12 * a + e / 16))) (2 * (e % 16)) 2

/-- The remote parents of entity `e` in the edges of a flight. -/
def State.remoteParents (s : State) (f e : Nat) : List Nat :=
  ((s.flx f).edges.filter fun x => x.child == e && x.remote.isSome).map fun x => s.remoteCode (x.remote.getD 0) x.parent

/-- Entity `e` of flight `f` at its slot, or at the moment its remote parent is good (R332, R366). -/
def State.slotEnt (f : Nat) (s : State) (e : Nat) : State :=
  let a := s.wr (seq7F Reg.seqEstFlight e) f
  if s.flDown f then
    if !s.entOn e && s.entFell e then (s.setTread f e 2).setEst e 0
    else if !s.entOn e then s.setTread f e 1
    else ((a.setEst e 5).setTread f e 1 |>.entSwitchOff e).settleDrop e
  else if s.entOn e && s.entGood e then (s.setTread f e 2).setEst e 3
  else if (s.remoteParents f e).any (· == 3) then s.flSkip f e
  else if (s.remoteParents f e).any (· != 2) then s.setTread f e 5
  else if s.entOn e then (s.setTread f e 1).setEst e 2
  else
    match a.entSwitchOn e with
    | some t =>
      let u := (t.setEst e 2).setTread f e 1
      if u.entGood e then u.entBecomesGood e else u
    | none => a.flFail f e

/-- The slot of flight time `t` of flight `f`: every entity whose slot it is and that has not been issued. At a landing a slot
no later than its mark is still issued (R330). -/
def State.slot (s : State) (f t : Nat) : State :=
  if s.flState f = 1 ∨ s.flState f = 2 ∨ s.flState f = 5 ∨ (s.flState f = 3 ∧ t ≤ (s.flx f).mark) then
    ((((s.flx f).treads.filter fun x => x.slot == t && x.at_ == 0).map (·.ent)).foldl (State.slotEnt f)
      (s.wr (flF Reg.flTimeT f) t)).flCheckAll
  else s

/-- Hold begins: running flights stop at the last slot applied, and a return wait is cancelled (R344). -/
def State.flHold (s : State) : State :=
  ((List.range 8).foldl (fun t f =>
    let st := t.flState f
    if st = 4 then (t.wr (flF Reg.flStatState f) 0).wr (flF Reg.flStatRetpend f) 0
    else if st = 0 then t else (t.flStamp f).wr (flF Reg.flStatState f) 6) s).gstat

end Sys2Proof.Machine
end

