-- ==== Sys2Proof/Machine/TieOps.lean ====
section
/-!
DEFINITION. Tie ports: messages, contracts, role swaps, hard resets and the tie bay that a port closes and opens
(chapter 11).
-/

namespace Sys2Proof.Machine

/-- The hidden part of a tie port. -/
def State.tp (s : State) (n : Nat) : TieS := vget s.tie n

/-- The hidden part of a tie port changed. -/
def State.tieMod (s : State) (n : Nat) (f : TieS → TieS) : State := { s with tie := vmod s.tie n f }

/-- TIEn_STAT.STATE (Table 11.6). -/
def State.tieState (s : State) (n : Nat) : Nat := s.rd (tieF Reg.tieStatState n)

/-- TIEn_STAT.STATE written. -/
def State.setTie (s : State) (n st : Nat) : State := s.wr (tieF Reg.tieStatState n) st

/-- "Attached" of R316: NEGOTIATE to SWAP, and NOCONTRACT. -/
def tieAttachedCode (st : Nat) : Bool := (3 ≤ st && st ≤ 6) || st == 10

/-- The port is in its source role. -/
def State.tieSource (s : State) (n : Nat) : Bool := s.rdB (tieF Reg.tieStatRole n)

/-- The tie bay of a port (R286). -/
def State.tieBay (s : State) (n : Nat) : Nat := s.eff (tieF Reg.tieCfgBay n)

/-- ARM of the tie bay. -/
def State.tieArmed (s : State) (n : Nat) : Bool := s.rdB (bayF Reg.bayCtlArm (s.tieBay n))

/-- The cable limit, 50 mA units (R292). -/
def State.cableLimit (s : State) (n : Nat) : Nat :=
  if s.rdB (tieF Reg.tieStatMarked n) then s.eff (tieF Reg.tieCableImark n) else s.eff (tieF Reg.tieCableIunm n)

/-- The limit code of a current of `i` 50 mA units scaled by `num / 10` (R288, R312): floor(I × RSH / 500 µV), clamped. -/
def limitCode (i rsh num : Nat) : Nat := clamp 10 0x1FE (num * i * rsh / 100000)

/-- The contract limit of a current set on the tie bay (R288). -/
def State.setConLimit (s : State) (n i num : Nat) : State :=
  s.wr (bayF Reg.bayAlimAlim (s.tieBay n)) (limitCode i (s.eff (bayF Reg.bayRshRsh (s.tieBay n))) num)

/-- The limit without a contract: IDEF (R288). -/
def State.setIdef (s : State) (n : Nat) : State := s.setConLimit n (s.eff (tieF Reg.tieCfgIdef n)) 10

/-- A port open, fast on detach or WET (R287). -/
def State.tieOpen (s : State) (n : Nat) (fast : Bool) : State := s.bayPortOpen (s.tieBay n) fast

/-- A token of the port with its event FAULT (R318, R321). -/
def State.tieToken (s : State) (n kind typ : Nat) : State :=
  s.tokenEv (544 + 8 * n + 7) kind (s.tieState n + 16 * typ)

/-! ### Objects (Table 11.5) -/

/-- VMIN, VMAX and IMAX of a SUPPLY object. -/
def supVmin (o : Nat) : Nat := bits o 0 10
/-- VMAX of a SUPPLY object, 100 mV units. -/
def supVmax (o : Nat) : Nat := bits o 10 10
/-- IMAX of a SUPPLY object, 50 mA units. -/
def supImax (o : Nat) : Nat := bits o 20 10
/-- PMAX of a LIMIT object, W. -/
def limPmax (o : Nat) : Nat := bits o 0 16
/-- EHOLD of a LIMIT object, kJ. -/
def limEhold (o : Nat) : Nat := bits o 16 14
/-- POS of a REQUEST object. -/
def reqPos (o : Nat) : Nat := bits o 0 3
/-- IREQ of a REQUEST object, 50 mA units. -/
def reqIreq (o : Nat) : Nat := bits o 3 10
/-- PREQ of a REQUEST object, W. -/
def reqPreq (o : Nat) : Nat := bits o 13 16
/-- The KIND of an object. -/
def objKind (o : Nat) : Nat := bits o 30 2
/-- A REQUEST object. -/
def reqObj (pos ireq preq : Nat) : Nat := pos % 8 + 8 * (ireq % 1024) + 8192 * (preq % 65536) + 0x80000000

/-- A request that ends power transfer (R304). -/
def reqEnds (o : Nat) : Bool := reqPreq o == 0 || reqIreq o == 0

/-- The contract in force. -/
def State.conReq (s : State) (n : Nat) : Nat := s.rd (tieF Reg.tieConreqObj n)

/-- A contract is in force: from its READY to its end, through the transition to the next one (R306). -/
def State.conLive (s : State) (n : Nat) : Bool := s.conReq n != 0 && (s.tieState n == 5 || s.tieState n == 4)

/-- The contract in force carries power (R304). -/
def State.conCarries (s : State) (n : Nat) : Bool := s.conLive n && !reqEnds (s.conReq n)

/-- The power of the contract in force, beads (R216). -/
def State.conBeads (s : State) (n : Nat) : Nat := if s.conCarries n then 8 * reqPreq (s.conReq n) else 0

/-- The contract limit as R288 and R312 have it: from the current of the contract in force, nine tenths of it while LIMITED, or
from IDEF. -/
def State.limitNow (s : State) (n : Nat) : State :=
  if s.conCarries n then s.setConLimit n (reqIreq (s.conReq n)) (if s.rdB (tieF Reg.tieStatLimited n) then 9 else 10)
  else s.setIdef n

/-- A port close, made only while the bay is armed; the limit is written before it (R287, R288). -/
def State.tieClose (s : State) (n : Nat) : State :=
  if s.bayClosed (s.tieBay n) then s else (s.limitNow n).bayPortClose (s.tieBay n)

/-! ### Sending (R298 to R301) -/

/-- The 16-bit header of Table 11.3. -/
def tieHeader (typ id nobj : Nat) (source dual : Bool) : Nat :=
  typ + 16 * id + 128 * nobj + 1024 * b2n source + 2048 * b2n dual + 4096

/-- The device's header for a message. -/
def State.tieHdr (s : State) (n : Nat) (m : TieMsg) : Nat :=
  tieHeader m.typ m.id m.objs.length (s.tieSource n) (s.eff (tieF Reg.tieCfgDrp n) == 2)

/-- The CRC-32 of a frame, over its header and its objects (R298). -/
def tieCrc (hdr : Nat) (objs : List Nat) : Nat := (crc32 (natToBytes 2 hdr ++ wordBytes objs)).toNat

/-- The bits of a frame, the first one sent lowest: preamble, header, objects, CRC-32 (R298). -/
def tieBits (hdr : Nat) (objs : List Nat) : Nat :=
  0xAAAAAAAAAAAAAAAA + 2 ^ 64 * (hdr + 2 ^ 16 * (objs ++ [tieCrc hdr objs]).foldr (fun w x => w + 2 ^ 32 * x) 0)

/-- A frame leaves, counted in NMSG.TX. -/
def State.tieFrame (s : State) (n : Nat) (m : TieMsg) : State :=
  ((s.emit (.tieMessage n (s.tieHdr n m) m.objs (tieBits (s.tieHdr n m) m.objs))).inc (tieF Reg.tieNmsgTx n)).tieMod n fun t => { t with tx := some m, ended := false }

/-- A new message: sent at once, or behind the one on its way; MSGID advances (R300). -/
def State.tieSend (s : State) (n typ : Nat) (objs : List Nat) : State :=
  let m : TieMsg := { typ := typ, id := (s.tp n).msgId, objs := objs }
  let t := s.tieMod n fun x => { x with msgId := (x.msgId + 1) % 8 }
  if (s.tp n).tx.isNone then t.tieFrame n m else t.tieMod n fun x => { x with queue := x.queue ++ [m] }

/-- The next waiting message is sent. -/
def State.tieNext (s : State) (n : Nat) : State :=
  match (s.tp n).queue with
  | m :: r => (s.tieMod n fun x => { x with queue := r, tx := none }).tieFrame n m
  | [] => s.tieMod n fun x => { x with tx := none, ended := false }

/-- A RECEIPT for a received frame (R301). -/
def State.tieReceipt (s : State) (n id : Nat) : State :=
  let h := tieHeader 1 id 0 (s.tieSource n) (s.eff (tieF Reg.tieCfgDrp n) == 2)
  (s.emit (.tieReceipt n h (tieBits h []))).inc (tieF Reg.tieNmsgTx n)

/-- PMAX of the port at the latest settle: the lesser of PEXP and EXPHEAD in watts, rounded down (R303). -/
def State.tiePmax (s : State) (n : Nat) : Nat := min (s.eff (tieF Reg.tiePolPexp n)) (s.rd (abc0F Reg.abcExpheadExp 0) / 8)

/-- The objects that a source advertises (R303). -/
def State.tieCaps (s : State) (n : Nat) : List Nat :=
  [s.eff (tieF Reg.tieAdvVmin n) + 1024 * s.eff (tieF Reg.tieAdvVmax n)
      + 1048576 * min (s.eff (tieF Reg.tieAdv2Imax n)) (s.cableLimit n),
   s.tiePmax n + 65536 * s.eff (tieF Reg.tieAdv2Ehold n) + 0x40000000]

/-- CAPS is sent, and NOCONTRACT is left (R303). -/
def State.tieAdvertise (s : State) (n : Nat) : State :=
  let objs := s.tieCaps n
  let t := if s.tieState n = 10 then (s.setTie n 3).tieMod n fun x => { x with capsN := 0 } else s
  (t.tieMod n fun x => { x with capsSent := objs, capsN := x.capsN + 1, capsTimer := false, capsOnOn := false }).tieSend n 2 objs

/-- The port acts in host-policy mode: by its setting, or because PC0 is stopped (R314, Table 21.1). -/
def State.tieHost (s : State) (n : Nat) : Bool := s.effB (tieF Reg.tieCfgHost n) || !s.rdB (polF Reg.polStatRunning 0)

/-- CAPS that no message asked for: left to the host in host-policy mode (R314). -/
def State.tieOffer (s : State) (n : Nat) : State := if s.tieHost n then s else s.tieAdvertise n

/-- The contract ends: its objects clear, LIMITED clears, the limit is IDEF; CONTRACT when there was one (R321). -/
def State.tieEndContract (s : State) (n : Nat) : State :=
  let had := s.conReq n != 0
  let t := ((((s.wr (tieF Reg.tieConreqObj n) 0).wr (tieF Reg.tieConsupObj n) 0).wr (tieF Reg.tieConlimObj n) 0).wr
    (tieF Reg.tieStatLimited n) 0).setIdef n
  let u := t.tieMod n fun x => { x with low := 0 }
  if had then u.raise (544 + 8 * n + 1) else u

/-- READY is entered with the contract of the exchange (R305): objects, limit, CONTRACT event, and a TIE_REQUEST done. A
contract that ends power transfer holds IDEF, and a REQUEST equal to the contract in force changes no limit (R306). -/
def State.tieReady (s : State) (n : Nat) : State :=
  match (s.tp n).req with
  | some (r, sup, lim) =>
    let same := s.conLive n && s.conReq n == r
    let t := (((s.wr (tieF Reg.tieConreqObj n) r).wr (tieF Reg.tieConsupObj n) sup).wr (tieF Reg.tieConlimObj n) lim)
    let u := if same then t
      else ((if reqEnds r then t.setIdef n else t.setConLimit n (reqIreq r) 10).wr (tieF Reg.tieStatLimited n) 0).tieMod n
        fun x => { x with low := 0 }
    (((u.setTie n 5).tieMod n fun x => { x with req := none, moving := false, await := 0, capsN := 0, capsTimer := false }).raise
      (544 + 8 * n + 1)).doneWait (.tie n)
  | none => (s.setTie n 5).doneWait (.tie n)

/-- The own bus reading lies in the window of a SUPPLY object (100 mV units, R305). -/
def State.busInWindow (s : State) (sup : Nat) : Bool := 100 * supVmin sup ≤ s.busMv && s.busMv ≤ 100 * supVmax sup

/-- The steps of a transition at the source (R305): the bay closes, the limit is set, the bus is checked, READY is sent. With a
REQUEST equal to the contract in force READY is sent at once (R306). -/
def State.tieTransition (s : State) (n : Nat) : State :=
  match (s.tp n).req with
  | none => s
  | some (r, sup, _) =>
    let st := s.bayState (s.tieBay n)
    let ends := reqEnds r
    if s.conLive n && s.conReq n == r then (s.tieMod n fun x => { x with moving := false }).tieSend n 6 []
    else if ends || st == 3 || st == 4 then
      let t := if ends then s.setIdef n else s.setConLimit n (reqIreq r) 10
      let u := t.tieMod n fun x => { x with moving := false }
      if u.busInWindow sup then u.tieSend n 6 [] else u
    else (s.tieClose n).tieMod n fun x => { x with moving := true }

/-- The policy asks for a swap (R314; log entry 58): a dual-role port in READY whose limits name the other role only, and
no swap in the last 10 s. -/
def State.tieWantSwap (s : State) (n : Nat) : State :=
  let pexp := s.eff (tieF Reg.tiePolPexp n)
  let pimp := s.eff (tieF Reg.tiePolPimp n)
  let want := if s.tieSource n then pexp == 0 && 0 < pimp else pimp == 0 && 0 < pexp
  let rest := match (s.tp n).swapUs with | some u => decide (u + 10000000 ≤ s.us) | none => true
  if want && rest && !s.tieHost n && s.tieState n == 5 && (s.tp n).await == 0 && (s.tp n).tx.isNone
      && s.eff (tieF Reg.tieCfgDrp n) == 2 then
    (s.tieMod n fun x => { x with swapTo := some !s.tieSource n }).tieSend n 7 []
  else s

/-- What a settle means to a source port (R306, R307): the energy exported in an episode is counted against EHOLD, and a
headroom below the contract for 100 settles in a row calls for new CAPS. `p` is the posted power of its rod, positive on
import, over `span` cycles; `episode` says that the settle was formed in the hold-up episode. -/
def State.tieSettle (s : State) (n : Nat) (p : Int) (span : Nat) (episode : Bool) : State :=
  if !s.tieSource n then s
  else
    let e := (s.tp n).energy + (if episode then (-p).toNat * span else 0)
    if !s.conCarries n then s.tieMod n fun x => { x with energy := e }
    else if episode && decide (80000000 * limEhold (s.rd (tieF Reg.tieConlimObj n)) ≤ e) then
      let a := ((s.tieOpen n false).tieEndContract n).setTie n 3
      (a.tieMod n fun x => { x with energy := e, capsSent := [], capsTimer := false, req := none, moving := false }).tieSend n 2 []
    else
      let low := if s.rd (abc0F Reg.abcExpheadExp 0) < s.conBeads n then (s.tp n).low + 1 else 0
      let a := s.tieMod n fun x => { x with energy := e, low := low % 100 }
      if low = 100 then a.tieOffer n else a

/-- A role of the port written. -/
def State.setTieRole (s : State) (n : Nat) (source : Bool) : State := s.wrB (tieF Reg.tieStatRole n) source

/-- The roles of a swap are exchanged (R308): SWAP event, NEGOTIATE; the new source, whose bay is closed, advertises. -/
def State.tieExchange (s : State) (n : Nat) : State :=
  let now := !s.tieSource n
  let t := ((((s.tieEndContract n).setTieRole n now).setTie n 3).tieMod n fun x =>
    { x with await := 0, swapTo := none, backoff := false, req := none, swapUs := some s.us }).raise (544 + 8 * n + 2)
  if now then t.tieOffer n else t

/-- SWAP is entered: the old source opens its bay and sends READY (R308). -/
def State.tieEnterSwap (s : State) (n : Nat) : State :=
  let t := (s.setTie n 6).tieMod n fun x => { x with await := 0 }
  if t.tieSource n then (t.tieOpen n false).tieSend n 6 [] else t

/-- Everything a port has under way is dropped: messages, answers awaited, the exchange and the swap. -/
def State.tieQuiet (s : State) (n : Nat) : State :=
  s.tieMod n fun x =>
    { x with tx := none, ended := false, queue := [], await := 0, capsN := 0, capsTimer := false, capsOnOn := false, req := none,
             moving := false, swapTo := none, backoff := false }

/-- The MSGID counter and the capabilities of an attach or a hard reset: none (R300, R311). -/
def State.tieFresh (s : State) (n : Nat) : State :=
  (s.tieQuiet n).tieMod n fun x => { x with msgId := 0, last := none, capsSent := [] }

/-- What a hard reset does at this end, sent or received (R311): in any state the contract, MSGID, role and limit; in ERROR and
during the 25 ms open nothing else. -/
def State.tieReset (s : State) (n : Nat) : State :=
  let b := s.tieBay n
  let a := ((s.inc (tieF Reg.tieNevHrst n)).raise (544 + 8 * n + 3)).tieEndContract n
  let c := (a.setTieRole n (a.tp n).defSource).tieFresh n
  if c.tieState n == 7 || c.tieState n == 9 then c
  else if c.bayState b == 3 || c.bayState b == 4 then (c.bayTimedOpen b 2).setTie n 7
  else
    let d := c.setTie n 3
    if d.tieSource n then
      (if d.bayClosed b then d.tieMod n fun x => { x with capsOnOn := true } else d.tieOffer n)
    else d

/-- Signalling takes place in the state: attached, HARDRESET and ERROR. -/
def tieSignals (st : Nat) : Bool := (3 ≤ st && st ≤ 7) || st == 9 || st == 10

/-- A hard reset is sent (R310). -/
def State.tieSendReset (s : State) (n : Nat) : State :=
  if tieSignals (s.tieState n) then (s.emit (.tieHardReset n)).tieReset n else s

/-- The timed open of a hard reset is over, or a command ended it (R311): NEGOTIATE. -/
def State.tieResetEnd (s : State) (n : Nat) (byCommand : Bool) : State :=
  if s.tieState n = 7 then
    let t := s.setTie n 3
    if t.tieSource n && !byCommand then t.tieMod n fun x => { x with capsOnOn := true } else t
  else s

/-- A late arrival at a tie timer (R317). -/
def State.tieLate (s : State) (n : Nat) (late : Bool) : State := if late then s.late (544 + 8 * n + 7) else s

/-- The port whose tie bay is `b`, if an enabled one names it. -/
def State.tieOfBay (s : State) (b : Nat) : Option Nat :=
  if s.bayRole b = 3 then (List.range 4).find? fun n => s.effB (tieF Reg.tieCfgEn n) && s.tieBay n == b else none

/-- An accessory port closes or opens its bay to match R294. -/
def State.tieAccessory (s : State) (n : Nat) : State :=
  if s.tieState n = 2 then
    if s.effB (tieF Reg.tieCfgAccen n) && s.tieArmed n then s.tieClose n else s.tieOpen n false
  else s

/-- The host has toggled the bay of a port in ERROR (R313). -/
def State.tieToggled (s : State) (n : Nat) : State :=
  if s.tieState n = 9 then
    let t := (s.tieEndContract n).setTie n 3
    if t.tieSource n then t.tieOffer n else t
  else s

/-- TIE_POLICY settings take effect when no answer is awaited (Table 11.8). -/
def State.tiePolicyDue (s : State) (n : Nat) : State :=
  match (s.tp n).policy with
  | some (h, d) =>
    if (s.tp n).await == 0 then
      let t := ((s.wrB (tieF Reg.tieCfgHost n) h).wrA (tieF Reg.tieCfgHost n) (b2n h)).wr (tieF Reg.tieCfgDrp n) d |>.wrA
        (tieF Reg.tieCfgDrp n) d
      (t.tieMod n fun x => { x with policy := none }).doneWait (.tiePolicy n)
    else s
  | none => s

/-- What a port does when its bay has changed: CAPS or the transition once the bay is ON, the end of a reset whose timed
open a command ended, an accessory bay, and ERROR after a toggle that ARM makes (R118, R313). -/
def State.tieFollow1 (old s : State) (n : Nat) : State :=
  let b := s.tieBay n
  if !s.effB (tieF Reg.tieCfgEn n) || s.bayRole b != 3 || !s.lUp then s
  else
    let a := if (vget s.bay b).aborted = 2 then (s.bayMod b fun x => { x with aborted := 0 }).tieResetEnd n true else s
    let c := if old.bayState b != 3 && a.bayState b == 3 then
        let d := if (a.tp n).capsOnOn && a.tieSource n && a.tieState n == 3 then a.tieOffer n else a
        if (d.tp n).moving && d.tieState n == 4 then d.tieTransition n else d
      else a
    if old.rd (bayF Reg.bayCtlArm b) = c.rd (bayF Reg.bayCtlArm b) then c
    else if c.tieState n = 2 then c.tieAccessory n
    else if c.tieArmed n then c.tieToggled n
    else c

/-- Every port follows its bay. -/
def State.tieFollow (old s : State) : State := (List.range 4).foldl (fun t n => State.tieFollow1 old t n) s

end Sys2Proof.Machine
end

