-- ==== Sys2Proof/Machine/BatOps.lean ====
section
/-!
DEFINITION. Battery strings: tables and their lookup, anchors, learning, rests, module records (chapter 10), as the
operations that the battery events, the abacus and the bays share.
-/

namespace Sys2Proof.Machine

/-- The hidden part of a string. -/
def State.bt (s : State) (n : Nat) : BatS := vget s.bat n

/-- The hidden part of a string changed. -/
def State.batMod (s : State) (n : Nat) (f : BatS → BatS) : State := { s with bat := vmod s.bat n f }

/-- BATs_CFG.EN in effect. -/
def State.batEn (s : State) (n : Nat) : Bool := s.effB (batF Reg.batCfgEn n)

/-- The STORE bay of a string. -/
def State.batBay (s : State) (n : Nat) : Nat := s.eff (batF Reg.batCfgBay n)

/-- The battery group of a string. -/
def State.batGroup (s : State) (n : Nat) : Nat := s.eff (batF Reg.batCfgGroup n)

/-- BATs_STAT.SVC: 0 ABSENT, 1 INSERTED, 2 SERVICE, 3 RESTING. -/
def State.batSvc (s : State) (n : Nat) : Nat := s.rd (batF Reg.batStatSvc n)

/-- The enabled strings. -/
def State.strings (s : State) : List Nat := (List.range 24).filter fun n => s.batEn n

/-- The enabled strings of a group. -/
def State.groupStrings (s : State) (g : Nat) : List Nat := s.strings.filter fun n => s.batGroup n == g

/-- The strings in service: their STORE bay is closed and they do not rest (R257). -/
def State.inService (s : State) : List Nat := s.strings.filter fun n => s.batSvc n == 2

/-- The enabled string whose STORE bay is `b`. -/
def State.batOfBay (s : State) (b : Nat) : Option Nat := s.strings.find? fun n => s.batBay n == b

/-- Token bits [47:16] of a string: string, record index (R285). -/
def State.batDetail (s : State) (n : Nat) : Nat := n + 32 * s.rd (batF Reg.batStatRecidx n)

/-- A token of a string with its FAULT event: 1 OFFSET, 2 COUNTDIS, 3 NOID, 4 NOTEMP, 5 RECORD (R285). -/
def State.batToken (s : State) (n kind : Nat) : State := s.tokenEv (448 + 4 * n + 3) kind (s.batDetail n)

/-- The LEARN event of a string. -/
def State.batLearnEv (s : State) (n : Nat) : State := s.raise (448 + 4 * n + 1)

/-! ### Measurements -/

/-- Learned capacity in mC: the one in force, or the nameplate while no module record or learning gives one (R279). -/
def State.batQl (s : State) (n : Nat) : Nat :=
  if (s.bt n).ql = 0 then 360000 * s.eff (batF Reg.batNameQnom n) else (s.bt n).ql

/-- C, the current equal to Q_L divided by 1 h, in mA. -/
def State.batC (s : State) (n : Nat) : ℚ := (s.batQl n : ℚ) / 3600

/-- String current in 1/16 µA (R257): the code less the offset, times ILSB. -/
def State.batIx (s : State) (n code : Nat) : Int :=
  (16 * sx 16 code - sx 16 (s.rd (batF Reg.batOfsOfs n))) * (s.eff (batF Reg.batIsclIlsb n) : Nat)

/-- The present string current, mA; positive on discharge. -/
def State.batI (s : State) (n : Nat) : ℚ := (s.batIx n (s.sv (280 + n)) : ℚ) / 16000

/-- The present string voltage, 0.1 mV units. -/
def State.batV (s : State) (n : Nat) : ℚ := 20 * (s.sv (256 + n) : ℚ)

/-- The readings of the enabled thermistors of a string that are valid, 1/8 °C. -/
def State.batTherms (s : State) (n : Nat) : List Int :=
  ((if s.effB (batF Reg.batCfgThmaen n) then [s.eff (batF Reg.batCfgThma n)] else [])
    ++ (if s.effB (batF Reg.batCfgThmben n) then [s.eff (batF Reg.batCfgThmb n)] else [])).filterMap fun k =>
    if s.rdB (thmF Reg.thmMonValid k) then some (sx 16 (s.rd (thmF Reg.thmMonTemp k))) else none

/-- T in 1/8 °C: the higher valid reading, or 25 °C without one (R257). -/
def State.batT (s : State) (n : Nat) : Int :=
  match s.batTherms n with
  | [] => 200
  | t :: r => r.foldl max t

/-! ### Tables (R260) -/

/-- A 16-bit entry of a table packed two to a word. -/
def State.batEntry (s : State) (r : Row) (n e : Nat) : Nat := bits (s.eff (batFk r n (e / 2))) (16 * (e % 2)) 16

/-- The temperature axis, °C. -/
def State.batTax (s : State) (n : Nat) : List ℚ :=
  (List.range 8).map fun i =>
    (sx 8 (bits (s.eff (batF (if i < 4 then Reg.batTax0T else Reg.batTax1T) n)) (8 * (i % 4)) 8) : ℚ)

/-- The rate axis, 0.01 C. -/
def State.batRax (s : State) (n : Nat) : List ℚ :=
  (List.range 8).map fun i =>
    let r := if i < 2 then Reg.batRax0R else if i < 4 then Reg.batRax1R else if i < 6 then Reg.batRax2R else Reg.batRax3R
    (bits (s.eff (batF r n)) (16 * (i % 2)) 16 : ℚ)

/-- The SoC axis of the OCV and impedance tables, percent. -/
def socAxis : List ℚ := (List.range 21).map fun p => (5 * p : ℚ)

/-- The OCV column at temperature `t` (°C), 0.1 mV per cell. -/
def State.ocvCol (s : State) (n : Nat) (t : ℚ) (p : Nat) : ℚ :=
  interpolate (s.batTax n) (fun i => (s.batEntry Reg.batOcvE n (21 * i + p) : ℚ)) t

/-- OCV at a state of charge in percent, 0.1 mV per cell. -/
def State.ocv (s : State) (n : Nat) (soc t : ℚ) : ℚ := interpolate socAxis (s.ocvCol n t) soc

/-- OCV⁻¹: the state of charge, percent, at which the column at `t` equals `v` (0.1 mV per cell). -/
def State.ocvInv (s : State) (n : Nat) (v t : ℚ) : ℚ :=
  let col := s.ocvCol n t
  if v < col 0 then 0
  else
    match (List.range 20).find? fun p => v ≤ col (p + 1) with
    | some p => 5 * p + 5 * ((v - col p) / (col (p + 1) - col p))
    | none => 100

/-- The rate-capacity fraction F at a rate (0.01 C) and temperature. -/
def State.rateF (s : State) (n : Nat) (r t : ℚ) : ℚ :=
  interpolate (s.batTax n) (fun i => interpolate (s.batRax n) (fun j => (s.batEntry Reg.batRcF n (8 * i + j) : ℚ)) r) t / 10000

/-- The entry of an impedance column at index `p`, or the nearest learned one (R260); between two equally near, either
(log entry 24). -/
def State.zNear (s : State) (n t p : Nat) : Option Nat :=
  let e (q : Nat) := s.batEntry Reg.batZZ n (21 * t + q)
  let low (d : Nat) := if d ≤ p ∧ e (p - d) ≠ 0 then some (e (p - d)) else none
  let high (d : Nat) := if p + d ≤ 20 ∧ e (p + d) ≠ 0 then some (e (p + d)) else none
  (List.range 21).findSome? fun d =>
    match low d, high d with
    | some a, some b => some (if (Config.openValue 24 (21 * t + p)).toNat % 2 = 0 then a else b)
    | some a, none => some a
    | none, x => x

/-- Z at a temperature index and a SoC, 0.1 mΩ; none where the column holds no learned entry. -/
def State.zCol (s : State) (n t : Nat) (soc : ℚ) : Option ℚ :=
  if (s.zNear n t 0).isNone then none
  else some (interpolate socAxis (fun p => ((s.zNear n t p).getD 0 : ℚ)) soc)

/-- Z at a SoC (percent) and a temperature (°C), 0.1 mΩ (R260). -/
def State.batZ (s : State) (n : Nat) (soc t : ℚ) : Option ℚ :=
  let g := segment (s.batTax n) t
  match s.zCol n g.1 soc with
  | none => none
  | some a =>
    if g.2 = 0 then some a
    else
      match s.zCol n (g.1 + 1) soc with
      | none => none
      | some b => some (a + (b - a) * g.2)

/-! ### State of charge -/

/-- The count SoC, percent, clamped to 0 to 100 (R261). -/
def State.socC (s : State) (n : Nat) : ℚ :=
  let b := s.bt n
  if s.batQl n = 0 then qclamp 0 100 b.socA
  else qclamp 0 100 (b.socA - 100 * ((b.count - b.cntA : Int) : ℚ) / (s.batQl n : ℚ))

/-- The state of charge that is reported: clamped at 1 % while voltage is authoritative for empty (R265). -/
def State.socRep (s : State) (n : Nat) : ℚ :=
  if s.rdB (batF Reg.batStatCountdis n) then (if s.socC n < 1 then 1 else s.socC n) else s.socC n

/-- The anchor set to a state of charge in percent, at the present count. -/
def State.setAnchor (s : State) (n : Nat) (soc : ℚ) : State := s.batMod n fun b => { b with socA := soc, cntA := b.count }

/-- UNC set, in 0.1 % (R262 to R278). -/
def State.setUnc (s : State) (n tenths : Nat) : State :=
  (s.batMod n fun b => { b with unc := tenths * 1440000000, uncUs := s.us }).wr (batF Reg.batSocUnc n) tenths

/-- SOC reported in 0.01 % (log entry 51). -/
def State.showSoc (s : State) (n : Nat) : State := s.wr (batF Reg.batSocSoc n) (qround (100 * s.socRep n)).toNat

/-- The anchor of a rest point from the mean string voltage `v` (2 mV units), R262: UNC 1.0 %, COUNTDIS, PSEUDO and STALE
clear, BATs_SINCE zero. -/
def State.restAnchor (s : State) (n v : Nat) : State :=
  let soc := s.ocvInv n (20 * (v : ℚ) / (max 1 (s.eff (batF Reg.batCfgNcell n)) : Nat)) ((s.batT n : ℚ) / 8)
  let a := (((s.setAnchor n soc).setUnc n 10).wr (batF Reg.batStatCountdis n) 0).wr (batF Reg.batStatPseudo n) 0
  ((a.wr (batF Reg.batStatStale n) 0).batMod n fun b => { b with sinceUs := s.us, rested := true, due := false }).showSoc n

/-! ### Learning (R270 to R273) -/

/-- BATs_STAT.LSTATE (Table 10.2). -/
def State.batLst (s : State) (n : Nat) : Nat := s.rd (batF Reg.batStatLstate n)

/-- LSTATE written. -/
def State.setLst (s : State) (n st : Nat) : State := s.wr (batF Reg.batStatLstate n) st

/-- A cause of Table 10.1 disqualifies a discharge in progress (R271). -/
def State.batDq (s : State) (n cause : Nat) : State :=
  if s.batLst n = 2 then ((s.wr (batF Reg.batStatLdq n) cause).setLst n 4).batLearnEv n else s

/-- Charge is terminated: FULL sets, with its event where it was clear, the anchor is 100 % with UNC 1.0 %, and learning is
READY (R263, Table 10.2). -/
def State.batSetFull (s : State) (n : Nat) : State :=
  let a := if s.rdB (batF Reg.batStatFull n) then s else (s.wr (batF Reg.batStatFull n) 1).raise (448 + 4 * n)
  let t := (a.setAnchor n 100).setUnc n 10
  (if t.batLst n = 2 then t else t.setLst n 1).showSoc n

/-- FULL clears (R263); a READY string without a discharge is IDLE again. -/
def State.batClearFull (s : State) (n : Nat) : State :=
  let t := (s.wr (batF Reg.batStatFull n) 0).batMod n fun b => { b with charged := false }
  if t.batLst n = 1 then t.setLst n 0 else t

/-- Q_L set, in mC, with BATs_QLRN.QL in 0.1 Ah. -/
def State.setQl (s : State) (n ql : Nat) : State :=
  (s.batMod n fun b => { b with ql := ql }).wr (batF Reg.batQlrnQl n) (sat 16 (rdiv ql 360000))

/-- DCHG shown in 0.1 Ah. -/
def State.showDchg (s : State) (n : Nat) : State :=
  s.wr (batF Reg.batDchgDchg n) (sat 16 (rdiv (s.bt n).dchg.toNat 360000))

/-! ### Module records (R280, R281) -/

/-- The key, within a BAT page, of a field that a module record holds. -/
def recKey (k : Nat) : Bool :=
  let off := k / 32
  off == 0x07C || (off == 0x0A8 && k % 32 == 16) || (0x2D0 ≤ off && off < 0x420) || (0x440 ≤ off && off < 0x50C)

/-- The first key of string `n`'s page. -/
def batBase (n : Nat) : Nat := pageLo (0x070 + n)

/-- The record fields of a string's page, by key within the page. -/
def State.recRegs (s : State) (n : Nat) : Store :=
  (s.regs.filter fun p => decide (batBase n ≤ p.1) && decide (p.1 < batBase n + 131072) && recKey (p.1 - batBase n)).map
    fun p => (p.1 - batBase n, p.2)

/-- A string's page with the record fields `r`. -/
def State.putRec (s : State) (n : Nat) (r : Store) : State :=
  let rest := s.regs.filter fun p => !(decide (batBase n ≤ p.1) && decide (p.1 < batBase n + 131072) && recKey (p.1 - batBase n))
  { s with regs := r.foldr (fun p m => Store.ins (p.1 + batBase n) p.2 m) rest }

/-- A list of records with one replaced or added. -/
def putRecord (l : List ModRec) (r : ModRec) : List ModRec := (l.filter fun x => x.idx != r.idx) ++ [r]

/-- The working record of a string, as its page and hidden part stand. -/
def State.workRec (s : State) (n : Nat) : ModRec :=
  { idx := s.rd (batF Reg.batStatRecidx n),
    id := s.rd (batF Reg.batIdloId n) + 2 ^ 32 * s.rd (batF Reg.batIdhiId n),
    ql := (s.bt n).ql, dchg := (s.bt n).dchg, seen := s.us, regs := s.recRegs n }

/-- The string has a module record. -/
def State.hasRec (s : State) (n : Nat) : Bool := s.rd (batF Reg.batStatRecidx n) < 64

/-- The working copy of a string's record brought up to date in island RAM. -/
def State.saveRec (s : State) (n : Nat) : State :=
  if s.hasRec n then { s with recs := putRecord s.recs (s.workRec n) } else s

/-- The items that are written to eMRAM at once (Table 10.3): Q_L and NLRN, CYCLES, impedance entries; `sel` says which
keys, and `q` whether Q_L goes with them. -/
def State.nvmRec (s : State) (n : Nat) (sel : Nat → Bool) (q : Bool) : State :=
  if !s.hasRec n then s
  else
    let w := s.workRec n
    let t := s.saveRec n
    match t.recsNvm.find? fun x => x.idx == w.idx with
    | none => { t with recsNvm := putRecord t.recsNvm w }
    | some old =>
      let r : ModRec := { old with id := w.id, seen := w.seen, ql := if q then w.ql else old.ql,
                                   regs := Store.copy sel 0 131072 w.regs old.regs }
      { t with recsNvm := putRecord t.recsNvm r }

/-- A commit of the battery working records (R281): every working copy is written to eMRAM. -/
def State.recCommit (s : State) : State :=
  let t := s.strings.foldl State.saveRec s
  { t with recsNvm := t.recs, recDue := false, recUs := s.us }

/-- A commit falls due; within 60 s of the last one it is deferred (R281). -/
def State.recCommitDue (s : State) : State :=
  if s.recUs ≠ 0 ∧ s.us < s.recUs + 60000000 then { s with recDue := true } else s.recCommit

/-- The keys of Q_L and NLRN. -/
def qlKey (k : Nat) : Bool := k == 0x07C * 32 || k == 0x0A8 * 32 + 16

/-- The key of CYCLES. -/
def cyclesKey (k : Nat) : Bool := k == 0x07C * 32 + 16

/-- The keys of the impedance table. -/
def zKey (k : Nat) : Bool := decide (0x2D0 * 32 ≤ k) && decide (k < 0x420 * 32)

/-- The string uses the nameplate and keeps no record (R279). -/
def State.batNoid (s : State) (n : Nat) : State :=
  ((s.wr (batF Reg.batStatNoid n) 1).batToken n 3).batMod n fun b => { b with tries := none }

/-- The least recently seen record index, or a free one (R280). -/
def State.freeRec (s : State) : Nat :=
  match (List.range 64).find? fun i => !(s.recs.any fun r => r.idx == i) with
  | some i => i
  | none =>
    match s.recs with
    | [] => 0
    | r :: l => (l.foldl (fun m x => if x.seen < m.seen then x else m) r).idx

/-- A record is loaded: SoC is kept with a new anchor at the present count (R279), and DCHG takes what the module has discharged
since it was inserted. -/
def State.loadRec (s : State) (n : Nat) (r : ModRec) (known : Bool) : State :=
  let soc := s.socC n
  let a := (((s.putRec n r.regs).batMod n fun b => { b with ql := r.ql, dchg := r.dchg + b.dchg }).wr
    (batF Reg.batStatRecidx n) r.idx).wrB (batF Reg.batStatKnown n) known
  (((a.setQl n r.ql).showDchg n).setAnchor n soc).saveRec n

/-- An identity has been read (R279, R280). `bad` says that both copies of its record fail their check. -/
def State.batIdentity (s : State) (n id : Nat) (bad : Bool) : State :=
  let other := s.strings.any fun m => m != n && s.batSvc m != 0 && s.rd (batF Reg.batIdloId m) == id % 2 ^ 32
    && s.rd (batF Reg.batIdhiId m) == id / 2 ^ 32
  let a := ((s.wr (batF Reg.batIdloId n) (id % 2 ^ 32)).wr (batF Reg.batIdhiId n) (id / 2 ^ 32)).batMod n
    fun b => { b with tries := none }
  if id = 0 ∨ id = 2 ^ 64 - 1 ∨ other then a.batNoid n
  else
    let fresh (t : State) : State :=
      let r : ModRec := { idx := t.freeRec, id := id, ql := 360000 * t.eff (batF Reg.batNameQnom n), seen := t.us }
      State.loadRec { t with recsNvm := putRecord t.recsNvm r } n r false
    match a.recs.find? fun r => r.id == id with
    | some r =>
      if bad then
        fresh (State.batToken { a with recs := a.recs.filter (fun x => x.idx != r.idx),
                                       recsNvm := a.recsNvm.filter (fun x => x.idx != r.idx) } n 5)
      else a.loadRec n r true
    | none => fresh a

/-- A try to read the identity failed (R279): the third one sets NOID. -/
def State.batIdFail (s : State) (n : Nat) : State :=
  match (s.bt n).tries with
  | some k => if 3 ≤ k then s.batNoid n else s
  | none => s

/-! ### Rests (R277, R283) -/

/-- A rest has ended: early when no rest point was taken, which is retried after 60 min (R277). -/
def State.restEnd (s : State) (n : Nat) : State :=
  if (s.bt n).rest = 3 then
    let auto := !(s.bt n).restPt
    let t := s.batMod n fun b => { b with rest := 0, again := b.again || auto }
    State.raise { t with abc := { t.abc with rest := if t.abc.rest == some n then none else t.abc.rest, restFails := 0 } }
      (448 + 4 * n + 2)
  else s

/-- The rest in force is ended early: the STORE bay ramps back (R215, R242, R277). -/
def State.restStop (s : State) (n : Nat) : State :=
  if (s.bt n).rest = 3 then
    let b := s.batBay n
    (if s.bayState b == 7 && (vget s.bay b).owner == 3 then s.bayCycleEnd b else s).restEnd n
  else s

/-- BATs_SINCE: whole seconds since the last rest point, saturating (R267). -/
def State.sinceS (s : State) (n : Nat) : Nat := sat 32 ((s.us - (s.bt n).sinceUs) / 1000000)

/-- The string whose rest PC1 asks for next (R277): due, the largest BATs_SINCE, the lowest number on a tie. -/
def State.restPick (s : State) : Option Nat :=
  (s.strings.filter fun n => (s.bt n).due && s.effB (batF Reg.batTimeRoten n) && !(s.bt n).again && s.batSvc n == 2
      && !(vget s.abc.moves (s.batGroup n)).on).foldl
    (fun m n =>
      match m with
      | none => some n
      | some k => if s.sinceS k < s.sinceS n then some n else some k) none

/-- Policy core `c` runs (R508): it has verified firmware and is not stopped. -/
def State.coreUp (s : State) (c : Nat) : Bool := s.lUp && s.rdB (polF Reg.polStatRunning c)

/-- The oldest BAT_REST that waits becomes the rest that is asked for, when none is (R283). -/
def State.restAdvance (s : State) : State :=
  match s.abc.restAsk, s.abc.restWait with
  | none, n :: l => { s with abc := { s.abc with restAsk := some n, restWait := l } }
  | _, _ => s

/-- PC1 asks the abacus for a rest by rotation, when none is asked for or in force (R277). -/
def State.restRequest (s : State) : State :=
  if s.abc.restAsk.isSome || s.abc.rest.isSome || s.effB (pol0F Reg.polHpmBat 0) || !s.coreUp 1 then s
  else
    match s.restPick with
    | some n => { s.batMod n fun b => { b with rest := 1 } with abc := { s.abc with restAsk := some n } }
    | none => s

/-! ### Learning discharges (R276) -/

/-- The move of a group. -/
def State.move (s : State) (g : Nat) : MoveS := vget s.abc.moves g

/-- The move of a group changed. -/
def State.moveMod (s : State) (g : Nat) (f : MoveS → MoveS) : State :=
  { s with abc := { s.abc with moves := vmod s.abc.moves g f } }

/-- The commands that wait for the start of a learning discharge of group `g`; the wait names a string of the group. -/
def State.learnDone (s : State) (g code reason : Nat) : State :=
  s.doneWhere (fun w => match w with | .learn n => s.batGroup n == g | _ => false) code reason

/-- The learning discharge of a group ends (R276): every string of the group that is still in its discharge is
disqualified with the cause. -/
def State.learnStop (s : State) (g cause : Nat) : State :=
  if (s.move g).on || (s.move g).ask then
    let t := s.moveMod g fun _ => {}
    if (s.move g).on then (t.groupStrings g).foldl (fun u n => u.batDq n cause) t else t
  else s

/-! ### What a string does when its bay has changed -/

/-- SVC of a string by its bay (R257, R278). -/
def State.svcOf (s : State) (n : Nat) : Nat :=
  let b := s.batBay n
  if s.bayClosed b then 2
  else if s.bayState b == 7 && (vget s.bay b).owner == 3 then 3
  else if s.rdB (bayF Reg.bayStatPresent b) || s.bayState b == 7 then 1
  else 0

/-- A module leaves its string: its record, its learning (Table 10.2), its identity and its offset calibration (R279, R284). -/
def State.batForget (s : State) (n : Nat) : State :=
  let a := ((((s.saveRec n).putRec n []).setLst n 0).wr (batF Reg.batStatRecidx n) 0x7F).wr (batF Reg.batStatKnown n) 0
  let b := (((a.wr (batF Reg.batStatNoid n) 0).wr (batF Reg.batOfsOfsok n) 0).wr (batF Reg.batIdloId n) 0).wr (batF Reg.batIdhiId n) 0
  b.batMod n fun x => { x with ql := 0, dchg := 0, tries := none, cal := false }

/-- SVC written, with its event; a string that is removed forgets its module. -/
def State.setSvc (s : State) (n svc : Nat) : State :=
  if s.batSvc n = svc then s
  else
    let t := (s.wr (batF Reg.batStatSvc n) svc).raise (448 + 4 * n)
    if svc = 0 then t.batForget n else t

/-- A string follows its bay: a rest whose timed open ended or was ended by a command, a discharge whose bay opened
(Table 10.1), SVC. -/
def State.batFollow1 (old s : State) (n : Nat) : State :=
  if !s.batEn n then s
  else
    let b := s.batBay n
    let a := if (vget s.bay b).aborted = 3 then (s.bayMod b fun x => { x with aborted := 0 }).restEnd n else s
    let c := if (a.bt n).rest = 3 ∧ a.bayState b ≠ 7 then a.restEnd n else a
    let d := if old.bayClosed b && !c.bayClosed b then c.batDq n 4 else c
    if d.lUp then d.setSvc n (d.svcOf n) else d

/-- Every string follows its bay. -/
def State.batFollow (old s : State) : State := (List.range 24).foldl (fun t n => State.batFollow1 old t n) s

end Sys2Proof.Machine
end

