-- ==== Sys2Proof/Machine/TwcOps.lean ====
section
/-!
DEFINITION. Two-wire controller ports: transactions, their issuers, hangs and the cure (chapter 14).
-/

namespace Sys2Proof.Machine

/-- The hidden part of a controller port. -/
def State.twp (s : State) (n : Nat) : TwcS := vget s.twc n

/-- The hidden part of a controller port changed. -/
def State.twMod (s : State) (n : Nat) (f : TwcS → TwcS) : State := { s with twc := vmod s.twc n f }

/-- TWCn_STAT.STATE (Table 14.2). -/
def State.twSt (s : State) (n : Nat) : Nat := s.rd (twcF Reg.twcStatState n)

/-- TWCn_STAT.STATE written. -/
def State.setTw (s : State) (n st : Nat) : State := s.wr (twcF Reg.twcStatState n) st

/-- The enabled map entries of a port, in ascending k. -/
def State.twEntries (s : State) (n : Nat) : List Nat := (List.range 16).filter fun k => s.effB (twcFk Reg.twcMapEn n k)

/-- The port and address of the addressable module of bay `b` (R386). -/
def State.twModule (s : State) (b : Nat) : Option (Nat × Nat) :=
  ((List.range 8).filter fun n => s.effB (twcF Reg.twcCfgEn n)).findSome? fun n =>
    ((s.twEntries n).find? fun k => s.eff (twcFk Reg.twcMapBay n k) == b && !s.effB (twcFk Reg.twcMapNopmb n k)).map
      fun k => (n, s.eff (twcFk Reg.twcMapAddr n k))

/-! ### Results to the issuers (R387, R398) -/

/-- The result of VOUT_TRIM write number `tag` (R211): the trim stands, or the failure is counted. A write that its slot has
counted as failed is not the present one: its completion is LATE on EV388. -/
def State.trimResult (s : State) (b tag : Nat) (ok : Bool) : State :=
  match (vget s.bay b).trimTo, (vget s.bay b).trimId == tag with
  | none, _ | _, false => if ok then s.late 388 else s
  | some t, true =>
    let a := s.bayMod b fun x => { x with trimTo := none }
    if ok then (a.wr (abc3F Reg.abcTrimTrim b) (tw 13 t)).wr (abc3F Reg.abcTrimTrimok b) 1
    else ((a.inc (abc0F Reg.abcNtrimfCnt 0)).wr (abc3F Reg.abcTrimTrimok b) 0).raise 388

/-- The power in W of a READ_POUT word in the LINEAR11 format of PMBus (log entry 25). -/
def linear11 (w : Nat) : ℚ :=
  let e := sx 5 (bits w 11 5)
  let m : ℚ := (sx 11 (bits w 0 11) : Int)
  if e < 0 then m / (2 ^ e.natAbs : Nat) else m * (2 ^ e.toNat : Nat)

/-- The result of a telemetry read of FEED bay `b` (R252). -/
def State.telResult (s : State) (b : Nat) (ok : Bool) (data : List Nat) : State :=
  { s with bal := { s.bal with cand := vmod s.bal.cand b fun c =>
      if ok then { c with telSum := c.telSum + linear11 (nth data 0 % 256 + 256 * (nth data 1 % 256)), telN := c.telN + 1 }
      else { c with telFail := true } } }

/-- The words of TWCn_HDATAj filled with the first 32 bytes of a read. -/
def State.hostData (s : State) (n : Nat) (data : List Nat) : State :=
  (List.range 8).foldl (fun t j =>
    if 4 * j < data.length then
      t.wr (twcFk Reg.twcHdataD n j) (nth data (4 * j) % 256 + 256 * (nth data (4 * j + 1) % 256)
        + 65536 * (nth data (4 * j + 2) % 256) + 16777216 * (nth data (4 * j + 3) % 256))
    else t) s

/-- The result of a host pass-through (R398). -/
def State.hostResult (s : State) (n result : Nat) (data : List Nat) : State :=
  let a := (((s.wr (twcF Reg.twcHstatBusy n) 0).wr (twcF Reg.twcHstatDone n) 1).wr (twcF Reg.twcHstatResult n) result).wr
    (twcF Reg.twcHstatRlen n) (if result = 0 then min 255 data.length else 0)
  let b := a.wrB (twcF Reg.twcHstatTrunc n) (result == 0 && 32 < data.length)
  if result = 0 then b.hostData n (data.take 32) else b.raise (808 + 5 * n)

/-- The result of a transaction goes to its issuer: 0 OK, 1 to 7 of TWCn_HSTAT.RESULT. `bad` is the check of R280. -/
def State.xactResult (s : State) (n : Nat) (x : Xact) (result : Nat) (data : List Nat) (bad : Bool) : State :=
  if x.cls = 0 then s.trimResult x.arg x.tag (result == 0)
  else if x.cls = 1 then
    (if result = 0 then
      (if (s.bt x.arg).tries.isSome then s.batIdentity x.arg (bytesToNat ((data.take 8).map (BitVec.ofNat 8))) bad
       else s.late (448 + 4 * x.arg + 3))
     else s.batIdFail x.arg)
  else if x.cls = 2 then s.telResult x.arg (result == 0) data
  else s.hostResult n result data

/-- The bytes that a port sends after the command code: the data, and where the port sends the last byte the PEC over the address
byte, the code and the data (R385); trims carry one always (R211). -/
def State.xactBytes (s : State) (n : Nat) (x : Xact) : List Nat :=
  if x.write && (s.effB (twcF Reg.twcCfgPec n) || x.cls == 0) then x.data ++ [crc8 (2 * x.addr :: x.code :: x.data)] else x.data

/-- A transaction starts on the bus. -/
def State.xactStart (s : State) (n : Nat) (x : Xact) : State :=
  ((s.emit (.pmbus n x.addr x.code (s.xactBytes n x))).twMod n fun t => { t with run := some { x with again := false } }).setTw n 2

/-- The next waiting transaction is taken: class order, then order of request (R387). -/
def State.twNext (s : State) (n : Nat) : State :=
  if s.twSt n ≠ 1 ∨ (s.twp n).run.isSome then s
  else
    match (List.range 4).findSome? fun c => (s.twp n).queue.findIdx? fun x => x.cls == c with
    | some i => (s.twMod n fun t => { t with queue := t.queue.eraseIdx i }).xactStart n ((s.twp n).queue.getD i {})
    | none => s

/-- The result with which a port fails a new request at once: HUNG or RETIRED (R390, R397). -/
def State.twFails (s : State) (n : Nat) : Option Nat :=
  if s.twSt n = 3 ∨ s.twSt n = 4 then some 6 else if s.twSt n = 5 then some 7 else none

/-- A transaction is requested on a port. -/
def State.xactRequest (s : State) (n : Nat) (x : Xact) : State :=
  match s.twFails n with
  | some r => s.xactResult n x r [] false
  | none => (s.twMod n fun t => { t with queue := t.queue ++ [x] }).twNext n

/-- XFAIL of a transaction that is not the host's, whose result raises it (R387, R398). -/
def State.xfail (s : State) (n : Nat) (x : Xact) : State := if x.cls = 3 then s else s.raise (808 + 5 * n)

/-- The running transaction ends with a result, which goes to its issuer; the next one starts. XFAIL follows a NAK or PEC
error after the last retry (R387). -/
def State.xactEnd (s : State) (n result : Nat) (data : List Nat) (bad : Bool) : State :=
  match (s.twp n).run with
  | none => s
  | some x =>
    let a := (s.twMod n fun t => { t with run := none }).setTw n 1
    let b := if result = 0 then a.inc (twcF Reg.twcNxfrCnt n)
      else if result = 1 ∨ result = 2 then (a.inc (twcF Reg.twcNerrNak n)).xfail n x
      else if result = 3 then (a.inc (twcF Reg.twcNerrPecerr n)).xfail n x
      else a
    (b.xactResult n x result data bad).twNext n

/-- Every waiting and running transaction fails (R390). -/
def State.xactFlush (s : State) (n result : Nat) : State :=
  let l := (match (s.twp n).run with | some x => [x] | none => []) ++ (s.twp n).queue
  l.foldl (fun t x => t.xactResult n x result [] false) (s.twMod n fun t => { t with run := none, queue := [] })

/-! ### The cure (R391 to R394) -/

/-- A segment retires (R393): RETIRED event, token NOCURE on the HANG source. -/
def State.twRetire (s : State) (n : Nat) : State :=
  (((((s.setTw n 5).wr (twcF Reg.twcStatRetired n) 1).setRetired 3 n true).raise (808 + 5 * n + 4)).token
    (808 + 5 * n + 2) 0x02 n).twMod n fun t => { t with taken := [], skipped := [], again := [], ask := none }

/-- The entries that the cure takes: enabled, with CYC. -/
def State.cureEntries (s : State) (n : Nat) : List Nat := (s.twEntries n).filter fun k => s.effB (twcFk Reg.twcMapCyc n k)

/-- The next entry to take: one that has not been taken once, or one that is to be asked again. -/
def State.cureNext (s : State) (n : Nat) : Option Nat :=
  match (s.cureEntries n).find? fun k => !(s.twp n).taken.contains k with
  | some k => some k
  | none => (s.twp n).again.head?

/-- Entry `k` is skipped, and counted; a STORE bay is not asked again (R391, R393). -/
def State.cureSkip (s : State) (n k : Nat) : State :=
  let store := s.bayRole (s.eff (twcFk Reg.twcMapBay n k)) == 1
  (s.inc (twcF Reg.twcNhangSkipped n)).twMod n fun t =>
    { t with taken := if t.taken.contains k then t.taken else t.taken ++ [k], again := t.again.filter fun x => x != k,
             skipped := if store || t.skipped.contains k then t.skipped else t.skipped ++ [k], ask := none }

/-- Port `n`, which no other port keeps waiting, takes entries until it asks for a release, or retires (R391, R393). -/
def State.cureTake : Nat → Nat → State → State
  | 0, _, s => s
  | f + 1, n, s =>
    if s.twSt n ≠ 4 ∨ (s.twp n).ask.isSome ∨ (s.twp n).cyc.isSome then s
    else
      match s.cureNext n with
      | some k =>
        let b := s.eff (twcFk Reg.twcMapBay n k)
        let a := s.wr (twcF Reg.twcStatCuridx n) k
        if a.bayRole b = 1 ∨ ¬ (a.bayState b = 3 ∨ a.bayState b = 4) then State.cureTake f n (a.cureSkip n k)
        else a.twMod n fun t => { t with ask := some k }
      | none => if (s.twp n).skipped.isEmpty then s.twRetire n else s

/-- The ports that cure are served in ascending number, one bay at a time (R391). -/
def State.cureServe (s : State) : State :=
  (List.range 8).foldl (fun t n =>
    if (List.range 8).any fun m => (t.twp m).ask.isSome || (t.twp m).cyc.isSome then t else State.cureTake 64 n t) s

/-- A release that the abacus has judged (R218, R391): the bay makes its timed open, or is skipped. -/
def State.cureRelease (s : State) (n : Nat) (ok : Bool) : State :=
  match (s.twp n).ask with
  | none => s
  | some k =>
    let b := s.eff (twcFk Reg.twcMapBay n k)
    if ok && (s.bayState b == 3 || s.bayState b == 4) && s.twSt n == 4 then
      (s.bayTimedOpen b 1).twMod n fun t =>
        { t with ask := none, cyc := some k, back := false, again := t.again.filter fun x => x != k,
                 taken := if t.taken.contains k then t.taken else t.taken ++ [k], skipped := t.skipped.filter fun x => x != k }
    else (s.cureSkip n k).cureServe

/-- The cycle of an entry is done: counted, and the cure goes on. -/
def State.cureDone (s : State) (n : Nat) : State :=
  ((s.inc (twcF Reg.twcNhangCycled n)).twMod n fun t => { t with cyc := none, back := false }).cureServe

/-- A cure is begun on a hung segment with CYCLE = 1 and an entry to take (Table 14.2). -/
def State.cureBegin (s : State) (n : Nat) : State :=
  if s.twSt n = 3 ∧ s.effB (twcF Reg.twcCfgCycle n) ∧ !(s.cureEntries n).isEmpty then
    ((s.setTw n 4).twMod n fun t => { t with taken := [], skipped := [], again := [], ask := none }).cureServe
  else s

/-- The segment is judged hung (R390). -/
def State.twHang (s : State) (n : Nat) (sda scl : Bool) : State :=
  let a := ((s.wrB (twcF Reg.twcStatSdalow n) sda).wrB (twcF Reg.twcStatScllow n) scl).setTw n 3
  let b := (a.xactFlush n 6).twMod n fun t => { t with judge := false }
  (((b.inc (twcF Reg.twcNhangHangs n)).raise (808 + 5 * n + 2)).token (808 + 5 * n + 2) 0x01 n).cureBegin n

/-- A hung segment is released (R392): CULPRIT, CURED, IDLE. -/
def State.twRelease (s : State) (n : Nat) : State :=
  let culprit := match (s.twp n).cyc with
    | some k => if (s.twp n).back then 0x3F else s.eff (twcFk Reg.twcMapBay n k)
    | none => 0x3F
  let a := if s.twSt n = 4 then s.inc (twcF Reg.twcNhangCured n) else s
  let b := (((a.wr (twcF Reg.twcStatSdalow n) 0).wr (twcF Reg.twcStatScllow n) 0).wr (twcF Reg.twcStatCulprit n) culprit).setTw n 1
  (((b.twMod n fun t => { t with taken := [], skipped := [], again := [], ask := none }).raise (808 + 5 * n + 3)).twNext n).cureServe

/-- A port follows the bay that it cycles (R391, R394): a command ended the open, the ramp back began, or ended. -/
def State.twFollow1 (s : State) (n : Nat) : State :=
  match (s.twp n).cyc with
  | none => s
  | some k =>
    let b := s.eff (twcFk Reg.twcMapBay n k)
    if (vget s.bay b).aborted = 1 then
      (((s.bayMod b fun x => { x with aborted := 0 }).twMod n fun t => { t with cyc := none, back := false }).cureSkip n k).cureServe
    else if s.bayState b = 7 then s
    else if s.bayState b = 2 then s.twMod n fun t => { t with back := true }
    else s.cureDone n

/-- Every port follows its bays; nothing moves while the L-die is down (R395). -/
def State.twFollow (s : State) : State := if s.lUp then (List.range 8).foldl State.twFollow1 s else s

/-! ### Requests of the issuers -/

/-- An identity read of the module in bay `b` for string `n` (R279); none where the bay has no addressable module. -/
def State.idRequest (s : State) (n : Nat) : State :=
  match s.twModule (s.batBay n) with
  | some (p, a) => s.xactRequest p { cls := 1, arg := n, addr := a, code := 0x9E }
  | none => s.batIdFail n

/-- A try to read the identity begins (R279). -/
def State.idTry (s : State) (n : Nat) : State :=
  match (s.bt n).tries with
  | some k => if k < 3 then (s.batMod n fun b => { b with tries := some (k + 1) }).idRequest n else s.batNoid n
  | none => s

end Sys2Proof.Machine
end

