-- ==== Sys2Proof/Machine/Follow.lean ====
section
/-!
DEFINITION. What the other units see of a change of a loop, a phase or a bay: the sequencer, the tie ports, the battery
strings, the hang cure and the loop analyzer follow it in the same step.
-/

namespace Sys2Proof.Machine

/-- LAN_STAT.STATE: 0 IDLE, 1 SWEEP, 2 IMPEDANCE. -/
def State.lanSt (s : State) : Nat := s.rd (lanF Reg.lanStatState 0)

/-- The loop that is measured. -/
def State.lanLoop (s : State) : Nat := s.rd (lanF Reg.lanStatLoop 0)

/-- A measurement in progress is aborted with a cause of Table 19.2: LANABORT, and a LAN_RUN fails (R490, R495). -/
def State.lanAbort (s : State) (cause : Nat) : State :=
  if s.lanSt = 0 then s
  else
    let t := ((s.wr (lanF Reg.lanStatState 0) 0).wr (lanF Reg.lanStatAbort 0) cause).raise 1001
    State.doneWait { t with lan := { t.lan with seq := none } } .lan 3 0x11

/-- A measurement follows its loop (Table 19.2): FAULT, STATE, LIMIT. Tokens that stop nothing are seen when they are taken. -/
def State.lanFollow (old s : State) : State :=
  if s.lanSt = 0 then s
  else
    let n := s.lanLoop
    let out (t : State) (j : Nat) : Bool := t.phSt j == 5 || t.phSt j == 6
    let bayOpen := s.lanSt == 2 && (s.groupStrings s.lan.group).any fun m =>
      old.bayClosed (s.batBay m) && !s.bayClosed (s.batBay m)
    if s.loopSt n = 6 ∨ bayOpen ∨ (s.loopPhases n).any (fun j => out s j && !out old j) then s.lanAbort 8
    else if s.loopSt n ≠ 3 ∨ !s.rdB (loopF Reg.loopStatPgood n) then s.lanAbort 3
    else if s.rdB (loopF Reg.loopStatIlimit n) && !old.rdB (loopF Reg.loopStatIlimit n) then s.lanAbort 4
    else s

/-- A token that the collector takes aborts the measurement of its loop: a loop or phase token (Table 19.2, FAULT). -/
def State.lanToken (s : State) (t : Tok) : State :=
  let n := s.lanLoop
  if (256 + 4 * n ≤ t.src && t.src < 260 + 4 * n) || (s.loopPhases n).any (fun j => t.src == 320 + j) then s.lanAbort 8 else s

/-- A hold-up episode begins: TRIGGER is a capture trigger (R416). -/
def State.holdupBegins (s : State) : State :=
  if bitOf (s.eff (cap0F Reg.capTrigSrcen 0)) 1 then s.capTrigger 1 s.us else s

/-- The flights follow the hold-up episodes (R338, R342): the end of an episode is the return condition of RET = 1, a
trigger ends it, and EXPIRED starts the flights with TRIG. -/
def State.hldFollow (old s : State) : State :=
  let was := old.rd (hldF Reg.hldStatState 0)
  let now := s.rd (hldF Reg.hldStatState 0)
  if !s.lUp then s
  else
    let s := if was = 0 ∧ now ≠ 0 then s.holdupBegins else s
    let a := if was = 0 ∧ now ≠ 0 then (s.retFlights 1 fun _ => true).foldl State.condCease s
      else if was ≠ 0 ∧ now = 0 then (s.retFlights 1 fun _ => true).foldl State.condTaken s else s
    if !old.rdB (hldF Reg.hldStatExpired 0) && s.rdB (hldF Reg.hldStatExpired 0) then
      ((List.range 8).filter fun f => s.effB (flF Reg.flCfgTrig f)).foldl (fun t f => t.deviceStart f true) a
    else a

/-- Every unit follows the change from `old` to `s`. -/
def State.follow (old s : State) : State :=
  (old.lanFollow (old.batFollow (old.tieFollow (old.flightFollow (old.hldFollow s))))).twFollow

end Sys2Proof.Machine
end

