-- ==== Sys2Proof/Machine/LanOps.lean ====
section
/-!
DEFINITION. The generator of the loop analyzer, and the number work of its results: sine, angle and logarithm by shift and
add (chapter 19; log entry 59).
-/

namespace Sys2Proof.Machine

/-- The angles whose tangent is 2⁻ⁱ, in 2⁻⁴⁰ of a turn. -/
def atanTable : List Int :=
  [137438953472, 81134951838, 42869480287, 21761217566, 10922836750, 5466743129, 2734038620, 1367102738]
  ++ [683561799, 341782203, 170891265, 85445653, 42722829, 21361415, 10680707, 5340354]
  ++ [2670177, 1335088, 667544, 333772, 166886, 83443, 41722, 20861]
  ++ [10430, 5215, 2608, 1304, 652, 326, 163, 81]

/-- `x / 2 ^ i` rounded down. -/
def ishr (x : Int) (i : Nat) : Int := x / (2 ^ i : Nat)

/-- The vector is turned through the angle `z`, step by step from table entry `i`. -/
def rotate : List Int → Nat → Int → Int → Int → Int × Int
  | [], _, x, y, _ => (x, y)
  | a :: r, i, x, y, z =>
    if 0 ≤ z then rotate r (i + 1) (x - ishr y i) (y + ishr x i) (z - a)
    else rotate r (i + 1) (x + ishr y i) (y - ishr x i) (z + a)

/-- The sine of `phase` (2⁻³² of a turn), in 2⁻⁴⁰. -/
def sine (phase : Nat) : Int :=
  let p : Nat := phase % 2 ^ 32
  let q : Int := if p < 2 ^ 30 then (p : Int) else if p < 3 * 2 ^ 30 then (2 ^ 31 : Int) - (p : Int) else (p : Int) - 2 ^ 32
  (rotate atanTable 0 667681663043 0 (256 * q)).2

/-- The angle of a vector with `x ≥ 0` is added up while the vector is turned to the axis, in 2⁻⁴⁰ of a turn. -/
def vector : List Int → Nat → Int → Int → Int → Int
  | [], _, _, _, z => z
  | a :: r, i, x, y, z =>
    if 0 ≤ y then vector r (i + 1) (x + ishr y i) (y - ishr x i) (z + a)
    else vector r (i + 1) (x - ishr y i) (y + ishr x i) (z - a)

/-- The angle of (x, y) in 0.01°, from −18,000 to 18,000; 0 for the null vector. -/
def angle (x y : Int) : Int :=
  if x = 0 ∧ y = 0 then 0
  else
    let k : Int := 2 ^ 48
    let z := if 0 ≤ x then vector atanTable 0 (k * x) (k * y) 0
      else if 0 ≤ y then 2 ^ 39 + vector atanTable 0 (-(k * x)) (-(k * y)) 0
      else -(2 ^ 39) + vector atanTable 0 (-(k * x)) (-(k * y)) 0
    irdiv (36000 * z) (2 ^ 40)

/-- Fraction bits of a logarithm: `m` is in [1, 2) with 48 fraction bits. -/
def log2Frac : Nat → Nat → Nat → Nat
  | 0, _, acc => acc
  | n + 1, m, acc =>
    let q := m * m / 2 ^ 48
    if 2 ^ 49 ≤ q then log2Frac n (q / 2) (2 * acc + 1) else log2Frac n q (2 * acc)

/-- log₂ (num / den) with 32 fraction bits; 0 where either is 0. -/
def log2Q (num den : Nat) : Int :=
  if num = 0 ∨ den = 0 then 0
  else
    let e : Int := (Nat.log2 num : Int) - (Nat.log2 den : Int)
    let a := if 0 ≤ e then num * 2 ^ 48 / (den * 2 ^ e.toNat) else num * 2 ^ (48 + e.natAbs) / den
    let p := if a < 2 ^ 48 then (e - 1, 2 * a) else (e, a)
    p.1 * 2 ^ 32 + (log2Frac 32 p.2 0 : Nat)

/-- 10 log₁₀ (num / den) in Q8.8 dB. -/
def decibels (num den : Nat) : Int := irdiv (log2Q num den * 3010299957 * 256) (10 ^ 9 * 2 ^ 32)

/-- The greatest `f` below 2 ^ bits for which `p` holds, counted up from `acc`. -/
def greatest (p : Nat → Bool) : Nat → Nat → Nat
  | 0, acc => acc
  | b + 1, acc => if p (acc + 2 ^ b) then greatest p b (acc + 2 ^ b) else greatest p b acc

/-- The frequency of point `k` of a sweep (R495): evenly spaced in log f, rounded to 1 Hz. -/
def sweepFreq (fstart fstop npts k : Nat) : Nat :=
  if npts ≤ 1 ∨ k = 0 then fstart
  else
    let n := npts - 1
    let goal := fstart ^ (n - k) * fstop ^ k
    let f := greatest (fun x => x ^ n ≤ goal) 18 0
    if (2 * f + 1) ^ n ≤ 2 ^ n * goal then f + 1 else f

/-- The frequency of the point in progress. -/
def State.lanFreq (s : State) : Nat :=
  sweepFreq s.lan.fstart s.lan.fstop s.lan.npts (s.rd (lanF Reg.lanStatDonepts 0))

/-- The generator advances at a sample instant of the loop that is measured. -/
def State.lanAdvance (s : State) (n : Nat) : State :=
  if s.lanSt = 0 ∨ s.lanLoop ≠ n then s
  else
    let step := rdiv (s.lanFreq * s.eff (loopF Reg.loopPerPer n) * 2 ^ 32) 400000000
    { s with lan := { s.lan with phase := (s.lan.phase + step) % 2 ^ 32 } }

/-- What the generator adds at an injection point of loop `n` (Table 19.1): `unit` is the unit of the amplitude. -/
def State.lanInject (s : State) (n point unit : Nat) : Int :=
  if s.lanSt = 0 ∨ s.lanLoop ≠ n ∨ s.rd (lanF Reg.lanStatPoint 0) ≠ point then 0
  else irdiv (sine s.lan.phase * (s.lan.amp * unit : Nat)) (2 ^ 40)

end Sys2Proof.Machine
end

