-- ==== Sys2Proof/Machine/Timebase.lean ====
section
/-!
DEFINITION. The timebase and the fabric replica (chapter 2): PLL lock, the crystal and its loss, calibration, the
microsecond counter.
-/

namespace Sys2Proof.Machine

/-- The state of the whole device changed. -/
def State.sysMod (s : State) (f : SysS → SysS) : State := { s with sys := f s.sys }

/-- FORCEINT takes effect in BENCH only (Table 2.5). -/
def State.forceInt (s : State) : Bool := s.mode == .bench && s.rdB (tmbF Reg.tmbCfgForceint 0)

/-- The PLL is referenced to the internal oscillator. -/
def State.onInt (s : State) : Bool := s.rdB (tmbF Reg.tmbStatOnint 0)

/-- The PLL changes its reference without losing lock: SLEWING (R32, R37). -/
def State.slewTo (s : State) (int : Bool) : State := (s.wrB (tmbF Reg.tmbStatOnint 0) int).wr (tmbF Reg.tmbStatSlewing 0) 1

/-- The move to a qualified crystal; XTALBACK on a return after a loss (R32, R38). -/
def State.toCrystal (s : State) (back : Bool) : State :=
  let a := (s.slewTo false).sysMod fun x => { x with xtalEver := true, forced := false }
  if back then a.raise 9 else a

/-- The reference that the PLL takes as things stand: the internal oscillator while FORCEINT acts (Table 2.5); a qualified
crystal when FORCEINT alone held the PLL off it or none has been taken since the cold reset (R32), and after a loss with
AUTORET = 1 (R38; log entry 61). -/
def State.forceFollow (s : State) : State :=
  if s.forceInt then (if s.onInt then s else (s.slewTo true).sysMod fun x => { x with forced := true })
  else if s.onInt && s.rdB (tmbF Reg.tmbStatXtalok 0) then
    if s.sys.forced || !s.sys.xtalEver then s.toCrystal false
    else if s.rdB (tmbF Reg.tmbCfgAutoret 0) then s.toCrystal true
    else s
  else s.sysMod fun x => { x with forced := false }

/-- A write of TMB_CFG: AUTORET set with the crystal qualified starts the return (R38). -/
def State.tmbCfg (s : State) (v : Nat) : State :=
  ((s.wr (tmbF Reg.tmbCfgAutoret 0) (bits v 0 1)).wr (tmbF Reg.tmbCfgForceint 0) (bits v 1 1)).forceFollow

/-- A crystal loss is declared (R37, R38): on the crystal XTALFAIL, a token and a count; on the internal oscillator it only
restarts the qualification. -/
def State.xtalLoss (s : State) : State :=
  let a := s.wr (tmbF Reg.tmbStatXtalok 0) 0
  if a.onInt then a
  else ((a.slewTo true).inc (tmbF Reg.tmbXlossXlosscnt 0)).tokenEv 8 0x01 0

/-- PLL_LOCK (R32): the first lock after a cold reset. -/
def execPllLock (s : State) : Res := .next (if s.islandUp then s.wr (tmbF Reg.tmbStatPlllock 0) 1 else s)

/-- XTAL_QUALIFIED (R32): 2 ms without a loss after the cold reset. -/
def execXtalQualified (s : State) : Res :=
  if s.islandUp && s.onInt && !s.sys.xtalEver then
    .next (s.wr (tmbF Reg.tmbStatXtalok 0) 1).forceFollow
  else .next s

/-- XTAL_RETURN (R38): 100 ms without a loss; the PLL returns when AUTORET is set. -/
def execXtalReturn (s : State) : Res :=
  if s.islandUp && s.onInt && s.sys.xtalEver then
    .next (s.wr (tmbF Reg.tmbStatXtalok 0) 1).forceFollow
  else .next s

/-- XTAL_EDGE_TIMEOUT (R36): no edge for 200 ns; a late edge is discarded. -/
def execXtalEdgeTimeout (late : Bool) (s : State) : Res :=
  if s.islandUp then .next (if late then s.xtalLoss.late 8 else s.xtalLoss) else .next s

/-- XTAL_COUNT_WINDOW (R36): a difference above 5 % of the internal oscillator count is a loss. -/
def execXtalCountWindow (xtal osc : BitVec 16) (s : State) : Res :=
  let d := (xtal.toNat - osc.toNat) + (osc.toNat - xtal.toNat)
  if s.islandUp && 5 * osc.toNat < 100 * d then .next s.xtalLoss else .next s

/-- PLL_UNLOCK (R32). -/
def execPllUnlock (s : State) : Res :=
  if s.islandUp && s.rdB (tmbF Reg.tmbStatPlllock 0) then .next ((s.wr (tmbF Reg.tmbStatPlllock 0) 0).raise 10) else .next s

/-- PLL_RELOCK (R32). -/
def execPllRelock (s : State) : Res := .next (if s.islandUp then s.wr (tmbF Reg.tmbStatPlllock 0) 1 else s)

/-- SLEW_DONE (R37). -/
def execSlewDone (s : State) : Res := .next (if s.islandUp then s.wr (tmbF Reg.tmbStatSlewing 0) 0 else s)

/-- INTERPOLATOR_CALIBRATION (R34, R35): a new tap code (log entry 20), which each DPWM channel takes at its own next period
boundary (`State.tapTaken`), or CALFAIL with the last good code kept. -/
def execInterpolatorCalibration (spans : Bool) (s : State) : Res :=
  if !s.islandUp then .next s
  else if spans then
    let a : State := { s with draws := s.draws + 1 }
    .next (((a.incWrap (tmbF Reg.tmbCalCalcnt 0)).wr (tmbF Reg.tmbCalTapcode 0) (Config.tapCode s.draws).toNat).wr
      (tmbF Reg.tmbStatCalok 0) 1)
  else .next ((s.wr (tmbF Reg.tmbStatCalok 0) 0).raise 11)

/-- The DPWM channel of phase `j` is at a period boundary: it takes the tap code that calibration has set (R34). -/
def State.tapTaken (s : State) (j : Nat) : State :=
  { s with ph := vmod s.ph j fun x => { x with tap := s.rd (tmbF Reg.tmbCalTapcode 0) } }

/-- HANDSHAKE_MEASUREMENT (R39). -/
def execHandshakeMeasurement (cyc : BitVec 12) (s : State) : Res :=
  .next (if s.islandUp then s.wr (fabF Reg.fabHscycCyc 0) cyc.toNat else s)

/-- A read of TMB_US_LO latches the high word (R33). -/
def State.usLatch (s : State) : State := s.wr (tmbF Reg.tmbUsHiUs 0) (s.us / 2 ^ 32)

/-- TMB_US_LO_READ (R33). -/
def execTmbUsLoRead (s : State) : Res := .next (if s.lUp then (s.usLatch).answer s.us32 else s)

end Sys2Proof.Machine
end

