-- ==== Sys2Proof/Machine/Loops.lean ====
section
/-!
DEFINITION. Loops at work (chapter 6): the sample instant with the compensator, the working reference, the limits and the
input-power estimate, the latch point, delays, power-good, sense loss and protection.
-/

namespace Sys2Proof.Machine

/-! ### The sample instant -/

/-- Coefficient `i` of the active bank, code (R145). -/
def State.coef (s : State) (n i : Nat) : Int := sx 24 (s.eff (coefF n (s.rd (loopF Reg.loopStatBank n)) i))

/-- The exact sum of R145 in 2⁻⁵⁰ units, for the error word `e`. -/
def compensatorSum (b : Nat → Int) (a : Nat → Int) (e : Int) (eh : List Int) (uh : List Nat) : Int :=
  (b 0 * e + b 1 * nth eh 0 + b 2 * nth eh 1 + b 3 * nth eh 2) * 2 ^ 19
    - (a 0 * (nth uh 0 : Nat) + a 1 * (nth uh 1 : Nat) + a 2 * (nth uh 2 : Nat))

/-- u[k]: the sum rounded to 2⁻³⁰ with ties away from zero, and clamped (R146). -/
def compensatorDuty (sum : Int) (dmin dmax : Nat) : Nat := (iclamp (dmin * 2 ^ 14 : Nat) (dmax * 2 ^ 14 : Nat) (irdiv sum (2 ^ 20))).toNat

/-- The current of phase `j` from the code of its period averager, A (R172). -/
def State.imonAmps (s : State) (j : Nat) : ℚ :=
  (((s.phx j).code * 2000000 : ℚ) / 4096 - 100 * (s.eff (phF Reg.phImcfgOfs j) : ℚ)) / ((max 1 (s.eff (phF Reg.phImcfgGain j)) : Nat) : ℚ)

/-- The phases of a loop whose output switches: those of the set that are not parked. -/
def State.switching (s : State) (n : Nat) : List Nat := (s.switchSet n).filter fun j => s.phSt j != 3

/-- The mean error of a sample instant in error words. In voltage mode it is the sum of the last 2^AVG conversions over
2^AVG (R141). In current mode the P-die forms it from the IMON readings of the switching phases, each less its OFS, against the
working current reference, with IFS at 160 mV, which is 2,048 words (R140, R173). -/
def State.errorMean (s : State) (n : Nat) (esum : Int) : ℚ :=
  if s.loopCur n then
    (((s.lp n).wref : ℚ) / 40000000 - sumQ ((s.switching n).map s.imonAmps)) * 204800 / ((max 1 (s.eff (loopF Reg.loopIsclIfs n)) : Nat) : ℚ)
  else (esum : ℚ) / 2 ^ s.eff (loopF Reg.loopCfgAvg n)

/-- The error word: a mean that is no whole word gives one of its two neighbours (log entry 23), held in the window (R139). -/
def State.loopError (s : State) (n : Nat) (esum : Int) : Int × State :=
  let x := s.errorMean n esum
  if (x.floor : ℚ) = x then (iclamp (-2048) 2047 x.floor, s)
  else (iclamp (-2048) 2047 (x.floor + ((s.draw 30).1.toNat % 2 : Nat)), (s.draw 30).2)

/-- The compensator runs once: history, and the duty that waits for the latch point (R145, R146). -/
def State.compensate (s : State) (n : Nat) (e : Int) : State :=
  let l := s.lp n
  let u := compensatorDuty (compensatorSum (s.coef n) (fun i => s.coef n (4 + i)) e l.e l.u)
    (s.eff (loopF Reg.loopDutyDmin n)) (s.eff (loopF Reg.loopDutyDmax n))
  s.loopMod n fun x => { x with e := [e, nth x.e 0, nth x.e 1], u := [u, nth x.u 0, nth x.u 1], fresh := some u }

/-- A duty with the generator output added, held between DMIN and DMAX (R489), 2⁻³⁰ units. -/
def State.dutyWith (s : State) (n u : Nat) (x : Int) : Nat :=
  if x = 0 then u
  else clamp (16384 * s.eff (loopF Reg.loopDutyDmin n)) (16384 * s.eff (loopF Reg.loopDutyDmax n)) ((u : Int) + x).toNat

/-- The current of a phase in mA that an IMON code of 12 bits over 2.0 V gives (R172). -/
def State.imonCurrent (s : State) (j code : Nat) : Int :=
  irdiv ((code * 2000000 - s.eff (phF Reg.phImcfgOfs j) * 409600 : Int) * 1000) (4096 * s.eff (phF Reg.phImcfgGain j))

/-- The effective loop limit, mA (R160); none while neither sets one. -/
def State.loopLimit (s : State) (n : Nat) : Nat :=
  let a := s.rd (loopF Reg.loopAlimAlim n)
  let i := s.eff (loopF Reg.loopIlimIlim n)
  10 * (if a = 0xFFFF then i else min i a)

/-- `x` moved toward `goal` by at most `up` or `dn`. -/
def toward (x goal : Int) (up dn : Nat) : Int :=
  if x < goal then min goal (x + up) else max goal (x - dn)

/-- The rates in force, 1/40 µV or 1/40 µA per period: 0.01 V/ms, or 0.1 A/ms in current mode, to a unit (R152). A step that
is no whole µV keeps its fraction in the working reference (DESIGN CHOICE, log entry 102). -/
def State.loopRates (s : State) (n : Nat) : Nat × Nat :=
  let per := s.eff (loopF Reg.loopPerPer n) * (if s.loopCur n then 10 else 1)
  let up := (s.lp n).rateUp
  let dn := (s.lp n).rateDn
  ((if up = 0 then s.eff (loopF Reg.loopRampRon n) else up) * per, (if dn = 0 then s.eff (loopF Reg.loopRampRoff n) else dn) * per)

/-- The limit step per period in units of the working reference (R160, R161). -/
def State.limStep (s : State) (n : Nat) : Nat := (s.loopGoal n).natAbs * s.eff (loopF Reg.loopIsclLimstep n) / 10000

/-- The working reference of a running loop after one period, free of limits: toward the target in RAMP and REG, toward 0
in RAMPDOWN, unchanged in OFFDELAY. -/
def State.refStep (s : State) (n : Nat) : Int :=
  let w := (s.lp n).wref
  let r := s.loopRates n
  if s.loopSt n = 4 then w
  else if s.loopSt n = 5 then toward w 0 r.2 r.2
  else toward w (s.loopGoal n) r.1 r.2

/-- The voltage-mode limit (R160): the working reference falls above the limit, holds from 98 % to 100 %, and climbs
again below; the overload timer counts. -/
def State.limitVoltage (s : State) (n : Nat) (i : Int) : State :=
  let lim : Int := s.loopLimit n
  let per := s.eff (loopF Reg.loopPerPer n)
  let was := s.rdB (loopF Reg.loopStatIlimit n)
  let set := decide (i > lim) || (was && decide (100 * i ≥ 98 * lim))
  let w := if i > lim then max 0 ((s.lp n).wref - s.limStep n) else if set then (s.lp n).wref else s.refStep n
  ((s.setIlimit n set).loopMod n fun l =>
    { l with wref := w, ovl := if set then l.ovl + 10 * per else l.ovl - per }).showRef n

/-- The current-mode limits (R160, R161), which raise ILIMIT: the magnitude clamp; the bus clamp, under which a positive
reference falls and none rises above 0; and the charge clamp, its counterpart for a negative one. A reference moves on at the
ramp rate once its clamp has cleared, and no slower under a clamp than its own move would take it. -/
def State.limitCurrent (s : State) (n : Nat) : State :=
  let lim : Int := 40000 * s.loopLimit n
  let w0 := (s.lp n).wref
  let r := s.refStep n
  let bus := decide (max w0 r > 0) && decide (10 * s.busMv > s.eff (loopF Reg.loopVsetVset n))
  let chg := decide (min w0 r < 0) && decide (s.vls n > s.eff (loopF Reg.loopVchgVchg n))
  let a := if bus then min r (max 0 (w0 - s.limStep n)) else r
  let w1 := if chg then max a (min 0 (w0 + s.limStep n)) else a
  let mag := decide (w1 > lim) || decide (w1 < -lim)
  ((s.setIlimit n (bus || chg || mag)).loopMod n fun l => { l with wref := iclamp (-lim) lim w1 }).showRef n

/-- The loss of one phase at a current of `i` mA, µW (R192). -/
def State.phaseLoss (s : State) (n : Nat) (i : Int) : ℚ :=
  let e (k : Nat) : ℚ := (s.eff (pwrFk (if k % 2 = 0 then Reg.phLossElo else Reg.phLossEhi) n (k / 2)) : ℚ)
  let step := 10 * s.eff (pwrF Reg.phPstepIstep n)
  if step = 0 then 10000 * e 0
  else
    let k := min 6 (i.natAbs / step)
    10000 * (e k + ((i.natAbs : ℚ) / step - k) * (e (k + 1) - e k))

/-- V_IN of the estimate, mV: the bus or the channel that VINCH names (R192). -/
def State.vin (s : State) (n : Nat) : ℚ :=
  let c := s.eff (pwrF Reg.phPcfgVinch n)
  (s.svFine (if c = 0x1FF then 336 else c) : ℚ) / 160

/-- The duty term and the loss term of P_in over the phases that switch, µW (R192). -/
def State.powerTerms (s : State) (n : Nat) : ℚ × ℚ :=
  let ps := s.switching n
  let d : ℚ := if s.eff (loopF Reg.loopCfgType n) = 1 then 1 else ((s.lp n).duty : ℚ) / 2 ^ 30
  let v := s.vin n
  (sumQ (ps.map fun j => v * ((s.phx j).i : ℚ) * d),
   v / (10 * s.eff (pwrF Reg.phPcfgVnom n)) * sumQ (ps.map fun j => s.phaseLoss n (s.phx j).i))

/-- A mean in beads of `sum` µW over `k` periods, as a field of 24 bits. -/
def meanBeads (sum : Int) (k : Nat) : Nat := tw 24 (irdiv sum (125000 * k))

/-- The loop is armed by the hold-up fast path and an episode runs (R241). -/
def State.drawing (s : State) (n : Nat) : Bool := s.rd (hldF Reg.hldStatState 0) != 0 && (s.lp n).held

/-- The means of one period: 100 µs and 1 ms (R169, R192). -/
def State.loopMeans (s : State) (n : Nat) (i : Int) (v : Int) : State :=
  let per := s.eff (loopF Reg.loopPerPer n)
  let pt := s.powerTerms n
  let p := qround (pt.1 + pt.2)
  let a := s.loopMod n fun l =>
    { l with msCnt := l.msCnt + per, msN := l.msN + 1, iSum := l.iSum + i, vSum := l.vSum + v, pSum := l.pSum + p,
             lSum := l.lSum + qround pt.2, p100Cnt := l.p100Cnt + per, p100N := l.p100N + 1, p100Sum := l.p100Sum + p }
  let b := if 40000 ≤ (a.lp n).p100Cnt then
      let l := a.lp n
      let f := meanBeads l.p100Sum l.p100N
      let t := (a.wr (pwrF Reg.phPnowPnow n) f).loopMod n fun x => { x with p100Cnt := x.p100Cnt - 40000, p100N := 0, p100Sum := 0 }
      if t.drawing n then { t with hld := { t.hld with drawn := t.hld.drawn - sx 24 f } } else t
    else a
  if 400000 ≤ (b.lp n).msCnt then
    let l := b.lp n
    ((((b.wr (pwrF Reg.phPinPin n) (meanBeads l.pSum l.msN)).wr (pwrF Reg.phPlossPloss n) (meanBeads l.lSum l.msN)).wr
      (loopF Reg.loopVmeasVout n) (sat 20 (irdiv l.vSum (100 * l.msN)).toNat)).wr (loopF Reg.loopImeasIout n)
      (tw 16 (ssat 16 (irdiv l.iSum (10 * l.msN))))).loopMod n fun x =>
        { x with msCnt := x.msCnt - 400000, msN := 0, iSum := 0, vSum := 0, pSum := 0, lSum := 0 }
  else b

/-! ### Shedding at the sample instant (R183 to R188) -/

/-- The di/dt detector of phase `j` fires on a rise of `rise` mA in a period (R186). -/
def State.didt (s : State) (n j : Nat) (rise : Int) : Bool :=
  let d := s.eff (phF Reg.phLimDidt j)
  d != 0 && decide (rise * 400 > (d * 1000 * s.eff (loopF Reg.loopPerPer n) : Nat))

/-- A load step: the error beyond ±3 % of the target, or the detector of a parked or shed phase (R186). -/
def State.loadStep (s : State) (n : Nat) (e : Int) (i : Int) : Bool :=
  decide ((e.natAbs * 78125 * s.loopDiv n : Nat) > 3000 * (s.lp n).target.natAbs)
    || match (s.lp n).lastI with
      | some last => (s.loopPhases n).any fun j => (s.phSt j == 3 || s.phSt j == 4) && s.didt n j (i - last)
      | none => false

/-- The phases of higher rank than `j` in the loop are all shed or retired (R185). -/
def State.lastToShed (s : State) (n j : Nat) : Bool :=
  (s.loopPhases n).all fun k => k ≤ j || s.phSt k == 4 || s.phSt k == 6

/-- A lower phase of the loop than `j` is not retired: `j` may shed (R183). -/
def State.mayShed (s : State) (n j : Nat) : Bool := (s.loopPhases n).any fun k => decide (k < j) && s.phSt k != 6

/-- Shedding runs for phase `j` (R183, R184). -/
def State.shedRuns (s : State) (n j : Nat) : Bool :=
  s.inRun && !s.loopCur n && s.loopSt n == 3 && s.rdB (loopF Reg.loopStatPgood n) && s.effB (phF Reg.phShedSheden j)
    && !(s.lanSt != 0 && s.lanLoop == n) && s.mayShed n j

/-- A parked phase switches again: CANCELS counted (Table 7.3). -/
def State.cancelPark (s : State) (j : Nat) : State := if s.phSt j = 3 then (s.inc (phF Reg.phCntCancels j)).setPh j 1 else s

/-- Shedding of one phase at a sample with loop current `i` mA (R183 to R187): a shed phase rejoins on a condition of R187, or
when it has become one that never sheds; a parked phase switches again when shedding does not run for it any more. -/
def State.shedPhase (n : Nat) (i : Int) (s : State) (j : Nat) : State :=
  let st := s.phSt j
  let en := s.effB (phF Reg.phShedSheden j) && !s.loopCur n
  let reg := s.loopSt n == 3
  if st = 4 then
    (if (s.inRun && decide (i > (500 * s.eff (phF Reg.phShedAddlvl j) : Nat))) || !reg || !en || !s.mayShed n j then s.setPh j 1 else s)
  else if st = 3 then (if s.shedRuns n j then s else s.setPh j 1)
  else if st = 1 ∨ st = 2 then
    let dwell := s.shedRuns n j && s.lastToShed n j && decide (i < (500 * s.eff (phF Reg.phShedShedlvl j) : Nat))
    if dwell && st == 1 then s.setPh j 2 else if !dwell && st == 2 then s.setPh j 1 else s
  else s

/-- Shedding of a loop at a sample: a load step returns parked and shed phases, then each phase by falling rank. -/
def State.shedding (s : State) (n : Nat) (e i : Int) : State :=
  let a := if s.loadStep n e i then (s.loopPhases n).foldl (fun t j => if t.phSt j = 4 then t.setPh j 1 else t.cancelPark j) s else s
  (a.loopPhases n).reverse.foldl (State.shedPhase n i) a

/-- Period ends for a phase: a period that was not truncated ends the run (R177). -/
def State.periodEnd (s : State) (j : Nat) : State :=
  let p := s.phx j
  if p.cut then s.phMod j fun x => { x with cut := false }
  else (s.wr (phF Reg.phStatPklim j) 0).phMod j fun x => { x with trunc := 0 }

/-- The period currents of the switching set, by rank, from the IMON codes (R172); a phase with no code keeps its last. -/
def State.setCurrents (s : State) (n : Nat) (imon : List Nat) : State :=
  ((s.switchSet n).zip imon).foldl (fun t p =>
    let i := if t.phSt p.1 = 3 then 0 else t.imonCurrent p.1 p.2
    t.phMod p.1 fun x => { x with code := p.2, i := i }) s

/-- The PWM outputs of the set in the loop period that begins, by rank (R150, R151, R182): offset, on-time of the latched duty,
and the tap code of the channel (R34). A parked phase keeps its slot and is tri-stated (R186). -/
def State.placePhases (s : State) (n : Nat) : State :=
  let ps := s.switchSet n
  let per := s.eff (loopF Reg.loopPerPer n)
  ps.zipIdx.foldl (fun t p =>
    let off := phaseOffset p.2 per ps.length
    (t.phMod p.1 fun x =>
      if t.phSt p.1 = 3 then { x with driven := false, off := off, on := 0, tail := 0 }
      else x.place off (onTaps (t.lp n).duty per) (64 * per)).tapTaken p.1) s

/-- The loop current of the period, mA (R160). -/
def State.loopCurrent (s : State) (n : Nat) : Int := sumI ((s.switchSet n).map fun j => (s.phx j).i)

/-- The voltage at the regulated point, µV: VLS, or the working reference less the error (R139). -/
def State.pointUv (s : State) (n : Nat) (e : Int) : Int :=
  if s.loopCur n || s.rdB (loopF Reg.loopStatLocalsns n) || !s.effB (loopF Reg.loopCfgSnsen n) then 100 * (s.vls n : Nat)
  else (s.lp n).ref - irdiv (e * 78125 * (s.loopDiv n : Nat)) 1000

/-- The sample instant of a running loop. -/
def State.sampleLoop (s : State) (n : Nat) (esum : Int) (imon : List Nat) (remote : Int) : State :=
  let a := (s.loopPhases n).foldl (fun t j => if (t.phx j).joinNext then t.phJoin j else t) s
  let b := (((a.loopPhases n).foldl State.periodEnd a).setCurrents n imon).placePhases n
  let i := b.loopCurrent n
  let er := b.loopError n esum
  let v := er.2.pointUv n er.1
  let g := er.2.lanAdvance n
  let w := (g.compensate n (er.1 + g.lanInject n 0 1)).loopMod n fun l =>
    { l with fresh := l.fresh.map fun u => g.dutyWith n u (g.lanInject n 1 16384) }
  let c := (w.loopMod n fun l =>
    { l with remote := l.ref + irdiv (remote * 78125 * (er.2.loopDiv n : Nat)) 1000 }).loopMeans n i v
  let d := c.shedding n er.1 i
  let e := if d.loopCur n then d.limitCurrent n else d.limitVoltage n i
  let f := e.loopMod n fun l => { l with lastI := some i }
  if f.loopCur n && f.loopSt n == 5 && (f.lp n).wref == 0 then (f.loopTri n 0).doneWait (.loopOff n) else f

/-- LOOP_SAMPLE (R139 to R161, R182 to R192). -/
def execLoopSample (n : BitVec 4) (esum : BitVec 16) (imon : List (BitVec 12)) (remote : BitVec 12) (s : State) : Res :=
  if s.loopRunning n.toNat then
    .next (s.follow (s.sampleLoop n.toNat esum.toInt (imon.map (·.toNat)) remote.toInt))
  else .next s

/-! ### The latch point (R40 to R46) -/

/-- A late result of loop `n`: counted and logged; every third one forms a late-run token, the 32nd stops the loop. -/
def State.loopLate (s : State) (n : Nat) : State :=
  let run := s.rd (fabF Reg.fabLplateRun n) + 1
  let a := ((s.inc (fabF Reg.fabLplateLatecnt n)).inc (fabF Reg.fabLplateRun n)).wr (fabF Reg.fabLpminMinslack n) 0
  let b := ((if a.lUp then a.raise 16 else a).late 16 n).loopMod n fun l => { l with fresh := none }
  let c := if run % 3 = 0 then (b.wrBit (fabF Reg.fabLptokTok 0) n true).tokenEv 17 0x2F n else b
  if run = 32 then ((c.wrBit (fabF Reg.fabLptokStop 0) n true).raise 18).loopFault n 5 else c

/-- LATCH_POINT (R40 to R46, R150): `slack` is what is left of the window, ns, when the result is on time. -/
def execLatchPoint (n : BitVec 4) (late : Bool) (slack : BitVec 14) (s : State) : Res :=
  let k := n.toNat
  match s.loopRunning k, (s.lp k).fresh with
  | true, some u =>
    if late then .next (s.follow (s.loopLate k))
    else
      let a := ((s.wr (fabF Reg.fabLplateRun k) 0).wr (fabF Reg.fabLpminMinslack k)
        (min (s.rd (fabF Reg.fabLpminMinslack k)) slack.toNat)).loopMod k fun l => { l with duty := u, fresh := none }
      let b := a.wr (loopF Reg.loopDnowDuty k) (u / 2 ^ 14)
      .next (if slack.toNat < b.rd (fabF Reg.fabCfgLpwarn 0) then b.raise 19 else b)
  | _, _ => .next s

/-! ### Delays, the off level and power-good -/

/-- ONDELAY_END (R153, R164, Table 6.4). -/
def execOndelayEnd (n : BitVec 4) (s : State) : Res :=
  if s.loopSt n.toNat = 1 then .next (s.follow (s.loopBegin n.toNat)) else .next s

/-- OFFDELAY_END (R156, R164, Table 6.4). -/
def execOffdelayEnd (n : BitVec 4) (s : State) : Res :=
  if s.loopSt n.toNat = 4 then .next (s.follow (s.loopOffEnd n.toNat)) else .next s

/-- OFF_LEVEL_REACHED (R156, R162, R163): a ramped stop ends, phases held low are tri-stated, and a stop of a loop that is
STOPPED or in FAULT reaches its done point; a FAULT loop with such a stop is STOPPED. -/
def execOffLevelReached (n : BitVec 4) (s : State) : Res :=
  let k := n.toNat
  let st := s.loopSt k
  let a := s.loopMod k fun l => { l with heldLow := false }
  if st = 5 then (if s.loopCur k then .next s else .next (s.follow ((a.loopTri k 0).doneWait (.loopOff k))))
  else if st = 0 then .next (a.doneWait (.loopOff k))
  else if st = 6 then
    (if s.jnl.any fun e => e.applied && e.wait == .loopOff k then
      .next (s.follow (((a.wr (loopF Reg.loopStatState k) 0).raise (256 + 4 * k)).doneWait (.loopOff k)))
     else .next a)
  else .next s

/-- PGOOD_SET (R154, R164 to R166): the command whose target this is reaches its done point, and no other does (R155, R159); a
late departure from the window is LATE on the FAULT source. -/
def execPgoodSet (n : BitVec 4) (late : Bool) (s : State) : Res :=
  let k := n.toNat
  let st := s.loopSt k
  if (st = 2 ∨ st = 3 ∨ st = 4) ∧ s.loopAtGoal k then
    let a := s.setPgood k true
    let b := if st = 2 then a.wr (loopF Reg.loopStatState k) 3 else a
    let c := if late then b.late (256 + 4 * k + 1) else b
    .next (s.follow (c.doneEntries fun e => e.wait == .loopGood k && c.loopTarget k (e.arg 0) == (c.lp k).target))
  else .next s

/-- PGOOD_CLEAR (R154). -/
def execPgoodClear (n : BitVec 4) (s : State) : Res :=
  if s.loopRunning n.toNat then .next (s.follow (s.setPgood n.toNat false)) else .next s

/-! ### Sense loss and protection -/

/-- The loop judges its remote sense (R143). -/
def State.senseJudged (s : State) (n : Nat) : Bool :=
  s.loopRunning n && !s.loopCur n && s.effB (loopF Reg.loopCfgSnsen n) && !s.rdB (loopF Reg.loopStatLocalsns n)

/-- Remote sense is lost (R144): LOCALSNS, SENSELOST, a token of kind 4. -/
def State.senseLost (s : State) (n : Nat) : State :=
  let a := ((s.wr (loopF Reg.loopStatLocalsns n) 1).wr (loopF Reg.loopStatFaultkind n) 4).wr (loopF Reg.loopFltusUs n) s.us32
  ((a.inc (loopF Reg.loopNfltSnsl n)).raise (256 + 4 * n + 2)).token (256 + 4 * n + 1) 4 (s.loopDetail n)

/-- VLS lies below the reference by more than LWIN (R143): the output is truly low. -/
def State.trulyLow (s : State) (n : Nat) : Bool :=
  decide ((100 * s.vls n * 1000 : Nat) < (s.lp n).ref * (1000 - s.eff (loopF Reg.loopSnsLwin n) : Int))

/-- SENSE_LOSS (R143, R164): a late return of the reading is LATE on the FAULT source. -/
def execSenseLoss (n : BitVec 4) (late : Bool) (s : State) : Res :=
  let k := n.toNat
  if s.senseJudged k then
    let a := if s.trulyLow k then s else s.senseLost k
    .next (if late then a.late (256 + 4 * k + 1) else a)
  else .next s

/-- SENSE_LOSS_HIGH (R143): sense is lost at once. -/
def execSenseLossHigh (n : BitVec 4) (s : State) : Res :=
  if s.senseJudged n.toNat then .next (s.senseLost n.toNat) else .next s

/-- LOOP_OV (R162, R164). -/
def execLoopOv (n : BitVec 4) (late : Bool) (s : State) : Res :=
  let k := n.toNat
  if s.loopRunning k && !s.loopCur k then
    let a := s.loopFault k 1
    .next (s.follow (if late then a.late (256 + 4 * k + 1) else a))
  else .next s

/-- LOOP_UV (R162, R164): the loop goes on. -/
def execLoopUv (n : BitVec 4) (late : Bool) (s : State) : Res :=
  let k := n.toNat
  if s.loopSt k = 3 ∧ !s.loopCur k then
    let a := ((s.wr (loopF Reg.loopStatFaultkind k) 2).wr (loopF Reg.loopFltusUs k) s.us32).inc (loopF Reg.loopNfltUv k)
    let b := (a.tokenEv (256 + 4 * k + 1) 2 (s.loopDetail k)).setPgood k false
    .next (s.follow (if late then b.late (256 + 4 * k + 1) else b))
  else .next s

/-- The overload timer has reached TLIM less its tolerance of 1 % and 10 µs, in 1/4000 µs (R160). -/
def State.overloaded (s : State) (n : Nat) : Bool :=
  decide (3960000 * s.eff (loopF Reg.loopIlimTlim n) ≤ (s.lp n).ovl + 40000)

/-- OVERLOAD (R160, R164): the timer reaches TLIM. -/
def execOverload (n : BitVec 4) (late : Bool) (s : State) : Res :=
  let k := n.toNat
  if s.loopRunning k && !s.loopCur k && s.overloaded k then
    let a := s.loopFault k 3
    .next (s.follow (if late then a.late (256 + 4 * k + 1) else a))
  else .next s

end Sys2Proof.Machine
end

