-- ==== Sys2Proof/Machine/Phases.lean ====
section
/-!
DEFINITION. Phase events (chapter 7): the peak limit, stage faults, open IMON inputs, rejoins, the shedding timers and the
imbalance watch.
-/

namespace Sys2Proof.Machine

/-- A late arrival at a phase timer is LATE on the phase's source (R189). -/
def State.phLate (s : State) (j : Nat) (late : Bool) : State := if late then s.late (320 + j) else s

/-- PEAK_CROSSING (R176, R177, R190): the period is truncated; PKN truncated periods in a row stop the phase, also in the
period that a parked phase completes. -/
def execPeakCrossing (n : BitVec 6) (s : State) : Res :=
  let j := n.toNat
  if phInSet (s.phSt j) && !(s.phx j).cut then
    let a := ((s.inc (phF Reg.phCntPkcnt j)).wr (phF Reg.phStatPklim j) 1).phMod j fun p => { p with cut := true, trunc := p.trunc + 1 }
    .next (s.follow (if s.eff (phF Reg.phLimPkn j) ≤ (a.phx j).trunc then a.phFault j 1 else a))
  else .next s

/-- STAGE_FAULT (R175, R189). -/
def execStageFault (n : BitVec 6) (late : Bool) (s : State) : Res :=
  let j := n.toNat
  if phInSet (s.phSt j) && s.effB (phF Reg.phMonStgen j) then .next (s.follow ((s.phFault j 3).phLate j late)) else .next s

/-- IMONOPEN (R174, R189): the phase is retired. -/
def execImonopen (n : BitVec 6) (late : Bool) (s : State) : Res :=
  let j := n.toNat
  if phInSet (s.phSt j) then .next (s.follow ((s.phFault j 4).phLate j late)) else .next s

/-- REJOIN (R179, R189): the rejoin timer of a phase that is OUT ends; in hold the phase stays OUT. -/
def execRejoin (n : BitVec 6) (late : Bool) (s : State) : Res :=
  let j := n.toNat
  if s.phSt j = 5 ∧ (s.phx j).rejoin ∧ s.lUp then .next (s.follow ((s.phJoinNext j).phLate j late)) else .next s

/-- DWELL_END (R183 to R185, R189): the phase is parked, while shedding runs for it and every phase of higher rank is shed or
retired. -/
def execDwellEnd (n : BitVec 6) (late : Bool) (s : State) : Res :=
  let j := n.toNat
  match s.phLoop j with
  | some k =>
    if s.phSt j = 2 ∧ s.shedRuns k j ∧ s.lastToShed k j then .next ((s.setPh j 3).phLate j late) else .next s
  | none => .next s

/-- PARK_END (R183, R184, R186, R189): the shed is done, while shedding runs for the phase. -/
def execParkEnd (n : BitVec 6) (late : Bool) (s : State) : Res :=
  let j := n.toNat
  match s.phLoop j with
  | some k =>
    if s.phSt j = 3 ∧ s.shedRuns k j then
      .next (s.follow ((((s.inc (phF Reg.phCntSheds j)).setPh j 4).nophase k).phLate j late))
    else .next s
  | none => .next s

/-! ### Imbalance (R191) -/

/-- The phases of a loop whose millisecond counts. -/
def State.wholePhases (s : State) (n : Nat) : List Nat :=
  (s.loopPhases n).filter fun j => (s.phx j).whole && phInSet (s.phSt j) && 0 < (s.phx j).iN

/-- The 1 ms mean of a phase, mA, from its survey channel SV(96 + n) (R172): 16 bits over the 2.0 V of its input (DEDUCED, log
entry 104). -/
def State.phMean (s : State) (j : Nat) : ℚ :=
  let p := s.phx j
  let code : ℚ := if p.iN = 0 then 0 else (p.iSum : ℚ) / p.iN
  (code * 2000000 / 65536 - 100 * (s.eff (phF Reg.phImcfgOfs j) : ℚ)) * 1000 / ((max 1 (s.eff (phF Reg.phImcfgGain j)) : Nat) : ℚ)

/-- IMBAL begins (its token of kind 2) or ends; the event of the phase (R191, R196). -/
def State.setImbal (s : State) (j : Nat) (x : Bool) : State :=
  let a := (s.wrB (phF Reg.phStatImbal j) x).raise (320 + j)
  if x then
    (((a.wr (phF Reg.phStatFaultkind j) 2).wr (phF Reg.phFltusUs j) a.us32).token (320 + j) 2 (a.phDetail j))
  else a

/-- The deviation of a phase from the mean of its loop, in 0.1 % and held in its field (DESIGN CHOICE, log entry 105); a free
value where that mean is 0 (log entry 23). -/
def State.showDev (avg : ℚ) (s : State) (j : Nat) : State :=
  if avg = 0 then (s.draw 36).2.wr (phF Reg.phImeasDev j) ((s.draw 36).1.toNat % 65536)
  else s.wr (phF Reg.phImeasDev j) (tw 16 (ssat 16 (qround (1000 * (s.phMean j - avg) / avg))))

/-- One judged window of a phase against the mean of its loop; `late` has the phases whose return within IMBPCT met the alarm
and is discarded (R189). -/
def State.judgePhase (late : Nat) (avg : ℚ) (s : State) (j : Nat) : State :=
  let d := s.phMean j - avg
  let m := if d < 0 then -d else d
  let pct : ℚ := (s.eff (phF Reg.phMonImbpct j) : ℚ)
  let t := s.eff (phF Reg.phMonImbt j)
  let a := s.phMod j fun p =>
    { p with above := if 100 * m > pct * avg then p.above + 1 else 0,
             below := if 100 * m ≤ (pct - 2) * avg then p.below + 1 else 0 }
  if !a.rdB (phF Reg.phStatImbal j) && decide (t ≤ (a.phx j).above) then (a.setImbal j true).phLate j (bitOf late j)
  else if a.rdB (phF Reg.phStatImbal j) && decide (t ≤ (a.phx j).below) then a.setImbal j false
  else a

/-- The window of one loop: every deviation is shown, and a window of two phases or more at 2.0 A or more is judged. -/
def State.judgeLoop (late : Nat) (s : State) (n : Nat) : State :=
  let ps := s.wholePhases n
  let avg := if ps.isEmpty then 0 else sumQ (ps.map s.phMean) / ps.length
  let a := ps.foldl (State.showDev avg) s
  if 2 ≤ ps.length ∧ 2000 ≤ avg then ps.foldl (State.judgePhase late avg) a else a

/-- IMBALANCE_WINDOW (R189, R191, Table 7.5): the 1 ms means and deviations are shown and judged; it stops in hold with the
L-die. -/
def execImbalanceWindow (s : State) (late : BitVec 64 := 0) : Res :=
  if s.lUp then
    let a := (List.range 16).foldl (State.judgeLoop late.toNat) s
    .next ((List.range 64).foldl (fun t j =>
      (t.wr (phF Reg.phImeasI j) (tw 16 (ssat 16 (qround (t.phMean j / 10))))).phMod j fun p =>
        { p with iSum := 0, iN := 0, whole := phInSet (t.phSt j) }) a)
  else .next s

end Sys2Proof.Machine
end

