-- ==== Sys2Proof/Machine/LoopCmd.lean ====
section
/-!
DEFINITION. Loop and phase commands (R135 to R138, R144, R147, R166 to R168, R176, R194), the judgement of a set of
values for a LOOP or PH page, and the apply points of those pages.
-/

namespace Sys2Proof.Machine

/-- The first reason of a list of checks that holds. -/
def firstReason : List (Bool × Nat) → Option Nat
  | [] => none
  | (b, r) :: l => if b then some r else firstReason l

/-- The block register word at `off` of a page as a read returns it (stored fields only). -/
def State.word (s : State) (pg off : Nat) : Nat := (fieldsAt pg off).foldl (fun a f => a + s.rd f * 2 ^ f.lo) 0

/-- The stored fields of a register that a command may write, RWJ, set from a word (R52). -/
def State.putWord (s : State) (pg off v : Nat) : State :=
  ((fieldsAt pg off).filter fun f => f.acc == .rwj).foldl (fun t f => t.wr f (bits v f.lo f.width)) s

/-! ### Page judgements: the candidate's shadow values against the values that stand (log entry 52) -/

/-- The phase mask of a loop in the shadow values. -/
def State.phMask (s : State) (n : Nat) : Nat := s.rd (loopF Reg.loopPhmaploPh n) + 2 ^ 32 * s.rd (loopF Reg.loopPhmaphiPh n)

/-- The phases of a 64-bit mask. -/
def maskPhases (m : Nat) : List Nat := (List.range 64).filter fun j => bitOf m j

/-- Two phases of a current-mode loop have different GAIN values (R173). -/
def State.gainsDiffer (s : State) (n : Nat) : Bool :=
  s.rdB (loopF Reg.loopCfgMode n) &&
    match maskPhases (s.phMask n) with
    | [] => false
    | j :: r => r.any fun k => s.rd (phF Reg.phImcfgGain k) != s.rd (phF Reg.phImcfgGain j)

/-- The structural settings of a loop that only a stopped loop may change (R137). -/
def State.loopShape (s : State) (n : Nat) : List Nat :=
  [s.phMask n, s.rd (loopF Reg.loopCfgType n), s.rd (loopF Reg.loopCfgMode n), s.rd (loopF Reg.loopCfgVdiv n),
   s.rd (loopF Reg.loopCfgExtdiv n), s.rd (loopF Reg.loopPerPer n)]

/-- The judgement of a set of values for the page of loop `n` (R135, R137, R138, R146, R149, R173). -/
def State.loopPageCheck (old new : State) (n : Nat) : Option Nat :=
  let m := new.phMask n
  let vset := new.rd (loopF Reg.loopVsetVset n)
  let per := new.rd (loopF Reg.loopPerPer n)
  let div := divider (new.rd (loopF Reg.loopCfgVdiv n)) (new.rd (loopF Reg.loopCfgExtdiv n))
  let ps := maskPhases m
  firstReason
    [(new.rd (loopF Reg.loopCfgType n) == 3 || new.rd (loopF Reg.loopCfgVdiv n) == 3, 2),
     (new.rdB (loopF Reg.loopCfgMode n) && new.rd (loopF Reg.loopCfgType n) != 2, 2),
     (!(200 ≤ per && per ≤ 4000), 2),
     (new.rd (loopF Reg.loopDutyDmin n) > new.rd (loopF Reg.loopDutyDmax n), 2),
     (!new.rdB (loopF Reg.loopCfgMode n) && vset != 0 && !refOk vset div, 2),
     (16 < ps.length, 2),
     ((List.range 16).any fun k => k != n && (new.phMask k &&& m) != 0, 2),
     (new.gainsDiffer n, 2),
     (old.loopShape n != new.loopShape n && !(old.loopSt n == 0 || old.loopSt n == 6), 4)]

/-- The judgement of the registers of phase `j` (R173, R176, R187). -/
def State.phaseCheck (new : State) (j : Nat) : Option Nat :=
  firstReason
    [(19500000 < 1000 * new.rd (phF Reg.phImcfgOfs j) + new.rd (phF Reg.phLimIpk j) * new.rd (phF Reg.phImcfgGain j), 2),
     (new.rdB (phF Reg.phShedSheden j) && new.rd (phF Reg.phShedAddlvl j) ≤ new.rd (phF Reg.phShedShedlvl j), 2),
     ((List.range 16).any fun n => bitOf (new.phMask n) j && new.gainsDiffer n, 2)]

/-- The judgement of a set of values for PH page `i`: its four phases, and VINCH, a survey channel or the bus (Table 7.6). -/
def State.phPageCheck (new : State) (i : Nat) : Option Nat :=
  let c := new.rd (pwrF Reg.phPcfgVinch i)
  if 383 < c ∧ c ≠ 0x1FF then some 2 else (List.range 4).findSome? fun q => new.phaseCheck (4 * i + q)

/-! ### Apply points -/

/-- A LOOP_COEF is written to the inactive bank, and its switch is pending (R147). -/
def State.coefWrite (s : State) (n : Nat) (e : JEntry) : State :=
  let b := 1 - s.rd (loopF Reg.loopStatBank n)
  let busy := s.rdB (hdr Reg.pgCbusy (0x040 + n))
  let a := (List.range 7).foldl (fun t i => t.wr (coefF n b i) (e.arg i)) s
  let c := ((a.wr (loopF Reg.loopStatSwpend n) 1).commit (0x040 + n)).loopMod n fun l =>
    { l with coefReset := bitOf (e.arg 7) 0, coefNext := busy }
  c.setWait e.seq (.coef n)

/-- The bank switch (R147). -/
def State.coefSwitch (s : State) (n : Nat) : State :=
  let a := (s.wr (loopF Reg.loopStatBank n) (1 - s.rd (loopF Reg.loopStatBank n))).wr (loopF Reg.loopStatSwpend n) 0
  let b := if (a.lp n).coefReset then a.loopMod n fun l => { l with e := [0, 0, 0], u := [l.duty, l.duty, l.duty], coefReset := false } else a
  let c := b.doneWait (.coef n)
  match (c.lp n).coefWait with
  | [] => c
  | q :: r =>
    let d := c.loopMod n fun l => { l with coefWait := r }
    match d.jFind q with
    | some e => d.coefWrite n e
    | none => d

/-- The snapshot of a LOOP page is applied whole (R148), with the bank switch that goes with it. -/
def State.applyLoopPage (s : State) (n : Nat) : State :=
  let pg := 0x040 + n
  let a := s.applyPart (pageLo pg) (pageHi pg)
  let sw := a.rdB (loopF Reg.loopStatSwpend n) && !(a.lp n).coefNext
  let b := (a.commitDone pg).loopMod n fun l => { l with coefNext := false }
  if sw then b.coefSwitch n else b

/-- The keys of part `q` of a PH page: phase `q`, or the loop-power registers (R194). -/
def phPart (pg q : Nat) : Nat × Nat :=
  if q < 4 then (pageLo pg + (0x040 + 0x40 * q) * 32, pageLo pg + (0x080 + 0x40 * q) * 32)
  else (pageLo pg + 0x200 * 32, pageHi pg)

/-- A part of the snapshot of PH page `pg` is applied; the commit is done with the last part (R194). -/
def State.applyPhPart (s : State) (pg q : Nat) : State :=
  if s.partsDone.contains (pg, q) then s
  else
    let r := phPart pg q
    let a := { s.applyPart r.1 r.2 with partsDone := s.partsDone ++ [(pg, q)] }
    if (List.range 5).all fun k => a.partsDone.contains (pg, k) then
      State.commitDone { a with partsDone := a.partsDone.filter fun p => p.1 != pg } pg
    else a

/-! ### Commands -/

/-- What a class-L command does beside its own effect: the sequencer and the loop analyzer give the loop up (R333, Table
19.2). -/
def State.loopTaken (s : State) (n : Nat) : State :=
  let a := s.entTaken (96 + n)
  if a.lanSt ≠ 0 ∧ a.lanLoop = n then a.lanAbort 7 else a

/-- RESENSE takes effect when the remote reading lies within LWIN of the local one (R144; log entry 53). -/
def State.resense (s : State) (n : Nat) : State :=
  let v : Int := 100 * (s.vls n : Nat)
  if 1000 * ((s.lp n).remote - v).natAbs ≤ s.eff (loopF Reg.loopSnsLwin n) * v.natAbs then s.wr (loopF Reg.loopStatLocalsns n) 0
  else s

/-- The target lies in its range (R138, R168). -/
def State.targetOk (s : State) (n : Nat) (t : Int) : Bool :=
  if s.loopCur n then decide (t.natAbs ≤ s.eff (loopF Reg.loopIsclIfs n)) else refOk t.toNat (s.loopDiv n)

/-- The page reference written from the target argument. -/
def State.putTarget (s : State) (n a : Nat) : State :=
  if s.loopCur n then s.wr (loopF Reg.loopIsetIset n) (bits a 0 16) else s.wr (loopF Reg.loopVsetVset n) (bits a 0 20)

/-- A loop command while the hold-up fast path drives the loop: it updates the page reference, and nothing that the loop
follows, neither a ramp rate nor its sense (R159). A delay that it names is written. -/
def State.heldTarget (s : State) (e : JEntry) (w : Wait) (f : State → State) : State :=
  ((f (s.lseq (0x040 + e.inst) e)).commit (0x040 + e.inst)).setWait e.seq w

/-- After a start or a retarget: done at once when the loop holds its target with PGOOD set (R167). -/
def State.loopReached (s : State) (n : Nat) : State :=
  if s.loopRunning n && s.loopAtGoal n && s.rdB (loopF Reg.loopStatPgood n) then s.doneWait (.loopGood n) else s

/-- LOOP_START (R144, R153, R155 to R159, R166 to R168, R181). -/
def State.applyLoopStart (e : JEntry) (s : State) : State :=
  let n := e.inst
  let t := s.loopTarget n (e.arg 0)
  let ron := bits (e.arg 1) 0 10
  let ps := s.loopPhases n
  match firstReason
    [(16 ≤ n, 2), (!s.targetOk n t, 2), (1000 < ron, 2), (ron == 0 && s.eff (loopF Reg.loopRampRon n) == 0, 2),
     (!ps.isEmpty && ps.all (fun j => s.retired 1 j), 3), (ps.isEmpty || s.mode == .bench, 4)] with
  | some r => s.refuseCmd e r
  | none =>
    let use := bitOf (e.arg 3) 0 || bits (e.arg 2) 0 24 != 0
    let delay := if use then bits (e.arg 2) 0 24 else s.eff (loopF Reg.loopOntOndly n)
    let ont (t : State) : State := if use then t.wr (loopF Reg.loopOntOndly n) delay else t
    if (s.lp n).held then s.follow ((s.loopTaken n).heldTarget e (.loopGood n) fun t => ont (t.putTarget n (e.arg 0)))
    else
      let a := ((s.loopTaken n).lseq (0x040 + n) e).putTarget n (e.arg 0)
      let b := if ron = 0 then a else a.wr (loopF Reg.loopRampRon n) ron
      let c := ((ont b).commit (0x040 + n)).setWait e.seq (.loopGood n)
      let d := if bitOf (e.arg 3) 1 && c.rdB (loopF Reg.loopStatLocalsns n) then c.resense n else c
      let st := d.loopSt n
      let f :=
        if loopRunCode st then d.loopRetarget n t ron 0
        else
          let g := d.loopMod n fun l => { l with target := t, rateUp := ron, rateDn := 0, coast := false }
          if st = 1 then (if delay = 0 then g.loopBegin n else g) else g.loopStart n (delay != 0)
      s.follow (f.loopReached n)

/-- LOOP_VSET (R144, R155, R157, R159, R166 to R168). -/
def State.applyLoopVset (e : JEntry) (s : State) : State :=
  let n := e.inst
  let t := s.loopTarget n (e.arg 0)
  let rate := bits (e.arg 1) 0 10
  match firstReason
    [(16 ≤ n, 2), (!s.targetOk n t, 2), (1000 < rate, 2),
     (rate == 0 && (s.eff (loopF Reg.loopRampRon n) == 0 || s.eff (loopF Reg.loopRampRoff n) == 0), 2),
     (s.loopSt n == 6, 4)] with
  | some r => s.refuseCmd e r
  | none =>
    let a := (s.loopTaken n).heldTarget e (.loopGood n) fun t => t.putTarget n (e.arg 0)
    let b := if bitOf (e.arg 3) 1 && a.rdB (loopF Reg.loopStatLocalsns n) then a.resense n else a
    if (s.lp n).held then s.follow a
    else if loopRunCode (b.loopSt n) then s.follow ((b.loopRetarget n t rate rate).loopReached n)
    else
      let c := b.loopMod n fun l => { l with target := t, rateUp := rate, rateDn := rate }
      s.follow (if c.loopSt n = 0 then c.done e.seq else c)

/-- LOOP_STOP (R156, R159, R163, R166, R168). -/
def State.applyLoopStop (e : JEntry) (s : State) : State :=
  let n := e.inst
  let roff := bits (e.arg 1) 0 10
  match firstReason [(16 ≤ n, 2), (1000 < roff, 2), (roff == 0 && s.eff (loopF Reg.loopRampRoff n) == 0, 2)] with
  | some r => s.refuseCmd e r
  | none =>
    let use := bitOf (e.arg 3) 0 || bits (e.arg 0) 0 24 != 0
    let delay := if use then bits (e.arg 0) 0 24 else s.eff (loopF Reg.loopOfftOffdly n)
    let offt (t : State) : State := if use then t.wr (loopF Reg.loopOfftOffdly n) delay else t
    if (s.lp n).held then s.follow ((s.loopTaken n).heldTarget e (.loopOff n) offt)
    else
      let a := (s.loopTaken n).lseq (0x040 + n) e
      let b := if roff = 0 then a else a.wr (loopF Reg.loopRampRoff n) roff
      let c := ((offt b).commit (0x040 + n)).setWait e.seq (.loopOff n)
      s.follow (c.loopStop n (delay != 0) (bitOf (e.arg 2) 0) roff)

/-- LOOP_COEF (R147): it writes nothing while a switch is pending, and its done point is its own switch (R166). -/
def State.applyLoopCoef (e : JEntry) (s : State) : State :=
  let n := e.inst
  if 16 ≤ n then s.refuseCmd e 2
  else
    let a := s.lseq (0x040 + n) e
    if a.rdB (loopF Reg.loopStatSwpend n) then
      (a.loopMod n fun l => { l with coefWait := l.coefWait ++ [e.seq] }).setWait e.seq (.coefNext n)
    else a.coefWrite n e

/-- PH_CFG (R173, R176, R180, R187, R194). -/
def State.applyPhCfg (e : JEntry) (s : State) : State :=
  let j := e.inst
  let pg := 0x050 + j / 4
  let off := 0x040 + 0x40 * (j % 4)
  let new := (List.range 4).foldl (fun t i => t.putWord pg (off + 4 * i) (e.arg i)) s
  let moved := s.rd (phF Reg.phImcfgGain j) != new.rd (phF Reg.phImcfgGain j) || s.rd (phF Reg.phImcfgOfs j) != new.rd (phF Reg.phImcfgOfs j)
  let busy := match s.phLoop j with | some n => !(s.loopSt n == 0 || s.loopSt n == 6) | none => false
  match firstReason
    [(64 ≤ j, 2), ((List.range 4).any fun i => !rangeOk pg (off + 4 * i) (e.arg i), 2), ((new.phaseCheck j).isSome, 2),
     (s.retired 1 j, 3), (moved && busy, 4)] with
  | some r => s.refuseCmd e r
  | none => ((new.lseq pg e).setWait e.seq (s.commitWait pg)).commit pg

/-- LOOP_START (opcode 0x200). -/
def execLoopStart (inst : BitVec 8) (h : CmdHdr) (target ron delay flags : Word) (s : State) : Res :=
  .next (s.command State.applyLoopStart 0x200 inst.toNat h [target.toNat, ron.toNat, delay.toNat, flags.toNat])

/-- LOOP_STOP (opcode 0x201). -/
def execLoopStop (inst : BitVec 8) (h : CmdHdr) (delay roff coast flags : Word) (s : State) : Res :=
  .next (s.command State.applyLoopStop 0x201 inst.toNat h [delay.toNat, roff.toNat, coast.toNat, flags.toNat])

/-- LOOP_VSET (opcode 0x202). -/
def execLoopVset (inst : BitVec 8) (h : CmdHdr) (target rate arg2 flags : Word) (s : State) : Res :=
  .next (s.command State.applyLoopVset 0x202 inst.toNat h [target.toNat, rate.toNat, arg2.toNat, flags.toNat])

/-- LOOP_COEF (opcode 0x203). -/
def execLoopCoef (inst : BitVec 8) (h : CmdHdr) (b0 b1 b2 b3 a1 a2 a3 reset : Word) (s : State) : Res :=
  .next (s.command State.applyLoopCoef 0x203 inst.toNat h
    [b0.toNat, b1.toNat, b2.toNat, b3.toNat, a1.toNat, a2.toNat, a3.toNat, reset.toNat])

/-- PH_CFG (opcode 0x300). -/
def execPhCfg (inst : BitVec 8) (h : CmdHdr) (imcfg lim mon shed : Word) (s : State) : Res :=
  .next (s.command State.applyPhCfg 0x300 inst.toNat h [imcfg.toNat, lim.toNat, mon.toNat, shed.toNat])

end Sys2Proof.Machine
end

