-- ==== Sys2Proof/Machine/Bays.lean ====
section
/-!
DEFINITION. Bay events and bay commands (chapter 5): presence, urgent, extraction, throttle trains, ramps, limits, trips,
toggles and timed opens.
-/

namespace Sys2Proof.Machine

/-! ### Presence and the alert line (R102 to R106) -/

/-- The insertion of the string of a STORE bay (R278): what was known of a module before is forgotten; the anchor from V_ins
(mean of SV(256 + s), 2 mV), UNC, VINS; the first try to read the identity begins. -/
def State.batInsert (s : State) (n vins : Nat) : State :=
  let t : ℚ := (s.batT n : ℚ) / 8
  let soc := s.ocvInv n (20 * (vins : ℚ) / (max 1 (s.eff (batF Reg.batCfgNcell n)) : Nat)) t
  let a := (((s.batForget n).wr (batF Reg.batTvVins n) vins).setAnchor n soc).setUnc n (if s.rdB (batF Reg.batStatNotemp n) then 50 else 30)
  ((a.batMod n fun b => { b with tries := some 0 }).showSoc n).idTry n

/-- The string of bay `n`, if it is a STORE bay with one. -/
def State.bayString (s : State) (n : Nat) : Option Nat := if s.bayRole n = 1 then s.batOfBay n else none

/-- A late arrival at a bay timer (R117). -/
def State.bayLate (s : State) (n : Nat) (late : Bool) : State := if late then s.late (64 + 4 * n + 1) else s

/-- The class of an ALT line at a level in mV (Table 5.2): 0 absent, 1 present, 2 urgent; in the bands between them the previous
class is kept. -/
def altClass (was mv : Nat) : Nat :=
  if 2600 < mv then 0 else if 900 ≤ mv ∧ mv ≤ 2400 then 1 else if mv < 400 then 2 else was

/-- ALT_CLASS_CHANGE (R102, R106): the line of a bay is at `mv` mV; nothing is seen of a TIE bay's ball (R101) or while a train
freezes the class. -/
def execAltClassChange (n : BitVec 6) (mv : BitVec 12) (s : State) : Res :=
  let k := n.toNat
  if 48 ≤ k ∨ s.bayRole k = 3 ∨ (vget s.bay k).frozen then .next s
  else
    let c := altClass (vget s.bay k).alt mv.toNat
    .next ((s.wr (bayF Reg.bayStatAlt k) c).bayMod k fun b => { b with alt := c })

/-- PRESENCE_CHANGE (R103, R117, R278): the debounce expires with the class changed; in hold an insertion is judged later
(Table 1.4). -/
def execPresenceChange (n : BitVec 6) (vins : BitVec 16) (late : Bool) (s : State) : Res :=
  let k := n.toNat
  let x := (vget s.bay k).alt != 0
  if 48 ≤ k ∨ s.bayRole k = 3 ∨ x = s.rdB (bayF Reg.bayStatPresent k) ∨ !s.islandUp then .next s
  else
    let a := s.bayPresent k x
    let b := match a.bayString k with
      | some m => if x then (if a.lUp then a.batInsert m vins.toNat else a.bayMod k (fun y => { y with insPending := some vins.toNat }))
                  else a.bayMod k fun y => { y with insPending := none }
      | none => a
    .next (s.follow (b.bayLate k late))

/-- URGENT (R103, R105): STORE and BRANCH bays with URGOPEN act as on a BAY_OPEN with FAST, and a command in execution fails. An
urgent during a throttle train is not seen (R106). -/
def execUrgent (n : BitVec 6) (s : State) : Res :=
  let k := n.toNat
  if 48 ≤ k ∨ s.bayRole k = 3 ∨ (vget s.bay k).alt ≠ 2 ∨ (vget s.bay k).urgent ∨ (vget s.bay k).frozen ∨ !s.islandUp then .next s
  else
    let a := (s.bayMod k fun b => { b with urgent := true }).raise (64 + 4 * k + 2)
    if a.bayRole k ≠ 0 ∧ a.effB (bayF Reg.bayCfgUrgopen k) ∧ a.bayState k ≠ 9 then
      .next (s.follow ((a.bayOpen k true).doneWait (.bayOn k) 3 0x11))
    else .next a

/-- URGENT_END (R103). -/
def execUrgentEnd (n : BitVec 6) (s : State) : Res :=
  let k := n.toNat
  if k < 48 ∧ (vget s.bay k).alt ≠ 2 ∧ !(vget s.bay k).frozen then .next (s.bayMod k fun b => { b with urgent := false }) else .next s

/-- EXTRACTION (R104, R117, Table 5.5): the gate is down at 2 A, ARM is 0, a command in execution fails; no trip. -/
def execExtraction (n : BitVec 6) (late : Bool) (s : State) : Res :=
  let k := n.toNat
  if k < 48 ∧ s.bayRole k ≠ 3 ∧ (vget s.bay k).alt = 0 ∧ !(vget s.bay k).frozen ∧ (s.bayClosed k ∨ s.bayState k = 8) then
    let was := s.bayState k == 8
    let a := ((s.setArm k false).setBay k 1).bayMod k fun b => { b with fastOpen := true, rampTimer := false, owner := 0 }
    let b := (((if was then a.raise (64 + 4 * k + 3) else a).raise (64 + 4 * k)).doneWait (.bayOn k) 3 0x11).doneWait (.bayOpen k)
    .next (s.follow (b.bayLate k late))
  else .next s

/-- THROTTLE_TRAIN_END (R106). -/
def execThrottleTrainEnd (n : BitVec 6) (s : State) : Res :=
  let k := n.toNat
  if k < 48 ∧ (vget s.bay k).train then
    let a := (s.wr (bayF Reg.bayStatAlt k) (vget s.bay k).alt).bayMod k fun b => { b with train := false, frozen := false, next := none }
    match (vget s.bay k).next with
    | some step => .next (if a.throttles k then a.sendTrain k step else a)
    | none => .next a
  else .next s

/-- THROTTLE_REPEAT (R106): a step other than 0 every 10 ms; release three times in all. -/
def execThrottleRepeat (n : BitVec 6) (s : State) : Res :=
  let k := n.toNat
  let step := s.rd (bayF Reg.bayAlimThstep k)
  if 48 ≤ k ∨ !s.throttles k ∨ (vget s.bay k).train then .next s
  else if step ≠ 0 then .next (s.sendTrain k step)
  else if 0 < (vget s.bay k).relLeft then
    .next (s.sendTrain k 0 |>.bayMod k fun b => { b with relLeft := b.relLeft - 1 })
  else .next s

/-! ### Ramps, adoption, opening -/

/-- The bay enters ON with PGOOD and a STATE event; a BAY_ARM or BAY_TOGGLE is done (Table 5.5, Table 4.2). -/
def State.bayOn (s : State) (n : Nat) : State :=
  let a := ((s.setBay n 3).wr (bayF Reg.bayStatPgood n) 1).bayMod n fun b => { b with rampTimer := false }
  (a.raise (64 + 4 * n + 3)).doneWait (.bayOn n)

/-- RAMP_COMPLETE (R111): V_GS has reached 9 V with V_DS at most 2 % of the system side. -/
def execRampComplete (n : BitVec 6) (s : State) : Res :=
  let k := n.toNat
  if k < 48 ∧ s.bayState k = 2 ∧ s.bayMet k then .next (s.follow (s.bayOn k)) else .next s

/-- ADOPTED (R124, R125). -/
def execAdopted (n : BitVec 6) (s : State) : Res :=
  let k := n.toNat
  if k < 48 ∧ s.bayState k = 10 then .next (s.follow ((s.bayOn k).wr (bayF Reg.bayStatAdopted k) 1)) else .next s

/-- GATE_OFF (R108, R126, Table 5.5): OPENING ends. -/
def execGateOff (n : BitVec 6) (s : State) : Res :=
  let k := n.toNat
  if k < 48 ∧ s.bayState k = 8 then
    .next (s.follow (((s.bayToOpen k).raise (64 + 4 * k + 3)).doneWait (.bayOpen k)))
  else .next s

/-! ### The slow limit (R113) -/

/-- LIMIT_ENTRY (R113). -/
def execLimitEntry (n : BitVec 6) (s : State) : Res :=
  let k := n.toNat
  if k < 48 ∧ s.bayState k = 3 then .next (s.follow (s.setBay k 4)) else .next s

/-- LIMIT_EXIT (R113): ON is entered, with its STATE event (Table 5.9). -/
def execLimitExit (n : BitVec 6) (s : State) : Res :=
  let k := n.toNat
  if k < 48 ∧ s.bayState k = 4 then .next (s.follow ((s.setBay k 3).raise (64 + 4 * k + 3))) else .next s

/-- The slow-limit timer has reached TFLT less its tolerance of 1 % and 10 µs (R113). -/
def State.slowReached (s : State) (n : Nat) : Bool :=
  decide (9900 * s.eff (bayF Reg.bayTfltTflt n) ≤ (vget (s.slowCount n).bay n).slow + 100)

/-! ### Trips (R113 to R119); `peak` is the peak shunt voltage magnitude, 5 µV units -/

/-- FAST_TRIP (R114). -/
def execFastTrip (n : BitVec 6) (peak : BitVec 16) (s : State) : Res :=
  let k := n.toNat
  if k < 48 then .next (s.follow (s.bayTrip k 1 peak.toNat)) else .next s

/-- SLOW (R113, R117). -/
def execSlow (n : BitVec 6) (peak : BitVec 16) (late : Bool) (s : State) : Res :=
  let k := n.toNat
  if k < 48 ∧ s.bayState k = 4 ∧ s.slowReached k then
    .next (s.follow ((s.bayTrip k 2 peak.toNat).bayLate k late))
  else .next s

/-- RAMPTIME (Table 5.3). -/
def execRamptime (n : BitVec 6) (peak : BitVec 16) (late : Bool) (s : State) : Res :=
  let k := n.toNat
  if k < 48 ∧ s.bayState k = 2 ∧ (vget s.bay k).rampTimer then
    .next (s.follow ((s.bayTrip k 3 peak.toNat).bayLate k late))
  else .next s

/-- REVERSE (R115): FEED and BRANCH bays that are not open. -/
def execReverse (n : BitVec 6) (peak : BitVec 16) (late : Bool) (s : State) : Res :=
  let k := n.toNat
  if k < 48 ∧ (s.bayRole k = 0 ∨ s.bayRole k = 2) ∧ (s.bayClosed k ∨ s.bayState k = 8) then
    .next (s.follow ((s.bayTrip k 4 peak.toNat).bayLate k late))
  else .next s

/-- GATELOW (R107, Table 5.3): a closed bay that is not in LIMIT or RAMP, with VHV at 30 V or more. -/
def execGatelow (n : BitVec 6) (peak : BitVec 16) (late : Bool) (s : State) : Res :=
  let k := n.toNat
  if k < 48 ∧ (s.bayState k = 3 ∨ s.bayState k = 10) ∧ 30000 ≤ s.busMv then
    .next (s.follow ((s.bayTrip k 5 peak.toNat).bayLate k late))
  else .next s

/-- SENSEOPEN (R119). -/
def execSenseopen (n : BitVec 6) (peak : BitVec 16) (s : State) : Res :=
  let k := n.toNat
  if k < 48 then .next (s.follow (s.bayTrip k 6 peak.toNat)) else .next s

/-! ### Toggles and timed opens -/

/-- TOGDLY_END (R120, R121): the toggle is counted and the bay ramps. A TIE bay, which only its port closes (R287), has its latch
cleared and is left to its port (DESIGN CHOICE, log entry 47). -/
def execTogdlyEnd (n : BitVec 6) (s : State) : Res :=
  let k := n.toNat
  if k < 48 ∧ s.bayState k = 6 ∧ s.lUp then
    let a := (s.bayMod k fun b => { b with retries := b.retries ++ [s.us] }).bayRetryLeft k
    .next (s.follow (if a.bayRole k = 3 then a.bayToOpen k else a.bayRamp k))
  else .next s

/-- RETRY_WINDOW_EXPIRY (R120): toggles older than RWIN leave the record. -/
def execRetryWindowExpiry (n : BitVec 6) (s : State) : Res :=
  let k := n.toNat
  if k < 48 then
    .next ((s.bayMod k fun b =>
      { b with retries := b.retries.filter fun t => s.us < t + 1000000 * s.eff (bayF Reg.bayRetryRwin k) }).bayRetryLeft k)
  else .next s

/-- TIMED_OPEN_END (R123): the bay ramps back; the owner of a rest takes its second anchor (`vmean`: mean of SV(256 + s)
over the last 60 s), a tie port leaves its reset (R311), with which a class-B command that comes late is logged (R317). In hold
the bay stays open. -/
def execTimedOpenEnd (n : BitVec 6) (vmean : BitVec 16) (s : State) (late : Bool := false) : Res :=
  let k := n.toNat
  if k < 48 ∧ s.bayState k = 7 ∧ s.lUp then
    let o := (vget s.bay k).owner
    let a := if o = 3 then match s.bayString k with | some m => s.restAnchor m vmean.toNat | none => s else s
    let b := a.bayCycleEnd k
    let c := if o = 2 then match b.tieOfBay k with | some p => (b.tieResetEnd p false).tieLate p late | none => b else b
    .next (s.follow c)
  else .next s

/-! ### Commands (R126 to R129) -/

/-- What a class-B command does beside its own effect (R333). -/
def State.bayTaken (s : State) (n : Nat) : State := s.entTaken (112 + n)

/-- BAY_ARM (R122, R125, R126, R128, R129, R219, R287). -/
def State.applyBayArm (e : JEntry) (s : State) : State :=
  let n := e.inst
  if 48 ≤ n then s.refuseCmd e 2
  else
    match s.bayArmRefused n (bitOf (e.arg 0) 1) with
    | some r => s.refuseCmd e r
    | none =>
      let a := ((s.bayTaken n).lseq (0x010 + n) e).bayArm n (bitOf (e.arg 0) 0)
      let b := if a.bayRole n = 3 ∨ a.bayState n = 3 ∨ a.bayState n = 4 then a.done e.seq else a.setWait e.seq (.bayOn n)
      s.follow b

/-- BAY_OPEN (R108, R126 to R128). -/
def State.applyBayOpen (e : JEntry) (s : State) : State :=
  let n := e.inst
  if 48 ≤ n then s.refuseCmd e 2
  else if s.bayState n = 9 then s.refuseCmd e 3
  else
    let a := ((s.bayTaken n).lseq (0x010 + n) e).bayOpen n (bitOf (e.arg 0) 0)
    s.follow (if a.bayState n = 8 then a.setWait e.seq (.bayOpen n) else a.done e.seq)

/-- BAY_TOGGLE (R118, R126 to R129, R313): a TIE bay is left to its port. -/
def State.applyBayToggle (e : JEntry) (s : State) : State :=
  let n := e.inst
  let st := s.bayState n
  match firstReason [(48 ≤ n, 2), (st == 9, 3), (!(st == 5 || st == 6) || s.mode == .bench, 4)] with
  | some r => s.refuseCmd e r
  | none =>
    let a := (s.bayTaken n).lseq (0x010 + n) e
    if a.bayRole n = 3 then
      let b := ((a.setArm n true).bayToOpen n).done e.seq
      s.follow (match b.tieOfBay n with | some p => b.tieToggled p | none => b)
    else s.follow ((a.bayClose n (bitOf (e.arg 0) 0)).setWait e.seq (.bayOn n))

/-- BAY_LIMIT (R114, R128). -/
def State.applyBayLimit (e : JEntry) (s : State) : State :=
  let n := e.inst
  let pg := 0x010 + n
  let regs := [(0x04C, e.arg 0), (0x050, e.arg 1), (0x048, e.arg 2), (0x05C, e.arg 3)]
  let new := regs.foldl (fun t p => t.putWord pg p.1 p.2) s
  match firstReason
    [(48 ≤ n, 2), (regs.any fun p => !rangeOk pg p.1 p.2, 2),
     (new.rd (bayF Reg.bayIlimFtrip n) < new.rd (bayF Reg.bayIlimIlim n) + 10, 2), (s.bayState n == 9, 3)] with
  | some r => s.refuseCmd e r
  | none => ((new.lseq pg e).setWait e.seq (s.commitWait pg)).commit pg

/-- The judgement of a set of values for the page of bay `n` (R114, R129). -/
def State.bayPageCheck (old new : State) (n : Nat) : Option Nat :=
  firstReason
    [(new.rd (bayF Reg.bayIlimFtrip n) < new.rd (bayF Reg.bayIlimIlim n) + 10, 2),
     (old.rd (bayF Reg.bayCfgRole n) != new.rd (bayF Reg.bayCfgRole n) && !(old.bayState n ≤ 1), 4)]

/-- A bay whose current stands above its effective limit is in LIMIT (R116). -/
def State.bayLimitNow (s : State) (n : Nat) : State :=
  if s.bayState n = 3 ∧ 100 * s.bayLimit n < (sx 16 (s.sv n)).natAbs then s.setBay n 4 else s

/-- The snapshot of a BAY page is applied (R116). -/
def State.applyBayPage (s : State) (n : Nat) : State :=
  (((s.applyPart (pageLo (0x010 + n)) (pageHi (0x010 + n))).bayRetryLeft n).bayLimitNow n).commitDone (0x010 + n)

/-- BAY_ARM (opcode 0x100). -/
def execBayArm (inst : BitVec 8) (h : CmdHdr) (flags bound : Word) (s : State) : Res :=
  .next (s.command State.applyBayArm 0x100 inst.toNat h [flags.toNat, bound.toNat])

/-- BAY_OPEN (opcode 0x101). -/
def execBayOpen (inst : BitVec 8) (h : CmdHdr) (flags : Word) (s : State) : Res :=
  .next (s.command State.applyBayOpen 0x101 inst.toNat h [flags.toNat])

/-- BAY_TOGGLE (opcode 0x102). -/
def execBayToggle (inst : BitVec 8) (h : CmdHdr) (flags : Word) (s : State) : Res :=
  .next (s.command State.applyBayToggle 0x102 inst.toNat h [flags.toNat])

/-- BAY_LIMIT (opcode 0x103). -/
def execBayLimit (inst : BitVec 8) (h : CmdHdr) (ilim tflt plim rsh : Word) (s : State) : Res :=
  .next (s.command State.applyBayLimit 0x103 inst.toNat h [ilim.toNat, tflt.toNat, plim.toNat, rsh.toNat])

end Sys2Proof.Machine
end

