-- ==== Sys2Proof/Machine/Batteries.lean ====
section
/-!
DEFINITION. Battery strings at work (chapter 10): the 100 ms update of PC1, the reference points, learning, rests,
identities, records, and the battery commands.
-/

namespace Sys2Proof.Machine

/-- PC1 estimates: RUN, with the core not stopped (R261, R508). -/
def State.estimates (s : State) : Bool := s.inRun && s.coreUp 1

/-- The string is enabled and PC1 estimates it. -/
def State.batRuns (s : State) (n : Nat) : Bool := decide (n < 24) && s.batEn n && s.estimates

/-- A late arrival at a battery timer (R282). -/
def State.batLate (s : State) (n : Nat) (late : Bool) : State := if late then s.late (448 + 4 * n + 3) else s

/-- T in °C. -/
def State.batTc (s : State) (n : Nat) : ℚ := (s.batT n : ℚ) / 8

/-- NCELL in effect. -/
def State.ncell (s : State) (n : Nat) : ℚ := ((max 1 (s.eff (batF Reg.batCfgNcell n)) : Nat) : ℚ)

/-! ### The 100 ms update (R257, R261, R265 to R269, R274) -/

/-- NOTEMP follows the thermistors (R257). -/
def State.batNotemp (s : State) (n : Nat) : State :=
  if (s.batTherms n).isEmpty then
    let a := if s.rdB (batF Reg.batStatNotemp n) then s else (s.wr (batF Reg.batStatNotemp n) 1).batToken n 4
    a.batDq n 8
  else s.wr (batF Reg.batStatNotemp n) 0

/-- The voltage estimate SoC_v (R265): percent; none where Z is unavailable. -/
def State.socV (s : State) (n : Nat) : Option ℚ :=
  (s.batZ n (s.socC n) (s.batTc n)).map fun z =>
    s.ocvInv n ((s.batV n + s.batI n * z / 1000) / s.ncell n) (s.batTc n)

/-- Q_L summed over the strings in service, mC. -/
def State.serviceQ (s : State) : Nat := sumN (s.inService.map s.batQl)

/-- The hold-up current of a string in A (R268): C + L of the latest settle shared in proportion to Q_L, at the string
voltage. With no voltage the spec gives none (log entry 23). -/
def State.holdI (s : State) (n : Nat) : ℚ :=
  if !s.inService.contains n || s.serviceQ = 0 then 0
  else
    let w : ℚ := ((sx 32 (s.rd (abc0F Reg.abcContotC 0)) + (s.rd (abc0F Reg.abcLossnowL 0) : Nat) : Int) : ℚ) / 8
    let v := s.batV n / 10000
    if v = 0 then ((Config.openValue 73 n).toNat : ℚ) else w * (s.batQl n : ℚ) / (s.serviceQ : ℚ) / v

/-- The rate-capacity fraction at the hold-up rate (R268). -/
def State.holdF (s : State) (n : Nat) : ℚ :=
  let c := s.batC n / 1000
  s.rateF n (if c = 0 then 0 else 100 * s.holdI n / c) (s.batTc n)

/-- RSOC as a fraction: max(0, SoC − (1 − F)) (R268). -/
def State.usable (s : State) (n : Nat) : ℚ :=
  let x := s.socRep n / 100 - (1 - s.holdF n)
  if x < 0 then 0 else x

/-- E_s in joules (R268); 0 while EMPTY. -/
def State.energyS (s : State) (n : Nat) : ℚ :=
  if s.rdB (batF Reg.batStatEmpty n) then 0
  else
    let m := (s.socRep n / 100 + 1 - s.holdF n) / 2
    let z := (s.batZ n (100 * m) (s.batTc n)).getD 0
    let e := (s.batQl n : ℚ) * s.usable n / 1000
      * ((s.ocv n (100 * m) (s.batTc n) * s.ncell n - s.holdI n * z) / 10000)
    if e < 0 then 0 else e

/-- CYCLES advances each time DCHG reaches Q_L, and DCHG falls by it (R274). -/
def State.batDchg (s : State) (n : Nat) : State :=
  let ql := s.batQl n
  let k := if ql = 0 then 0 else ((s.bt n).dchg / (ql : Int)).toNat
  let a := s.batMod n fun x => { x with dchg := x.dchg - (k * ql : Nat) }
  let c := if 0 < k then (a.inc (batF Reg.batQlrnCycles n) k).nvmRec n cyclesKey false else a
  c.showDchg n

/-- UNC in PSEUDO has grown since the point that set it, to 30.0 % (R266, log entry 109). -/
def State.growUnc (s : State) (n : Nat) : State :=
  let b := s.bt n
  if s.rdB (batF Reg.batStatPseudo n) then
    let u := max b.unc (min 432000000000 (b.unc + (s.us - b.uncUs)))
    (s.batMod n fun x => { x with unc := u, uncUs := s.us }).wr (batF Reg.batSocUnc n) (u / 1440000000)
  else s

/-- PSEUDO is set 24 h after the last rest point, and before the first one (R266). -/
def State.batPseudo (s : State) (n : Nat) : State :=
  if !(s.bt n).rested ∨ (s.bt n).sinceUs + 86400000000 ≤ s.us then s.wr (batF Reg.batStatPseudo n) 1 else s

/-- Voltage is authoritative for empty (R265). -/
def State.batCountdis (s : State) (n : Nat) : State :=
  match s.socV n with
  | some v => if s.socC n ≤ 1 ∧ 10 < v ∧ !s.rdB (batF Reg.batStatCountdis n) then (s.wr (batF Reg.batStatCountdis n) 1).batToken n 2 else s
  | none => s

/-- The means of V and I over 1 s, and of T over 10 s; a mean of T outside 15 °C to 35 °C disqualifies (Table 10.1). -/
def State.batMeans (s : State) (n : Nat) : State :=
  let b := s.bt n
  let a := if b.viUs + 1000000 ≤ s.us ∧ 0 < b.viN then
      ((s.wr (batF Reg.batViV n) (sat 16 (irdiv b.vSum b.viN).toNat)).wr (batF Reg.batViI n)
        (tw 16 (ssat 16 (irdiv b.iSum (1600000 * b.viN))))).batMod n fun x => { x with vSum := 0, iSum := 0, viN := 0, viUs := s.us }
    else s
  let c := (a.wr (batF Reg.batTvTemp n) (tw 8 (ssat 8 (irdiv (s.batT n) 8)))).batMod n fun x => { x with tSum := x.tSum + s.batT n, tN := x.tN + 1 }
  if 100 ≤ (c.bt n).tN then
    let m : ℚ := ((c.bt n).tSum : ℚ) / ((c.bt n).tN : ℚ)
    let d := c.batMod n fun x => { x with tSum := 0, tN := 0 }
    if m < 120 ∨ 280 < m then d.batDq n 1 else d
  else c

/-- The 100 ms update of one string. -/
def State.batUpdate (s : State) (n : Nat) : State :=
  let a := ((((s.batNotemp n).batMeans n).batDchg n).batPseudo n).growUnc n
  let b := a.batCountdis n
  let c := if s.batQl n < 100 * ((b.bt n).cntMax - (b.bt n).count) then b.batDq n 2 else b
  let d := (if c.batI n * 100 < -(c.batC n) then c.batMod n fun x => { x with charged := true } else c).showSoc n
  let e := if d.rdB (batF Reg.batStatEmpty n) ∧ 5 ≤ d.socRep n then d.wr (batF Reg.batStatEmpty n) 0 else d
  let f := if e.rdB (batF Reg.batStatFull n) ∧ e.socRep n < (e.eff (batF Reg.batTermRechg n) : ℚ) then e.batClearFull n else e
  let g := if f.batLst n = 2 then f.wr (batF Reg.batLrnQmeas n) (sat 16 (rdiv ((f.bt n).count - (f.bt n).cnt0).toNat 360000)) else f
  ((g.wr (batF Reg.batRsocRsoc n) (qround (10000 * g.usable n)).toNat).wr (batF Reg.batEuseE n) (sat 32 (qround (g.energyS n)).toNat)).wr
    (batF Reg.batZnowZ n) (sat 16 (qround ((g.batZ n (g.socRep n) (g.batTc n)).getD 0)).toNat)

/-- V × x × C of a string in beads, `x` in C (R269). -/
def State.batPower (s : State) (n : Nat) (x : ℚ) : ℚ := 8 * (s.batV n / 10000) * (x * s.batC n / 1000)

/-- The requests of PC1 for group `g` (R269). -/
def State.groupRequest (s : State) (g : Nat) : State :=
  let ps := s.inService.filter fun n => s.batGroup n == g
  let on := (s.move g).on
  let dis := sumQ ((ps.filter fun n => !s.rdB (batF Reg.batStatEmpty n)).map fun n =>
    s.batPower n ((s.eff (batF Reg.batTermIdmax n) : ℚ) / 10))
  let chg := sumQ ((ps.filter fun n => !s.rdB (batF Reg.batStatFull n) && !s.rdB (batF Reg.batStatNotemp n)).map fun n =>
    s.batPower n ((s.eff (batF Reg.batTermIchg n) : ℚ) / 100))
  let d := (qround dis).toNat
  let pow := (s.move g).pow
  let none := on || (s.groupStrings g).any fun n => s.rdB (batF Reg.batStatNotemp n)
  (s.wr (abc0F Reg.abcGdisDis g) (sat 24 (if on && pow != 0 then min d pow else d))).wr (abc0F Reg.abcGchgChg g)
    (if none then 0 else sat 24 (qround chg).toNat)

/-- HLD_EUSE: the sum of E_s over the strings in service (R269). -/
def State.setEuse (s : State) : State :=
  let t := s.wr (hldF Reg.hldEuseE 0) (sat 32 (sumN (s.inService.map fun n => s.rd (batF Reg.batEuseE n))))
  { t with hld := { t.hld with euUs := s.us } }

/-- SOC_UPDATE (R257, R261, R265, R266, R268, R269, R274, R277). -/
def execSocUpdate (s : State) : Res :=
  if s.estimates then
    let a := (s.strings.foldl State.batUpdate s).setEuse
    let b := if a.effB (pol0F Reg.polHpmBat 0) then a else (List.range 8).foldl State.groupRequest a
    .next b.restRequest
  else .next s

/-! ### Reference points and learning (R262 to R267, R270 to R273) -/

/-- A discharge begins when I first exceeds C/100 with FULL set (R270, Table 10.2); with no valid thermistor T is 25 °C, and the
discharge is disqualified (R257). -/
def State.batBegin (s : State) (n : Nat) : State :=
  if s.batRuns n && s.batLst n == 1 && s.rdB (batF Reg.batStatFull n) && decide (s.batC n < 100 * s.batI n) then
    if 120 ≤ s.batT n ∧ s.batT n ≤ 280 then
      let a := ((s.batMod n fun b => { b with cnt0 := b.count, cntMax := b.count }).setLst n 2).batLearnEv n
      if (s.batTherms n).isEmpty then a.batDq n 8 else a
    else ((s.wr (batF Reg.batStatLdq n) 1).setLst n 4).batLearnEv n
  else s

/-- REST_POINT (R262, R277, R282): `v` is the mean of SV(256 + s) over 60 s. -/
def execRestPoint (n : BitVec 5) (v : BitVec 16) (late : Bool) (s : State) : Res :=
  let k := n.toNat
  if s.batRuns k then
    .next (((s.restAnchor k v.toNat).batMod k fun b => { b with restPt := b.restPt || b.rest == 3, again := false }).batLate k late)
  else .next s

/-- CHARGE_TERMINATION (R263, R282). -/
def execChargeTermination (n : BitVec 5) (late : Bool) (s : State) : Res :=
  let k := n.toNat
  if s.batRuns k && (s.bt k).charged then .next ((s.batSetFull k).batLate k late) else .next s

/-- The end of a qualifying discharge at cutoff (R272, Table 10.2). -/
def State.batLearned (s : State) (n : Nat) : State :=
  if s.batLst n = 2 then
    let q := ((s.bt n).count - (s.bt n).cnt0).toNat
    let nom := 360000 * s.eff (batF Reg.batNameQnom n)
    let a := s.wr (batF Reg.batLrnQmeas n) (sat 16 (rdiv q 360000))
    if nom ≤ 2 * q ∧ 4 * q ≤ 5 * nom then
      ((((a.setQl n q).inc (batF Reg.batLrnNlrn n)).setLst n 3).nvmRec n qlKey true).batLearnEv n
    else a.batDq n 5
  else s

/-- CUTOFF (R264, R272, R276, R282). -/
def execCutoff (n : BitVec 5) (late : Bool) (s : State) : Res :=
  let k := n.toNat
  if s.batRuns k then
    let a := if s.rdB (batF Reg.batStatEmpty k) then s else (s.wr (batF Reg.batStatEmpty k) 1).raise (448 + 4 * k)
    let b := (((a.setAnchor k 0).wr (batF Reg.batStatCountdis k) 0).setUnc k 10).showSoc k
    let c := b.batLearned k
    let d := if (c.move (c.batGroup k)).on then c.learnStop (c.batGroup k) 7 else c
    .next (d.batLate k late)
  else .next s

/-- PSEUDO_OCV (R266). -/
def execPseudoOcv (n : BitVec 5) (s : State) : Res :=
  let k := n.toNat
  if s.batRuns k && s.rdB (batF Reg.batStatPseudo k) && !s.rdB (batF Reg.batStatNotemp k)
      && decide (5 * s.batI k ≤ s.batC k) && decide (-(5 * s.batI k) ≤ s.batC k) then
    match s.socV k with
    | some v => .next ((s.setAnchor k (s.socC k + (v - s.socC k) / 16)).showSoc k)
    | none => .next s
  else .next s

/-- BATs_SINCE has reached `len` µs, within one minute (R267). -/
def State.sinceReached (s : State) (n len : Nat) : Bool := decide ((s.bt n).sinceUs + len ≤ s.us + 60000000)

/-- STALE (R267, R282). -/
def execStale (n : BitVec 5) (late : Bool) (s : State) : Res :=
  let k := n.toNat
  if s.batRuns k && s.sinceReached k (3600000000 * s.eff (batF Reg.batTimeStaleh k)) then
    .next (((s.wr (batF Reg.batStatStale k) 1).raise (448 + 4 * k + 2)).batLate k late)
  else .next s

/-- ROTATION_DUE (R267, R277, R282). -/
def execRotationDue (n : BitVec 5) (late : Bool) (s : State) : Res :=
  let k := n.toNat
  if s.batRuns k && s.effB (batF Reg.batTimeRoten k) && s.sinceReached k (86400000000 * s.eff (batF Reg.batTimeRotd k)) then
    .next ((((s.batMod k fun b => { b with due := true }).raise (448 + 4 * k + 2)).restRequest).batLate k late)
  else .next s

/-- LEARNING_PAUSE (R271, R282). -/
def execLearningPause (n : BitVec 5) (late : Bool) (s : State) : Res :=
  let k := n.toNat
  if s.batRuns k && s.batLst k == 2 then .next ((s.batDq k 6).batLate k late) else .next s

/-! ### Offset, identity, histograms, records -/

/-- The STORE bay is open and present (R259). -/
def State.batOpen (s : State) (n : Nat) : Bool := !s.bayClosed (s.batBay n) && s.rdB (bayF Reg.bayStatPresent (s.batBay n))

/-- OFFSET_CAL_START (R259). -/
def execOffsetCalStart (n : BitVec 5) (s : State) : Res :=
  let k := n.toNat
  if s.batRuns k && s.batOpen k then .next (s.batMod k fun b => { b with cal := true }) else .next s

/-- OFFSET_CAL_END (R259): `mean` in 1/16 LSB. -/
def execOffsetCalEnd (n : BitVec 5) (mean : BitVec 20) (s : State) : Res :=
  let k := n.toNat
  if s.batRuns k && (s.bt k).cal then
    let a := s.batMod k fun b => { b with cal := false }
    if !s.batOpen k then .next a
    else if 16 * s.eff (batF Reg.batIsclOfsmax k) < mean.toInt.natAbs then .next (a.batToken k 1)
    else .next ((a.wr (batF Reg.batOfsOfs k) (tw 16 (ssat 16 mean.toInt))).wr (batF Reg.batOfsOfsok k) 1)
  else .next s

/-- IDENTITY_TRY (R279, R282). -/
def execIdentityTry (n : BitVec 5) (late : Bool) (s : State) : Res :=
  let k := n.toNat
  if s.batRuns k && (s.bt k).tries.isSome then .next ((s.idTry k).batLate k late) else .next s

/-- The histogram bin of a current of `i` mA at 1 C = `c` mA (R281). -/
def currentBin (i c : ℚ) : Nat :=
  let m := if i < 0 then -i else i
  let k := ([1, 5, 10, 20, 50, 100, 200].filter fun (e : ℚ) => e * c ≤ 100 * m).length
  if i < 0 then 8 + k else k

/-- One 10 s step of the histograms and extremes of a string (R281). -/
def State.batHist (s : State) (n : Nat) : State :=
  if s.batSvc n = 0 then s
  else
    let t := (s.batT n) / 8
    let tb := (iclamp 0 15 ((t + 40) / 10)).toNat
    let sb := min 9 ((qtrunc (s.socRep n)).toNat / 10)
    let v := s.sv (256 + n)
    let i := qround (s.batI n / 100)
    let t8 := irdiv (s.batT n) 8
    let a := ((s.inc (batFk Reg.batHtS n tb) 10).inc (batFk Reg.batHsS n sb) 10).inc (batFk Reg.batHiS n (currentBin (s.batI n) (s.batC n))) 10
    let b := (a.wr (batF Reg.batXvVmax n) (max v (a.rd (batF Reg.batXvVmax n)))).wr (batF Reg.batXvVmin n) (min v (a.rd (batF Reg.batXvVmin n)))
    let c := (b.wr (batF Reg.batXtTmax n) (tw 8 (ssat 8 (max t8 (sx 8 (b.rd (batF Reg.batXtTmax n))))))).wr (batF Reg.batXtTmin n)
      (tw 8 (ssat 8 (min t8 (sx 8 (b.rd (batF Reg.batXtTmin n))))))
    ((c.wr (batF Reg.batXiIdmx n) (max (c.rd (batF Reg.batXiIdmx n)) (sat 16 i.toNat))).wr (batF Reg.batXiIcmx n)
      (max (c.rd (batF Reg.batXiIcmx n)) (sat 16 (-i).toNat))).saveRec n

/-- HISTOGRAM_UPDATE (R281). -/
def execHistogramUpdate (s : State) : Res :=
  if s.estimates then .next (s.strings.foldl State.batHist s) else .next s

/-- RECORD_COMMIT (R281). -/
def execRecordCommit (s : State) : Res := if s.recDue && s.lUp then .next s.recCommit else .next s

/-- ROTATION_REQUEST (R277). -/
def execRotationRequest (n : BitVec 5) (s : State) : Res :=
  if s.batRuns n.toNat then .next (s.batMod n.toNat fun b => { b with again := false }).restRequest else .next s

/-- LEARN_ADMISSION_TIMEOUT (R276): the command is refused and the request withdrawn. -/
def execLearnAdmissionTimeout (g : BitVec 3) (s : State) : Res :=
  let k := g.toNat
  if (s.move k).on then .next s else .next ((s.moveMod k fun _ => {}).learnDone k 2 4)

/-- The request of BAT_REST for string `n` is withdrawn. -/
def State.restDrop (s : State) (n : Nat) : State :=
  let a := s.batMod n fun b => { b with rest := 0 }
  let c := { a.abc with restAsk := if a.abc.restAsk = some n then none else a.abc.restAsk, restWait := a.abc.restWait.filter (· != n) }
  State.restAdvance { a with abc := c }

/-- REST_ADMISSION_TIMEOUT (R283): the oldest BAT_REST that waits for the string is refused; the request stands while another
one waits. -/
def execRestAdmissionTimeout (n : BitVec 5) (s : State) : Res :=
  let k := n.toNat
  if (s.bt k).rest = 2 then
    match s.jnl.filter fun e => e.applied && e.wait == .restOpen k with
    | [] => .next (s.restDrop k)
    | [e] => .next ((s.restDrop k).doneOne 2 4 e)
    | e :: _ => .next (s.doneOne 2 4 e)
  else .next s

/-- GDIS_HOLD_EXPIRY (R512): the mailbox figures of a group fall to 0. -/
def execGdisHoldExpiry (g : BitVec 3) (s : State) : Res :=
  if s.effB (pol0F Reg.polHpmBat 0) then
    .next ((s.wr (abc0F Reg.abcGdisDis g.toNat) 0).wr (abc0F Reg.abcGchgChg g.toNat) 0)
  else .next s

/-! ### Commands (R276, R277, R283) -/

/-- The loop of a battery group, where one is mapped. -/
def State.groupLoop (s : State) (g : Nat) : Option Nat :=
  if s.effB (abc3F Reg.abcMapgrpEn g) then some (s.eff (abc3F Reg.abcMapgrpLoop g)) else none

/-- A rest of a string of group `g` is in force. -/
def State.groupRests (s : State) (g : Nat) : Bool := match s.abc.rest with | some n => s.batGroup n == g | none => false

/-- BAT_LEARN, with and without ABORT. -/
def State.applyBatLearn (e : JEntry) (s : State) : State :=
  let n := e.inst
  let g := s.batGroup n
  let loopOk := match s.groupLoop g with | some k => s.loopCur k && s.loopRunning k | none => false
  if bitOf (e.arg 0) 0 then
    match firstReason [(24 ≤ n, 2), (!s.inRun || !s.batEn n || !(s.move g).on, 4)] with
    | some r => s.refuseCmd e r
    | none => ((s.lseq (0x070 + n) e).learnStop g 7).done e.seq
  else
    match firstReason
      [(24 ≤ n, 2), (s.retired 0 (s.batBay n), 3),
       (!s.inRun || !s.batEn n || !loopOk || (s.move g).on || (s.move g).ask || s.groupRests g
         || (s.groupStrings g).any fun m => !s.rdB (batF Reg.batStatFull m), 4)] with
    | some r => s.refuseCmd e r
    | none =>
      let a := (s.lseq (0x070 + n) e).setWait e.seq (.learn n)
      if a.coreUp 1 then a.moveMod g fun m => { m with ask := true, pow := 80 * bits (e.arg 1) 0 16 } else a

/-- A BAT_REST asks for a rest: behind the commands that already wait, in front of a request by rotation that is not admitted. -/
def State.restAskCmd (s : State) (n : Nat) : State :=
  let put (t : State) : State := t.batMod n fun b => { b with rest := 2 }
  if (s.bt n).rest = 2 then s
  else
    match s.abc.restAsk with
    | none => let a := put s; { a with abc := { a.abc with restAsk := some n } }
    | some m =>
      if (s.bt m).rest = 2 then let a := put s; { a with abc := { a.abc with restWait := a.abc.restWait ++ [n] } }
      else let a := put (s.batMod m fun b => { b with rest := 0 }); { a with abc := { a.abc with restAsk := some n } }

/-- BAT_REST, with and without ABORT. -/
def State.applyBatRest (e : JEntry) (s : State) : State :=
  let n := e.inst
  if bitOf (e.arg 0) 0 then
    match firstReason [(24 ≤ n, 2), (!s.inRun || (s.bt n).rest != 3, 4)] with
    | some r => s.refuseCmd e r
    | none => s.follow (((s.lseq (0x070 + n) e).restStop n).done e.seq)
  else
    match firstReason
      [(24 ≤ n, 2), (s.retired 0 (s.batBay n), 3),
       (!s.inRun || !s.batEn n || s.batSvc n != 2 || s.abc.rest.isSome || (s.move (s.batGroup n)).on, 4)] with
    | some r => s.refuseCmd e r
    | none => ((s.lseq (0x070 + n) e).setWait e.seq (.restOpen n)).restAskCmd n

/-- The shadow values of a list of packed 16-bit entries. -/
def State.entries16 (s : State) (r : Row) (n k : Nat) : List Nat :=
  (List.range k).flatMap fun i => let w := s.rd (batFk r n i); [w % 65536, w / 65536]

/-- A list rises strictly. -/
def risingI (l : List Int) : Bool := (l.zip l.tail).all fun p => decide (p.1 < p.2)

/-- The judgement of a set of values for the page of string `n` (R256, R260). -/
def State.batPageCheck (new : State) (n : Nat) : Option Nat :=
  let b := new.rd (batF Reg.batCfgBay n)
  let cols := new.entries16 Reg.batOcvE n 84
  let tax := (List.range 8).map fun i => sx 8 (bits (new.rd (batF (if i < 4 then Reg.batTax0T else Reg.batTax1T) n)) (8 * (i % 4)) 8)
  let rax := [Reg.batRax0R, Reg.batRax1R, Reg.batRax2R, Reg.batRax3R].flatMap fun r =>
    let w := new.rd (batF r n); [((w % 65536 : Nat) : Int), ((w / 65536 : Nat) : Int)]
  firstReason
    [(48 ≤ b || new.rd (batF Reg.batCfgGroup n) != new.rd (bayF Reg.bayCfgLink b) || new.rd (bayF Reg.bayCfgRole b) != 1, 2),
     (new.rdB (batF Reg.batCfgEn n) && (List.range 24).any fun m =>
        m != n && new.rdB (batF Reg.batCfgEn m) && new.rd (batF Reg.batCfgBay m) == b, 2),
     (!(13 ≤ new.rd (batF Reg.batCfgNcell n) && new.rd (batF Reg.batCfgNcell n) ≤ 16), 2),
     (!(List.range 8).all fun t => risingI (((cols.drop (21 * t)).take 21).map fun x => (x : Int)), 2),
     (!risingI tax || !risingI rax, 2)]

/-- BAT_LEARN (opcode 0x600). -/
def execBatLearn (inst : BitVec 8) (h : CmdHdr) (power : Word) (s : State) : Res :=
  .next (s.command State.applyBatLearn 0x600 inst.toNat h [0, power.toNat])

/-- BAT_LEARN with ABORT (opcode 0x600). -/
def execBatLearnAbort (inst : BitVec 8) (h : CmdHdr) (power : Word) (s : State) : Res :=
  .next (s.command State.applyBatLearn 0x600 inst.toNat h [1, power.toNat])

/-- BAT_REST (opcode 0x601). -/
def execBatRest (inst : BitVec 8) (h : CmdHdr) (wait : Word) (s : State) : Res :=
  .next (s.command State.applyBatRest 0x601 inst.toNat h [0, wait.toNat])

/-- BAT_REST with ABORT (opcode 0x601). -/
def execBatRestAbort (inst : BitVec 8) (h : CmdHdr) (wait : Word) (s : State) : Res :=
  .next (s.command State.applyBatRest 0x601 inst.toNat h [1, wait.toNat])

end Sys2Proof.Machine
end

