-- ==== Sys2Proof/Machine/Survey.lean ====
section
/-!
DEFINITION. Survey samples (chapters 1, 5, 8, 10 and 12): the latest codes, the coulomb counters, the sums of the abacus
cycle, the 1 ms means, the foldback and adoption judgements, and the bus monitor.
-/

namespace Sys2Proof.Machine

/-- A channel that is reserved in stepping B1 reads 0 (R11). -/
def svReserved (c : Nat) : Bool := 367 ≤ c && c ≤ 381

/-- A channel that feeds a balance candidate (Table 9.3). -/
def svBalance (c : Nat) : Bool := c < 48 || (96 ≤ c && c ≤ 159) || (280 ≤ c && c ≤ 303) || c == 336

/-- A code in the order of its channel's values: the current channels are signed. -/
def svOrder (c v : Nat) : Nat := if c < 48 || (280 ≤ c && c ≤ 303) then (v + 32768) % 65536 else v

/-- One code of a channel: kept unless the channel is reserved or retired (R11, R429, Table 16.9), with the extremes of
the balance window (R249). -/
def State.putSample (s : State) (p : BitVec 9 × BitVec 16) : State :=
  let c := p.1.toNat
  let v := p.2.toNat
  if 384 ≤ c || svReserved c || s.retired 2 c then s
  else
    let t := s.wr (srvF Reg.srvValSample c) v
    if svBalance c then
      let o := svOrder c v
      { t with bal := { t.bal with lo := Store.ins c (min o (t.bal.lo.get c o)) t.bal.lo,
                                   hi := Store.ins c (max o (t.bal.hi.get c o)) t.bal.hi } }
    else t

/-- The coulomb count of an enabled string takes one sample of 1 µs: the current in 1/16 pC, the residue carried (R258). -/
def State.batCoulomb (s : State) (n : Nat) : State :=
  if !s.batEn n then s
  else
    let x := s.batIx n (s.sv (280 + n))
    let a := s.batMod n fun b =>
      let q := b.res + x
      let c := iclamp (-(2 ^ 39 - 1)) (2 ^ 39 - 1) (b.count + Int.tdiv q 16000000000)
      { b with count := c, res := Int.tmod q 16000000000, cntMax := max b.cntMax c, dchg := b.dchg + max 0 (c - b.count),
               vSum := b.vSum + (s.sv (256 + n) : Nat), iSum := b.iSum + x, viN := b.viN + 1 }
    a.batBegin n

/-- The system-side code of a bay, 2 mV units: the bus, or for a STORE bay the group node (R100). -/
def State.bayVsys (s : State) (n : Nat) : Nat :=
  if s.bayRole n = 1 then rdiv (s.vls (s.eff (abc3F Reg.abcMapgrpLoop (s.eff (bayF Reg.bayCfgLink n))))) 20 else s.sv 336

/-- The power in the FET of a bay, in 10 µΩ W units: the shunt voltage (5 µV) times V_DS (2 mV), which is the power times
100 × RSH (R100, R110). -/
def State.fetPower (s : State) (n : Nat) : Nat := (sx 16 (s.sv n)).natAbs * s.bayVds n

/-- FOLDBACK, judged at each sample of a ramp from SVn and V_DS (R110): the foldback term lies below the effective limit, and
the current stands at it, so the ramp mode's own current is no less. Within the term's error of 2 W + 5 % it is a free value
(log entry 23). -/
def State.bayFoldback (s : State) (n : Nat) : State :=
  let p := s.eff (bayF Reg.bayPlimPlim n)
  let r := s.eff (bayF Reg.bayRshRsh n)
  if s.bayState n = 2 then
    if s.bayLimit n * s.bayVds n ≤ p * r ∨ s.fetPower n ≤ (95 * p - 200) * r then s.wr (bayF Reg.bayStatFoldback n) 0
    else if (105 * p + 200) * r ≤ s.fetPower n then s.wr (bayF Reg.bayStatFoldback n) 1
    else (s.draw 35).2.wrB (bayF Reg.bayStatFoldback n) ((s.draw 35).1.toNat % 2 == 1)
  else s

/-- What one sample does to a bay: voltages, PEAK, sums, the foldback bit, and an adoption that rises above 2 % of V_DS ramps
(R100, R110, R124, R133, R197). -/
def State.baySample (s : State) (n : Nat) : State :=
  let i := sx 16 (s.sv n)
  let v := s.bayVsys n
  let a := (((s.wr (bayF Reg.bayVmeasVsys n) v).wr (bayF Reg.bayVmeasVmod n) (s.sv (48 + n))).wr (bayF Reg.bayPeakPeak n)
    (max (s.rd (bayF Reg.bayPeakPeak n)) i.natAbs)).bayMod n fun b =>
      { b with cycVI := if s.lUp then b.cycVI + (s.sv 336 : Nat) * i else 0, cycI := if s.lUp then b.cycI + i else 0,
               msI := b.msI + i, msVI := b.msVI + v * i, msM := b.msM + s.sv (48 + n) }
  let b := a.bayFoldback n
  if b.bayState n = 10 ∧ !b.bayMet n then b.bayRamp n else b

/-- Power in beads of a bay for a product of a bus code (2 mV) and a shunt code (5 µV) (R100, R197). -/
def State.bayBeads (s : State) (n : Nat) (vi : ℚ) : ℚ := vi * 8 / (100 * ((max 1 (s.eff (bayF Reg.bayRshRsh n)) : Nat) : ℚ))

/-- The 1 ms means of a bay: shunt voltage and power (Table 5.7; log entry 54). -/
def State.bayMeans (s : State) (k : Nat) (n : Nat) : State :=
  let b := vget s.bay n
  ((s.wr (bayF Reg.bayImeasVsh n) (tw 16 (irdiv b.msI k))).wr (bayF Reg.bayPwrPwr n)
    (tw 24 (ssat 24 (qround (s.bayBeads n ((b.msVI : ℚ) / (k : ℚ))))))).bayMod n fun x =>
      { x with msI := 0, msVI := 0, msM := 0, vMean := rdiv b.msM k }

/-- The 1 ms mean of a rail's MON, 0.5 mV units (Table 12.7). -/
def State.railMean (s : State) (k : Nat) (n : Nat) : State :=
  (s.wr (seq7F Reg.seqRmonMon n) (rdiv (vget s.rail n).sum (16 * k))).railMod n fun r => { r with sum := 0 }

/-- The millisecond ends after 1,000 samples. -/
def State.msEnd (s : State) : State :=
  if 1000 ≤ s.svN then
    { (List.range 96).foldl (State.railMean · s.svN ·) ((List.range 48).foldl (State.bayMeans · s.svN ·) s) with svN := 0 }
  else s

/-- The alert condition of R229: a FEED bay that is not open, which in OPENING it is not yet (Table 5.5), is urgent. -/
def State.hldAlert (s : State) : Bool :=
  (List.range 48).any fun n => s.bayRole n == 0 && (s.bayClosed n || s.bayState n == 8) && (vget s.bay n).urgent

/-- The bus monitor's samples, the newest first, from the newest one, those before it that the level condition takes as well, and
those before them that the slope condition takes as well (R229). -/
def busSamples (bus : BitVec 10) (lvl slp : List (BitVec 10)) : List Nat := (bus :: (lvl ++ slp)).map (·.toNat)

/-- The level condition on the bus monitor's last samples, newest first: four in a row lie below VHOLD (R229). -/
def State.busLow (s : State) (bus : List Nat) : Bool :=
  4 ≤ bus.length && (bus.take 4).all fun v => decide (v < s.eff (hldF Reg.hldLvlVhold 0))

/-- The sum of the last 16 samples less the sum of the 16 before, from the `k`th newest on: 160 times the slope in V/µs (R229). -/
def busSlope (bus : List Nat) (k : Nat) : Int := (sumN ((bus.drop k).take 16) : Nat) - (sumN ((bus.drop (k + 16)).take 16) : Nat)

/-- The slope condition: four slopes in a row, 250 ns apart, lie below −SHOLD (R229). -/
def State.busFalls (s : State) (bus : List Nat) : Bool :=
  44 ≤ bus.length && [0, 4, 8, 12].all fun k => decide (25 * busSlope bus k < -(4 * s.eff (hldF Reg.hldRateShold 0) : Nat))

/-- The causes of Table 9.5 in one field: level, slope and alert, each while it is enabled (R229). -/
def State.hldCause (s : State) (bus : List Nat) : Nat :=
  b2n (s.busLow bus && s.effB (hldF Reg.hldCfgLvlen 0)) + 2 * b2n (s.busFalls bus && s.effB (hldF Reg.hldCfgSlpen 0))
    + 4 * b2n (s.hldAlert && s.effB (hldF Reg.hldCfgAlten 0))

/-- The bus monitor's reading: the newest sample, or the last one shown. -/
def State.busNow (s : State) (bus : List Nat) : Nat := bus.headD (s.rd (hldF Reg.hldVbusVbus 0))

/-- The bus monitor: its reading, the lowest of the episode, and the conditions that hold now, each while it is enabled
(R229, Table 9.5). -/
def State.busMonitor (s : State) (bus : List Nat) : State :=
  let v := s.busNow bus
  let c := s.hldCause bus
  let a := s.wr (hldF Reg.hldVbusVbus 0) v
  let b := if s.rd (hldF Reg.hldStatState 0) = 0 then a else a.wr (hldF Reg.hldVbusVmin 0) (min v (a.rd (hldF Reg.hldVbusVmin 0)))
  ((b.wrB (hldF Reg.hldStatLvl 0) (bitOf c 0)).wrB (hldF Reg.hldStatSlp 0) (bitOf c 1)).wrB (hldF Reg.hldStatAlt 0) (bitOf c 2)

/-- The millisecond of a phase takes a sample of SV(96 + n); it starts again with the L-die (R172, R191). -/
def State.phSample (s : State) (j : Nat) : State :=
  s.phMod j fun p =>
    if s.lUp then { p with iSum := p.iSum + s.sv (96 + j), iN := p.iN + 1 }
    else { p with iSum := 0, iN := 0, whole := phInSet (s.phSt j) }

/-- One survey sample: the codes, the counters and the sums. -/
def State.survey (s : State) (codes : List (BitVec 9 × BitVec 16)) : State :=
  let a := codes.foldl State.putSample s
  let b := (List.range 48).foldl State.baySample ((List.range 24).foldl State.batCoulomb ((List.range 64).foldl State.phSample a))
  let c := (List.range 96).foldl (fun t n => t.railMod n fun r => { r with sum := r.sum + t.sv (160 + n) }) b
  State.msEnd { c with svN := c.svN + 1, abc := { c.abc with cycN := if s.lUp then c.abc.cycN + 1 else 0 } }

/-- SURVEY_SAMPLE (R10, R11, R100, R110, R124, R197, R258, R429): what the island samples in every state that powers it. -/
def execSurveySample (codes : List (BitVec 9 × BitVec 16)) (bus : BitVec 10) (lvl slp : List (BitVec 10)) (s : State) : Res :=
  if s.islandUp then .next (s.follow ((s.survey codes).busMonitor (busSamples bus lvl slp))) else .next s

end Sys2Proof.Machine
end

