-- ==== Sys2Proof/Machine/Settle.lean ====
section
/-!
DEFINITION. What a settle of the abacus forms (R197 to R218, R233, R238, R239): figures, budget, grants, shares,
enforcement decisions, references, ledger moves and the release check, computed from the state without changing it.
-/

namespace Sys2Proof.Machine

/-! ### Rods and their members (R197, R198) -/

/-- RODr_CFG.KIND in effect (Table 8.1). -/
def State.rodKind (s : State) (r : Nat) : Nat := s.eff (abc1F Reg.rodCfgKind r)

/-- The bays mapped to a rod. -/
def State.rodBays (s : State) (r : Nat) : List Nat :=
  (List.range 48).filter fun n => s.effB (abc3F Reg.abcMapbayEn n) && s.eff (abc3F Reg.abcMapbayRod n) == r

/-- The loops mapped to a rod. -/
def State.rodLoops (s : State) (r : Nat) : List Nat :=
  (List.range 16).filter fun n => s.effB (abc3F Reg.abcMaploopEn n) && s.eff (abc3F Reg.abcMaploopRod n) == r

/-- The tie ports mapped to a rod. -/
def State.rodTies (s : State) (r : Nat) : List Nat :=
  (List.range 4).filter fun n => s.effB (abc3F Reg.abcMaptieEn n) && s.eff (abc3F Reg.abcMaptieRod n) == r

/-- The battery group mapped to a rod. -/
def State.rodGroup (s : State) (r : Nat) : Option Nat :=
  (List.range 8).find? fun k => s.effB (abc3F Reg.abcMapgrpEn k) && s.eff (abc3F Reg.abcMapgrpRod k) == r

/-- ABC_MAPGRPk.LOOP in effect. -/
def State.grpLoop (s : State) (k : Nat) : Nat := s.eff (abc3F Reg.abcMapgrpLoop k)

/-- A STORE bay of group `k` is closed. -/
def State.storeClosed (s : State) (k : Nat) : Bool :=
  (List.range 48).any fun n => s.bayRole n == 1 && s.eff (bayF Reg.bayCfgLink n) == k && s.bayClosed n

/-- The rod is active (R198). -/
def State.rodActive (s : State) (r : Nat) : Bool :=
  let k := s.rodKind r
  if k = 0 then false
  else if k = 1 ∨ k = 4 then (s.rodBays r).any s.bayClosed
  else if k = 2 then (match s.rodGroup r with | some g => s.storeClosed g | none => false)
  else if k = 3 then (s.rodBays r).any s.bayClosed || (s.rodTies r).any s.conLive
  else if k = 5 then (s.rodLoops r).any s.loopRunning
  else true

/-- A rod has a member with its ALT line urgent (R204). -/
def State.rodUrgent (s : State) (r : Nat) : Bool := (s.rodBays r).any fun n => (vget s.bay n).urgent

/-- The rods. -/
def rods : List Nat := List.range 64

/-- The active FEED rods that share: no member is urgent (R204, R210). -/
def State.feedRods (s : State) : List Nat := rods.filter fun r => s.rodKind r == 1 && s.rodActive r && !s.rodUrgent r

/-- RODr_CEIL in effect. -/
def State.rodCeil (s : State) (r : Nat) : Nat := s.eff (abc1F Reg.rodCeilCeil r)

/-- RODr_FLOOR in effect. -/
def State.rodFloor (s : State) (r : Nat) : Nat := s.eff (abc1F Reg.rodFloorFloor r)

/-- The rod's weight: 0 is taken as 1 (R225). -/
def State.rodWeight (s : State) (r : Nat) : Nat := max 1 (s.eff (abc1F Reg.rodCfgWeight r))

/-! ### Step 2: measure (R197, R199 to R201) -/

/-- A member of a rod: its balance candidate, whether it is a source, and its raw figure in beads. -/
structure Member where
  cand : Nat
  source : Bool
  fig : ℚ

/-- Cycles that the closed sums cover. -/
def State.spanNow (s : State) : Nat := max 1 s.abc.span

/-- The mean shunt code of a bay over the span; with no sample in it, the last one. -/
def State.meanI (s : State) (n : Nat) : ℚ :=
  if s.abc.sumN = 0 then (sx 16 (s.sv n) : ℚ) else ((vget s.bay n).sumI : ℚ) / (s.abc.sumN : ℚ)

/-- The mean of V_bus times I_bay over the span, in codes; with no sample in it, the last ones. -/
def State.meanVI (s : State) (n : Nat) : ℚ :=
  if s.abc.sumN = 0 then (s.sv 336 : ℚ) * (sx 16 (s.sv n) : ℚ) else ((vget s.bay n).sumVI : ℚ) / (s.abc.sumN : ℚ)

/-- The power of a bay, beads. -/
def State.bayFig (s : State) (n : Nat) : ℚ := s.bayBeads n (s.meanVI n)

/-- The input power of a loop over the span, beads. -/
def State.loopFig (s : State) (n : Nat) : ℚ := ((s.lp n).pnSum : ℚ) / (s.spanNow : ℚ)

/-- The members of a rod with their raw figures (Table 8.1). -/
def State.members (s : State) (r : Nat) : List Member :=
  let k := s.rodKind r
  if k = 1 ∨ k = 3 then (s.rodBays r).map fun n => ⟨n, true, s.bayFig n⟩
  else if k = 4 then (s.rodBays r).map fun n => ⟨n, false, s.bayFig n⟩
  else if k = 5 then (s.rodLoops r).map fun n => ⟨48 + n, false, s.loopFig n⟩
  else if k = 2 then (match s.rodGroup r with | some g => [⟨64 + g, true, -(s.loopFig (s.grpLoop g))⟩] | none => [])
  else []

/-- The modelled loss in beads: LOSS0 and I² R over the closed bays (R197). -/
def State.lossFig (s : State) : ℚ :=
  (s.eff (abc0F Reg.abcLosscfgLoss0 0) : ℚ) + sumQ (((List.range 48).filter s.bayClosed).map fun n =>
    let rsh : ℚ := ((max 1 (s.eff (bayF Reg.bayRshRsh n)) : Nat) : ℚ)
    let i := 5 * s.meanI n / rsh
    i * i * (rsh + (s.eff (abc0F Reg.abcLosscfgRpath 0) : ℚ)) * 8 / 1000000)

/-- The greatest balance magnitude (R199). -/
def balMax : Int := 8388607

/-- A figure in whole beads, held in the range of a balance, and whether it saturated (R199). -/
def beadsOf (x : ℚ) : Int × Bool :=
  let b := qround x
  (iclamp (-balMax) balMax b, decide (balMax < b) || decide (b < -balMax))

/-- A balance candidate is suspect. -/
def State.suspect (s : State) (c : Nat) : Bool := s.rdB (bal1F Reg.balcStSuspect c)

/-- The suspicion of a candidate is of kind STUCK. -/
def State.suspectStuck (s : State) (c : Nat) : Bool := s.rdB (bal1F Reg.balcStKind c)

/-- The number of suspects in force. -/
def State.nSuspects (s : State) : Nat := ((List.range 73).filter s.suspect).length

/-- 1 − ε̂ of a gain suspect, ε̂ held between −1.0 and +0.5 (R251). -/
def State.gainFactor (s : State) (c : Nat) : ℚ :=
  1 - qclamp (-1) (1 / 2) ((sx 24 (s.rd (bal1F Reg.balcEpsEps c)) : ℚ) / 1048576)

/-- A suspect touches the figure of a member: its own candidate, or the bus candidate for a bay (R251). -/
def State.auditedBy (s : State) (m : Member) : Bool := s.suspect m.cand || (m.cand < 48 && s.suspect 72)

/-- The audited figure of a member of rod `r`, with the cycle's raw residual (R200, R251). A stuck bus suspect leaves the
bay figures open (log entry 26). -/
def State.auditFig (s : State) (r : Nat) (resid : Int) (m : Member) : ℚ :=
  if m.cand < 48 && s.suspect 72 && s.suspectStuck 72 then (sx 24 (Config.openValue 71 m.cand).toNat : ℚ)
  else
    let bus : ℚ := if m.cand < 48 && s.suspect 72 then s.gainFactor 72 else 1
    if !s.suspect m.cand then m.fig * bus
    else if !s.suspectStuck m.cand then m.fig * s.gainFactor m.cand * bus
    else if s.nSuspects = 1 then
      let x := if m.source then m.fig - (resid : ℚ) else m.fig + (resid : ℚ)
      if m.cand < 64 && decide (x < 0) then 0 else x
    else if m.source then 0
    else (s.rodCeil r : ℚ) / (((s.members r).length : Nat) : ℚ)

/-- Totals of a set of rod figures: S, C, L (R203). -/
def State.totals (s : State) (fig : Nat → Int) : Int × Int × Int :=
  let pick (p : Nat → Bool) (f : Nat → Int) : Int := sumI ((rods.filter fun r => p (s.rodKind r)).map f)
  (pick (· == 1) fig + pick (fun k => k == 2 || k == 3) (fun r => max (fig r) 0),
   pick (fun k => k == 4 || k == 5) fig + pick (fun k => k == 2 || k == 3) (fun r => max (-(fig r)) 0),
   pick (· == 7) fig)

/-- The figures of one settle: postings, and the totals S, C and L with C + L. -/
structure Figures where
  raw : List Int
  post : List (Int × Bool)
  rs : Int
  rr : Int
  s : Int
  c : Int
  l : Int

/-- Raw and audited postings of every rod; a RESERVE rod measures nothing (R197). -/
def State.figures (s : State) : Figures :=
  let loss := s.lossFig
  let rawOf (r : Nat) : ℚ := if s.rodKind r = 7 then loss else sumQ ((s.members r).map (·.fig))
  let raw := rods.map fun r => (beadsOf (rawOf r)).1
  let t := s.totals (nth raw)
  let resid := t.1 - t.2.1 - t.2.2
  let post := rods.map fun r =>
    beadsOf (if s.rodKind r = 7 then loss else sumQ ((s.members r).map (s.auditFig r resid)))
  let u := s.totals fun r => (nth post r).1
  { raw := raw, post := post, rs := t.1, rr := resid, s := u.1, c := u.2.1, l := u.2.2 }

/-- The posting of a rod. -/
def Figures.bal (f : Figures) (r : Nat) : Int := (nth f.post r).1

/-- C + L. -/
def Figures.load (f : Figures) : Int := f.c + f.l

/-! ### Step 4: budget (R204, R205, R238) -/

/-- The hold-up fast path is in force: an episode runs (R205; log entry 27). -/
def State.holdup (s : State) : Bool := s.rd (hldF Reg.hldStatState 0) != 0

/-- ABC_CAPEFF after one settle. -/
def State.capNext (s : State) : Nat :=
  let cap := s.eff (abc0F Reg.abcCapCap 0)
  let slew := s.eff (abc0F Reg.abcCapslewSlew 0)
  let now := s.rd (abc0F Reg.abcCapeffCap 0)
  if slew = 0 then cap else if now < cap then min cap (now + slew) else max cap (now - slew)

/-- ABC_GDISk. -/
def State.gdis (s : State) (k : Nat) : Nat := s.rd (abc0F Reg.abcGdisDis k)

/-- The import power of a TIE rod: the contract power of its ports that are sinks (R204, R216). -/
def State.tieImport (s : State) (r : Nat) : Nat := sumN (((s.rodTies r).filter fun t => !s.tieSource t).map s.conBeads)

/-- The export power of a TIE rod. -/
def State.tieExport (s : State) (r : Nat) : Nat := sumN (((s.rodTies r).filter s.tieSource).map s.conBeads)

/-- The FEED part of the supply. -/
def State.feedSupply (s : State) : Nat := sumN (s.feedRods.map s.rodCeil)

/-- ABC_SUPPLY, with the groups whose discharge is in force after this settle (R204, R213, R238). -/
def State.supplyNow (s : State) (on : Nat → Bool) : Nat :=
  s.feedSupply + sumN ((rods.filter fun r => s.rodKind r == 3).map s.tieImport)
    + sumN ((rods.filter fun r => s.rodKind r == 2).map fun r =>
        match s.rodGroup r with
        | some g => if s.holdup || on g then s.gdis g else 0
        | none => 0)

/-- Microseconds of the episode so far. -/
def State.episodeUs (s : State) : Nat := s.us - s.hld.trigUs

/-- T_R in µs; 0 once the target is reached (R238). -/
def State.timeLeft (s : State) : Nat := 1000000 * s.eff (hldF Reg.hldTgtTarget 0) - s.episodeUs

/-- HLD_EUSE has not been updated for 1 s. -/
def State.euStale (s : State) : Bool := decide (s.hld.euUs + 1000000 ≤ s.us)

/-- B, or B_H while an episode runs, for a supply (R204, R238). -/
def State.budgetNow (s : State) (sup : Nat) : Nat :=
  let b := min s.capNext sup
  if s.holdup && s.timeLeft != 0 && !s.euStale then min b (s.rd (hldF Reg.hldEuseE 0) * 8000000 / s.timeLeft) else b

/-! ### Step 5: grants (R206) -/

/-- A share of a split: the rod, its weight, its need, and what it holds of the split. -/
structure Share where
  rod : Nat
  wt : Nat
  need : Nat
  got : Nat := 0
deriving Inhabited

/-- One bead of the remainder to each share in order, until it is spent. -/
def spreadRest : Nat → List Share → List Share
  | _, [] => []
  | 0, l => l
  | n + 1, x :: l => if 0 < x.need then { x with need := x.need - 1, got := x.got + 1 } :: spreadRest n l else x :: spreadRest (n + 1) l

/-- Water-filling of `left` beads over shares in ascending rod number (R206). -/
def waterFill : Nat → Nat → List Share → List Share
  | 0, _, l => l
  | fuel + 1, left, l =>
    let ws := sumN ((l.filter fun x => 0 < x.need).map (·.wt))
    if left = 0 ∨ ws = 0 then l
    else
      let part (x : Share) : Nat := if 0 < x.need then min x.need (left * x.wt / ws) else 0
      let m := l.map fun x => { x with need := x.need - part x, got := x.got + part x }
      let rest := left - sumN (l.map part)
      if l.any fun x => decide (0 < x.need) && part x == x.need then waterFill fuel rest m else spreadRest rest m

/-- The result of a split: what each share holds. -/
def split (left : Nat) (l : List Share) : List Share := waterFill (l.length + 1) left l

/-- A consumer in the grants: priority, weight, floor, ceiling, measured need and demand, what it holds, FLOORSHORT. -/
structure Consumer where
  rod : Nat
  prio : Nat
  wt : Nat
  floor : Nat
  ceil : Nat
  meas : Nat
  dem : Nat
  got : Nat := 0
  short : Bool := false
deriving Inhabited

/-- The demand of a BRANCH or LOOP rod. -/
def State.rodDemand (s : State) (r : Nat) (b : Int) : Nat :=
  min (s.rodCeil r) (max (s.rodFloor r) (b.toNat * (100 + s.eff (abc0F Reg.abcCfgHead 0)) / 100))

/-- The charge request of a group, or 0 where no charge is granted (R205, R206). -/
def State.chargeAsk (s : State) (g : Nat) : Nat :=
  if s.effB (abc0F Reg.abcCfgChgen 0) && !s.holdup then s.rd (abc0F Reg.abcGchgChg g) else 0

/-- The consumer that an active rod makes, if it makes one (R206, R216). -/
def State.consumer (s : State) (f : Figures) (r : Nat) : Option Consumer :=
  let k := s.rodKind r
  let mk (fl ce me de : Nat) : Option Consumer :=
    some { rod := r, prio := s.eff (abc1F Reg.rodCfgPrio r), wt := s.rodWeight r, floor := fl, ceil := ce, meas := me, dem := de }
  if !s.rodActive r then none
  else if k = 4 ∨ k = 5 then mk (s.rodFloor r) (s.rodCeil r) (f.bal r).toNat (s.rodDemand r (f.bal r))
  else if k = 6 then mk (s.rodFloor r) (s.rodFloor r) (s.rodFloor r) (s.rodFloor r)
  else if k = 2 then
    (match s.rodGroup r with
    | some g => let d := s.chargeAsk g; mk 0 d (min (-(f.bal r)).toNat d) d
    | none => none)
  else if k = 3 then (let x := s.tieExport r; if x = 0 then none else mk x x x x)
  else none

/-- One level of a pass: the beads are split by need, and the rest is handed on. -/
def passLevel (need : Consumer → Nat) (p : Nat × List Consumer) (lv : Nat) : Nat × List Consumer :=
  let xs := split p.1 ((p.2.filter fun x => x.prio == lv).map fun x => { rod := x.rod, wt := x.wt, need := need x - x.got })
  let got (r : Nat) : Nat := sumN ((xs.filter fun x => x.rod == r).map (·.got))
  (p.1 - sumN (xs.map (·.got)), p.2.map fun x => if x.prio = lv then { x with got := x.got + got x.rod } else x)

/-- A pass over the levels 7 down to 0. -/
def pass (need : Consumer → Nat) (p : Nat × List Consumer) : Nat × List Consumer := [7, 6, 5, 4, 3, 2, 1, 0].foldl (passLevel need) p

/-- The grants of G beads: consumers with what they hold, and the floors covered; every rod of a level whose floors are not
covered is short (R206). -/
def grants (g : Int) (spare : Bool) (cs : List Consumer) : List Consumer × Nat :=
  let a := pass (·.floor) (g.toNat, cs)
  let a2 := (a.1, a.2.map fun x => { x with short := a.2.any fun y => y.prio == x.prio && decide (y.got < y.floor) })
  let b := pass (·.dem) (pass (·.meas) a2)
  ((if spare then pass (·.ceil) b else b).2, sumN (a.2.map (·.got)))

/-- The grant of a rod. -/
def grantOf (cs : List Consumer) (r : Nat) : Nat := match cs.find? fun x => x.rod == r with | some x => x.got | none => 0

/-! ### Ledger moves (R213 to R215) -/

/-- Usable energy of the strings that stay in service: the groups `out` and string `n` are left out (R213, R214). -/
def State.reserveJ (s : State) (out : Nat → Bool) (n : Option Nat) : Nat :=
  sumN ((s.inService.filter fun m => !out (s.batGroup m) && n != some m).map fun m => s.rd (batF Reg.batEuseE m))

/-- The reserve condition: the usable energy covers E_req. -/
def State.reserveOk (s : State) (f : Figures) (out : Nat → Bool) (n : Option Nat) : Bool :=
  decide ((s.eff (hldF Reg.hldTgtTarget 0) : Int) * f.load ≤ 8 * (s.reserveJ out n : Int))

/-- The FEED condition of R213. -/
def State.feedOk (s : State) (f : Figures) : Bool := decide (f.load ≤ (s.feedSupply : Int))

/-- P_dis of a group (R213). -/
def State.pdis (s : State) (f : Figures) (g : Nat) : Nat :=
  min (s.gdis g) (f.load - sumN (s.feedRods.map fun r => s.rodCeil r * s.eff (abc0F Reg.abcCfgFmin 0) / 100)).toNat

/-- The move of a group after this settle, with the groups in a learning discharge: its counts, whether it starts, and
whether it ends (R213, R215). -/
def State.moveStep (s : State) (f : Figures) (on : Nat → Bool) (g : Nat) : MoveS × Bool × Bool :=
  let m := s.move g
  let ok := s.feedOk f && s.reserveOk f (fun k => k == g || on k) none
  if m.on then
    let fails := if ok then 0 else m.fails + 1
    let idle := if s.pdis f g = 0 then m.zero + 1 else 0
    ({ m with fails := fails, zero := idle }, false, decide (10 ≤ fails) || decide (10 ≤ idle))
  else if m.ask && ok && !s.groupRests g then ({ m with fails := 0, zero := 0 }, true, false)
  else (m, false, false)

/-- The moves of the groups in ascending number: a discharge admitted at this settle leaves the reserve for the next. -/
def State.moveSteps (s : State) (f : Figures) : List (Nat × MoveS × Bool × Bool) :=
  (List.range 8).foldl (fun l g =>
    l ++ [(g, s.moveStep f (fun k => (s.move k).on || l.any fun p => p.1 == k && p.2.2.1) g)]) []

/-! ### Step 6: shares and references (R210, R212, R239) -/

/-- D_F: the load less what groups and ties carry; a learning discharge in force after this settle counts with P_dis (R210,
R213; log entry 28). -/
def State.feedLoad (s : State) (f : Figures) (on : Nat → Bool) : Int :=
  f.load - sumI ((rods.filter fun r => s.rodKind r == 2).map fun r =>
      match s.rodGroup r with
      | some g => if on g then (s.pdis f g : Int) else max (f.bal r) 0
      | none => max (f.bal r) 0)
    - sumI ((rods.filter fun r => s.rodKind r == 3).map fun r => max (f.bal r) 0)

/-- The targets of the FEED bays, beads. -/
def State.feedTargets (s : State) (f : Figures) (on : Nat → Bool) : List (Nat × Nat) :=
  let mode := s.effB (abc0F Reg.abcCfgSharemode 0)
  let xs := split (s.feedLoad f on).toNat (s.feedRods.map fun r =>
    { rod := r, wt := if mode then s.rodWeight r else s.rodCeil r, need := s.rodCeil r })
  xs.flatMap fun x =>
    let bs := (s.rodBays x.rod).filter s.bayClosed
    bs.map fun n => (n, x.got / bs.length)

/-- A power in beads as a current at the group node, 10 mA units toward zero and held in the 16 bits of a reference (R212; log
entry 107). With no voltage on the node the spec gives none (log entry 23). -/
def State.groupRef (s : State) (m : Nat) (beads : Int) : Int :=
  if s.vls m = 0 then sx 16 (Config.openValue 72 m).toNat else ssat 16 (Int.tdiv (beads * 125000) (s.vls m : Nat))

/-- A reference held within the loop's effective limit. -/
def State.limitRef (s : State) (m : Nat) (ref : Int) : Int :=
  iclamp (-(s.loopLimit m / 10 : Nat)) (s.loopLimit m / 10 : Nat) ref

/-- Group `k` is armed (R232). -/
def State.armed (s : State) (k : Nat) : Bool :=
  let m := s.grpLoop k
  bitOf (s.eff (hldF Reg.hldCfgGrpen 0)) k && s.effB (abc3F Reg.abcMapgrpEn k) && s.loopBidirCur m && s.loopRunning m

/-- The armed groups. -/
def State.armedGroups (s : State) : List Nat := (List.range 8).filter s.armed

/-- The share of a load that an armed group carries: by ABC_GDISk, or equal while every one is 0 (R233, R239). -/
def State.armedShare (s : State) (load : Int) (k : Nat) : Int :=
  let gs := s.armedGroups
  let tot := sumN (gs.map s.gdis)
  if tot = 0 then load / (gs.length : Int) else load * (s.gdis k : Int) / (tot : Int)

/-- D_H (R239). -/
def State.holdupLoad (s : State) (f : Figures) : Int :=
  f.load - sumI ((rods.filter fun r => s.rodKind r == 3).map fun r => max (f.bal r) 0)

/-- The abacus drives the loop of group `k` (R212). -/
def State.drives (s : State) (k : Nat) : Bool :=
  s.effB (abc3F Reg.abcMapgrpEn k) && s.loopCur (s.grpLoop k) && s.loopRunning (s.grpLoop k)

/-- The reference of group `k` in the order of R212; `on` says that its discharge is in force after this settle, `chg` is
its charge grant. -/
def State.refOf (s : State) (f : Figures) (k : Nat) (on : Bool) (chg : Nat) : Int :=
  let m := s.grpLoop k
  if s.holdup && s.armed k then s.limitRef m (s.groupRef m (s.armedShare (s.holdupLoad f) k))
  else if on then (if s.pdis f k = 0 then 0 else s.groupRef m (s.pdis f k))
  else if chg ≠ 0 then s.groupRef m (-(chg : Int))
  else 0

/-! ### Step 7: enforcement (R207 to R209, R240) -/

/-- What the enforcement of one rod decides. -/
structure Enforce where
  st : RodS
  over_ : Bool
  lim : Bool
  step : Nat
  first : Bool

/-- A member bay of the rod takes throttle steps and the rod allows them (R208). -/
def State.canThrottle (s : State) (r : Nat) : Bool :=
  s.rodKind r == 4 && !s.effB (abc1F Reg.rodEnfNothr r) && (s.rodBays r).any fun n => s.effB (bayF Reg.bayCfgThren n)

/-- The enforcement decisions of a BRANCH or LOOP rod with balance `b` and grant `g`: the mean of ten balances, the release
level and 1.25 times the grant are whole beads, rounded down (R199, R207, R208). -/
def State.enforce (s : State) (r : Nat) (b : Int) (g : Nat) : Enforce :=
  let x := vget s.abc.rods r
  let hist := if s.rodActive r then (b :: x.hist).take 10 else []
  let mean := sumI hist / 10
  let was := s.rdB (abc2F Reg.rodRstOver r)
  let above := decide (mean > (g * (100 - s.eff (abc1F Reg.rodEnfRelhyst r)) / 100 : Nat))
  let ov := hist.length == 10 && (if was then above else decide (mean > g))
  let overUs := if ov && !was then s.us else x.overUs
  let step := s.rd (abc2F Reg.rodRstThstep r)
  let ivl := if s.holdup then 1000 * s.eff (hldF Reg.hldRateTpace 0) else 10000
  let first := ov && !was && s.canThrottle r && step == 0
  let due := decide (x.stepUs + ivl ≤ s.us)
  let fall := decide (x.stepUs + 10000 ≤ s.us)
  let p : Nat × Nat :=
    if first then (1, s.us)
    else if ov then (if 0 < step ∧ step < 7 ∧ s.canThrottle r ∧ due then (step + 1, s.us) else (step, x.stepUs))
    else if step = 0 then (0, x.stepUs)
    else if was ∨ above then (step, s.us)
    else if fall then (step - 1, s.us)
    else (step, x.stepUs)
  let grace := 1000 * (if s.holdup then s.eff (hldF Reg.hldRateHgrace 0) else s.eff (abc1F Reg.rodEnfTgrace r))
  let lim := ov && !s.effB (abc1F Reg.rodEnfNolim r)
    && (s.rdB (abc2F Reg.rodRstLimited r) || s.rodKind r == 5 || decide (overUs + grace ≤ s.us) || decide (mean > (g * 5 / 4 : Nat)))
  { st := { x with hist := hist, overUs := overUs, stepUs := p.2 }, over_ := ov, lim := lim, step := p.1, first := first }

/-- The share of the grant of a limited rod that falls to a member: by its figure, or equal when the rod's posting is not
positive; whole beads, rounded down (R199, R208, R209). -/
def shareOf (g : Nat) (fig tot : Int) (n : Nat) : Int := if tot ≤ 0 then (g : Int) / (n : Int) else (g : Int) * fig / tot

/-- BAYn_ALIM for a share in beads (R208). With no bus voltage the spec gives none (log entry 23). -/
def State.balimOf (s : State) (n : Nat) (share : Int) : Nat :=
  if s.sv 336 = 0 then clamp 10 0x1FE ((Config.openValue 74 n).toNat % 512)
  else clamp 10 0x1FE (qtrunc ((share : ℚ) / 8 / ((s.sv 336 : ℚ) / 500) * (s.eff (bayF Reg.bayRshRsh n) : ℚ) / 500)).toNat

/-- η of a loop: its output power over PHi_PIN, held between 0.50 and 1.00 (R209). With no input power the spec gives none
(log entry 23). -/
def State.loopEta (s : State) (n : Nat) : ℚ :=
  let pin := sx 24 (s.rd (pwrF Reg.phPinPin n))
  let x : ℚ := if pin = 0 then ((Config.openValue 75 n).toNat : ℚ) / 2 ^ 64
    else (s.rd (loopF Reg.loopVmeasVout n) : ℚ) * (sx 16 (s.rd (loopF Reg.loopImeasIout n)) : ℚ) * 8 / 1000000 / (pin : ℚ)
  qclamp (1 / 2) 1 x

/-- LOOPn_ALIM for a share in beads, 10 mA units (R209). With no output voltage the spec gives none (log entry 23). -/
def State.lalimOf (s : State) (n : Nat) (share : Int) : Nat :=
  let v := s.rd (loopF Reg.loopVmeasVout n)
  if v = 0 then (Config.openValue 76 n).toNat % 65535
  else min 0xFFFE (qtrunc ((share : ℚ) / 8 * s.loopEta n / ((v : ℚ) / 10000) * 100)).toNat

/-! ### Release check (R218) -/

/-- The share of a FEED or TIE bay in the supply. -/
def State.bayShare (s : State) (n : Nat) : Nat :=
  if s.effB (abc3F Reg.abcMapbayEn n) then
    let r := s.eff (abc3F Reg.abcMapbayRod n)
    if s.bayRole n = 0 then
      (if s.feedRods.contains r ∧ s.bayClosed n then s.rodCeil r / ((s.rodBays r).filter s.bayClosed).length else 0)
    else (match s.tieOfBay n with | some t => if s.tieSource t then 0 else s.conBeads t | none => 0)
  else 0

/-- The abacus grants a release of bay `n` against a supply (R218). -/
def State.releaseOk (s : State) (f : Figures) (sup n : Nat) : Bool :=
  let role := s.bayRole n
  if role = 1 then false
  else if role = 2 then
    s.effB (abc3F Reg.abcMapbayEn n) &&
      (let r := s.eff (abc3F Reg.abcMapbayRod n)
       (s.rodBays r).any fun m => m != n && s.bayClosed m &&
         decide ((f.bal r : ℚ) / 8 * (s.eff (bayF Reg.bayRshRsh m) : ℚ) ≤ (s.bayLimit m : ℚ) * 500 * ((s.sv 336 : ℚ) / 500)))
  else
    let res := sumN ((rods.filter fun r => s.rodKind r == 6).map s.rodFloor)
    decide (f.load + (res : Int) ≤ (sup : Int) - (s.bayShare n : Int))

/-- The STORE bay of a string can make a timed open (R123, R214). -/
def State.restReady (s : State) (n : Nat) : Bool := s.bayState (s.batBay n) == 3 || s.bayState (s.batBay n) == 4

/-! ### The whole settle -/

/-- A register value to be posted. -/
def post (f : Fld) (v : Nat) : Nat × Nat × Nat := (f.key, f.reset, v % 2 ^ f.width)

/-- A signed register value to be posted. -/
def postI (f : Fld) (v : Int) : Nat × Nat × Nat := (f.key, f.reset, tw f.width v)

/-- The regressor of a balance candidate and its eligibility (Table 9.3). -/
def State.regressor (s : State) (c : Nat) : Option ℚ :=
  let bay (n : Nat) : Option ℚ :=
    if s.effB (abc3F Reg.abcMapbayEn n) then
      let k := s.rodKind (s.eff (abc3F Reg.abcMapbayRod n))
      if k = 1 ∨ k = 3 then some (s.bayFig n) else if k = 4 then some (-(s.bayFig n)) else none
    else none
  if c < 48 then bay c
  else if c < 64 then
    (if s.effB (abc3F Reg.abcMaploopEn (c - 48)) && s.rodKind (s.eff (abc3F Reg.abcMaploopRod (c - 48))) == 5 then
      some (-(s.loopFig (c - 48))) else none)
  else if c < 72 then
    (if s.effB (abc3F Reg.abcMapgrpEn (c - 64)) && s.rodKind (s.eff (abc3F Reg.abcMapgrpRod (c - 64))) == 2 then
      some (-(s.loopFig (s.grpLoop (c - 64)))) else none)
  else if (List.range 48).any fun n => (bay n).isSome then some (sumQ ((List.range 48).filterMap bay)) else none

/-- The registers of rod `r`. -/
def State.rodRegs (s : State) (f : Figures) (cs : List Consumer) (r : Nat) (e : Enforce) : List (Nat × Nat × Nat) :=
  let k := s.rodKind r
  let en := k == 4 || k == 5
  let c := cs.find? fun x => x.rod == r
  let bal : Int := if k = 6 then (grantOf cs r : Int) else f.bal r
  let dem := if k = 3 then s.tieImport r + s.tieExport r else match c with | some x => x.dem | none => 0
  [postI (abc2F Reg.rodBalBal r) bal, post (abc2F Reg.rodGrantGrant r) (grantOf cs r), post (abc2F Reg.rodDemandDem r) dem,
   post (abc2F Reg.rodRstOver r) (b2n (en && e.over_)), post (abc2F Reg.rodRstThrottling r) (b2n (en && e.step != 0)),
   post (abc2F Reg.rodRstLimited r) (b2n (en && e.lim)),
   post (abc2F Reg.rodRstFloorshort r) (match c with | some x => b2n x.short | none => 0),
   post (abc2F Reg.rodRstAudited r) (b2n ((s.members r).any s.auditedBy)), post (abc2F Reg.rodRstSat r) (b2n (nth f.post r).2),
   post (abc2F Reg.rodRstActive r) (b2n (s.rodActive r)), post (abc2F Reg.rodRstThstep r) (if en then e.step else 0),
   post (abc2F Reg.rodRstOverms r) (if en && e.over_ then sat 16 ((s.us - e.st.overUs) / 1000) else 0)]

/-- The settle, from the state with its sums closed (Table 8.2). -/
def State.settleOf (s : State) : SettleP :=
  let f := s.figures
  let mv := s.moveSteps f
  let onAfter (k : Nat) : Bool := mv.any fun p => p.1 == k && (((s.move k).on && !p.2.2.2) || p.2.2.1)
  let sup := s.supplyNow onAfter
  let cap := s.capNext
  let b := s.budgetNow sup
  let g : Int := (b : Int) - f.l
  let gr := grants g (s.effB (abc0F Reg.abcCfgSpare 0)) (rods.filterMap (s.consumer f))
  let cs := gr.1
  let enf := rods.map fun r => (r, s.enforce r (f.bal r) (grantOf cs r))
  let isEnf (r : Nat) : Bool := s.rodKind r == 4 || s.rodKind r == 5
  let restBad := match s.abc.rest with | some n => !s.reserveOk f onAfter (some n) | none => false
  let restFails := if restBad then s.abc.restFails + 1 else 0
  let firstEp := s.holdup && !s.hld.settled
  let restOff := s.abc.rest.isSome && (decide (10 ≤ restFails) || firstEp)
  let restIn := match s.abc.restAsk with
    | some n => s.abc.rest.isNone && s.reserveOk f onAfter (some n) && !firstEp && s.restReady n && !onAfter (s.batGroup n)
    | none => false
  let learnOff := (mv.filter fun p => p.2.2.2).map (·.1)
  let moveEnd := !learnOff.isEmpty || restOff
  let chgOf (k : Nat) : Nat := sumN ((cs.filter fun x => s.rodKind x.rod == 2 && s.rodGroup x.rod == some k).map (·.got))
  let refs := (List.range 8).map fun k => (k, if s.drives k then s.refOf f k (onAfter k) (chgOf k) else 0)
  let lims := (enf.filter fun p => isEnf p.1 && p.2.lim).flatMap fun p =>
    let ms := s.members p.1
    let figs := ms.map fun m => (m.cand, (beadsOf (s.auditFig p.1 f.rr m)).1)
    figs.map fun q => (q.1, shareOf (grantOf cs p.1) q.2 (f.bal p.1) ms.length)
  let capb := cap ≤ sup
  let expired := s.holdup && s.timeLeft == 0
  let held := cs.any (·.short)
  let nover := (enf.filter fun p => isEnf p.1 && p.2.over_).length
  let rose (fld : Fld) (x : Bool) (n : Nat) : List Nat := if x && !s.rdB fld then [n] else []
  let anyNew (p : Nat × Enforce → Bool) : Bool := enf.any fun q => isEnf q.1 && p q
  let pre := if s.effB (hldF Reg.hldCfgAutopre 0) && s.inRun then
      s.armedGroups.map fun k =>
        postI (hldF Reg.hldPreIauto k) (s.limitRef (s.grpLoop k) (s.groupRef (s.grpLoop k) (s.armedShare f.load k)))
    else []
  let powers := rods.flatMap fun r =>
    if s.rodKind r = 1 ∨ s.rodKind r = 3 then (s.members r).map fun m => (m.cand, s.auditFig r f.rr m) else []
  { regs :=
      [post (abc0F Reg.abcStatCapbind 0) (b2n capb), post (abc0F Reg.abcStatSupplybind 0) (b2n (sup ≤ cap)),
       post (abc0F Reg.abcStatFloorshort 0) (b2n held), post (abc0F Reg.abcStatHoldup 0) (b2n s.holdup),
       post (abc0F Reg.abcStatSat 0) (b2n (f.post.any (·.2))), post (abc0F Reg.abcStatNover 0) (sat 7 nover),
       post (abc0F Reg.abcStatResvlow 0) (if moveEnd then 1 else s.rd (abc0F Reg.abcStatResvlow 0)),
       post (abc0F Reg.abcCapeffCap 0) cap, post (abc0F Reg.abcSupplySup 0) (sat 24 sup), post (abc0F Reg.abcBudgetB 0) (sat 24 b),
       postI (abc0F Reg.abcSrctotS 0) f.s, postI (abc0F Reg.abcContotC 0) f.c, postI (abc0F Reg.abcLossnowL 0) f.l,
       postI (abc0F Reg.abcResidR 0) (f.s - f.c - f.l), post (abc0F Reg.abcFloorsF 0) gr.2,
       postI (abc0F Reg.abcSpareSp 0) (g - sumN (cs.map (·.got))), post (abc0F Reg.abcCycusUs 0) s.us32,
       post (abc0F Reg.abcSpanSpan 0) (sat 8 s.spanNow), post (abc0F Reg.abcExpheadExp 0) (sat 24 (g - gr.2).toNat)]
      ++ (if s.holdup then
            [post (hldF Reg.hldBudgetB 0) (sat 24 b), post (hldF Reg.hldStatExpired 0) (b2n expired),
             post (hldF Reg.hldStatEustale 0) (b2n s.euStale)] else [])
      ++ pre
      ++ refs.flatMap (fun p =>
          [postI (abc0F Reg.abcGrefRef p.1) p.2, post (abc0F Reg.abcGrefActive p.1) (b2n (s.drives p.1)),
           post (abc0F Reg.abcGrefDisch p.1) (b2n (onAfter p.1))])
      ++ enf.flatMap (fun p => s.rodRegs f cs p.1 p.2),
    rods := enf.map fun p =>
      let bal : Int := if s.rodKind p.1 = 6 then (grantOf cs p.1 : Int) else if s.rodKind p.1 = 0 then 0 else f.bal p.1
      { (if isEnf p.1 then p.2.st else { vget s.abc.rods p.1 with hist := [] }) with
        en := (vget s.abc.rods p.1).en + bal * (s.spanNow : Int) },
    moves := mv.map fun p => p.2.1,
    restFails := restFails,
    targets := s.feedTargets f onAfter,
    powers := powers,
    raw := { x := (List.range 73).map s.regressor, pow := powers.filter fun q => s.bayRole q.1 == 0, r := f.rr, s := f.rs, weight := s.spanNow },
    balim := (lims.filter fun q => q.1 < 48).map fun q => (q.1, s.balimOf q.1 q.2),
    lalim := (lims.filter fun q => 48 ≤ q.1).map fun q => (q.1 - 48, s.lalimOf (q.1 - 48) q.2),
    steps := (enf.filter fun p => s.rodKind p.1 == 4).flatMap fun p => (s.rodBays p.1).map fun n => (n, p.2.step),
    refs := (List.range 8).filterMap fun k =>
      if s.drives k then some (s.grpLoop k, sumI ((refs.filter fun p => p.1 == k).map (·.2)))
      else if s.rdB (abc0F Reg.abcGrefActive k) && s.loopCur (s.grpLoop k) then
        some (s.grpLoop k, sx 16 (s.eff (loopF Reg.loopIsetIset (s.grpLoop k))))
      else none,
    evs := rose (abc0F Reg.abcStatCapbind 0) capb 384
      ++ (if cs.any fun x => x.short && !s.rdB (abc2F Reg.rodRstFloorshort x.rod) then [385] else [])
      ++ (if anyNew (·.2.first) then [386] else [])
      ++ (if anyNew fun q => q.2.lim && !s.rdB (abc2F Reg.rodRstLimited q.1) then [387] else [])
      ++ (if (sup : Int) < f.load then [389] else [])
      ++ (if moveEnd then [390, 391] else [])
      ++ (if rods.any fun r => (nth f.post r).2 && !s.rdB (abc2F Reg.rodRstSat r) then [392] else [])
      ++ rose (hldF Reg.hldStatExpired 0) expired 403,
    learnOn := (mv.filter fun p => p.2.2.1).map (·.1),
    learnOff := learnOff,
    restOn := if restIn then s.abc.restAsk else none,
    restNo := !restIn && (match s.abc.restAsk with | some n => (s.bt n).rest == 1 | none => false),
    restOff := restOff,
    release := (List.range 8).findSome? fun p =>
      (s.twp p).ask.map fun k => (p, s.releaseOk f sup (s.eff (twcFk Reg.twcMapBay p k))),
    us := s.us }

end Sys2Proof.Machine
end

