-- ==== Sys2Proof/Machine/Abacus.lean ====
section
/-!
DEFINITION. The abacus at work (chapter 8): the settle, the enforcement issue, the feed trim, and the abacus commands.
-/

namespace Sys2Proof.Machine

/-! ### The settle (R202) -/

/-- The ABC pages. -/
def abcPages : List Nat := [0x060, 0x061, 0x062, 0x063]

/-- Step 1 for one ABC page: a snapshot taken at least 2 µs before becomes active (R224, Table 8.2). -/
def State.applyAbcPage (s : State) (pg : Nat) : State :=
  if s.rdB (hdr Reg.pgCbusy pg) && s.snapUs.any fun p => p.1 == pg && decide (p.2 + 2 ≤ s.us) then
    let a := (s.applyPart (pageLo pg) (pageHi pg)).commitDone pg
    { a with jnl := a.jnl.map fun e => if e.wait = .settle pg false then { e with wait := .settle pg true } else e }
  else s

/-- The samples of the ended cycle are closed into the sums of the span (R202, R203). -/
def State.closeCycle (s : State) : State :=
  { s with
    bay := s.bay.map fun b => { b with sumVI := b.sumVI + b.cycVI, sumI := b.sumI + b.cycI, cycVI := 0, cycI := 0 },
    loop := (List.range 16).foldl (fun v n => vmod v n fun l => { l with pnSum := l.pnSum + sx 24 (s.rd (pwrF Reg.phPnowPnow n)) }) s.loop,
    abc := { s.abc with sumN := s.abc.sumN + s.abc.cycN, cycN := 0, span := s.abc.span + 1 } }

/-- ABACUS_SETTLE (R197 to R218): steps 1 to 7 of Table 8.2; nothing is issued yet. The settle stops in hold (R223). -/
def execAbacusSettle (s : State) : Res :=
  if s.lUp then
    let a := (abcPages.foldl State.applyAbcPage s).closeCycle
    .next { a with abc := { a.abc with pend := some a.settleOf } }
  else .next s

/-! ### The enforcement issue -/

/-- The figures of a list by key, or a default. -/
def lookupD {α : Type} (l : List (Nat × α)) (k : Nat) (d : α) : α := match l.find? fun p => p.1 == k with | some p => p.2 | none => d

/-- BAYn_ALIM of every bay but a TIE bay: the order, or none (R116, R208, R209). -/
def State.issueAlim (p : SettleP) (s : State) (n : Nat) : State :=
  let v := lookupD p.balim n 0x1FF
  if s.bayRole n = 3 ∨ s.rd (bayF Reg.bayAlimAlim n) = v then s else (s.wr (bayF Reg.bayAlimAlim n) v).bayLimitNow n

/-- The throttle step of a BRANCH bay (R106, R208). -/
def State.issueStep (p : SettleP) (s : State) (n : Nat) : State :=
  let v := lookupD p.steps n 0
  if s.bayRole n ≠ 2 ∨ s.rd (bayF Reg.bayAlimThstep n) = v then s else s.orderStep n v

/-- A settle formed at `us` works on the present episode: it has begun, and no later (R236, R242). -/
def State.inEpisode (s : State) (us : Nat) : Bool := s.holdup && decide (s.hld.trigUs ≤ us)

/-- A loop reference of a settle formed at `us` (R212): outside the fast window, toward it at the ramp rate. An armed loop
keeps its preload until a settle of the episode issues (R236). -/
def State.issueRef (us : Nat) (s : State) (p : Nat × Int) : State :=
  if s.rd (hldF Reg.hldStatState 0) ≠ 1 ∧ (s.loopSt p.1 = 2 ∨ s.loopSt p.1 = 3) ∧ (s.lp p.1).target ≠ p.2
      ∧ (!(s.lp p.1).held || s.inEpisode us) then
    s.loopRetarget p.1 p.2 0 0
  else s

/-- A learning discharge starts (R213, R276). -/
def State.issueLearn (s : State) (g : Nat) : State :=
  if (s.move g).ask then
    ((s.moveMod g fun m => { m with on := true, ask := false, fails := 0, zero := 0 }).wr (abc0F Reg.abcStatResvlow 0) 0).learnDone g 0 0
  else s

/-- A rest starts: the STORE bay makes its timed open, and a BAT_REST that asked for it is done (R214, R277, R283). -/
def State.issueRest (s : State) (n : Nat) : State :=
  let b := s.batBay n
  if s.abc.restAsk = some n ∧ s.restReady n then
    let a := ((s.bayTimedOpen b 3).batMod n fun x => { x with rest := 3, restPt := false }).wr (abc0F Reg.abcStatResvlow 0) 0
    let c := { a with abc := { a.abc with restAsk := none, rest := some n, restFails := 0 } }
    ((c.raise (448 + 4 * n + 2)).doneWait (.restOpen n)).restAdvance
  else s

/-- A rest asked for by rotation that is not admitted is repeated after 60 min (R277). -/
def State.issueRestNo (s : State) : State :=
  match s.abc.restAsk with
  | some n =>
    if (s.bt n).rest = 1 then
      { s.batMod n fun x => { x with rest := 0, again := true } with abc := { s.abc with restAsk := none } }
    else s
  | none => s

/-- The sums start again, and the trim slot takes the figures of the settle (R203, R211). -/
def State.issueSums (p : SettleP) (s : State) : State :=
  { s with
    bay := (List.range 48).foldl (fun v n => vmod v n fun b =>
      let c := { b with sumVI := 0, sumI := 0, target := ((lookupD p.targets n 0 : Nat) : ℚ) }
      match p.targets.find? fun q => q.1 == n with
      | some q => { c with trimP := c.trimP + lookupD p.powers n 0, trimT := c.trimT + (q.2 : ℚ), trimN := c.trimN + 1 }
      | none => c) s.bay,
    loop := s.loop.map fun l => { l with pnSum := 0 },
    abc := { s.abc with sumN := 0, span := 0, pend := none, lateRun := 0, raw := some p.raw, restFails := p.restFails,
                        rods := (List.range 64).foldl (fun v r => vmod v r fun _ => nth p.rods r) s.abc.rods,
                        moves := (List.range 8).foldl (fun v g => vmod v g fun m =>
                          if m.on then { m with fails := (nth p.moves g).fails, zero := (nth p.moves g).zero } else m) s.abc.moves },
    hld := { s.hld with settled := s.hld.settled || s.inEpisode p.us } }

/-- RODr_PEAK takes the balance that has been posted (Table 8.6). -/
def State.rodPeak (s : State) (r : Nat) : State :=
  s.wr (abc2F Reg.rodPeakPeak r) (max (s.rd (abc2F Reg.rodPeakPeak r)) (sx 24 (s.rd (abc2F Reg.rodBalBal r))).natAbs)

/-- ABC_STAT.LEARN and REST show the moves in force (Table 8.5). -/
def State.showMoves (s : State) : State :=
  (s.wrB (abc0F Reg.abcStatLearn 0) ((List.range 8).any fun g => (s.move g).on)).wrB (abc0F Reg.abcStatRest 0) s.abc.rest.isSome

/-- The posted power of a tie port's TIE rod (R307); of a port that is mapped to none, its bay's (log entry 113). -/
def State.tiePower (s : State) (p : SettleP) (n : Nat) : Int :=
  if s.effB (abc3F Reg.abcMaptieEn n) then sx 24 (s.rd (abc2F Reg.rodBalBal (s.eff (abc3F Reg.abcMaptieRod n))))
  else qround (lookupD p.powers (s.tieBay n) 0)

/-- The issue of a settle: postings, events, orders, moves, releases, and the done point of the abacus commands. -/
def State.issueSettle (s : State) (p : SettleP) : State :=
  let r := { s with regs := p.regs.foldl (fun m (q : Nat × Nat × Nat) => Store.put m q.1 q.2.1 q.2.2) s.regs }
  let a := (rods.foldl State.rodPeak r).issueSums p
  let b := p.evs.foldl State.raise a
  let c := p.refs.foldl (State.issueRef p.us)
    ((List.range 48).foldl (State.issueStep p) ((List.range 48).foldl (State.issueAlim p) b))
  let d := (List.range 16).foldl (fun t n => t.wr (loopF Reg.loopAlimAlim n) (lookupD p.lalim n 0xFFFF)) c
  let e := p.learnOff.foldl (fun t g => t.learnStop g 7) (p.learnOn.foldl State.issueLearn d)
  let f := match e.abc.rest with | some n => if p.restOff then e.restStop n else e | none => e
  let g := match p.restOn with | some n => f.issueRest n | none => if p.restNo then f.issueRestNo else f
  let h := match p.release with | some r => g.cureRelease r.1 r.2 | none => g
  let t := abcPages.foldl (fun t pg => t.doneWait (.settle pg true)) h.showMoves
  (List.range 4).foldl (fun t n => t.tieSettle n (t.tiePower p n) p.raw.weight (t.inEpisode p.us)) t

/-- A late settle (R41 to R43): discarded and logged; every third one in a row forms a late-run token. -/
def State.lateSettle (s : State) : State :=
  let run := s.abc.lateRun + 1
  let a := State.late (({ s with abc := { s.abc with pend := none, lateRun := run } }.incWrap (fabF Reg.fabAbclateCnt 0)).raise 20) 20
  if run % 3 = 0 then a.token 20 0x2F 0 else a

/-- ENFORCEMENT_ISSUE (R41 to R46, R202): `slack` is what is left of the 60 µs window, 10 ns units, when it is on time. -/
def execEnforcementIssue (late : Bool) (slack : BitVec 16) (s : State) : Res :=
  match s.lUp, s.abc.pend with
  | true, some p =>
    if late then .next s.lateSettle
    else
      let a := s.follow (s.issueSettle p)
      let b := a.wr (fabF Reg.fabAbcminMin 0) (min (a.rd (fabF Reg.fabAbcminMin 0)) slack.toNat)
      .next (if slack.toNat < 100 * b.rd (fabF Reg.fabCfgAbcwarn 0) then b.raise 21 else b)
  | _, _ => .next s

/-! ### Feed trims (R211) -/

/-- ABC_TRIMn in force, mV. -/
def State.trimNow (s : State) (n : Nat) : Int := sx 13 (s.rd (abc3F Reg.abcTrimTrim n))

/-- The trim that the slot calls for: one STEP against the deviation from the target, within ±MAX. -/
def State.trimGoal (s : State) (n : Nat) : Int :=
  let b := vget s.bay n
  let k : ℚ := (max 1 b.trimN : Nat)
  let dead : ℚ := (s.eff (abc0F Reg.abcTrimDead 0) : ℚ) / 1000
  let step : Int := s.eff (abc0F Reg.abcTrimStep 0)
  let lim : Int := 10 * s.eff (abc0F Reg.abcTrimMax 0)
  let p := b.trimP / k
  let t := b.trimT / k
  iclamp (-lim) lim (s.trimNow n + (if p > t * (1 + dead) then -step else if p < t * (1 - dead) then step else 0))

/-- VOUT_TRIM of `mv` in the module's VOUT_MODE, which the manual does not state (log entry 23); its PEC follows on the bus
(`State.xactStart`). -/
def trimBytes (n : Nat) (mv : Int) : List Nat :=
  let w := (Config.openValue 77 (n * 65536 + tw 16 mv)).toNat
  [w % 256, w / 256 % 256]

/-- The trim slot of one FEED module: a write still on its way fails here; otherwise one write where the deviation calls
for it. -/
def State.trimBay (s : State) (n : Nat) : State :=
  let b := vget s.bay n
  let a := s.bayMod n fun x => { x with trimP := 0, trimT := 0, trimN := 0 }
  if b.trimTo.isSome then
    (((a.bayMod n fun x => { x with trimTo := none }).incWrap (abc0F Reg.abcNtrimfCnt 0)).wr (abc3F Reg.abcTrimTrimok n) 0).raise 388
  else if b.trimN = 0 ∨ s.bayRole n ≠ 0 ∨ s.trimGoal n = s.trimNow n then a
  else
    match s.twModule n with
    | some (p, addr) =>
      (a.bayMod n fun x => { x with trimTo := some (s.trimGoal n), trimId := x.trimId + 1 }).xactRequest p
        { cls := 0, arg := n, tag := b.trimId + 1, addr := addr, code := 0x22, data := trimBytes n (s.trimGoal n), write := true }
    | none => a

/-- FEED_TRIM (R205, R211): no trims in hold or while the hold-up fast path is in force. -/
def execFeedTrim (s : State) : Res :=
  if s.lUp && !s.holdup then .next ((List.range 48).foldl State.trimBay s) else .next s

/-! ### Judgement of pages, and commands (R198, R219 to R221) -/

/-- A commit of an ABC command: commands before the same settle take effect together, so an unapplied snapshot is taken
anew (R221; log entry 29). -/
def State.abcCommit (s : State) (pg : Nat) : State := if s.rdB (hdr Reg.pgCbusy pg) then s.takeSnap pg else s.commit pg

/-- The rod kind of a bay's role; STORE bays have none (R198). -/
def roleKind (role : Nat) : Option Nat := if role = 0 then some 1 else if role = 2 then some 4 else if role = 3 then some 3 else none

/-- A mapping of R198 is violated by the shadow values. -/
def State.mapsBad (s : State) : Bool :=
  let kind (r : Nat) : Nat := s.rd (abc1F Reg.rodCfgKind r)
  let bayOn (n : Nat) : Bool := s.rdB (abc3F Reg.abcMapbayEn n)
  let grpOn (k : Nat) : Bool := s.rdB (abc3F Reg.abcMapgrpEn k)
  let grpRod (k : Nat) : Nat := s.rd (abc3F Reg.abcMapgrpRod k)
  let groups := (List.range 8).filter grpOn
  ((List.range 48).any fun n => bayOn n && roleKind (s.rd (bayF Reg.bayCfgRole n)) != some (kind (s.rd (abc3F Reg.abcMapbayRod n))))
    || ((List.range 16).any fun n => s.rdB (abc3F Reg.abcMaploopEn n)
      && (kind (s.rd (abc3F Reg.abcMaploopRod n)) != 5 || groups.any fun k => s.rd (abc3F Reg.abcMapgrpLoop k) == n))
    || (groups.any fun k => kind (grpRod k) != 2 || groups.any fun j => j != k && grpRod j == grpRod k)
    || (List.range 4).any fun t => s.rdB (abc3F Reg.abcMaptieEn t) && kind (s.rd (abc3F Reg.abcMaptieRod t)) != 3

/-- The judgement of a set of values for an ABC page (R198). -/
def State.abcPageCheck (new : State) (pg : Nat) : Option Nat :=
  if (pg = 0x061 ∨ pg = 0x063) && new.mapsBad then some 2 else none

/-- A rod has a member mapped to it. -/
def State.rodMapped (s : State) (r : Nat) : Bool :=
  !(s.rodBays r).isEmpty || !(s.rodLoops r).isEmpty || (s.rodGroup r).isSome || !(s.rodTies r).isEmpty

/-- ABC_CAP (R220, R221). -/
def State.applyAbcCap (e : JEntry) (s : State) : State :=
  if 8388607 < bits (e.arg 0) 0 24 then s.refuseCmd e 2
  else
    let a := (s.putWord 0x060 0x044 (e.arg 0)).putWord 0x060 0x048 (e.arg 1)
    ((a.lseq 0x060 e).abcCommit 0x060).setWait e.seq (.settle 0x060 false)

/-- ABC_FLOORS after a rod takes floor and kind anew, at the figures of the latest settle (R220). -/
def State.floorsWith (s : State) (r kind floor : Nat) : Nat :=
  if kind = 6 ∨ ((kind = 4 ∨ kind = 5) ∧ s.rodActive r) then
    s.rd (abc0F Reg.abcFloorsF 0) - min (s.rodFloor r) (s.rd (abc2F Reg.rodGrantGrant r)) + floor
  else s.rd (abc0F Reg.abcFloorsF 0)

/-- ROD_SET (R220, R221). -/
def State.applyRodSet (e : JEntry) (s : State) : State :=
  let r := e.inst
  let off := 0x040 + 0x10 * r
  let kind := bits (e.arg 0) 0 3
  let floor := bits (e.arg 1) 0 24
  let fl := s.floorsWith r kind floor
  match firstReason
    [(64 ≤ r, 2), ((List.range 4).any fun i => !rangeOk 0x061 (off + 4 * i) (e.arg i), 2),
     (kind != 3 && decide (bits (e.arg 2) 0 24 < floor), 2), (kind == 0 && s.rodMapped r, 2),
     (s.rodActive r && kind != s.rodKind r, 4),
     (decide (s.rd (abc0F Reg.abcFloorsF 0) < fl) && decide (s.rd (abc0F Reg.abcBudgetB 0) < fl), 4)] with
  | some x => s.refuseCmd e x
  | none =>
    let a := (List.range 4).foldl (fun t i => t.putWord 0x061 (off + 4 * i) (e.arg i)) s
    ((a.lseq 0x061 e).abcCommit 0x061).setWait e.seq (.settle 0x061 false)

/-- ABC_CAP (opcode 0x400). -/
def execAbcCap (inst : BitVec 8) (h : CmdHdr) (cap slew : Word) (s : State) : Res :=
  .next (s.command State.applyAbcCap 0x400 inst.toNat h [cap.toNat, slew.toNat])

/-- ROD_SET (opcode 0x401). -/
def execRodSet (inst : BitVec 8) (h : CmdHdr) (cfg floor ceil enf : Word) (s : State) : Res :=
  .next (s.command State.applyRodSet 0x401 inst.toNat h [cfg.toNat, floor.toNat, ceil.toNat, enf.toNat])

end Sys2Proof.Machine
end

