-- ==== Sys2Proof/Machine/HoldUp.lean ====
section
/-!
DEFINITION. The hold-up fast path (chapter 9): trigger, handover, recovery, the end of an episode, and HLD_SET.
-/

namespace Sys2Proof.Machine

/-- HLD_STAT.STATE (Table 9.1): 0 IDLE, 1 FAST, 2 CARRY, 3 RECOVER. -/
def State.hldSt (s : State) : Nat := s.rd (hldF Reg.hldStatState 0)

/-- HLD_STAT.STATE written. -/
def State.setHld (s : State) (st : Nat) : State := s.wr (hldF Reg.hldStatState 0) st

/-- The active preload of a group, 10 mA units (R233). -/
def State.preload (s : State) (k : Nat) : Int :=
  sx 16 (if s.effB (hldF Reg.hldCfgAutopre 0) then s.rd (hldF Reg.hldPreIauto k) else s.eff (hldF Reg.hldPreIpre k))

/-- The preload forced into an armed loop, as a step bounded by the effective limit, with the phases that were shed or
parked back (R234, R235; log entry 55). -/
def State.forceLoop (s : State) (k : Nat) : State :=
  let m := s.grpLoop k
  let ref := s.limitRef m (s.preload k)
  let a := s.loopMod m fun l => { l with held := true, target := ref, wref := 400000 * ref, rateUp := 0, rateDn := 0, coast := false }
  let b := if a.loopSt m = 4 ∨ a.loopSt m = 5 then a.wr (loopF Reg.loopStatState m) 2 else a
  (b.returnPhases m).showRef m

/-- A PWM output takes the on-time `on` of an extra sample `t` taps after the loop period's start: a phase that is still high has
its trailing edge moved, at once where the new on-time has passed, and another takes it from its next period start (R234). -/
def PhS.extra (p : PhS) (t on taps : Nat) : PhS :=
  if !p.driven || p.cut then p
  else if t < p.tail then { p with tail := max t (p.off + on - taps), on := on }
  else if t < p.off then { p with on := on }
  else if t < p.off + p.on then { p with on := max (t - p.off) on }
  else p

/-- The extra sample of an armed loop, `t` taps into its period: the compensator runs once on the new reference, and its duty is
applied in the present period (R234). -/
def State.extraSample (s : State) (p : BitVec 4 × BitVec 18) : State :=
  let m := p.1.toNat
  if (s.lp m).held && s.loopRunning m then
    let er := s.loopError m 0
    let a := er.2.compensate m er.1
    match (a.lp m).fresh with
    | some u =>
      let per := a.eff (loopF Reg.loopPerPer m)
      let b := (a.switchSet m).foldl (fun t j => t.phMod j fun x => x.extra p.2.toNat (onTaps u per) (64 * per)) a
      (b.loopMod m fun l => { l with duty := u, fresh := none }).wr (loopF Reg.loopDnowDuty m) (u / 2 ^ 14)
    | none => a
  else s

/-- The records of a trigger (Table 9.5). -/
def State.hldMarks (s : State) (cause vbus : Nat) : State :=
  let a := ((((s.wr (hldF Reg.hldStatCause 0) cause).wr (hldF Reg.hldTrigusUs 0) s.us32).wr (hldF Reg.hldDurMs 0) 0).wr
    (hldF Reg.hldVbusVbus 0) vbus).wr (hldF Reg.hldVbusVmin 0) vbus
  let b := (((a.wr (hldF Reg.hldStatExpired 0) 0).wr (hldF Reg.hldStatEustale 0) 0).wrB (hldF Reg.hldStatInhold 0) (!s.lUp)).inc
    (hldF Reg.hldNepisCnt 0)
  { b with hld := { b.hld with trigUs := s.us, settled := false, drawn := 0 }, tie := b.tie.map fun t => { t with energy := 0 } }

/-- HOLDUP_TRIGGER (R229, R231, R232, R234, R235) on the bus monitor's last samples: an armed loop within 250 ns of its sample
instant is not in `extra`. -/
def execHoldupTrigger (bus : BitVec 10) (lvl slp : List (BitVec 10)) (extra : List (BitVec 4 × BitVec 18)) (s : State) : Res :=
  let b10 := busSamples bus lvl slp
  let cause := s.hldCause b10
  if s.islandUp && s.hldSt == 0 && s.effB (hldF Reg.hldCfgEn 0) && cause != 0 then
    let gs := s.armedGroups
    let a := ((s.lanAbort 5 |>.hldMarks cause (s.busNow b10)).setHld 1).raise 400
    let b := if gs.isEmpty then (a.inc (hldF Reg.hldNepisNoarm 0)).raise 404 else a
    .next (s.follow (extra.foldl State.extraSample (gs.foldl State.forceLoop b)))
  else .next s

/-- HANDOVER (R236, R237): each loop keeps its preload, or takes the hold-up reference that a settle has issued since the
trigger. -/
def execHandover (s : State) : Res :=
  if s.hldSt = 1 then
    let a := (s.setHld 2).raise 401
    let b := if a.lUp && a.hld.settled then
        (List.range 8).foldl (fun t k =>
          if (t.lp (t.grpLoop k)).held && t.rdB (abc0F Reg.abcGrefActive k) then
            t.issueRef t.us (t.grpLoop k, sx 16 (t.rd (abc0F Reg.abcGrefRef k)))
          else t) a
      else a
    .next (s.follow b)
  else .next s

/-- RECOVER_START (R243): the bus lies above VREC and no trigger condition holds. -/
def execRecoverStart (bus : BitVec 10) (s : State) (lvl slp : List (BitVec 10) := []) : Res :=
  let b := busSamples bus lvl slp
  if s.hldSt = 2 ∧ s.eff (hldF Reg.hldLvlVrec 0) < s.busNow b ∧ s.hldCause b = 0 then .next ((s.busMonitor b).setHld 3)
  else .next s

/-- RECOVER_BREAK (R243): a trigger condition arises, or the bus is at or below VREC. -/
def execRecoverBreak (bus : BitVec 10) (lvl slp : List (BitVec 10)) (s : State) : Res :=
  let b := busSamples bus lvl slp
  if s.hldSt = 3 ∧ (s.busNow b ≤ s.eff (hldF Reg.hldLvlVrec 0) ∨ s.hldCause b ≠ 0) then .next ((s.busMonitor b).setHld 2)
  else .next s

/-- EPISODE_END (R243, R244): RECT fires; a break that met it is discarded. -/
def execEpisodeEnd (late : Bool) (s : State) : Res :=
  if s.hldSt = 3 then
    let a := (((s.setHld 0).wr (hldF Reg.hldDurMs 0) (sat 32 (s.episodeUs / 1000))).wr (abc0F Reg.abcStatHoldup 0) 0).raise 402
    let b := if s.lUp then a else a.wr (hldF Reg.hldStatInhold 0) 1
    let c : State := { b with loop := b.loop.map fun l => { l with held := false } }
    let d := if c.lUp then c.recCommitDue else c
    .next (s.follow (if late then d.late 402 else d))
  else .next s

/-- HLD_SET (R246). -/
def State.applyHldSet (e : JEntry) (s : State) : State :=
  let regs := [(0x040, e.arg 0), (0x044, e.arg 1), (0x048, e.arg 2), (0x04C, e.arg 3)]
    ++ (List.range 8).map fun k => (0x060 + 4 * k, bits (e.arg (4 + k / 2)) (16 * (k % 2)) 16)
  let new := regs.foldl (fun t p => t.putWord 0x066 p.1 p.2) s
  match firstReason
    [(regs.any fun p => !rangeOk 0x066 p.1 p.2, 2),
     (new.rd (hldF Reg.hldLvlVrec 0) ≤ new.rd (hldF Reg.hldLvlVhold 0), 2),
     ((List.range 8).any fun k =>
        decide (s.eff (loopF Reg.loopIsclIfs (s.grpLoop k)) < (sx 16 (new.rd (hldF Reg.hldPreIpre k))).natAbs), 2),
     ((List.range 8).any fun k => bitOf (new.rd (hldF Reg.hldCfgGrpen 0)) k && !s.effB (abc3F Reg.abcMapgrpEn k), 4)] with
  | some r => s.refuseCmd e r
  | none => ((new.lseq 0x066 e).setWait e.seq (s.commitWait 0x066)).commit 0x066

/-- HLD_SET (opcode 0x500). -/
def execHldSet (inst : BitVec 8) (h : CmdHdr) (cfg lvl rate tgt pre0 pre1 pre2 pre3 : Word) (s : State) : Res :=
  .next (s.command State.applyHldSet 0x500 inst.toNat h
    [cfg.toNat, lvl.toNat, rate.toNat, tgt.toNat, pre0.toNat, pre1.toNat, pre2.toNat, pre3.toNat])

end Sys2Proof.Machine
end

