-- ==== Sys2Proof/Machine/Balance.lean ====
section
/-!
DEFINITION. The balance (chapter 9): cycles, windows, marks and suspects, and the telemetry comparison.
-/

namespace Sys2Proof.Machine

/-- The balance runs: the L-die is up and BAL_CFG.EN is set. -/
def State.balRuns (s : State) : Bool := s.lUp && s.effB (bal0F Reg.balCfgEn 0)

/-- The member of a candidate is closed or running now. -/
def State.candSteady (s : State) (c : Nat) : Bool :=
  if c < 48 then s.bayClosed c else if c < 64 then s.loopRunning (c - 48) else if c < 72 then s.storeClosed (c - 64)
  else (List.range 48).any s.bayClosed

/-- A cycle enters a candidate's sums with its weight. -/
def BalC.enter (b : BalC) (raw : RawS) (c : Nat) (steady : Bool) : BalC :=
  let w : ℚ := (raw.weight : ℚ)
  let x := (nth raw.x c).getD 0
  { b with sx := b.sx + w * x, sxx := b.sxx + w * x * x, sxr := b.sxr + w * x * (raw.r : ℚ), steady := b.steady && steady,
           pow := b.pow + w * ((match raw.pow.find? fun p => p.1 == c with | some p => p.2 | none => 0)) }

/-- The raw figures of a settle enter the window (R247, R248). -/
def State.balEnter (s : State) (raw : RawS) : State :=
  let w : Int := raw.weight
  let b := s.bal
  let a := { s with
    abc := { s.abc with raw := none },
    bal := { b with n := b.n + raw.weight, sr := b.sr + w * raw.r, srr := b.srr + w * raw.r * raw.r, ss := b.ss + w * raw.s,
                    cand := (List.range 73).foldl (fun v c => vmod v c fun x => x.enter raw c (s.candSteady c)) b.cand } }
  (List.range 73).foldl (fun t c => t.wrB (bal1F Reg.balcStElig c) (nth raw.x c).isSome) a

/-- BALANCE_CYCLE (R41, R42, R247, R248): a late cycle is void. -/
def execBalanceCycle (late : Bool) (s : State) : Res :=
  if s.balRuns then
    if late then
      .next (State.late (({ s with bal := { s.bal with void := s.bal.void + 1 }, abc := { s.abc with raw := none } }.incWrap
        (fabF Reg.fabBallateCnt 0)).raise 22) 22)
    else
      match s.abc.raw with
      | some raw => .next (s.balEnter raw)
      | none => .next s
  else .next s

/-! ### The fit (R249) -/

/-- cov(x, r) and var(x) of a candidate over the window. -/
def State.fitOf (s : State) (c : Nat) : ℚ × ℚ :=
  let b := vget s.bal.cand c
  let n : ℚ := (max 1 s.bal.n : Nat)
  let mx := b.sx / n
  (b.sxr / n - mx * ((s.bal.sr : ℚ) / n), b.sxx / n - mx * mx)

/-- var(r). -/
def State.varR (s : State) : ℚ :=
  let n : ℚ := (max 1 s.bal.n : Nat)
  (s.bal.srr : ℚ) / n - (s.bal.sr : ℚ) / n * ((s.bal.sr : ℚ) / n)

/-- ε̂ of a candidate; 0 where its regressor does not vary. -/
def State.epsOf (s : State) (c : Nat) : ℚ := (s.fitOf c).1 / (s.fitOf c).2

/-- R_c of a candidate; 0 where its regressor or the residual does not vary. -/
def State.rcOf (s : State) (c : Nat) : ℚ := (s.fitOf c).1 * (s.fitOf c).1 / ((s.fitOf c).2 * s.varR)

/-- The candidate is eligible (R247). -/
def State.eligible (s : State) (c : Nat) : Bool := s.rdB (bal1F Reg.balcStElig c)

/-- The survey channels that feed a candidate (Table 9.3). -/
def State.candChannels (s : State) (c : Nat) : List Nat :=
  if c < 48 then [c] else if c < 64 then (s.loopPhases (c - 48)).map (96 + ·)
  else if c < 72 then (s.groupStrings (c - 64)).map (280 + ·) else [336]

/-- The channel stayed within ±2 LSB over the window. -/
def State.flat (s : State) (ch : Nat) : Bool :=
  (s.bal.lo.any fun p => p.1 == ch) && decide (s.bal.hi.get ch 0 ≤ s.bal.lo.get ch 0 + 4)

/-- The candidate is stuck (R249). -/
def State.stuck (s : State) (c : Nat) : Bool :=
  s.eligible c && (vget s.bal.cand c).steady && !(s.candChannels c).isEmpty && (s.candChannels c).all s.flat

/-- The eligible candidate with the largest R_c, and the largest and the second largest R_c. -/
def State.best (s : State) : Option Nat × ℚ × ℚ :=
  ((List.range 73).filter s.eligible).foldl (fun (p : Option Nat × ℚ × ℚ) c =>
    let r := s.rcOf c
    match p.1 with
    | none => (some c, r, 0)
    | some _ => if p.2.1 < r then (some c, r, p.2.1) else if p.2.2 < r then (p.1, p.2.1, r) else p) (none, 0, 0)

/-- The mark of an unbalanced window: a candidate, and whether its kind is STUCK; none for an ambiguous window. -/
def State.markOf (s : State) : Option (Nat × Bool) :=
  match (List.range 73).filter s.stuck with
  | [c] => some (c, true)
  | [] =>
    let b := s.best
    match b.1 with
    | some c =>
      if (s.eff (bal0F Reg.balCfgRmin 0) : ℚ) / 100 ≤ b.2.1 ∧ (s.eff (bal0F Reg.balCfg2Margin 0) : ℚ) / 100 ≤ b.2.1 - b.2.2 then
        some (c, false)
      else none
    | none => none
  | _ => none

/-! ### Suspects (R250, R251) -/

/-- NSUS and MULTI follow the suspects in force. -/
def State.showSuspects (s : State) : State :=
  (s.wr (bal0F Reg.balStatNsus 0) s.nSuspects).wrB (bal0F Reg.balStatMulti 0) (1 < s.nSuspects)

/-- ε̂ as Q4.20. -/
def epsCode (e : ℚ) : Nat := tw 24 (ssat 24 (qround (e * 1048576)))

/-- A candidate becomes suspect (R250; Table 16.9 for a retired survey channel). -/
def State.becomeSuspect (s : State) (c : Nat) (stuck : Bool) (eps : Nat) : State :=
  (((s.wr (bal1F Reg.balcStSuspect c) 1).wrB (bal1F Reg.balcStKind c) stuck).wr (bal1F Reg.balcEpsEps c) eps).showSuspects

/-- A window marks a candidate (R250). -/
def State.mark (s : State) (c : Nat) (stuck : Bool) : State :=
  let a := (List.range 73).foldl (fun t k => if k = c then t.inc (bal1F Reg.balcStRun k) else t.wr (bal1F Reg.balcStRun k) 0) s
  let b := a.wr (bal0F Reg.balStatLastmark 0) c
  let eps := epsCode (s.epsOf c)
  if s.suspect c then (if s.suspectStuck c then b else b.wr (bal1F Reg.balcEpsEps c) eps)
  else if s.eff (bal0F Reg.balCfgSusn 0) ≤ b.rd (bal1F Reg.balcStRun c) then
    (b.becomeSuspect c stuck eps).tokenEv 410 (if stuck then 2 else 1) (c + 256 * eps)
  else b

/-- The judgement of a judged window that is unbalanced. -/
def State.unbalanced (s : State) : State :=
  let b := s.best
  let a := (List.range 73).foldl (fun t c =>
    t.wr (bal1F Reg.balcStRc c) (if s.eligible c then (qround (100 * s.rcOf c)).toNat else 0)) s
  let d := (((a.wr (bal0F Reg.balBestCand 0) (b.1.getD 0x7F)).wr (bal0F Reg.balBestRc1 0) (qround (100 * b.2.1)).toNat).wr
    (bal0F Reg.balBestRc2 0) (qround (100 * b.2.2)).toNat).wr (bal0F Reg.balEpsEps 0)
      (match b.1 with | some c => epsCode (s.epsOf c) | none => 0)
  let e := (d.wr (bal0F Reg.balStatUnbal 0) 1).raise 408
  match s.markOf with
  | some (c, stuck) => (e.wr (bal0F Reg.balStatAmbig 0) 0).mark c stuck
  | none => (e.wr (bal0F Reg.balStatAmbig 0) 1).raise 409

/-- The telemetry run of one FEED candidate over the window: the mean of the reads against the posted mean (R252). -/
def State.telJudge (s : State) (c : Nat) : State :=
  let b := vget s.bal.cand c
  if b.telFail ∨ b.telN = 0 ∨ s.bal.n = 0 then s
  else
    let w := b.telSum / (b.telN : ℚ)
    let posted := b.pow / (s.bal.n : ℚ) / 8
    let d := if w < posted then posted - w else w - posted
    let tol := (s.eff (bal0F Reg.balCfg2Teltol 0) : ℚ) / 100 * (if posted < 0 then -posted else posted) + 10
    let susn := s.eff (bal0F Reg.balCfgSusn 0)
    let set (t : State) (run ok : Nat) : State :=
      { t with bal := { t.bal with cand := vmod t.bal.cand c fun x => { x with telRun := run, telOk := ok } } }
    if tol < d then
      let t := set s (b.telRun + 1) 0
      if susn ≤ b.telRun + 1 ∧ !s.rdB (bal1F Reg.balcStTelsus c) then
        (t.wr (bal1F Reg.balcStTelsus c) 1).tokenEv 411 3 (c + 256 * s.rd (bal1F Reg.balcEpsEps c))
      else t
    else
      let t := set s 0 (b.telOk + 1)
      if susn ≤ b.telOk + 1 then t.wr (bal1F Reg.balcStTelsus c) 0 else t

/-- A new window begins: the sums start again, and a commit of a BAL page applies (R254). -/
def State.newWindow (s : State) : State :=
  let a := { s with bal :=
    { s.bal with n := 0, void := 0, sr := 0, srr := 0, ss := 0, lo := [], hi := [],
                 cand := s.bal.cand.map fun x => { telRun := x.telRun, telOk := x.telOk } } }
  [0x064, 0x065].foldl (fun t pg => if t.rdB (hdr Reg.pgCbusy pg) then (t.applyPart (pageLo pg) (pageHi pg)).commitDone pg else t) a

/-- The end of a window: means, judgement, marks (R248 to R252). -/
def State.window (s : State) : State :=
  let n : ℚ := (max 1 s.bal.n : Nat)
  let a := ((s.wr (bal0F Reg.balWinusUs 0) s.us32).wr (bal0F Reg.balRmeanR 0) (tw 32 (qround ((s.bal.sr : ℚ) / n)))).wr
    (bal0F Reg.balSmeanS 0) (tw 32 (qround ((s.bal.ss : ℚ) / n)))
  let judged := s.bal.n != 0 && decide (s.bal.void ≤ 1000)
    && decide ((s.eff (bal0F Reg.balCfg2Smin 0) : Int) * (s.bal.n : Int) ≤ s.bal.ss)
  let b := if judged then
      let c := (a.wr (bal0F Reg.balStatVoid 0) 0).inc (bal0F Reg.balNwinJudged 0)
      if (s.eff (bal0F Reg.balCfgThr 0) : Int) * s.bal.ss < 1000 * (s.bal.sr.natAbs : Int) then c.unbalanced
      else
        (List.range 73).foldl (fun t c => t.wr (bal1F Reg.balcStRun c) 0)
          ((c.wr (bal0F Reg.balStatUnbal 0) 0).wr (bal0F Reg.balStatAmbig 0) 0)
    else (((a.wr (bal0F Reg.balStatVoid 0) 1).wr (bal0F Reg.balStatUnbal 0) 0).wr (bal0F Reg.balStatAmbig 0) 0).inc
      (bal0F Reg.balNwinVoid 0)
  let d := if s.effB (bal0F Reg.balCfgTelen 0) then
      ((List.range 48).filter fun c => s.bayRole c == 0).foldl State.telJudge b else b
  d.newWindow

/-- BALANCE_WINDOW (R248 to R252, R254). -/
def execBalanceWindow (s : State) : Res :=
  if s.balRuns then .next s.window else if s.lUp then .next s.newWindow else .next s

/-- TELEMETRY_READ (R252): READ_POUT is asked of every FEED module mapped on a two-wire port. -/
def execTelemetryRead (s : State) : Res :=
  if s.balRuns && s.effB (bal0F Reg.balCfgTelen 0) then
    .next (((List.range 48).filter fun n => s.bayRole n == 0).foldl (fun t n =>
      match t.twModule n with
      | some (p, addr) => t.xactRequest p { cls := 2, arg := n, addr := addr, code := 0x96 }
      | none => t) s)
  else .next s

end Sys2Proof.Machine
end

