-- ==== Sys2Proof/Machine/Capture.lean ====
section
/-!
DEFINITION. Capture memory and streaming (chapter 15): banks, frames, windows, vault snapshots, the stream and its host
buffers.
-/

namespace Sys2Proof.Machine

/-! ### Samples in a frame (R402, R403, R411) -/

/-- The mean of a run of samples, rounded to the nearest code with ties away from zero (R403). -/
def meanCode (l : List Int) : Int := irdiv (sumI l) l.length

/-- A list cut into runs of `n`. -/
def runsOf (n : Nat) : Nat → List Int → List (List Int)
  | 0, _ => []
  | k + 1, l => if l.isEmpty then [] else l.take n :: runsOf n k (l.drop n)

/-- Samples at rate code `c`: the means of 2^c consecutive samples. -/
def decimate (c : Nat) (l : List Int) : List Int := if c = 0 then l else (runsOf (2 ^ c) l.length l).map meanCode

/-- Numbers of `w` bits packed from bit 0 up into 64-bit words, the earlier lower. -/
def packWords (w n : Nat) (l : List Int) : List Nat :=
  let x := (l.zipIdx).foldl (fun a p => a + tw w p.1 * 2 ^ (w * p.2)) 0
  (List.range n).map fun i => x / 2 ^ (64 * i) % 2 ^ 64

/-- Words of a list in groups of `m` numbers, each group in `n` words. -/
def packGroups (w m n : Nat) (l : List Int) : List Nat := (runsOf m l.length l).flatMap (packWords w n)

/-- The survey channels whose codes are two's complement: currents and die temperatures. -/
def svSigned (c : Nat) : Bool := c < 48 || (280 ≤ c && c ≤ 303) || c == 382 || c == 383

/-- A survey code as a number. -/
def svNumber (c v : Nat) : Int := if svSigned c then sx 16 v else (v : Nat)

/-- The samples of a source in the frame that ends. -/
def State.frameSamples (s : State) (sv : List (BitVec 9 × List (BitVec 16))) (ll : List (BitVec 4 × List (BitVec 12))) (i : Nat) :
    List Int :=
  if i < 384 then
    let keep := List.replicate 64 (svNumber i (s.rd (srvF Reg.srvValSample i)))
    if svReserved i || s.retired 2 i then keep
    else match sv.find? fun p => p.1.toNat == i with
      | some p => ((p.2.map fun v => svNumber i v.toNat) ++ keep).take 64
      | none => keep
  else match ll.find? fun p => p.1.toNat == i - 384 with
    | some p => (p.2.map BitVec.toInt ++ List.replicate 1024 0).take 1024
    | none => List.replicate 1024 0

/-- The data words of a frame with the given codes (R411). -/
def State.samplesWords (s : State) (sv : List (BitVec 9 × List (BitVec 16))) (ll : List (BitVec 4 × List (BitVec 12)))
    (codes : List (Option Nat)) : List Nat :=
  codes.zipIdx.flatMap fun p =>
    match p.1 with
    | none => []
    | some c =>
      if p.2 < 384 then packGroups 16 4 1 (decimate c (s.frameSamples sv ll p.2))
      else packGroups 12 16 3 (decimate c (s.frameSamples sv ll p.2))

/-! ### The stream ring (R422, R425 to R427) -/

/-- Words of the stream ring. -/
def State.strWords (s : State) : Nat := sumN (s.strBanks.map bankWords)

/-- Unsent words of the stream ring (R424). -/
def State.strUnsent (s : State) : Nat :=
  let n := sumN (s.str.ring.frames.map FrameR.size)
  if s.str.cur then n - (((s.str.ring.frames.head?.map FrameR.size).getD 0) - s.str.rest.length) else n

/-- Fill: the unsent words as a fraction of the stream ring (R424). -/
def State.strFill (s : State) : ℚ := if s.strWords = 0 then 0 else (s.strUnsent : ℚ) / (s.strWords : ℚ)

/-- Credit: descriptors posted and not yet completed (R424). -/
def State.strCredit (s : State) : Nat :=
  let n := 64 * 2 ^ min 6 (s.rd (str0F Reg.strDsizeSize 0))
  (s.rd (str0F Reg.strDtailIdx 0) % n + n - s.rd (str0F Reg.strDheadIdx 0) % n) % n + b2n s.str.buf.isSome

/-- The completion ring is full: CTAIL + 1 equals CHEAD (R424). -/
def State.compFull (s : State) : Bool :=
  let n := 64 * 2 ^ min 6 (s.rd (str0F Reg.strCsizeSize 0))
  (s.rd (str0F Reg.strCtailIdx 0) + 1) % n == s.rd (str0F Reg.strCheadIdx 0) % n

/-- The reader stops (R424). -/
def State.strStopped (s : State) : Bool :=
  !s.rdB (str0F Reg.strCfgEn 0) || s.strCredit == 0 || s.compFull || !s.rdB (pexF Reg.pexLinkL0 0) || !s.rdB (pexF Reg.pexCmdBme 0)

/-- STR_STAT and STR_FSEQ follow the stream. -/
def State.strShow (s : State) : State :=
  let moving := !s.strStopped && (!s.str.ring.frames.isEmpty || !s.str.rest.isEmpty)
  ((((s.wrB (str0F Reg.strStatRunning 0) moving).wrB (str0F Reg.strStatStalled 0) s.str.stall.isSome).wr (str0F Reg.strStatFill 0)
    (min 255 (100 * s.strFill).floor.toNat)).wr (str0F Reg.strStatSteps 0) (min 255 (sumN (s.str.lowered.map (·.2))))).wr
    (str0F Reg.strFseqFseq 0) s.str.ring.fseq

/-- Frames of the stream that nobody will read: remembered for the GAP frame, and counted (R406, R427, STR_NLOSS). -/
def State.strLose (s : State) (fs : List FrameR) : State :=
  match fs.head? with
  | none => s
  | some f =>
    let l := match s.str.lost with
      | some (q, n) => (q, n + fs.length)
      | none => (f.fseq, fs.length)
    (s.strMod fun x => { x with lost := some l }).inc (str0F Reg.strNlossFrames 0) fs.length

/-- The frame that is being copied has left the ring: the rest of it is not copied. -/
def State.strCut (s : State) (gone : List FrameR) : State :=
  if s.str.cur && (match s.str.ring.frames.head? with | some f => gone.contains f | none => false) then
    s.strMod fun x => { x with rest := [], cur := false }
  else s

/-- Frames whose banks left a ring are dropped from it (R406, R409); the stream loses its unsent ones. -/
def State.ringClean (s : State) : State :=
  let gone := s.str.ring.frames.filter fun f => f.banks.any fun m => s.owner m != 2
  let a := ((s.strCut gone).strMod fun x =>
    { x with ring := { x.ring with frames := x.ring.frames.filter fun f => !gone.contains f } }).strLose gone
  a.capMod fun c => { c with ring := { c.ring with frames := c.ring.frames.filter fun f => f.banks.all fun m => a.owner m == 1 } }

/-- A frame of the stream written, with the frames that it overwrites lost (R427). -/
def State.strPut (s : State) (typ flags us : Nat) (payload : List Nat) : State :=
  let w := ringWrite s.mem s.str.ring s.strBanks typ flags us payload
  (({ s.strCut w.2.2 with mem := w.1 }.strMod fun x => { x with ring := w.2.1 }).touched w.2.1.last).strLose w.2.2

/-- Room for `n` words, in one run from the writer's place, without an unsent frame overwritten (R425). -/
def State.strRoom (s : State) (n : Nat) : Bool :=
  let p := placeWords s.strBanks 66 s.str.ring.bank s.str.ring.word n
  n ≤ s.strWords && !s.str.ring.frames.any fun f => f.meets p.1

/-- A DATA frame of the stream ring: in lossless mode a frame that finds no room is missing, and a STALL frame tells of the
missing ones once there is room again (R426); in lossy mode the oldest frames give way (R427). -/
def State.strWrite (s : State) (us : Nat) (ws : List Nat) : State :=
  if !s.rdB (str0F Reg.strCfgEn 0) then s
  else
    let codes := s.str.ring.codes
    let n := layoutWords codes
    let flags := 2 * b2n s.cap.throt
    let lay := s.str.ring.due || us % 1024 == 0 || s.str.stall.isSome
    let need := n + 2 + (if lay then 28 else 0) + (if s.str.stall.isSome then 3 else 0)
    let miss := if s.str.lossy then decide (s.strWords < need) else !s.strRoom need
    if miss then
      (s.strMod fun x => { x with stall := some (match x.stall with | some (u, k) => (u, k + 1) | none => (us, 1)) }).inc
        (str0F Reg.strNlossFrames 0)
    else
      let a := match s.str.stall with
        | some (u, k) => ((s.strPut 4 flags u [k % 2 ^ 32]).raise 890).strMod fun x => { x with stall := none }
        | none => s
      let b := if lay then
          (a.strPut 3 (flags + 8 * b2n a.str.decim) us a.str.ring.layoutPayload).strMod fun x =>
            { x with decim := false, ring := { x.ring with due := false } }
        else a
      b.strPut 1 (b2n s.cap.trig + flags) us (dataWords n ws)

/-! ### Layouts (R404, R413, R414) -/

/-- A ring's codes and lanes at a frame start: a new layout advances LGEN and makes a LAYOUT frame due. -/
def RingS.relayout (r : RingS) (codes : List (Option Nat)) (loops : List Nat) : RingS :=
  if r.codes == codes && r.loops == loops then r
  else { r with codes := codes, loops := loops, due := true, lgen := if r.codes.isEmpty then r.lgen else (r.lgen + 1) % 256 }

/-- SRVc_CFG.CEFF and SEFF, and SRV_LLk.SEFF (R404, R429). -/
def State.showCodes (s : State) : State :=
  let a := (List.range 384).foldl (fun t c =>
    (t.wr (srvF Reg.srvCfgCeff c) (min 3 (t.eff (srvF Reg.srvCfgCrate c) + t.throtStep c))).wr (srvF Reg.srvCfgSeff c)
      (min 3 (t.eff (srvF Reg.srvCfgSrate c) + t.throtStep c + t.loweredOf c))) s
  (List.range 16).foldl (fun t k =>
    t.wr (llF Reg.srvLlSeff k) (min 4 (t.eff (llF Reg.srvLlSrate k) + t.loweredOf (384 + k)))) a

/-- A committed SRV or CAP page takes effect at a frame start at least 2 µs after its commit (R414, R431). -/
def State.frameCommit (s : State) (pg : Nat) : State :=
  if s.rdB (hdr Reg.pgCbusy pg) && s.snapUs.any (fun p => p.1 == pg && p.2 + 2 ≤ s.us) then
    (s.applyPart (pageLo pg) (pageHi pg)).commitDone pg
  else s

/-- What takes effect at a frame start: commits, the rates of THROTTLED, ordered steps, and the mode of the stream (R414,
R425, R427). -/
def State.frameRates (s : State) : State :=
  let a := ([0x0C0, 0x0C1, 0x0C2, 0x0C3, 0x0C4, 0x0C5, 0x0C6, 0x0C7, 0x0E0, 0x0E1, 0x0E2, 0x0E3] : List Nat).foldl State.frameCommit s
  let b := if a.cap.modeUs + 2 ≤ a.us then a.capMod fun c => { c with throt := a.throttling } else a
  let step := b.str.stepUs < b.us && b.str.lowNow != b.str.lowered
  let c := b.strMod fun x => if step then { x with lowNow := x.lowered, decim := true, lossy := b.rdB (str0F Reg.strCfgMode 0) }
    else { x with lossy := b.rdB (str0F Reg.strCfgMode 0) }
  let loops := (List.range 16).map fun k => c.eff (llF Reg.srvLlLoop k)
  let d := (c.capMod fun x => { x with ring := x.ring.relayout (allSources.map c.capCode) loops }).strMod fun x =>
    { x with ring := x.ring.relayout (allSources.map c.strCode) loops }
  d.showCodes

/-! ### Handovers (R405 to R407) -/

/-- The owners that Table 15.1 lets a bank have. -/
def ownerAllowed (m : Nat) : List Nat := if m < 64 then [0, 1, 2, 3, 6, 7] else if m < 76 then [0, 4, 6, 7] else [5]

/-- A write of MEMn_OWN.REQ (R405, R407): ignored for a retired bank, and with OWNERR for an owner that it may not have. -/
def State.bankRequest (s : State) (m req : Nat) : State :=
  if 80 ≤ m ∨ s.retired 5 m then s
  else if (ownerAllowed m).contains req then (s.wr (memF Reg.memOwnReq m) req).wr (memF Reg.memOwnPending m) 1
  else s.raise 901

/-- A handover may complete now (R406, R407); the source of an NVC transfer stays PENDING (R520). -/
def State.grantable (s : State) (m : Nat) : Bool :=
  let req := s.rd (memF Reg.memOwnReq m)
  let own := s.owner m
  s.rdB (memF Reg.memOwnPending m) && !s.retired 5 m && !(match s.sys.xfer with | some x => x.1 == m | none => false) &&
    (if own = 1 ∧ s.held m then req == 3
     else if own = 1 ∨ own = 2 then s.us % 64 == 0
     else if own = 7 then !(s.rd (bistF Reg.bistStatState 0) == 2 && s.rd (bistF Reg.bistStatBank 0) == m)
     else true)

/-- A handover completes (R406): OWNER takes REQ, PENDING clears, OWNGRANT. -/
def State.grant (s : State) (m : Nat) : State :=
  (((s.wr (memF Reg.memOwnOwner m) (s.rd (memF Reg.memOwnReq m))).wr (memF Reg.memOwnPending m) 0).raise 896).ringClean

/-- BANK_OWNER_REQUEST (R405 to R407). -/
def execBankOwnerRequest (m : BitVec 7) (req : BitVec 3) (s : State) : Res :=
  .next (if s.lUp then s.barWrite.bankRequest m.toNat req.toNat else s)

/-- OWNERSHIP_GRANT (R406, R407). -/
def execOwnershipGrant (m : BitVec 7) (s : State) : Res :=
  .next (if s.lUp && m.toNat < 80 && s.grantable m.toNat then s.grant m.toNat else s)

/-! ### Frames (R411 to R418) -/

/-- The frame that began at `b` ends: it is written in both rings, and a window whose t + POST lies in it closes (R417). -/
def State.frameEnd (s : State) (sv : List (BitVec 9 × List (BitVec 16))) (ll : List (BitVec 4 × List (BitVec 12))) (b : Nat) : State :=
  let cw := if s.effB (cap0F Reg.capCfgEn 0) then s.samplesWords sv ll s.cap.ring.codes else []
  let sw := if s.rdB (str0F Reg.strCfgEn 0) then s.samplesWords sv ll s.str.ring.codes else []
  let a := (s.capWrite b cw).strWrite b sw
  [0, 1].foldl (fun t k =>
    if t.winSt k = 1 ∧ (t.winx k).t + 1000 * t.eff (cap0F Reg.capCfgPost 0) < t.us then t.winClose k else t) a

/-- FRAME_START (R406, R411, R413 to R418). -/
def execFrameStart (sv : List (BitVec 9 × List (BitVec 16))) (ll : List (BitVec 4 × List (BitVec 12))) (s : State) : Res :=
  if s.lUp && s.us % 64 == 0 && s.cap.began != some s.us then
    let a := match s.cap.began with
      | some b => s.frameEnd sv ll b
      | none => s
    let g := (List.range 80).foldl (fun t m =>
      if (t.owner m = 1 ∨ t.owner m = 2) ∧ t.grantable m then t.grant m else t) a.ringClean
    .next ((g.frameRates.capMod fun c => { c with trig := false, began := some s.us }).capShow.strShow)
  else .next s

/-! ### Background test (R410) -/

/-- TRANSPARENT_TEST_REGION (R410): the next region of a bank is tested; memory keeps its contents. -/
def execTransparentTestRegion (m : BitVec 7) (fail : Bool) (w : BitVec 17) (s : State) : Res :=
  let n := m.toNat
  if s.mode == .run && n < 80 && s.rdB (Reg.memTcfgTen.at 0x0D0 0) && s.owner n != 7 && !s.retired 5 n then
    let r := s.rd (memF Reg.memTestRegion n) + 1
    let last := r == (if n < 64 then 256 else 16)
    let a := s.wr (memF Reg.memTestRegion n) (if last then 0 else r)
    let b := if last then a.incWrap (memF Reg.memTestPasses n) else a
    .next (if fail then
        ((((b.inc (memF Reg.memTestTfail n)).wr (memF Reg.memErradrWord n) w.toNat).wr (memF Reg.memErradrKind n) 3).raise 900).token
          900 0x03 (n + 128 * w.toNat)
      else b)
  else .next s

/-! ### Triggers, releases and the vault (R416, R419 to R421) -/

/-- One sample meets a comparator's condition (R416): 0 above HI, 1 below LO, 2 outside LO to HI, 3 inside. -/
def State.cmpHolds (s : State) (k v : Nat) : Bool :=
  let c := s.eff (cap2F Reg.capCmpCh k)
  let x := svNumber c v
  let lo := svNumber c (s.eff (cap2F Reg.capCmpLvlLo k))
  let hi := svNumber c (s.eff (cap2F Reg.capCmpLvlHi k))
  let mode := s.eff (cap2F Reg.capCmpMode k)
  if mode = 0 then hi < x else if mode = 1 then x < lo else if mode = 2 then x < lo || hi < x else lo ≤ x && x ≤ hi

/-- COMPARATOR_TRIGGER (R416): the condition holds for DEB consecutive samples, DEB being the field plus 1. -/
def execComparatorTrigger (k : BitVec 4) (codes : List (BitVec 16)) (s : State) : Res :=
  let n := k.toNat
  let c := s.eff (cap2F Reg.capCmpCh n)
  if s.lUp && bitOf (s.eff (cap0F Reg.capTrigSrcen 0)) 2 && s.effB (cap2F Reg.capCmpEn n) && c < 384 && !svReserved c
      && !s.retired 2 c && s.eff (cap2F Reg.capCmpDeb n) + 1 ≤ codes.length && codes.all fun v => s.cmpHolds n v.toNat then
    .next (s.capTrigger 2 s.us)
  else .next s

/-- A write of CAP_CTL (R416, R419): bit 0 SWTRIG, bits 1 and 2 RELk. -/
def State.capCtl (s : State) (v : Nat) : State :=
  let a := if bitOf v 0 && bitOf (s.eff (cap0F Reg.capTrigSrcen 0)) 3 then s.capTrigger 3 s.us else s
  [0, 1].foldl (fun t k =>
    if bitOf v (k + 1) && t.winSt k == 2 then (t.winMod k fun x => { x with rel := true }).winRelease k else t) a

/-- SWTRIG (R416). -/
def execSwtrig (s : State) : Res := .next (if s.lUp then s.barWrite.capCtl 1 else s)

/-- REL (R419). -/
def execRel (k : BitVec 1) (s : State) : Res := .next (if s.lUp then s.barWrite.capCtl (2 * 2 ^ k.toNat) else s)

/-- HOLDT_EXPIRY (R419). -/
def execHoldtExpiry (k : BitVec 1) (s : State) : Res :=
  .next (if s.lUp && s.winSt k.toNat == 2 then (s.winMod k.toNat fun x => { x with rel := true }).winRelease k.toNat else s)

/-- The words of a bank as the operands name them. -/
def wordList (l : List (BitVec 7 × BitVec 17)) : List (Nat × Nat) := l.map fun p => (p.1.toNat, p.2.toNat)

/-- VAULT_WRITE_END (R409, R420, R421, R513): `ok0` and `ok1` tell of the devices that the write goes to. -/
def execVaultWriteEnd (k : BitVec 1) (ok0 ok1 : Bool) (unc corr : List (BitVec 7 × BitVec 17)) (s : State) : Res :=
  let n := k.toNat
  let j := s.rd (cap1F Reg.capWinStatSlot n)
  let w := s.winx n
  if s.lUp && s.winSt n == 2 && !w.ended && j < 16 then
    let u := wordList unc
    let a := s.eccFound w.snap u (wordList corr)
    let a := if w.snap.any fun f => !(f.bad (s.badWords u true)).isEmpty then a.raise 885 else a
    let devs := s.nvcDevs
    let good := devs.filter fun d => if d = 0 then ok0 else ok1
    let a := (devs.filter fun d => !good.contains d).foldl State.nvcFail a
    let b := if !good.isEmpty then
        let c := ((((((a.wr (cap1F Reg.capWinStatVaulted n) 1).wr (cap3F Reg.capVslotValid j) 1).wrB (cap3F Reg.capVslotCut j) w.cut).wrB
          (cap3F Reg.capVslotMirror1 j) (good.length == 1)).wr (cap3F Reg.capVslotSrc j) (s.rd (cap1F Reg.capWinStatSrc n))).wr
          (cap3F Reg.capVslotTUs j) (s.rd (cap1F Reg.capWinTUs n))).raise 883
        c.capMod fun x => { x with vaultT := x.vaultT.setIfInBounds j w.t,
                                   vault := (x.vault.filter fun p => p.1 != j) ++ [(j, w.snap.flatMap fun f => s.frameRead f u)] }
      else (a.wr (cap1F Reg.capWinStatVfail n) 1).raise 884
    .next (((b.snapRecord n j (b.vslotFlags j)).winMod n fun x => { x with ended := true }).winRelease n)
  else .next s

/-! ### Steps (R425) -/

/-- A source that is in stream frames and whose code can go lower. -/
def State.canLower (s : State) (i : Nat) : Bool :=
  let low := match s.str.lowered.find? fun p => p.1 == i with | some p => p.2 | none => 0
  if i < 384 then s.effB (srvF Reg.srvCfgStren i) && s.eff (srvF Reg.srvCfgSrate i) + s.throtStep i + low < 3
  else s.effB (llF Reg.srvLlStren (i - 384)) && !s.cap.throt && s.eff (llF Reg.srvLlSrate (i - 384)) + low < 4

/-- The PRIO level of a source. -/
def State.prio (s : State) (i : Nat) : Nat := if i < 384 then s.eff (srvF Reg.srvCfgPrio i) else s.eff (llF Reg.srvLlPrio (i - 384))

/-- One code lower for every source listed. -/
def lowerAll (l : List (Nat × Nat)) (is : List Nat) : List (Nat × Nat) :=
  is.foldl (fun a i => if a.any fun p => p.1 == i then a.map fun p => if p.1 = i then (i, p.2 + 1) else p else a ++ [(i, 1)]) l

/-- One code higher for every source listed. -/
def raiseAll (l : List (Nat × Nat)) (is : List Nat) : List (Nat × Nat) :=
  (l.map fun p => if is.contains p.1 then (p.1, p.2 - 1) else p).filter fun p => p.2 != 0

/-- STEP_INSTANT (R425). -/
def execStepInstant (s : State) : Res :=
  if s.lUp && s.us % 1000 == 0 && s.rdB (str0F Reg.strCfgEn 0) && !s.str.lossy then
    let fill := s.strFill
    let down := ((s.rd (str0F Reg.strCfgHiwat 0) : Nat) : ℚ) / 100 ≤ fill && s.str.fill ≤ fill
    let run := if fill < ((s.rd (str0F Reg.strCfgLowat 0) : Nat) : ℚ) / 100 then s.str.lowRun + 1 else 0
    let a := s.strMod fun x => { x with fill := fill, lowRun := run }
    if down then
      match [0, 1, 2].find? fun p => allSources.any fun i => s.canLower i && s.prio i == p with
      | some p =>
        .next (((a.strMod fun x => { x with lowered := lowerAll x.lowered (allSources.filter fun i => s.canLower i && s.prio i == p),
                                            stepUs := s.us }).raise 888).strShow)
      | none => .next a.strShow
    else if 10 ≤ run then
      match [3, 2, 1, 0].find? fun p => s.str.lowered.any fun q => s.prio q.1 == p with
      | some p =>
        .next (((a.strMod fun x => { x with lowered := raiseAll x.lowered ((x.lowered.map (·.1)).filter fun i => s.prio i == p),
                                            stepUs := s.us, lowRun := 0 }).raise 889).strShow)
      | none => .next a.strShow
    else .next a.strShow
  else .next s

/-! ### Host buffers (R422 to R424) -/

/-- A completion is written at CTAIL, and CTAIL advances with PHASE alternating on each wrap (R423). -/
def State.complete (s : State) (idx : Nat) (err : Bool) (htag bytes first : Nat) : State :=
  let n := 64 * 2 ^ min 6 (s.rd (str0F Reg.strCsizeSize 0))
  let i := s.rd (str0F Reg.strCtailIdx 0)
  let ph := s.rd (str0F Reg.strCtailPhase 0)
  let base := s.rd (str0F Reg.strCbaseloBase 0) / 64 * 64 + 2 ^ 32 * s.rd (str0F Reg.strCbasehiBase 0)
  let a := s.emit (.hostWrite (base + 16 * i) [idx + 2 ^ 30 * b2n err + 2 ^ 31 * ph, htag, bytes, first])
  let b := if i + 1 ≥ n then (a.wr (str0F Reg.strCtailIdx 0) 0).wr (str0F Reg.strCtailPhase 0) (1 - ph)
    else a.wr (str0F Reg.strCtailIdx 0) (i + 1)
  b.raise 892

/-- The buffer in use completes. -/
def State.bufDone (s : State) (b : BufS) : State :=
  (s.strMod fun x => { x with buf := none }).complete b.idx false b.htag (8 * b.used) (b.first.getD 0x1FFFFF)

/-- The next descriptor is taken; a descriptor with LEN 0 or above 256, or with address bits below bit 12, completes with
ERR and raises STRERR (R422). -/
def State.takeDesc (s : State) : State :=
  let n := 64 * 2 ^ min 6 (s.rd (str0F Reg.strDsizeSize 0))
  let i := s.rd (str0F Reg.strDheadIdx 0)
  let d := ((s.str.descs.find? fun p => p.1 == i).map (·.2)).getD []
  let len := bits (nth d 2) 0 9
  let a := s.wr (str0F Reg.strDheadIdx 0) ((i + 1) % n)
  if len = 0 ∨ 256 < len ∨ nth d 0 % 4096 ≠ 0 then (a.complete i true (nth d 3) 0 0x1FFFFF).raise 893
  else a.strMod fun x => { x with buf := some { idx := i, addr := nth d 0 + 2 ^ 32 * nth d 1, room := 512 * len, htag := nth d 3 } }

/-- Words of the frame that is being copied go into buffers while the reader does not stop; `head` while its header is
still to come. -/
def State.copyOut : Nat → Bool → State → State
  | 0, _, s => s
  | k + 1, head, s =>
    match s.str.buf with
    | some b =>
      if b.used = b.room then (if s.compFull then s else copyOut k head (s.bufDone b))
      else if s.str.rest.isEmpty || s.strStopped then s
      else
        let n := min (b.room - b.used) s.str.rest.length
        let first := if head && b.first.isNone then some (8 * b.used) else b.first
        copyOut k false ((s.emit (.hostWrite (b.addr + 8 * b.used) (s.str.rest.take n))).strMod fun x =>
          { x with buf := some { b with used := b.used + n, first := first }, rest := x.rest.drop n })
    | none => if s.str.rest.isEmpty || s.strStopped then s else copyOut k head s.takeDesc

/-- A copied frame leaves the ring. -/
def State.frameGone (s : State) : State :=
  if s.str.rest.isEmpty && s.str.cur then
    s.strMod fun x => { x with cur := false, ring := { x.ring with frames := x.ring.frames.tail } }
  else s

/-- Frames before the oldest LAYOUT frame still intact, once frames were lost (R427). -/
def State.strResume (s : State) : State :=
  if s.str.lost.isNone then s
  else
    match s.str.ring.frames.findIdx? fun f => f.typ == 3 with
    | some i =>
      (s.strMod fun x => { x with ring := { x.ring with frames := x.ring.frames.drop i } }).strLose (s.str.ring.frames.take i)
    | none => s

/-- The GAP frame (R427): its FSEQ is the first frame lost. What else its header holds is open (log entry 23). -/
def State.gapWords (s : State) (q n : Nat) : List Nat × State :=
  ([2 + 256 * ((s.draw 32).1.toNat % 2 ^ 56), q % 2 ^ 32 + 2 ^ 32, n % 2 ^ 32], (s.draw 32).2)

/-- STREAM_READ (R409, R423, R424, R427): the frame in hand goes on; otherwise a GAP frame is sent where frames were lost,
or the oldest frame is copied. -/
def execStreamRead (unc corr : List (BitVec 7 × BitVec 17)) (s : State) : Res :=
  let fuel (t : State) := 2 * t.strCredit + 4
  if !s.lUp || s.strStopped then .next s
  else if !s.str.rest.isEmpty then .next ((State.copyOut (fuel s) false s).frameGone.strShow)
  else
    let r := s.strResume
    match r.str.lost with
    | some (q, n) =>
      if r.str.ring.frames.any fun f => f.typ == 3 then
        let g := r.gapWords q n
        let a := (g.2.strMod fun x => { x with lost := none, rest := g.1, cur := false }).raise 891
        .next ((State.copyOut (fuel a) true a).frameGone.strShow)
      else .next s
    | none =>
      match s.str.ring.frames with
      | [] => .next s
      | f :: _ =>
        let a := (s.eccFound [f] (wordList unc) (wordList corr)).strMod fun x =>
          { x with rest := s.frameRead f (wordList unc), cur := true }
        .next ((State.copyOut (fuel a) true a).frameGone.strShow)

/-- BUFFER_FLUSH (R423): FLUSH passed after the last frame with no further frame ready. -/
def execBufferFlush (s : State) : Res :=
  match s.str.buf with
  | some b =>
    if s.lUp && !s.strStopped && s.str.rest.isEmpty && s.str.ring.frames.isEmpty && b.used != 0 then .next (s.bufDone b).strShow
    else .next s
  | none => .next s

/-- STR_DTAIL_WRITE (R422): the host has placed descriptors and advances STR_DTAIL. -/
def execStrDtailWrite (idx : BitVec 12) (descs : List (BitVec 12 × BitVec 128)) (s : State) : Res :=
  if s.lUp then
    let a := descs.foldl (fun t p => t.strMod fun x =>
      { x with descs := (x.descs.filter fun q => q.1 != p.1.toNat) ++ [(p.1.toNat, (List.range 4).map fun i => bits p.2.toNat (32 * i) 32)] }) s.barWrite
    .next (a.wr (str0F Reg.strDtailIdx 0) idx.toNat).strShow
  else .next s

/-- STR_CHEAD_WRITE (R424). -/
def execStrCheadWrite (idx : BitVec 12) (s : State) : Res :=
  .next (if s.lUp then (s.barWrite.wr (str0F Reg.strCheadIdx 0) idx.toNat).strShow else s)

/-- A write of STR_CFG (R422, R432): EN with no STREAM bank is ignored and sets NOMEM; setting EN zeroes DHEAD and CTAIL;
MODE is ignored while EN = 1. -/
def State.strCfg (s : State) (v : Nat) : State :=
  let on := s.rdB (str0F Reg.strCfgEn 0)
  let a := ((s.wr (str0F Reg.strCfgHiwat 0) (bits v 8 8)).wr (str0F Reg.strCfgLowat 0) (bits v 16 8)).wr (str0F Reg.strCfgFlush 0) (bits v 24 8)
  let b := if on then a else a.wr (str0F Reg.strCfgMode 0) (bits v 1 1)
  if !bitOf v 0 then (b.wr (str0F Reg.strCfgEn 0) 0).strShow
  else if on then b.strShow
  else if b.strBanks.isEmpty then b.wr (str0F Reg.strStatNomem 0) 1
  else
    (((((b.wr (str0F Reg.strCfgEn 0) 1).wr (str0F Reg.strStatNomem 0) 0).wr (str0F Reg.strDheadIdx 0) 0).wr (str0F Reg.strCtailIdx 0) 0).wr
      (str0F Reg.strCtailPhase 0) 1 |>.strMod fun x => { x with buf := none }).strShow

/-- STREAM_ENABLE (R422, R432). -/
def execStreamEnable (v : Word) (s : State) : Res := .next (if s.lUp then s.barWrite.strCfg (setBit v.toNat 0) else s)

/-! ### Hold (R428) -/

/-- Both writers and the reader stop at the entry into hold; a snapshot in progress is cut off and leaves its slot invalid
(R421). -/
def State.capHold (s : State) : State :=
  [0, 1].foldl (fun t k =>
    if t.winSt k = 2 ∧ !(t.winx k).ended then (t.wr (cap1F Reg.capWinStatVfail k) 1).winMod k fun x => { x with ended := true } else t)
    (s.capMod fun c => { c with began := none, trig := false, holdT := some s.us })

/-- RUN entry (R428): a FREE window is closed with source HOLD at the entry into hold, and its snapshot begins; the stream
is discarded and disabled. -/
def State.capRun (s : State) : State :=
  let a := match s.cap.holdT with
    | none => s
    | some t =>
      match s.effB (cap0F Reg.capCfgEn 0), [0, 1].find? (fun k => s.winSt k == 0), s.preEff with
      | true, some k, some pre =>
        ((((((((s.wr (cap1F Reg.capWinStatVaulted k) 0).wr (cap1F Reg.capWinStatVfail k) 0).wr (cap1F Reg.capWinStatSrc k) 4).wr
          (cap1F Reg.capWinStatNmerge k) 0).wr (cap1F Reg.capWinStatPreeff k) (pre / 1000)).wr (cap1F Reg.capWinStatSlot k) 0xFF).wr
          (cap1F Reg.capWinTUs k) t).winMod k fun _ => { t := t, pre := pre }).winClose k
      | _, _, _ => s
  let b := a.capMod fun c => { c with holdT := none }
  ({ b with str := { ring := { b.str.ring with frames := [], codes := [], due := true } } }.wr (str0F Reg.strCfgEn 0) 0).strShow

/-- The banks lose their contents (R428): cold reset, or an L-die power-down by temperature. -/
def State.capWipe (s : State) : State :=
  { s with mem := [], cap := { s.cap with ring := { s.cap.ring with frames := [] } }, str := { s.str with ring := { s.str.ring with frames := [] } } }

end Sys2Proof.Machine
end

