-- ==== Sys2Proof/Machine/Gallery.lean ====
section
/-!
DEFINITION. The gallery event recorder (chapter 17): records, acceptance, freeze, spill and merge, the long-term log, the
windows and the clear.
-/

namespace Sys2Proof.Machine

/-- The gallery changed. -/
def State.galMod (s : State) (f : GalS → GalS) : State := { s with gal := f s.gal }

/-! ### Time fields (R458) -/

/-- OPH at a microsecond count. -/
def State.oph (s : State) (us : Nat) : Nat := (s.gal.ophBase + us * 4 / 3515625) % 2 ^ 32

/-- SUB at a microsecond count: µs since the last OPH step. -/
def ophSub (us : Nat) : Nat := us - cdiv (us * 4 / 3515625 * 3515625) 4

/-- The microsecond count is one at which OPH steps. -/
def ophStep (us : Nat) : Bool := us != 0 && ophSub us == 0

/-! ### Records (R455, R457) -/

/-- The words of a record. -/
def Rec.words (r : Rec) : List Nat :=
  [5 + r.payload.length + 2 ^ 8 * r.typ + 2 ^ 16 * r.src + 2 ^ 26 * b2n r.cont + 2 ^ 27 * b2n r.more + 2 ^ 28 * b2n r.island
    + 2 ^ 29 * b2n r.broken + 2 ^ 30 * b2n r.spilled + 2 ^ 31 * b2n r.oneCopy, r.seq, r.oph, r.pcc, r.sub] ++ r.payload

/-- The words that records take. -/
def recsWords (l : List Rec) : Nat := sumN (l.map fun r => recWords r.payload)

/-- The words that an offer takes. -/
def Offer.words (o : Offer) : Nat := sumN (o.payloads.map recWords)

/-- GAL_STAT.FSTATE (Table 17.3): 0 RUNNING, 1 FROZEN, 2 MERGING. -/
def State.fstate (s : State) : Nat := s.rd (gal0F Reg.galStatFstate 0)

/-- Offers go to the spill: in a freeze, while merging, and during a rebuild (R460, R465, R468). -/
def State.toSpill (s : State) : Bool := s.fstate != 0 || s.rebuilding

/-- Free words in the destination of offers (R459, R465). -/
def State.galFree (s : State) : Nat :=
  if s.toSpill then 32768 - recsWords s.gal.spill else 65536 - recsWords s.gal.tail

/-- The records that can be read, in SEQ order (R464, R471). -/
def State.readable (s : State) : List Rec := ((s.gal.nvm.map (·.1)) ++ s.gal.tail).filter fun r => s.gal.clr ≤ r.seq

/-- GAL_OLDEST: the lowest readable SEQ. -/
def State.galOldest (s : State) : Nat := (s.readable.head?.map (·.seq)).getD s.gal.next

/-- The registers that follow the gallery's contents. -/
def State.galShow (s : State) : State :=
  ((((s.wr (gal0F Reg.galStatSpill 0) (100 * recsWords s.gal.spill / 32768)).wr (gal0F Reg.galStatTail 0)
    (100 * recsWords s.gal.tail / 65536)).wr (gal0F Reg.galNextseqSeq 0) s.gal.next).wr (gal0F Reg.galOldestSeq 0) s.galOldest).wr
    (gal0F Reg.galClrseqSeq 0) s.gal.clr

/-- One record is accepted into the spill or the tail: SEQ and the time fields are assigned (R455, R459). -/
def State.galOne (spill : Bool) (typ src : Nat) (island : Option Nat) (broken : Bool) (n : Nat) (s : State)
    (p : Nat × List Nat) : State :=
  let us := island.getD s.us
  let r : Rec :=
    { typ := typ, src := src, cont := p.1 != 0, more := p.1 + 1 != n, island := island.isSome, broken := broken,
      spilled := spill, oneCopy := !spill && s.mirrorLost, seq := s.gal.next, oph := s.oph us, pcc := s.gal.pcc, sub := ophSub us,
      payload := p.2.map (fun x => x % 2 ^ 32), atUs := s.us }
  let a := s.galMod fun g => { g with
    next := (g.next + 1) % 2 ^ 32,
    spill := if spill then g.spill ++ [r] else g.spill,
    tail := if spill then g.tail else g.tail ++ [r] }
  let b := if r.oneCopy then a.wr (gal0F Reg.galStatOnecopy 0) 1 else a
  let c := b.incWrap (gal0F Reg.galNrecCnt 0)
  if recsWords s.gal.tail < 49152 ∧ 49152 ≤ recsWords c.gal.tail then c.raise 980 else c

/-- The members of an offer are accepted with consecutive SEQs (R457). -/
def State.galPut (s : State) (spill : Bool) (o : Offer) : State :=
  ((List.range o.payloads.length).map fun i => (i, o.payloads.getD i [])).foldl
    (State.galOne spill o.typ o.src o.island o.broken o.payloads.length) s

/-- FROZEN is left with a cause of Table 17.2 (R466): the THAW record, and MERGING. -/
def State.galThaw (s : State) (cause : Nat) : State :=
  if s.fstate ≠ 1 then s
  else
    let a := s.galPut true { typ := 0x21, src := 977, payloads := [[cause]], broken := cause != 0 }
    let b := ((a.wr (gal0F Reg.galStatFstate 0) 2).wrB (gal0F Reg.galStatFreezebroken 0) (cause != 0)).raise 977
    (if cause = 0 then b else b.raise 978).galShow

/-- The first records of a list, as many as fit in `n` words. -/
def fitRecs : Nat → List Rec → List Rec
  | _, [] => []
  | n, r :: l => if recWords r.payload ≤ n then r :: fitRecs (n - recWords r.payload) l else []

/-- The spill moves into the tail, as far as the tail has room; with the spill empty, the gallery runs (R468). -/
def State.galMerge (s : State) : State :=
  let m := fitRecs (65536 - recsWords s.gal.tail) s.gal.spill
  let a := s.galMod fun g => { g with tail := g.tail ++ m, spill := g.spill.drop m.length }
  let b := if recsWords s.gal.tail < 49152 ∧ 49152 ≤ recsWords a.gal.tail then a.raise 980 else a
  (if b.gal.spill.isEmpty then (if s.fstate = 0 then b else (b.wr (gal0F Reg.galStatFstate 0) 0).raise 977) else b).galShow

/-- Acceptance of an offer (R459): the REFUSED record first where refusals are to be told; a spill at 90 % ends a freeze
(R466). An offer that does not fit is refused. -/
def State.galAccept (s : State) (o : Offer) : State :=
  let told := s.gal.refS + s.gal.refL != 0
  if s.galFree < o.words + (if told then 6 else 0) then
    s.refuse false
  else
    let a := if told then
        (s.galPut s.toSpill { typ := 0x05, src := 979, payloads := [[sat 16 s.gal.refS + 65536 * sat 16 s.gal.refL]] }).galMod
          fun g => { g with refS := 0, refL := 0 }
      else s
    let b := (a.galPut s.toSpill o).galShow
    if b.fstate = 1 ∧ 29492 ≤ recsWords b.gal.spill then b.galThaw 2 else b

/-- RECORD_OFFER (R459, R460): the oldest offered record is accepted; `new` is a record that firmware offers behind the
waiting ones. A tail copy that fails retires its macro, and the record goes to the spill. -/
def execRecordOffer (new : Option (Byte × BitVec 10 × List (List Word))) (bad : BitVec 3) (s : State) : Res :=
  if !s.lUp then .next s
  else
    let a := match new with
      | some (typ, src, ps) => s.offer { typ := typ.toNat, src := src.toNat, payloads := ps.map (List.map BitVec.toNat) }
      | none => s
    match a.offers with
    | [] => .next a
    | o :: r =>
      let b := { a with offers := r }
      let c := if b.toSpill then b else (b.macroBad bad.toNat).foldl State.macroFail b.macroInject
      .next (c.galAccept o)

/-! ### The long-term log (R462, R463) -/

/-- Sectors of the log. -/
def State.logSectors (s : State) : Nat := max 1 (64 * s.eff (gal1F Reg.galCfgLogsz 0))

/-- A page of tail records, as many as fit in 1,023 words beside the CRC-32 of the page, is written to the log; a full log
erases its oldest sector first (R462). -/
def State.galPage (s : State) : State :=
  let page := fitRecs 1023 s.gal.tail
  let sector := s.gal.pages / 16 % s.logSectors
  let wrap := s.gal.pages % 16 == 0 && s.logSectors ≤ s.gal.pages / 16
  let a := s.galMod fun g =>
    { g with tail := g.tail.drop page.length, pages := g.pages + 1,
             nvm := (if wrap then g.nvm.filter fun p => p.2 != sector else g.nvm) ++ page.map fun r => (r, sector) }
  let b := if wrap then a.inc (gal1F Reg.galNvstatWraps 0) else a
  (b.wr (gal1F Reg.galNvstatHead 0) (cdiv (s.gal.pages + 1) 16 % s.logSectors)).galShow

/-- A device fails a program or erase after two retries: NVMDEV with its token (R513), NVMFAIL with its token, and the NVMFAIL
record (R463). Whether the device's log is in service is GAL_STAT's to say (R463). -/
def State.nvmFail (s : State) (dev : Nat) : State :=
  let sector := s.gal.pages / 16 % s.logSectors
  let a := (s.nvcFail dev).raise 981
  State.record { a with tokenQ := a.tokenQ ++ [{ src := 981, kind := 1, us := s.us, dev := dev }] } 0x24 981 [dev, sector]

/-- A flush is due: 4 KiB unflushed, or the oldest unflushed record has waited FLUSHT (R462). -/
def State.flushDue (s : State) : Bool :=
  match s.gal.tail.head? with
  | some r => 1024 ≤ recsWords s.gal.tail || r.atUs + 100000 * s.eff (gal1F Reg.galCfgFlusht 0) ≤ s.us + 10000
  | none => false

/-- The devices of the log in service. -/
def State.logDevs (s : State) : List Nat :=
  (if s.rdB (gal0F Reg.galStatNvm0ok 0) then [0] else []) ++ (if s.rdB (gal0F Reg.galStatNvm1ok 0) then [1] else [])

/-! ### Windows (R464) -/

/-- A write of GAL_CUR loads the BAR4 window. -/
def State.galCur (s : State) (cur : Nat) : State :=
  let l := s.readable.filter fun r => cur ≤ r.seq
  let w := fitRecs 8192 l
  let ws := w.flatMap Rec.words
  let next := ((l.drop w.length).head?.map (·.seq)).getD s.gal.next
  let nvm := w.any fun r => s.gal.nvm.any fun p => p.1.seq == r.seq
  ((((((s.wr (gal0F Reg.galCurSeq 0) cur).wr (gal0F Reg.galWinWords 0) ws.length).wr (gal0F Reg.galWinNrec 0) w.length).wr
    (gal0F Reg.galWinReady 0) 0).wrB (gal0F Reg.galWinSkip 0) (cur < s.galOldest)).wrB (gal0F Reg.galWinFromnvm 0) nvm).wr
    (gal0F Reg.galNextSeq 0) next |>.galMod fun g => { g with win := ws, load := true }

/-- GAL_CUR (R464). -/
def execGalCur (cur : Word) (s : State) : Res := .next (if s.lUp then s.barWrite.galCur cur.toNat else s)

/-- A load of the fast window: the 32 words at an offset from its cursor. -/
def State.fastLoad (s : State) (cur wofs : Nat) : State :=
  let ws := ((s.readable.filter fun r => cur ≤ r.seq).flatMap Rec.words).drop wofs
  (((s.wr (gal0F Reg.galTwinWofs 0) wofs).wr (gal0F Reg.galTwinReady 0) 0).wrB (gal0F Reg.galTwinSkip 0) (cur < s.galOldest)).galMod
    fun g => { g with twin := ws.take 32, tload := true }

/-- A write of GAL_TCUR sets the fast window. -/
def State.galTcur (s : State) (cur : Nat) : State :=
  (s.wr (gal0F Reg.galTcurSeq 0) cur).fastLoad cur 0

/-- GAL_TCUR (R464). -/
def execGalTcur (cur : Word) (s : State) : Res := .next (if s.lUp then s.barWrite.galTcur cur.toNat else s)

/-- A read of fast target byte 0xFF advances the window by 32 words (R464). -/
def State.galAdvance (s : State) : State :=
  s.fastLoad (s.rd (gal0F Reg.galTcurSeq 0)) (s.rd (gal0F Reg.galTwinWofs 0) + 32)

/-- GALLERY_WINDOW_ADVANCE (R464). -/
def execGalleryWindowAdvance (s : State) : Res := .next (if s.lUp then s.galAdvance else s)

/-- WINREADY (R464): a load completes; a BAR4 load raises WINREADY. -/
def execWinready (fast : Bool) (s : State) : Res :=
  if !s.lUp then .next s
  else if fast then
    (if s.gal.tload then .next ((s.wr (gal0F Reg.galTwinReady 0) 1).galMod fun g => { g with tload := false }) else .next s)
  else if s.gal.load then .next (((s.wr (gal0F Reg.galWinReady 0) 1).raise 984).galMod fun g => { g with load := false })
  else .next s

/-- A word of the BAR4 window: 0 until the load is complete, and beyond it (R464). -/
def State.winWord (s : State) (i : Nat) : Nat := if s.rdB (gal0F Reg.galWinReady 0) then nth s.gal.win i else 0

/-- A byte of the fast window (R464). -/
def State.twinByte (s : State) (i : Nat) : Nat :=
  if s.rdB (gal0F Reg.galTwinReady 0) then bits (nth s.gal.twin (i / 4)) (8 * (i % 4)) 8 else 0

/-! ### Freeze (R465 to R470) -/

/-- A spill bank is retired. -/
def State.spillRetired (s : State) : Bool := [76, 77, 78, 79].any fun m => s.retired 5 m

/-- GAL_FREEZE at application (R465, R466). -/
def State.applyGalFreeze (e : JEntry) (s : State) : State :=
  if bitOf (e.arg 0) 0 then
    if s.fstate = 1 then s.done e.seq
    else if 65536 - recsWords s.gal.tail < 32768 ∨ s.fstate = 2 ∨ s.rebuilding ∨ s.spillRetired then s.refuseCmd e 4
    else
      let a := (s.galAccept { typ := 0x20, src := 976, payloads := [[e.seq]] }).wr (gal0F Reg.galStatFstate 0) 1
      (a.raise 976).done e.seq
  else (s.galThaw 0).done e.seq

/-- GAL_FREEZE (opcode 0xB00): ARG0 [0] is 1. -/
def execGalFreeze (inst : BitVec 8) (h : CmdHdr) (s : State) : Res :=
  .next (s.command State.applyGalFreeze 0xB00 inst.toNat h [1])

/-- GAL_FREEZE to thaw (opcode 0xB00): ARG0 [0] is 0. -/
def execGalThaw (inst : BitVec 8) (h : CmdHdr) (s : State) : Res :=
  .next (s.command State.applyGalFreeze 0xB00 inst.toNat h [0])

/-- FREEZE_TIMEOUT (R466, R467): a thaw command that met it is logged as LATE. -/
def execFreezeTimeout (late : Bool) (s : State) : Res :=
  if s.lUp && s.fstate == 1 then .next (if late then (s.galThaw 1).late 977 else s.galThaw 1) else .next s

/-! ### Clear (R471 to R473) -/

/-- The first 192 bits of the MAC over w0, w1, ARG0 and ARG1 (R471). -/
def State.macOk (s : State) (e : JEntry) : Bool :=
  match s.gal.key with
  | none => false
  | some k =>
    (hmacSha256 (wordBytes k) (wordBytes [nth e.words 0, nth e.words 1, e.arg 0, e.arg 1])).take 24
      == wordBytes ((List.range 6).map fun i => e.arg (2 + i))

/-- GAL_NONCE takes a new value (R472; log entry 21). -/
def State.newNonce (s : State) : State :=
  (s.galMod fun g => { g with nonce := g.nonce + 1 }).wr (gal0F Reg.galNonceNonce 0) (Config.nonce (s.gal.nonce + 1)).toNat

/-- GAL_CLEAR at application (R471, R472). -/
def State.applyGalClear (e : JEntry) (s : State) : State :=
  let held := (s.readable ++ s.gal.spill).any fun r => r.typ == 0x22 && nth r.payload 0 == e.seq
  if held then (s.done e.seq).newNonce
  else if e.arg 1 ≠ s.rd (gal0F Reg.galNonceNonce 0) ∨ !s.macOk e then ((s.raise 983).refuseCmd e 5).newNonce
  else if s.fstate ≠ 0 then (s.refuseCmd e 4).newNonce
  else if s.galFree < 7 + (if s.gal.refS + s.gal.refL = 0 then 0 else 6) then s.setWait e.seq .clear
  else
    let told := s.gal.refS + s.gal.refL != 0
    let q := s.gal.next + b2n told
    let a := s.galAccept { typ := 0x22, src := 982, payloads := [[e.seq, q]] }
    let b := a.galMod fun g => { g with clr := q, nvm := g.nvm.filter fun p => q ≤ p.1.seq,
                                        key := if bitOf (e.arg 0) 0 then none else g.key }
    let c := if bitOf (e.arg 0) 0 then b.wr (gal0F Reg.galStatKeyset 0) 0 else b
    ((c.galShow.raise 982).done e.seq).newNonce

/-- GAL_CLEAR (opcode 0xB01). -/
def execGalClear (inst : BitVec 8) (h : CmdHdr) (rekey nonce mac0 mac1 mac2 mac3 mac4 mac5 : Word) (s : State) : Res :=
  .next (s.command State.applyGalClear 0xB01 inst.toNat h
    [rekey.toNat, nonce.toNat, mac0.toNat, mac1.toNat, mac2.toNat, mac3.toNat, mac4.toNat, mac5.toNat])

/-- A clear that waited for room is tried again (R471). -/
def State.clearRetry (s : State) : State :=
  (s.jnl.filter fun e => e.applied && e.status.isNone && e.wait == .clear).foldl (fun t e => State.applyGalClear e t) s

/-- FLUSH (R462, R463, R474): one page; it is freed once it is on every device in service. -/
def execFlush (fail0 fail1 : Bool) (s : State) : Res :=
  if s.lUp && s.fstate != 1 && s.flushDue && !s.logDevs.isEmpty then
    let a := if s.rdB (hdr Reg.pgCbusy 0x0F9) then (s.applyPart (pageLo 0x0F9) (pageHi 0x0F9)).commitDone 0x0F9 else s
    let bad := s.logDevs.filter fun d => if d = 0 then fail0 else fail1
    .next (if bad.isEmpty then a.galPage.clearRetry else bad.foldl State.nvmFail a)
  else .next s

/-- MERGE_DONE (R460, R468): the spill is in the tail, and the gallery runs. -/
def execMergeDone (s : State) : Res :=
  if s.lUp && s.fstate == 2 && !s.rebuilding then .next s.galMerge.clearRetry else .next s

/-- A write of GAL_KEYCTL.LOAD (R473): the key is stored; while one is set the write is ignored and raises LOCKREJ. -/
def State.keyLoad (s : State) : State :=
  if s.rdB (gal0F Reg.galStatKeyset 0) then s.lockrej 0x0F8 0x0A0
  else
    (s.galMod fun g => { g with key := some ((List.range 8).map fun k => s.rd (gal0F Reg.galKeyKey k)) }).wr
      (gal0F Reg.galStatKeyset 0) 1

/-- KEY_LOAD (R473). -/
def execKeyLoad (s : State) : Res := .next (if s.lUp then s.barWrite.keyLoad else s)

/-- OPH_STEP (R458): at every 256th step the L-die writes OPH into an eMRAM slot; the island writes no eMRAM (R538). -/
def execOphStep (s : State) : Res :=
  if s.islandUp && ophStep s.us then
    let a := (s.wr (gal0F Reg.galOphOph 0) (s.oph s.us)).wr (gal0F Reg.galSubSub 0) 0
    .next (if s.lUp && s.us * 4 / 3515625 % 256 == 0 then a.galMod fun g => { g with ophNvm := max g.ophNvm (s.oph s.us) } else a)
  else .next s

/-! ### Resets (R461, R466, R469) -/

/-- The L-die stops (R461, R466): offers that wait are not accepted, and a freeze will have ended with a cause. -/
def State.galHold (s : State) (cause : Nat) : State :=
  let a := s.galMod fun g => { g with thaw := if s.fstate = 1 then some cause else g.thaw, win := [], twin := [] }
  State.galMod { a with offers := [] } fun g => { g with load := false, tload := false }

/-- RUN entry (R469): the THAW record of a freeze that a reset ended, and the merge of the spill, which waits for REBUILT
while a rebuild runs (R460). -/
def State.galRun (s : State) : State :=
  let a := match s.gal.thaw with
    | some c => ((s.wr (gal0F Reg.galStatFstate 0) 1).galThaw c).galMod fun g => { g with thaw := none }
    | none => s
  if a.rebuilding then a else a.galMerge

end Sys2Proof.Machine
end

