-- ==== Sys2Proof/Machine/Flights.lean ====
section
/-!
DEFINITION. The commands and events of flights and rail supervision (chapter 12).
-/

namespace Sys2Proof.Machine

/-! ### FLIGHT_RUN (R349, R350, R362, R364) -/

/-- A local edge of the table lies between included entities (R329). -/
def inFlight (inc : List Nat) (x : Edge) : Bool := x.remote.isNone && inc.contains x.parent && inc.contains x.child

/-- The included entities that no kept edge makes dependent are removed, over and over; what is left lies on or behind a
cycle. -/
def peel (es : List Edge) : Nat → List Nat → List Nat
  | 0, l => l
  | k + 1, l =>
    let rest := l.filter fun e => es.any fun x => x.child == e && l.contains x.parent
    if rest.length = l.length then l else peel es k rest

/-- The dependency check of R329 fails: a cycle, or a child whose delays lie outside its parent's. -/
def State.depsBad (s : State) (f : Nat) : Bool :=
  let inc := s.included f
  let es := s.edges.filter (inFlight inc)
  !(peel es 160 inc).isEmpty
    || es.any fun x => s.eff (trdF Reg.flOnOndly f x.child) < s.eff (trdF Reg.flOnOndly f x.parent)
      || s.eff (trdF Reg.flOffOffdly f x.parent) < s.eff (trdF Reg.flOffOffdly f x.child)

/-- An entity that a run may not include: a TIE bay (R323), a rail whose levels are out of order (R324), or DL = 0
(R328). -/
def State.treadBad (s : State) (f e : Nat) : Bool :=
  (e < 96 && !(s.eff (seq0F Reg.seqRailLvlUv e) < s.eff (seq0F Reg.seqRailLvlOv e)
      && s.eff (seq0F Reg.seqRailLvl2Off e) < s.eff (seq0F Reg.seqRailLvlUv e)))
    || (112 ≤ e && s.bayRole (e - 112) == 3)
    || s.eff (trdF Reg.flDlDl f e) == 0

/-- A new run of flight `f` is refused with reason 0x04 (R343, R350, R364). -/
def State.runRefused (s : State) (f : Nat) : Bool :=
  s.mode == .bench || s.fansIn f || !(s.sharing f).isEmpty || (s.flState f != 0 && s.rdB (flF Reg.flStatDevstart f))

/-- The slaves of an order with no acknowledgement yet. -/
def State.newSlaves (s : State) : List (Nat × Nat) := s.expected.map fun a => (a, 0)

/-- FLIGHT_RUN with ACTION 0, 1 or 2 (R331, R349, R362). -/
def State.runFlight (e : JEntry) (f action : Nat) (s : State) : State :=
  if s.depsBad f then (s.wr (seq0F Reg.seqGstatDeperr 0) 1).refuseCmd e 2
  else if (s.included f).any (s.treadBad f) then s.refuseCmd e 2
  else
    if s.runRefused f then s.refuseCmd e 4
    else
      let down := if action = 0 then s.effB (flF Reg.flCfgDir f) else action == 2
      let b := s.setWait e.seq (.flight f)
      let c := if (b.flx f).order then b.flMod f fun x => { x with order := false } else b
      if s.fansOut f then
        (c.sendOrder 1 f action (s.us + 5000)).flRun f down false false (some e.seq) (s.us + 5000) s.newSlaves
      else c.flRun f down false false (some e.seq) (s.us + 50)

/-- A LANDED flight goes on (R330): its clock has stood since the landing (log entry 56). -/
def State.flContinue (s : State) (f : Nat) : State :=
  let t0 := s.rd (flF Reg.flT0Us f) + (s.us - (s.flx f).landUs)
  (((s.wr (flF Reg.flT0Us f) t0).wr (flF Reg.flStatState f) (if s.flDown f then 2 else 1)).gstat).flCheck f

/-- FLIGHT_RUN (opcode 0x800), whatever its ACTION; DEPERR tells of the last one (Table 12.7). A replayed CONTINUE runs its held
flight from its start (R344; log entry 68). -/
def State.applyFlightRun (e : JEntry) (before : State) : State :=
  let s := before.wr (seq0F Reg.seqGstatDeperr 0) 0
  let f := e.inst
  let action := bits (e.arg 0) 0 3
  if 7 < f ∨ 4 < action then s.refuseCmd e 2
  else if action = 4 then
    let a := if s.fansOut f then s.sendOrder 3 f 4 0 else s
    (a.flStop f).done e.seq
  else if action = 3 then
    if e.replayed ∧ s.flState f = 6 then s.runFlight e f (if (s.flx f).startDown then 2 else 1)
    else if s.mode = .bench ∨ s.flState f ≠ 3 ∨ s.fansIn f then s.refuseCmd e 4
    else
      let a := if s.fansOut f then
          (s.sendOrder 2 f 3 0).flMod f fun x => { x with slaves := s.newSlaves }
        else s
      ((a.setWait e.seq (.flight f)).flMod f fun x => { x with seq := some e.seq }).flContinue f
  else s.runFlight e f action

/-- FLIGHT_RUN (R349). -/
def execFlightRun (inst : BitVec 8) (h : CmdHdr) (action bound : Word) (s : State) : Res :=
  .next (s.command State.applyFlightRun 0x800 inst.toNat h [action.toNat, bound.toNat])

/-- FLIGHT_RUN with ACTION CONTINUE (R330, R349). -/
def execFlightContinue (inst : BitVec 8) (h : CmdHdr) (bound : Word) (s : State) : Res :=
  .next (s.command State.applyFlightRun 0x800 inst.toNat h [3, bound.toNat])

/-- FLIGHT_RUN with ACTION ABORT (R349). -/
def execFlightAbort (inst : BitVec 8) (h : CmdHdr) (bound : Word) (s : State) : Res :=
  .next (s.command State.applyFlightRun 0x800 inst.toNat h [4, bound.toNat])

/-! ### Slots, landings, deadlines -/

/-- SLOT (R331 to R333): a late list is logged and counted, and switches nothing at this tick (Table 2.4). -/
def execSlot (f : BitVec 3) (t : BitVec 24) (late : Bool) (s : State) : Res :=
  if !s.lUp then .next s
  else if late then .next (((s.incWrap (fabF Reg.fabSeqlateCnt 0)).raise 23).late 23)
  else .next (s.follow (s.slot f.toNat t.toNat))

/-- LANDING (R330, Table 12.2). -/
def execLanding (f : BitVec 3) (k : BitVec 4) (s : State) : Res :=
  let g := f.toNat
  match (s.flx g).lands.find? fun p => p.1 == k.toNat with
  | some (_, mark, stop) =>
    if s.lUp && (s.flState g == 1 || s.flState g == 2) then
      let a := ((s.wr (flF Reg.flStatLanding g) k.toNat).wr (flF Reg.flTimeT g) mark).flMod g fun x =>
        { x with lands := x.lands.filter fun p => p.1 != k.toNat, dnPassed := x.dnPassed || s.flDown g }
      let b := a.raise (736 + 4 * g + 1)
      .next (if stop then (b.wr (flF Reg.flStatState g) 3).flMod g fun x => { x with mark := mark, landUs := s.us } else b)
    else .next s
  | none => .next s

/-- The flight judges deadlines: it runs, or stands at a landing (R330, R344). -/
def State.judging (s : State) (f : Nat) : Bool :=
  s.lUp && (s.flState f == 1 || s.flState f == 2 || s.flState f == 3 || s.flState f == 5)

/-- UP_DEADLINE (R334, R335). -/
def execUpDeadline (f : BitVec 3) (e : BitVec 8) (late : Bool) (s : State) : Res :=
  let at_ := s.treadAt f.toNat e.toNat
  if s.judging f.toNat && !s.flDown f.toNat && (at_ == some 1 || at_ == some 5) then
    let a := s.flFail f.toNat e.toNat
    .next (s.follow (if late then a.late (576 + e.toNat) else a))
  else .next s

/-- DOWN_DEADLINE (R337). -/
def execDownDeadline (f : BitVec 3) (e : BitVec 8) (late : Bool) (s : State) : Res :=
  if s.judging f.toNat && s.flDown f.toNat && s.treadAt f.toNat e.toNat == some 1 then
    let a := ((s.setEst e.toNat 8).entToken e.toNat 0x02).setTread f.toNat e.toNat 3
    .next ((if late then a.late (576 + e.toNat) else a).flCheckAll)
  else .next s

/-! ### Rail monitors (R324 to R327) -/

/-- The rail is judged: it exists and its survey channel is in service (Table 16.9). -/
def State.railJudged (s : State) (n : Nat) : Bool := s.islandUp && n < 96 && !s.retired 2 (160 + n)

/-- MON at the last sample lies above UV and below OV (R324); sample codes are 1/32 mV, the levels 0.5 mV. -/
def State.railInside (s : State) (r : Nat) : Bool :=
  decide (16 * s.eff (seq0F Reg.seqRailLvlUv r) < s.sv (160 + r)) && decide (s.sv (160 + r) < 16 * s.eff (seq0F Reg.seqRailLvlOv r))

/-- A late arrival at a rail's debounce (R47, R348). -/
def State.railLate (s : State) (r : Nat) (late : Bool) : State := if late then s.late (576 + r) else s

/-- RAIL_GOOD (R324, R338, R348): MON has stayed inside its window for PGDB. -/
def execRailGood (n : BitVec 7) (s : State) (late : Bool := false) : Res :=
  let r := n.toNat
  if s.railJudged r && !s.entGood r && s.railInside r then
    let a := ((s.railMod r fun x => { x with good := true, fell := false }).entBecomesGood r).railLate r late
    .next (if a.lUp then (a.retFlights 2 fun f => s.eff (flF Reg.flCfgRetrail f) == r).foldl State.condTaken a else a)
  else .next s

/-- RAIL_GOOD_LOST (R324, R326, R338, R348): MON has stayed at or below UV for FLDB. -/
def execRailGoodLost (n : BitVec 7) (s : State) (late : Bool := false) : Res :=
  let r := n.toNat
  if s.railJudged r && s.entGood r && decide (s.sv (160 + r) ≤ 16 * s.eff (seq0F Reg.seqRailLvlUv r)) then
    let a := s.follow (((s.railMod r fun x => { x with good := false }).entLosesGood r).railLate r late)
    .next (if a.lUp then (a.retFlights 2 fun f => s.eff (flF Reg.flCfgRetrail f) == r).foldl State.condCease a else a)
  else .next s

/-- RAIL_OV (R324, R325, R348): MON has stayed at or above OV for 5 µs. -/
def execRailOv (n : BitVec 7) (s : State) (late : Bool := false) : Res :=
  let r := n.toNat
  if s.railJudged r && s.lUp && decide (16 * s.eff (seq0F Reg.seqRailLvlOv r) ≤ s.sv (160 + r)) then
    let a := ((s.raise (576 + r)).entToken r 0x05).railLate r late
    if s.effB (seq0F Reg.seqEntOvoff r) then
      let all := r :: dependants s.edges [r]
      .next (s.follow (((a.dropEnts all).settleDrops all).flCheckAll))
    else .next a
  else .next s

/-- RAIL_FALLEN (R322, R337): MON has stayed below OFF for 10 µs. -/
def execRailFallen (n : BitVec 7) (s : State) : Res :=
  let r := n.toNat
  if s.railJudged r && !s.entFell r && decide (s.sv (160 + r) < 16 * s.eff (seq0F Reg.seqRailLvl2Off r)) then .next ((s.railMod r fun x => { x with fell := true }).entFalls r)
  else .next s

/-- RETURN_WAIT_END (R341): the condition still holds, so the flight PAIR starts up. -/
def execReturnWaitEnd (f : BitVec 3) (late : Bool) (s : State) : Res :=
  let g := f.toNat
  if s.lUp && s.flState g == 4 then
    let a := ((s.wr (flF Reg.flStatState g) 0).wr (flF Reg.flStatRetpend g) 0).gstat
    let b := if (s.flx g).cond then a.deviceStart (s.eff (flF Reg.flCfgPair g)) false else a
    let c := s.follow b
    .next (if late then (c.late (736 + 4 * g + 3)).raise (736 + 4 * g + 3) else c)
  else .next s

end Sys2Proof.Machine
end

