-- ==== Sys2Proof/Machine/Iddex.lean ====
section
/-!
DEFINITION. The Iddex link (chapter 13): sync pulses, frames, orders and their acknowledgements, remote states, lost peers.
-/

namespace Sys2Proof.Machine

/-- The Iddex state changed. -/
def State.idxMod (s : State) (f : IdxS → IdxS) : State := { s with idx := f s.idx }

/-- The own address (R354). -/
def State.idxAddr (s : State) : Nat := s.rd (idxF Reg.idxStatAddr 0)

/-- The link runs: the L-die is up and IDX_CFG.EN is set. -/
def State.idxUp (s : State) : Bool := s.lUp && s.effB (idxF Reg.idxCfgEn 0)

/-- The device has the master or is the master (R366). -/
def State.hasMaster (s : State) : Bool := s.rdB (idxF Reg.idxStatMaster 0) || s.rdB (idxF Reg.idxStatMheard 0)

/-! ### Sync (R355 to R357) -/

/-- SYNC_PULSE (R355): the master pulls IDX_SYNC low at a multiple of 1,000 µs. -/
def execSyncPulse (s : State) : Res :=
  if s.lUp && s.rdB (idxF Reg.idxStatMaster 0) && s.us % 1000 == 0 then
    .next ((s.idxMod fun x => { x with edge := s.us }).emit .iddexSync)
  else .next s

/-- SYNC_EDGE (R355, R357) on a slave. -/
def execSyncEdge (err : BitVec 16) (s : State) : Res :=
  if s.lUp && !s.rdB (idxF Reg.idxStatMaster 0) then
    let a := (s.wr (idxF Reg.idxAlignErr 0) err.toNat).idxMod fun x =>
      { x with edge := s.us, edged := true, hits := x.hits + 1, misses := 0 }
    .next (if 3 ≤ a.idx.hits ∧ !a.rdB (idxF Reg.idxStatSyncok 0) then (a.wr (idxF Reg.idxStatSyncok 0) 1).raise 773 else a)
  else .next s

/-- SYNC_EDGE_MISSED (R357): the window ends without an edge; the slave goes on from the extrapolated edge. -/
def execSyncEdgeMissed (late : Bool) (s : State) : Res :=
  if s.lUp && !s.rdB (idxF Reg.idxStatMaster 0) then
    let a := (s.inc (idxF Reg.idxNerrSyncmiss 0)).idxMod fun x =>
      { x with edge := x.edge + 1000, edged := false, hits := 0, misses := x.misses + 1 }
    let b := if 3 ≤ a.idx.misses ∧ a.rdB (idxF Reg.idxStatSyncok 0) then (a.wr (idxF Reg.idxStatSyncok 0) 0).raise 772 else a
    .next (if late then b.late 772 else b)
  else .next s

/-! ### Frames (R358 to R360) -/

/-- The remote state code of an entity state (R360). -/
def stateCode (est : Nat) : Nat := if est = 2 then 1 else if est = 3 then 2 else if est = 4 ∨ est = 6 ∨ est = 7 then 3 else 0

/-- The remote state codes of the own entities, bytes 0 to 39. -/
def State.entBytes (s : State) : List Nat :=
  (List.range 40).map fun i => sumN ((List.range 4).map fun j => stateCode (s.est (4 * i + j)) * 4 ^ j)

/-- The flight bytes, bytes 40 to 47. -/
def State.flightBytes (s : State) : List Nat :=
  (List.range 8).map fun f => s.flState f + 8 * s.rd (flF Reg.flStatLanding f)

/-- The bytes of an order (R361). -/
def OrderS.bytes (o : OrderS) : List Nat := [o.op, o.flight, o.action, o.id] ++ (natToBytes 4 o.t0).map (·.toNat)

/-- The payload of the frame that the device sends in its slot (Table 13.2). -/
def State.framePayload (s : State) : List Nat :=
  s.entBytes ++ s.flightBytes ++
    (if s.rdB (idxF Reg.idxStatMaster 0) then
      (match s.idx.orders with | (o, _) :: _ => o.bytes | [] => List.replicate 8 0)
        ++ (natToBytes 8 s.idx.edge).map (·.toNat)
    else match s.idx.ack with | some (id, f, r) => [id, f, r, 0, 0, 0, 0, 0] | none => List.replicate 8 0)

/-- The master's cycle count at the slot's edge, bits [7:0] (Table 13.1). -/
def State.cycleCount (s : State) : Nat := (((s.idx.edge : Int) + s.idx.tofs) / 1000 % 256).toNat

/-- A frame as sent: preamble, delimiter, header, payload, CRC (R359). -/
def State.frame (s : State) : List Nat :=
  let p := s.framePayload
  let body := [(if s.rdB (idxF Reg.idxStatMaster 0) then 1 else 2) + 16 * s.idxAddr, p.length, s.idx.fcnt, s.cycleCount] ++ p
  let c := crc16 body
  [0x55, 0x55, 0xD5] ++ body ++ [c / 256, c % 256]

/-- ADDRCONF (R370): the device sends no more. -/
def State.addrConf (s : State) : State :=
  if s.rdB (idxF Reg.idxStatAddrconf 0) then s
  else ((s.wr (idxF Reg.idxStatAddrconf 0) 1).raise 774).token (784 + s.idxAddr) 0x03 0

/-- Every peer is a millisecond older. -/
def State.agePeers (s : State) : State := (List.range 16).foldl (fun t a => t.inc (idxF Reg.idxPeerAge a)) s

/-- IDDEX_SLOT (R358, R361, R370): the frame of the own slot; an order goes in two frames. -/
def execIddexSlot (wrong : Bool) (s : State) : Res :=
  if !s.idxUp then .next s
  else
    let a := s.agePeers
    if a.rdB (idxF Reg.idxStatAddrconf 0) then .next a
    else
      let b := ((a.emit (.iddexFrame a.frame)).inc (idxF Reg.idxNfrmTx 0)).idxMod fun x =>
        { x with fcnt := (x.fcnt + 1) % 256,
                 orders := match x.orders with | (o, n + 2) :: r => (o, n + 1) :: r | _ :: r => r | [] => [],
                 wrong := if wrong then x.wrong + 1 else 0 }
      .next (if 2 ≤ b.idx.wrong then b.addrConf else b)

/-! ### Remote states (R366 to R369, R371) -/

/-- What follows a change of remote states: a remote parent that was GOOD and is DOWN or BAD takes its dependants down, and
children that wait for a remote parent are looked at again (R366). -/
def State.remoteFollow (old s : State) : State :=
  if !s.hasMaster then s
  else
    let fell := s.edges.filter fun x =>
      match x.remote with
      | some a => old.remoteCode a x.parent == 2 && (s.remoteCode a x.parent == 0 || s.remoteCode a x.parent == 3)
      | none => false
    let kids := (fell.map (·.child)).eraseDups
    let all := kids ++ dependants s.edges kids
    let a := if all.isEmpty then s else ((s.dropEnts all).settleDrops all).flCheckAll
    let b := (List.range 8).foldl (fun t f =>
      if t.flState f = 1 ∨ t.flState f = 3 ∨ t.flState f = 5 then
        (((t.flx f).treads.filter fun x => x.at_ == 5).map (·.ent)).foldl (State.slotEnt f) t
      else t) a
    old.follow b.flCheckAll

/-- The remote states of peer `a` as its payload's first 48 bytes give them, no longer forced BAD. -/
def State.takeStates (s : State) (a : Nat) (p : List Nat) : State :=
  (List.range 12).foldl (fun t w => t.wr (idxF Reg.idxRemW (12 * a + w)) (sumN ((List.range 4).map fun j => nth p (4 * w + j) * 256 ^ j)))
    (s.wr (idxF Reg.idxPeerBaded a) 0)

/-- The peer is present (R367): its marks, its regain, and its states; on a slave that has lost the master every remote state
keeps its value until the master is heard again (R30, R368). -/
def State.peerHeard (s : State) (a : Nat) (p : List Nat) : State :=
  let was := s.rdB (idxF Reg.idxPeerLost a)
  let first := !s.rdB (idxF Reg.idxPeerHeard a)
  let b := ((((s.inc (idxF Reg.idxNfrmRx 0)).wr (idxF Reg.idxPeerAge a) 0).wr (idxF Reg.idxPeerHeard a) 1).wr
    (idxF Reg.idxPeerLost a) 0).wrBit (idxF Reg.idxPresHeard 0) a true
  let c := b.wrBit (idxF Reg.idxPresLost 0) a false
  let d := if a = 0 ∨ s.hasMaster then c.takeStates a p else c
  let e := if was then (d.raise 771).raise (784 + a) else d
  if a = 0 ∧ first then (e.wr (idxF Reg.idxStatMheard 0) 1).raise 768 else e

/-! ### Orders (R361 to R365) -/

/-- The slave's answer to its latest order (R363). -/
def State.ackOrder (s : State) (id f result : Nat) : State :=
  (s.idxMod fun x => { x with ack := some (id, f, result) }).wr (idxF Reg.idxOrdResult 0) result

/-- The common start of an order as a local count (R363). -/
def State.orderT0 (s : State) (t0 : Nat) : Nat := (((t0 : Int) - s.idx.tofs) % 2 ^ 32).toNat

/-- A RUN order that cannot be carried out (R363, R323, R324, R328, R329; log entry 57). -/
def State.orderRefused (s : State) (f action : Nat) : Bool :=
  2 < action || s.mode == .bench || !(s.sharing f).isEmpty || (s.included f).any (s.treadBad f) || s.depsBad f

/-- A slave carries out an order of the master (R363, R364). -/
def State.carryOrder (s : State) (op f action id t0 : Nat) : State :=
  let loc := s.orderT0 t0
  let act := if op = 1 then action else if op = 2 then 3 else if op = 3 then 4 else 0
  let note (t : State) : State := t.flRecord f 775 1 act op id loc
  if !s.fansIn f || 7 < f then s.ackOrder id f 4
  else if op = 1 then
    if s.orderRefused f action then s.ackOrder id f 4
    else
      let down := if action = 0 then s.effB (flF Reg.flCfgDir f) else action == 2
      let a := if s.eff (flF Reg.flCfgRet f) = 3 then s.condCease f else s
      note (((a.ackOrder id f 1).flRun f down false true none loc))
  else if op = 2 then
    if s.flState f = 3 then note (((s.ackOrder id f 1).flMod f fun x => { x with order := true }).flContinue f)
    else s.ackOrder id f 4
  else if op = 3 then
    let a := if s.eff (flF Reg.flCfgRet f) = 3 then s.condCease f else s
    note ((a.flStop f).ackOrder id f 2)
  else if op = 4 then
    let last := match s.idx.ack with | some (_, g, r) => if g = f then r else 2 | none => 2
    let a := s.ackOrder id f (if s.flState f = 0 then last else 1)
    note (if s.eff (flF Reg.flCfgRet f) = 3 then a.condTaken f else a)
  else s.ackOrder id f 4

/-- An order in the master's frame: acted on once for each identity (R361). -/
def State.takeOrder (s : State) (p : List Nat) : State :=
  let op := nth p 48
  let id := nth p 51
  if op = 0 ∨ s.idx.acted = some id then s
  else
    let t0 := nth p 52 + 256 * nth p 53 + 65536 * nth p 54 + 16777216 * nth p 55
    let a := ((((s.idxMod fun x => { x with acted := some id }).wr (idxF Reg.idxOrdId 0) id).wr (idxF Reg.idxOrdFlight 0) (nth p 49)).wr
      (idxF Reg.idxOrdOp 0) op).raise 775
    a.carryOrder op (nth p 49) (nth p 50) id t0

/-- The link offset from the master's count at the edge of this cycle (R355). -/
def State.takeTime (s : State) (p : List Nat) : State :=
  if s.idx.edged then
    s.idxMod fun x => { x with tofs := (sumN ((List.range 8).map fun j => nth p (56 + j) * 256 ^ j) : Nat) - (x.edge : Int),
                               edged := false }
  else s

/-- MASTER_FRAME (R355, R361 to R363, R367, R370): a valid frame of address 0. -/
def execMasterFrame (payload : List Byte) (s : State) : Res :=
  let p := payload.map (·.toNat)
  if !s.idxUp || p.length != 64 then .next s
  else if s.rdB (idxF Reg.idxStatMaster 0) then .next s.addrConf
  else if s.retired 6 0 then .next s
  else
    let a := (s.peerHeard 0 p).takeTime p
    .next (State.remoteFollow s (a.takeOrder p))

/-- The acknowledgement of a slave counts toward the run that its order started (R363, R365). -/
def State.takeAck (s : State) (a id f result : Nat) : State :=
  let x := s.flx f
  match x.slaves.find? fun p => p.1 == a with
  | some (_, r) =>
    let put (t : State) (v : Nat) : State :=
      t.flMod f fun y => { y with slaves := y.slaves.map fun p => if p.1 = a then (a, v) else p }
    if 7 < f ∨ id ≠ x.ordId ∨ result = 0 ∨ result = r then s
    else if r = 8 then s
    else if r = 6 then (put s 8).late 777
    else
      let b := put s result
      let c := if result = 4 then (b.raise 776).token 776 0x01 0 else b
      let worst := ((c.flx f).slaves.map fun p => if p.2 ≤ 5 then p.2 else 0).foldl max 0
      (if id = c.rd (idxF Reg.idxOrdId 0) then c.wr (idxF Reg.idxOrdResult 0) worst else c).flCommandDone f
  | none => s

/-- SLAVE_FRAME (R363, R365 to R367, R370): a valid frame of another address. -/
def execSlaveFrame (src : BitVec 4) (payload : List Byte) (s : State) : Res :=
  let p := payload.map (·.toNat)
  let a := src.toNat
  if !s.idxUp || p.length != 56 || a = 0 then .next s
  else if a = s.idxAddr then .next s.addrConf
  else if s.retired 6 a then .next s
  else
    let b := s.peerHeard a p
    let c := if b.rdB (idxF Reg.idxStatMaster 0) then b.takeAck a (nth p 48) (nth p 49) (nth p 50) else b
    .next (State.remoteFollow s c)

/-- A received frame, header to CRC, is bad in the slot of address `slot` (R359): its CRC fails, its TYPE is reserved or its LEN
disagrees with it, or its SRC does not own the slot. -/
def idxFrameBad (slot : Nat) (frame : List Nat) : Bool :=
  let body := frame.take (frame.length - 2)
  let c := crc16 body
  frame.drop (frame.length - 2) != [c / 256, c % 256]
    || !(nth frame 0 % 16 == 1 && nth frame 1 == 64 || nth frame 0 % 16 == 2 && nth frame 1 == 56)
    || nth frame 1 + 4 != body.length || nth frame 0 / 16 != slot

/-- IDDEX_FRAME_DISCARDED (R359): a frame as received in the slot of an address; a bad one is counted. -/
def execIddexFrameDiscarded (s : State) (slot : BitVec 4 := 0) (frame : List Byte := []) : Res :=
  .next (if s.idxUp && idxFrameBad slot.toNat (frame.map (·.toNat)) then s.inc (idxF Reg.idxNerrCrc 0) else s)

/-- ORDER_ACK_DEADLINE (R365): t0 − 1 ms; a slave that has not accepted is missed. -/
def execOrderAckDeadline (f : BitVec 3) (s : State) : Res :=
  if s.idxUp && s.idxMaster then
    .next ((s.flMod f.toNat fun x => { x with slaves := x.slaves.map fun p => if p.2 = 0 then (p.1, 6) else p }).flCommandDone
      f.toNat)
  else .next s

/-! ### Loss (R367 to R369) -/

/-- A slave loses the master (R345, R368): its order flights are HELD, and RETURN conditions cease. -/
def State.masterLost (s : State) : State :=
  let a := (s.wr (idxF Reg.idxStatMheard 0) 0).raise 769
  let b := (List.range 8).foldl (fun t f =>
    if (t.flx f).order && (t.flState f == 1 || t.flState f == 2 || t.flState f == 3 || t.flState f == 5) then
      ((t.flStamp f).wr (flF Reg.flStatState f) 6).flAck f 5
    else t) a
  ((b.retFlights 3 fun _ => true).foldl State.condCease b).gstat

/-- The loss of a peer on the master: it counts as lost in every run ordered to it (R365). -/
def State.slaveLost (s : State) (a : Nat) : State :=
  (List.range 8).foldl (fun t f =>
    if (t.flx f).slaves.any fun p => p.1 == a && p.2 != 6 && p.2 != 8 then
      (t.flMod f fun x => { x with slaves := x.slaves.map fun p => if p.1 = a then (a, 7) else p }).flCommandDone f
    else t) s

/-- PEER_LOST (R367): no valid frame for 50 ms. -/
def execPeerLost (a : BitVec 4) (late : Bool) (s : State) : Res :=
  let n := a.toNat
  if s.idxUp && n != s.idxAddr && !s.retired 6 n && !s.rdB (idxF Reg.idxPeerLost n)
      && (s.rdB (idxF Reg.idxPeerHeard n) || bitOf (s.eff (idxF Reg.idxPeersExpect 0)) n) then
    let b := (((s.wr (idxF Reg.idxPeerLost n) 1).wr (idxF Reg.idxPeerHeard n) 0).wrBit (idxF Reg.idxPresHeard 0) n false).wrBit
      (idxF Reg.idxPresLost 0) n true
    let c := ((b.raise 770).raise (784 + n)).token (784 + n) 0x01 0
    let d := if n = 0 then c.masterLost else c.slaveLost n
    .next (if late then d.late (784 + n) else d)
  else .next s

/-- PGRACE_END (R369): the states of a lost peer become BAD. -/
def execPgraceEnd (a : BitVec 4) (s : State) : Res :=
  let n := a.toNat
  if s.idxUp && s.hasMaster && s.rdB (idxF Reg.idxPeerLost n) && !s.rdB (idxF Reg.idxPeerBaded n) then
    .next (State.remoteFollow s ((s.wr (idxF Reg.idxPeerBaded n) 1).raise (784 + n)))
  else .next s

end Sys2Proof.Machine
end

