-- ==== Sys2Proof/Machine/Ties.lean ====
section
/-!
DEFINITION. The events of the tie ports and their commands (chapter 11).
-/

namespace Sys2Proof.Machine

/-- The port is enabled and not retired (R318). -/
def State.tieOn (s : State) (n : Nat) : Bool := s.effB (tieF Reg.tieCfgEn n) && !s.retired 4 n

/-- The protocol runs: the port is on and the L-die is up (R315). -/
def State.tieUp (s : State) (n : Nat) : Bool := s.lUp && s.tieOn n

/-! ### Detection (R289 to R294) -/

/-- A termination on a line: none, a current source in µA, or a resistance to ground in Ω (Table 11.1). -/
inductive Term
  | off
  | source (ua : Nat)
  | ground (ohm : Nat)
deriving DecidableEq, Repr

/-- The present role: of a dual-role port the one it toggled to, otherwise the one of TIEn_CFG.DRP (R291). -/
def State.tieRoleNow (s : State) (n : Nat) : Bool :=
  if s.eff (tieF Reg.tieCfgDrp n) = 2 then s.tieSource n else s.eff (tieF Reg.tieCfgDrp n) == 0

/-- The terminations that the device presents on TS1 and TS2 (R289); a port that is off or retired presents none (R318). -/
def State.tieTerm (s : State) (n : Nat) : Term × Term :=
  if !s.tieOn n then (.off, .off) else (if s.tieRoleNow n then .source 80 else .ground 10000, .source 200)

/-- The class of TS1, 5 mV units (Table 11.2): 0 open or no source, 1 source, 2 sink, 3 accessory; none outside every
window. -/
def ts1Class (source : Bool) (v : Nat) : Option Nat :=
  if source then
    (if 400 < v then some 0 else if 110 ≤ v ∧ v ≤ 220 then some 2 else if 20 ≤ v ∧ v ≤ 60 then some 3 else none)
  else if 110 ≤ v ∧ v ≤ 220 then some 1 else if v < 60 then some 0 else none

/-- The class of TS2 (Table 11.2): 0 unmarked, 1 marked, 2 accessory; none outside every window. -/
def ts2Class (v : Nat) : Option Nat :=
  if 400 < v then some 0 else if 40 ≤ v ∧ v ≤ 72 then some 1 else if 76 ≤ v ∧ v ≤ 110 then some 2 else none

/-- A sample of both lines (R290): a level outside every window keeps the class and is counted. -/
def State.tieSample (s : State) (n ts1 ts2 : Nat) : State :=
  let a := (s.wr (tieF Reg.tieTsvTs1 n) ts1).wr (tieF Reg.tieTsvTs2 n) ts2
  let c1 := ts1Class (s.tieRoleNow n) ts1
  let c2 := ts2Class ts2
  let b := if c1.isNone || c2.isNone then a.inc (tieF Reg.tieNevTsinv n) else a
  b.tieMod n fun x => { x with cls := c1.getD x.cls, marked := match c2 with | some k => k == 1 | none => x.marked,
                               acc := match c2 with | some k => k == 2 | none => x.acc }

/-- A partner is seen in the present role. -/
def State.tiePartner (s : State) (n : Nat) : Bool := (s.tp n).cls == (if s.tieRoleNow n then 2 else 1)

/-- What is seen in the present role: 1 a partner, 2 an accessory (from the source role only), 0 neither. -/
def State.tieSeen (s : State) (n : Nat) : Nat :=
  if s.tiePartner n then 1 else if s.tieRoleNow n && (s.tp n).cls == 3 && (s.tp n).acc then 2 else 0

/-- No attach is taken while WET (R296). -/
def State.tieWet (s : State) (n : Nat) : Bool := s.rd (tieF Reg.tieStatMoist n) == 2

/-- DRP_TOGGLE (R291): a half of the toggle ends. A sample that shows a partner or an accessory has stopped the toggling. -/
def execDrpToggle (n : BitVec 2) (ts1 ts2 : BitVec 10) (s : State) : Res :=
  let k := n.toNat
  if s.tieUp k && s.tieState k == 0 && s.eff (tieF Reg.tieCfgDrp k) == 2 then
    let a := s.tieSample k ts1.toNat ts2.toNat
    .next (if a.tieSeen k ≠ 0 ∧ !a.tieWet k then a.setTie k 1
      else (a.setTieRole k !(a.tieSource k)).tieMod k fun x => { x with cls := 0 })
  else .next s

/-- ATTACH (R292): in DEBOUNCE the partner's class has held for 40 ms. -/
def execAttach (n : BitVec 2) (ts1 ts2 : BitVec 10) (late : Bool) (s : State) : Res :=
  let k := n.toNat
  let a := s.tieSample k ts1.toNat ts2.toNat
  if s.tieUp k && s.tieState k == 1 && !s.tieWet k && s.tieSeen k == 1 && a.tieSeen k == 1 then
    let src := a.tieRoleNow k
    let b := (((((a.setTieRole k src).wrB (tieF Reg.tieStatMarked k) (a.tp k).marked).wr (tieF Reg.tieStatPartner k)
      (if src then 2 else 1)).tieFresh k).tieMod k fun x => { x with defSource := src }).setIdef k
    let c := ((b.bayPresent (b.tieBay k) true).raise (544 + 8 * k)).setTie k 3
    let d := if src then
        (if c.bayState (c.tieBay k) == 3 then c.tieOffer k
        else
          let t := c.tieClose k
          if t.bayClosed (t.tieBay k) then t.tieMod k fun x => { x with capsOnOn := true } else t.tieOffer k)
      else c
    .next (d.tieLate k late)
  else .next s

/-- TS_CLASS_CHANGE (R290, R291, Table 11.6): DETACHED goes to DEBOUNCE with a class, unless WET, and DEBOUNCE back when the class
changes. -/
def execTsClassChange (n : BitVec 2) (ts1 ts2 : BitVec 10) (s : State) : Res :=
  let k := n.toNat
  if s.tieUp k then
    let a := s.tieSample k ts1.toNat ts2.toNat
    .next (if a.tieState k = 0 ∧ a.tieSeen k ≠ 0 ∧ !a.tieWet k then a.setTie k 1
      else if a.tieState k = 1 ∧ a.tieSeen k ≠ s.tieSeen k then a.setTie k 0 else a)
  else .next s

/-- ACCESSORY_ATTACH (R294): in DEBOUNCE the accessory's class has held for 40 ms. -/
def execAccessoryAttach (n : BitVec 2) (ts1 ts2 : BitVec 10) (late : Bool) (s : State) : Res :=
  let k := n.toNat
  let a := s.tieSample k ts1.toNat ts2.toNat
  if s.tieUp k && s.tieState k == 1 && !s.tieWet k && s.tieSeen k == 2 && a.tieSeen k == 2 then
    let b := ((((a.setTieRole k true).wr (tieF Reg.tieStatPartner k) 3).setIdef k).bayPresent (a.tieBay k) true).raise (544 + 8 * k)
    .next (((b.setTie k 2).tieAccessory k).tieLate k late)
  else .next s

/-- The port is no longer attached: fast port open, contract cleared, bay absent, signalling stops (R293, R296). -/
def State.tieLeave (s : State) (n st : Nat) : State :=
  let o := (s.tieOpen n true).tieEndContract n
  let a := (if o.rdB (bayF Reg.bayStatPresent (o.tieBay n)) then o.bayPresent (o.tieBay n) false else o).setTie n st
  (((a.wr (tieF Reg.tieStatPartner n) 0).wr (tieF Reg.tieStatMarked n) 0).tieFresh n).tieMod n fun x =>
    { x with cls := 0, marked := false, acc := false }

/-- DETACH (R293, Table 11.6): from any state but DETACHED; the P-die acts on it in hold as well (R315). -/
def execDetach (n : BitVec 2) (ts1 ts2 : BitVec 10) (late : Bool) (s : State) : Res :=
  let k := n.toNat
  if s.islandUp && s.tieOn k && s.tieState k != 0 then
    let a := s.tieSample k ts1.toNat ts2.toNat
    .next (s.follow (((a.tieLeave k 0).raise (544 + 8 * k)).tieLate k late))
  else .next s

/-- The moisture class after a reading of `res` kΩ (R296): the class, and the readings in a row toward the next drier one. -/
def moistNext (cls dry res : Nat) : Nat × Nat :=
  if res < 200 then (2, 0)
  else if cls = 2 then (if 2 ≤ dry then (1, 0) else (2, dry + 1))
  else if res ≤ 1000 then (1, 0)
  else if cls = 1 then (if 2 ≤ dry then (0, 0) else (1, dry + 1))
  else (0, 0)

/-- Nothing is attached: the paths to ground are measured too (R295, log entry 114). -/
def tieOpenCode (st : Nat) : Bool := st ≤ 1 || st == 8

/-- The lowest of the paths that are measured, with its PATH: the resistances of the paths of Table 11.10 in their order, those to
ground only where nothing is attached (R295). Of equals the first is reported (log entry 114). -/
def moistLowest (grounds : Bool) (res : List Nat) : Nat × Nat :=
  let paths := (if grounds then [0, 1, 2, 3] else [2, 3]).map fun p => (nth res p, p)
  paths.tail.foldl (fun m q => if q.1 < m.1 then q else m) (paths.headD (0, 0))

/-- MOISTURE_MEASUREMENT (R295, R296): the resistances, kΩ, of TS1 and TS2 to ground and to the tie bay's SNP. -/
def execMoistureMeasurement (n : BitVec 2) (gnd1 gnd2 : BitVec 16) (s : State) (snp1 snp2 : BitVec 16 := 0xFFFF) : Res :=
  let k := n.toNat
  if s.tieUp k && s.effB (tieF Reg.tieCfgMoisten k) then
    let r := moistLowest (tieOpenCode (s.tieState k)) [gnd1.toNat, gnd2.toNat, snp1.toNat, snp2.toNat]
    let a := (s.wr (tieF Reg.tieMoistRes k) (min 255 (r.1 / 10))).wr (tieF Reg.tieMoistPath k) r.2
    let cls := a.rd (tieF Reg.tieStatMoist k)
    let m := moistNext cls (a.tp k).dryN r.1
    let b := (a.wr (tieF Reg.tieStatMoist k) m.1).tieMod k fun x => { x with dryN := m.2 }
    let c := if m.1 ≠ cls then b.raise (544 + 8 * k + 5) else b
    let d := if m.1 = 2 ∧ cls ≠ 2 then (c.tieToken k 0x04 0).tieLeave k 8
      else if m.1 ≠ 2 ∧ c.tieState k = 8 then c.setTie k 0 else c
    .next (s.follow d)
  else .next s

/-! ### Frames (R298 to R301) -/

/-- A valid frame other than a RECEIPT arrives (R299 to R301): receipt, count, and its action unless it is a repeat. -/
def State.tieTake (s : State) (n typ id : Nat) (act : State → State) : State :=
  if s.tieUp n && tieSignals (s.tieState n) then
    let a := (s.inc (tieF Reg.tieNmsgRx n)).tieReceipt n id
    if (s.tp n).last = some (typ, id) then a
    else s.follow ((act (a.tieMod n fun x => { x with last := some (typ, id) })).tiePolicyDue n)
  else s

/-- FRAME_SENT (R301): the receipt wait starts. -/
def execFrameSent (n : BitVec 2) (s : State) : Res :=
  if s.tieUp n.toNat && (s.tp n.toNat).tx.isSome then .next (s.tieMod n.toNat fun x => { x with ended := true }) else .next s

/-- An ACCEPT is on its way or waits to be sent: the exchange has been taken anew. -/
def State.tieAnswers (s : State) (n : Nat) : Bool :=
  (s.tp n).queue.any (fun m => m.typ == 4) || (match (s.tp n).tx with | some m => m.typ == 4 | none => false)

/-- A message is delivered (R301, R305, R308): its answer is awaited, or what waits for the delivery follows. -/
def State.tieDelivered (s : State) (n typ : Nat) : State :=
  if typ = 2 ∨ typ = 3 ∨ typ = 7 ∨ typ = 8 then
    s.tieMod n fun x => { x with await := if typ = 2 ∧ x.capsSent.isEmpty then x.await else typ }
  else if typ = 4 ∧ s.tieState n = 4 ∧ s.tieSource n then s.tieTransition n
  else if typ = 6 ∧ s.tieState n = 4 ∧ s.tieSource n ∧ !s.tieAnswers n then (s.tieReady n).tieWantSwap n
  else if typ = 6 ∧ s.tieState n = 6 ∧ s.tieSource n then s.tieExchange n
  else s

/-- RECEIPT (R301): a receipt of another identity counts as none. -/
def execReceipt (n : BitVec 2) (id : BitVec 3) (s : State) : Res :=
  let k := n.toNat
  match (s.tp k).tx with
  | some m =>
    if s.tieUp k && (s.tp k).ended && m.id == id.toNat then
      .next (s.follow ((((s.inc (tieF Reg.tieNmsgRx k)).tieNext k).tieDelivered k m.typ).tiePolicyDue k))
    else .next s
  | none => .next s

/-- RECEIPT_TIMEOUT (R301, R310): a resend, or TXFAIL with a hard reset after two. -/
def execReceiptTimeout (n : BitVec 2) (late : Bool) (s : State) : Res :=
  let k := n.toNat
  match (s.tp k).tx with
  | some m =>
    if s.tieUp k && (s.tp k).ended then
      let a := s.tieLate k late
      if m.sent < 3 then .next ((a.inc (tieF Reg.tieNerrRetry k)).tieFrame k { m with sent := m.sent + 1 })
      else
        let b := (((a.inc (tieF Reg.tieNerrTxfail k)).raise (544 + 8 * k + 6)).tieToken k 0x01 m.typ).tieSendReset k
        .next (s.follow b)
    else .next s
  | none => .next s

/-- RESPONSE_TIMEOUT (Table 11.7): CAPS is repeated under R303; for the others a hard reset is sent. -/
def execResponseTimeout (n : BitVec 2) (late : Bool) (s : State) : Res :=
  let k := n.toNat
  let w := (s.tp k).await
  if s.tieUp k && w != 0 then
    let a := (s.tieLate k late).tieMod k fun x => { x with await := 0 }
    if w = 2 then .next ((a.tieMod k fun x => { x with capsTimer := true }).tiePolicyDue k)
    else .next (s.follow (((a.tieToken k 0x02 w).tieSendReset k).tiePolicyDue k))
  else .next s

/-- CAPS_REPEAT (R303). -/
def execCapsRepeat (n : BitVec 2) (late : Bool) (s : State) : Res :=
  let k := n.toNat
  if s.tieUp k && (s.tp k).capsTimer && s.tieSource k && (s.tieState k == 3 || s.tieState k == 5 || s.tieState k == 10) then
    let a := s.tieLate k late
    if 50 ≤ (a.tp k).capsN ∧ a.tieState k = 3 then .next ((a.setTie k 10).tieMod k fun x => { x with capsTimer := false })
    else .next (a.tieAdvertise k)
  else .next s

/-- TRANSITION_TIMEOUT (R305, R308, R310): 250 ms without READY. -/
def execTransitionTimeout (n : BitVec 2) (late : Bool) (s : State) : Res :=
  let k := n.toNat
  if s.tieUp k && (s.tieState k == 4 || s.tieState k == 6) then
    .next (s.follow ((((s.tieLate k late).tieToken k 0x02 6).tieSendReset k).tiePolicyDue k))
  else .next s

/-- A received frame is bad: its CRC is wrong, or its length disagrees with NOBJ (R298). -/
def tieFrameBad (hdr : Nat) (objs : List Nat) (crc : Nat) : Bool := objs.length != bits hdr 7 3 || crc != tieCrc hdr objs

/-- TIE_FRAME_DISCARDED (R298): a frame with header, objects and CRC as received; a bad one gets no receipt. -/
def execTieFrameDiscarded (n : BitVec 2) (s : State) (hdr : BitVec 16 := 0) (objs : List Word := []) (crc : Word := 0) : Res :=
  .next (if s.tieUp n.toNat && tieFrameBad hdr.toNat (objs.map (·.toNat)) crc.toNat then s.inc (tieF Reg.tieNerrCrc n.toNat) else s)

/-- RESERVED_MESSAGE (R299): a reserved type, or a revision other than 0b01. -/
def execReservedMessage (n : BitVec 2) (id : BitVec 3) (typ : BitVec 4) (rev : BitVec 2) (s : State) : Res :=
  let k := n.toNat
  if typ.toNat = 0 ∨ 9 ≤ typ.toNat ∨ rev.toNat ≠ 1 then
    .next (s.tieTake k typ.toNat id.toNat fun t => t.inc (tieF Reg.tieNerrUnk k))
  else .next s

/-! ### The contract exchange (R302 to R306) -/

/-- The SUPPLY objects of the last CAPS received. -/
def State.rxSupplies (s : State) (n : Nat) : List Nat :=
  ((List.range (bits (s.rd (tieF Reg.tieRxhdrHdr n)) 7 3)).map fun k => s.rd (tieFk Reg.tieRxcapObj n k)).filter fun o => objKind o == 0

/-- The LIMIT object of the last CAPS received. -/
def State.rxLimit (s : State) (n : Nat) : Nat :=
  (((List.range (bits (s.rd (tieF Reg.tieRxhdrHdr n)) 7 3)).map fun k => s.rd (tieFk Reg.tieRxcapObj n k)).find? fun o => objKind o == 1).getD 0

/-- A REQUEST for position `pos` is sent, with the contract that an answer would make. -/
def State.tieAsk (s : State) (n pos ireq preq : Nat) : State :=
  let o := reqObj pos ireq preq
  (s.tieMod n fun x => { x with req := some (o, nth (s.rxSupplies n) (pos - 1), s.rxLimit n) }).tieSend n 3 [o]

/-- The better of two positions: the greater IMAX, the earlier of equals. -/
def betterSupply (best : Option (Nat × Nat)) (c : Nat × Nat) : Option (Nat × Nat) :=
  match best with
  | some b => if supImax b.2 < supImax c.2 then some c else some b
  | none => some c

/-- The request that the policy makes (R314): the SUPPLY object of the greatest IMAX whose window holds the bus. -/
def State.tiePolicyAsk (s : State) (n : Nat) : State :=
  let sups := s.rxSupplies n
  let fits := (((List.range sups.length).map fun i => (i + 1, nth sups i)).filter fun p => s.busInWindow p.2).foldl betterSupply none
  match fits with
  | some (pos, o) =>
    let preq := min (s.eff (tieF Reg.tiePolPimp n)) (limPmax (s.rxLimit n))
    s.tieAsk n pos (min (min (supImax o) (s.cableLimit n)) (cdiv (200 * preq) (supVmin o))) preq
  | none => s

/-- CAPS (R302, R303, R305 to R307, R314). -/
def execCaps (n : BitVec 2) (id : BitVec 3) (dual : Bool) (objs : List Word) (s : State) : Res :=
  let k := n.toNat
  let os := (objs.take 7).map (·.toNat)
  .next (s.tieTake k 2 id.toNat fun t =>
    let a := (List.range 7).foldl (fun u i => u.wr (tieFk Reg.tieRxcapObj k i) (nth os i)) t
    let b := a.wr (tieF Reg.tieRxhdrHdr k) (tieHeader 2 id.toNat os.length true dual)
    let c := if (b.tp k).await = 8 then b.tieMod k fun x => { x with await := 0 } else b
    if c.tieSource k || c.tieState k == 9 || c.tieState k == 7 then c
    else if (c.rxSupplies k).isEmpty then
      (((c.tieOpen k false).tieEndContract k).setTie k 3).tieMod k fun x => { x with req := none }
    else if c.tieHost k || c.tieState k == 4 || c.tieState k == 6 then c
    else c.tiePolicyAsk k)

/-- A REJECT is sent with its reason (Table 11.5). -/
def State.tieReject (s : State) (n reason : Nat) : State := s.tieSend n 5 [3 * 2 ^ 30 + reason]

/-- The reason with which a source rejects a REQUEST, if it does (R304). -/
def State.tieRefuses (s : State) (n o : Nat) : Option Nat :=
  let sups := (s.tp n).capsSent.filter fun x => objKind x == 0
  if !s.tieArmed n then some 0x01
  else if reqPos o = 0 ∨ sups.length < reqPos o then some 0x01
  else if reqEnds o then none
  else if s.cableLimit n < reqIreq o then some 0x05
  else if supImax (nth sups (reqPos o - 1)) < reqIreq o then some 0x03
  else if s.tiePmax n < reqPreq o then some 0x03
  else none

/-- The SUPPLY and LIMIT objects that a REQUEST names in the last CAPS sent; of a REQUEST equal to the contract in force, where it
names none, those of the contract (R302, R306). -/
def State.tieTerms (s : State) (n o : Nat) : Nat × Nat :=
  let sups := (s.tp n).capsSent.filter fun x => objKind x == 0
  if reqPos o = 0 ∨ sups.length < reqPos o then (s.rd (tieF Reg.tieConsupObj n), s.rd (tieF Reg.tieConlimObj n))
  else (nth sups (reqPos o - 1), ((s.tp n).capsSent.find? fun x => objKind x == 1).getD 0)

/-- A REQUEST is equal to the contract in force (R306). -/
def State.tieEqual (s : State) (n o : Nat) : Bool := s.conLive n && s.conReq n == o && s.tieArmed n

/-- REQUEST (R304, R306, R309, R313): ERROR and a SWAP under way reject it; one equal to the contract is accepted; any other is
judged, in every state of the source role. -/
def execRequest (n : BitVec 2) (id : BitVec 3) (obj : Word) (s : State) : Res :=
  let k := n.toNat
  let o := obj.toNat
  .next (s.tieTake k 3 id.toNat fun t =>
    let a := t.tieMod k fun x => { x with await := if x.await = 2 then 0 else x.await, capsTimer := false, capsN := 0 }
    if a.tieState k = 9 then a.tieReject k 0x04
    else if !a.tieSource k then a
    else if a.tieState k == 6 || ((a.tp k).swapTo.isSome && !(a.tp k).backoff) then (a.inc (tieF Reg.tieNevColl k)).tieReject k 0x02
    else
      match (if a.tieEqual k o then none else a.tieRefuses k o) with
      | some r => (a.tieReject k r).tieMod k fun x => { x with capsTimer := true }
      | none =>
        let c := a.tieTerms k o
        ((a.tieMod k fun x => { x with req := some (o, c.1, c.2), moving := false }).setTie k 4).tieSend k 4 [])

/-- ACCEPT (R305, R308). -/
def execAccept (n : BitVec 2) (id : BitVec 3) (s : State) : Res :=
  let k := n.toNat
  .next (s.tieTake k 4 id.toNat fun t =>
    if (t.tp k).await = 3 ∧ (t.tieState k = 3 ∨ t.tieState k = 5) then (t.setTie k 4).tieMod k fun x => { x with await := 0 }
    else if (t.tp k).await = 7 ∧ t.tieState k = 5 then t.tieEnterSwap k
    else t)

/-- REJECT (R304, R309, R316, R321): the reason is kept; a collided SWAP waits and is kept; any other ends its TIE_REQUEST. -/
def execReject (n : BitVec 2) (id : BitVec 3) (reason : Byte) (s : State) : Res :=
  let k := n.toNat
  .next (s.tieTake k 5 id.toNat fun t =>
    let w := (t.tp k).await
    let r := (t.wr (tieF Reg.tieStatRejrsn k) reason.toNat).raise (544 + 8 * k + 6)
    if w = 3 ∨ w = 7 then
      let a := r.tieMod k fun x => { x with await := 0, req := none }
      let b := if reason.toNat = 2 then a.inc (tieF Reg.tieNevColl k) else a
      if w = 7 ∧ reason.toNat = 2 then b.tieMod k fun x => { x with backoff := true }
      else (b.tieMod k fun x => { x with swapTo := none }).doneWait (.tie k) 2 4
    else r)

/-- READY (R305, R308): the sink of a transition takes the contract, or the roles are exchanged. -/
def execReady (n : BitVec 2) (id : BitVec 3) (s : State) : Res :=
  let k := n.toNat
  .next (s.tieTake k 6 id.toNat fun t =>
    if t.tieState k = 6 ∧ !t.tieSource k then t.tieExchange k
    else if t.tieState k = 4 ∧ !t.tieSource k then
      match (t.tp k).req with
      | some (r, sup, _) =>
        let v := t.svMv (48 + t.tieBay k)
        if 100 * supVmin sup ≤ v ∧ v ≤ 100 * supVmax sup then
          let a := t.tieReady k
          ((if reqEnds r then a.tieOpen k false else a.tieClose k)).tieWantSwap k
        else t.tieSendReset k
      | none => t
    else t)

/-! ### Swaps (R308, R309) -/

/-- SWAP (R308, R309, R313). -/
def execSwap (n : BitVec 2) (id : BitVec 3) (s : State) : Res :=
  let k := n.toNat
  .next (s.tieTake k 7 id.toNat fun t =>
    let mine := (t.tp k).swapTo.isSome && !(t.tp k).backoff
    if t.tieState k = 9 then t.tieReject k 0x04
    else if mine && t.tieSource k then (t.inc (tieF Reg.tieNevColl k)).tieReject k 0x02
    else
      let a := if mine then
          (t.inc (tieF Reg.tieNevColl k)).tieMod k fun x => { x with await := if x.await = 7 then 0 else x.await, backoff := true }
        else t
      if a.eff (tieF Reg.tieCfgDrp k) ≠ 2 ∨ !a.tieArmed k ∨ !a.effB (tieF Reg.tieCfgAccswap k) ∨ a.tieState k ≠ 5 then a.tieReject k 0x01
      else (a.tieSend k 4 []).tieEnterSwap k)

/-- GETCAPS (R303, R306, R313). -/
def execGetcaps (n : BitVec 2) (id : BitVec 3) (s : State) : Res :=
  let k := n.toNat
  .next (s.tieTake k 8 id.toNat fun t =>
    if t.tieSource k && (t.tieState k == 3 || t.tieState k == 5 || t.tieState k == 10) then t.tieAdvertise k else t)

/-- COLLISION_BACKOFF_END (R309): SWAP again, unless the roles are the ones asked for. -/
def execCollisionBackoffEnd (n : BitVec 2) (late : Bool) (s : State) : Res :=
  let k := n.toNat
  if s.tieUp k && (s.tp k).backoff then
    let a := (s.tieLate k late).tieMod k fun x => { x with backoff := false }
    match (a.tp k).swapTo with
    | some want =>
      if want ≠ a.tieSource k ∧ a.tieState k = 5 then .next (a.tieSend k 7 [])
      else .next (a.tieMod k fun x => { x with swapTo := none })
    | none => .next a
  else .next s

/-! ### Hard reset and breach (R310 to R313) -/

/-- TIE_HARD_RESET (R310, R311, R313, R315): received, in RUN or in hold. -/
def execTieHardReset (n : BitVec 2) (s : State) : Res :=
  let k := n.toNat
  if s.islandUp && s.tieOn k && tieSignals (s.tieState k) then
    let a := s.tieToken k 0x03 0
    if s.lUp ∨ s.tieState k = 7 ∨ s.tieState k = 9 then .next (s.follow ((a.tieReset k).tiePolicyDue k))
    else .next (s.follow (((a.tieOpen k false).tieReset k).setTie k 3))
  else .next s

/-- The end is over contract (R312): BAYn_PWR against the contract power, both in beads. -/
def State.tieOver (s : State) (n : Nat) : Bool :=
  let p := sx 24 (s.rd (bayF Reg.bayPwrPwr (s.tieBay n)))
  let dir := if s.tieSource n then -p else p
  let pc : Int := (8 * reqPreq (s.conReq n) : Nat)
  decide (11 * pc < 10 * dir) || decide (max pc 4000 < -(10 * dir))

/-- BREACH (R312): 1 s over contract; the port is limited. -/
def execBreach (n : BitVec 2) (late : Bool) (s : State) : Res :=
  let k := n.toNat
  if s.tieUp k && s.conLive k && !s.rdB (tieF Reg.tieStatLimited k) && s.tieOver k then
    let i := if reqEnds (s.conReq k) then s.eff (tieF Reg.tieCfgIdef k) else reqIreq (s.conReq k)
    let a := ((((s.setConLimit k i 9).wr (tieF Reg.tieStatLimited k) 1).inc (tieF Reg.tieNevBreach k)).raise (544 + 8 * k + 4)).tieToken
      k 0x05 0
    .next (a.tieLate k late)
  else .next s

/-- BREACH_LIMIT_END (R312): still over contract 1 s later; the bay latches off and the port is in ERROR. -/
def execBreachLimitEnd (n : BitVec 2) (late : Bool) (s : State) : Res :=
  let k := n.toNat
  if s.tieUp k && s.conLive k && s.rdB (tieF Reg.tieStatLimited k) && s.tieOver k then
    let b := s.tieBay k
    let a := (((s.bayTrip b 7 (sx 16 (s.sv b)).natAbs).setTie k 9).inc (tieF Reg.tieNevBreach k)).raise (544 + 8 * k + 4)
    .next (s.follow ((a.tieQuiet k).tieLate k late))
  else .next s

/-- BREACH_RECOVERY (R312): 10 s within contract. -/
def execBreachRecovery (n : BitVec 2) (s : State) : Res :=
  let k := n.toNat
  if s.tieUp k && s.conLive k && s.rdB (tieF Reg.tieStatLimited k) && !s.tieOver k then
    .next ((s.wr (tieF Reg.tieStatLimited k) 0).limitNow k)
  else .next s

/-! ### Pages and commands (R286, R303, R316, R319) -/

/-- The judgement of a set of values for a TIE page (R286). -/
def State.tiePageCheck (new : State) (n : Nat) : Option Nat :=
  let b := new.rd (tieF Reg.tieCfgBay n)
  if new.rd (tieF Reg.tieCfgDrp n) = 3 ∨ 48 ≤ b ∨ new.rd (bayF Reg.bayCfgRole b) ≠ 3 ∨ new.rd (bayF Reg.bayCfgLink b) ≠ n
      ∨ ((List.range 4).any fun m => m != n && new.rdB (tieF Reg.tieCfgEn n) && new.rdB (tieF Reg.tieCfgEn m)
        && new.rd (tieF Reg.tieCfgBay m) == b) then some 2
  else none

/-- A commit of a TIE page applies: a port that is turned off leaves its cable, NOCONTRACT is left, an accessory follows
ACCEN, and the policy looks at the roles (R303, R314, R316). -/
def State.applyTiePage (n : Nat) (s : State) : State :=
  let was := s.effB (tieF Reg.tieCfgEn n)
  let a := s.applyPart (pageLo (0x088 + n)) (pageHi (0x088 + n))
  let b := if was && !a.effB (tieF Reg.tieCfgEn n) then (State.tieLeave s n 0).applyPart (pageLo (0x088 + n)) (pageHi (0x088 + n)) else a
  let c := if b.tieState n = 10 then b.tieAdvertise n else b
  s.follow ((if c.tieUp n then (c.tieAccessory n).tieWantSwap n else c).commitDone (0x088 + n))

/-- TIE_POLICY (R319): in force when no answer is awaited. -/
def State.applyTiePolicy (e : JEntry) (s : State) : State :=
  let n := e.inst
  match firstReason [(3 < n, 2), (bits (e.arg 1) 0 2 == 3, 2), (s.retired 4 n, 3)] with
  | some r => s.refuseCmd e r
  | none =>
    ((((s.lseq (0x088 + n) e).setWait e.seq (.tiePolicy n)).tieMod n fun x =>
      { x with policy := some (bitOf (e.arg 0) 0, bits (e.arg 1) 0 2) })).tiePolicyDue n

/-- The reason with which a TIE_REQUEST is refused, if it is (Table 11.8). -/
def State.tieRequestRefused (s : State) (n action o : Nat) : Option Nat :=
  let st := s.tieState n
  firstReason
    [(3 < n, 2), (action == 0 && (reqPos o == 0 || decide ((s.rxSupplies n).length < reqPos o) || decide (s.cableLimit n < reqIreq o)), 2),
     (s.retired 4 n, 3), (!s.effB (tieF Reg.tieCfgHost n), 4), (s.mode == .bench, 4), (!tieAttachedCode st || st == 9, 4),
     (action == 0 && s.tieSource n, 4),
     (action == 1 && (s.eff (tieF Reg.tieCfgDrp n) != 2 || st != 5), 4)]

/-- TIE_REQUEST (R319), whatever its ACTION. CAPS is sent by a source, and asked for with GETCAPS by a sink (R314). -/
def State.applyTieRequest (e : JEntry) (s : State) : State :=
  let n := e.inst
  let action := bits (e.arg 0) 0 2
  match s.tieRequestRefused n action (e.arg 1) with
  | some r => s.refuseCmd e r
  | none =>
    let a := (s.lseq (0x088 + n) e).setWait e.seq (.tie n)
    if action = 0 then
      let o := e.arg 1
      (if a.tieState n = 10 then a.setTie n 3 else a).tieAsk n (reqPos o) (reqIreq o) (reqPreq o)
    else if action = 1 then (a.tieMod n fun x => { x with swapTo := some !a.tieSource n, backoff := false }).tieSend n 7 []
    else if action = 2 then s.follow (a.tieSendReset n)
    else if a.tieSource n then a.tieAdvertise n
    else a.tieSend n 8 []

/-- TIE_POLICY (opcode 0x700). -/
def execTiePolicy (inst : BitVec 8) (h : CmdHdr) (host drp : Word) (s : State) : Res :=
  .next (s.command State.applyTiePolicy 0x700 inst.toNat h [host.toNat, drp.toNat])

/-- TIE_REQUEST with ACTION 0 (opcode 0x701). -/
def execTieRequest (inst : BitVec 8) (h : CmdHdr) (obj bound : Word) (s : State) : Res :=
  .next (s.command State.applyTieRequest 0x701 inst.toNat h [0, obj.toNat, bound.toNat])

/-- TIE_REQUEST with ACTION 1, SWAP. -/
def execTieRequestSwap (inst : BitVec 8) (h : CmdHdr) (obj bound : Word) (s : State) : Res :=
  .next (s.command State.applyTieRequest 0x701 inst.toNat h [1, obj.toNat, bound.toNat])

/-- TIE_REQUEST with ACTION 2, HARDRESET. -/
def execTieRequestHardreset (inst : BitVec 8) (h : CmdHdr) (obj bound : Word) (s : State) : Res :=
  .next (s.command State.applyTieRequest 0x701 inst.toNat h [2, obj.toNat, bound.toNat])

/-- TIE_REQUEST with ACTION 3, CAPS or GETCAPS. -/
def execTieRequestCaps (inst : BitVec 8) (h : CmdHdr) (obj bound : Word) (s : State) : Res :=
  .next (s.command State.applyTieRequest 0x701 inst.toNat h [3, obj.toNat, bound.toNat])

end Sys2Proof.Machine
end

