-- ==== Sys2Proof/Machine/TwoWire.lean ====
section
/-!
DEFINITION. The events of the two-wire controller ports (chapter 14).
-/

namespace Sys2Proof.Machine

/-- The running transaction waits to be issued again, after t_BUF or after the winner's STOP (R387, R388). -/
def State.xactAgain (s : State) (n : Nat) (x : Xact) : State := s.twMod n fun t => { t with run := some { x with again := true } }

/-- TRANSACTION_END (R387): the result, or a retry of a NAK or PEC error. -/
def execTransactionEnd (n : BitVec 3) (result : BitVec 2) (data : List Byte) (bad : Bool) (s : State) : Res :=
  let k := n.toNat
  match (s.twp k).run with
  | some x =>
    if !s.lUp || x.again then .next s
    else if result.toNat ≠ 0 ∧ x.retries < s.eff (twcF Reg.twcCfgRetry k) then
      .next (s.xactAgain k { x with retries := x.retries + 1, losses := 0 })
    else .next (s.xactEnd k result.toNat (data.map (·.toNat)) bad)
  | none => .next s

/-- TRANSACTION_RETRY (R387, R388): the transaction is issued again, whole. -/
def execTransactionRetry (n : BitVec 3) (s : State) : Res :=
  match (s.twp n.toNat).run with
  | some x => if s.lUp && x.again then .next (s.xactStart n.toNat x) else .next s
  | none => .next s

/-- ARBITRATION_LOSS (R388): the eighth loss in a row fails the transaction. -/
def execArbitrationLoss (n : BitVec 3) (s : State) : Res :=
  let k := n.toNat
  match (s.twp k).run with
  | some x =>
    if !s.lUp || x.again then .next s
    else
      let a := s.inc (twcF Reg.twcNerrArblost k)
      if 7 ≤ x.losses then .next ((a.raise (808 + 5 * k + 1)).xactEnd k 4 [] false)
      else .next (a.xactAgain k { x with losses := x.losses + 1 })
  | none => .next s

/-- STRETCH (R389). -/
def execStretch (n : BitVec 3) (s : State) : Res :=
  match (s.twp n.toNat).run with
  | some x => if s.lUp && !x.again then .next ((s.inc (twcF Reg.twcNerrStretch n.toNat)).xactEnd n.toNat 5 [] false) else .next s
  | none => .next s

/-- HANG (R390, R391). -/
def execHang (n : BitVec 3) (sda scl late : Bool) (s : State) : Res :=
  let k := n.toNat
  if s.lUp && (s.twSt k == 1 || s.twSt k == 2) && (sda || scl) then
    let a := s.twHang k sda scl
    .next (s.follow (if late then a.late (808 + 5 * k + 2) else a))
  else .next s

/-- SEGMENT_RELEASE (R392). -/
def execSegmentRelease (n : BitVec 3) (s : State) : Res :=
  if s.lUp && (s.twSt n.toNat == 3 || s.twSt n.toNat == 4) then .next (s.follow (s.twRelease n.toNat)) else .next s

/-- SKIP_RETRY (R393): every entry has been taken once; the skipped bays are asked again. -/
def execSkipRetry (n : BitVec 3) (s : State) : Res :=
  let k := n.toNat
  if s.lUp && s.twSt k == 4 && (s.cureNext k).isNone then
    .next (s.follow ((s.twMod k fun t => { t with again := t.skipped }).cureServe))
  else .next s

/-- SKIPWAIT_END (R393). -/
def execSkipwaitEnd (n : BitVec 3) (s : State) : Res :=
  if s.lUp && s.twSt n.toNat == 4 then .next (s.follow ((s.twRetire n.toNat).cureServe)) else .next s

/-- LINE_JUDGEMENT_END (R395, R396). -/
def execLineJudgementEnd (n : BitVec 3) (sda scl : Bool) (s : State) : Res :=
  let k := n.toNat
  if s.lUp && (s.twp k).judge then
    let a := (s.wr (twcF Reg.twcStatRetired k) 0).twMod k fun t => { t with judge := false }
    if sda || scl then .next (s.follow (a.twHang k sda scl))
    else .next ((((a.wr (twcF Reg.twcStatSdalow k) 0).wr (twcF Reg.twcStatScllow k) 0).setTw k 1).twNext k)
  else .next s

/-- The bytes that a pass-through sends after the command code, a block write with its count in front (R398). -/
def State.hostBytes (s : State) (n prot : Nat) : List Nat :=
  let all := (List.range 8).flatMap fun j => (natToBytes 4 (s.rd (twcFk Reg.twcHdataD n j))).map (·.toNat)
  if prot = 1 then all.take 1 else if prot = 2 ∨ prot = 7 then all.take 2
  else if prot = 3 then (let k := min 32 (s.rd (twcF Reg.twcHcmdWlen n)); k :: all.take k) else []

/-- A write of TWCn_HCMD (R398): the fields, and with GO one pass-through transaction. -/
def State.hostPass (s : State) (n v : Nat) : State :=
  let a := (((s.wr (twcF Reg.twcHcmdAddr n) (bits v 0 7)).wr (twcF Reg.twcHcmdCode n) (bits v 8 8)).wr (twcF Reg.twcHcmdProt n)
    (bits v 16 4)).wr (twcF Reg.twcHcmdWlen n) (bits v 24 6)
  if !bitOf v 31 || s.rdB (twcF Reg.twcHstatBusy n) then a
  else if 7 < bits v 16 4 then a.wr (twcF Reg.twcHstatResult n) 8
  else (a.wr (twcF Reg.twcHstatBusy n) 1).xactRequest n
    { cls := 3, arg := n, addr := bits v 0 7, code := bits v 8 8, data := a.hostBytes n (bits v 16 4), write := bits v 16 4 ≤ 3 }

/-- HOST_PASS_THROUGH (R398). -/
def execHostPassThrough (n : BitVec 3) (v : Word) (s : State) : Res :=
  if s.lUp then .next (s.barWrite.hostPass n.toNat v.toNat) else .next s

/-- The judgement of a set of values for a TWC page (R386, Table 14.6). -/
def State.twcPageCheck (new : State) (n : Nat) : Option Nat :=
  let all := (List.range 8).flatMap fun p => (List.range 16).map fun k => (p, k)
  let on := all.filter fun q => new.rdB (twcFk Reg.twcMapEn q.1 q.2)
  let bay (q : Nat × Nat) : Nat := new.rd (twcFk Reg.twcMapBay q.1 q.2)
  if new.rd (twcF Reg.twcCfgSpeed n) = 3 ∨ new.rd (twcF Reg.twcCfgSkipwait n) = 0 ∨ (on.any fun q => decide (48 ≤ bay q))
      ∨ (on.any fun q => on.any fun r => q != r && bay q == bay r)
      ∨ (on.any fun q => on.any fun r => q != r && q.1 == r.1
          && new.rd (twcFk Reg.twcMapAddr q.1 q.2) == new.rd (twcFk Reg.twcMapAddr r.1 r.2)
          && !new.rdB (twcFk Reg.twcMapNopmb q.1 q.2) && !new.rdB (twcFk Reg.twcMapNopmb r.1 r.2))
      ∨ (on.any fun q => new.rdB (twcFk Reg.twcMapCyc q.1 q.2) && new.rd (bayF Reg.bayCfgRole (bay q)) == 3) then some 2
  else none

/-- A commit of a TWC page applies (R396): EN set starts the line judgement, EN cleared takes the port to OFF, and a hung segment
is cured once CYCLE and its entries allow it. -/
def State.applyTwcPage (n : Nat) (s : State) : State :=
  let was := s.effB (twcF Reg.twcCfgEn n)
  let a := s.applyPart (pageLo (0x0A1 + n)) (pageHi (0x0A1 + n))
  let now := a.effB (twcF Reg.twcCfgEn n)
  let b := if !was && now then a.twMod n fun t => { t with judge := true }
    else if was && !now then
      ((a.xactFlush n 7).setTw n 0).twMod n fun t =>
        { t with judge := false, taken := [], skipped := [], again := [], ask := none }
    else a.cureBegin n
  b.commitDone (0x0A1 + n)

end Sys2Proof.Machine
end

