-- ==== Sys2Proof/Machine/Faults.lean ====
section
/-!
DEFINITION. The fault collector (chapter 16): classes, buckets, retirement, the open list, the HOLD class, the fault pair and
injection.
-/

namespace Sys2Proof.Machine

/-- The collector changed. -/
def State.fltMod (s : State) (f : FltS → FltS) : State := { s with flt := f s.flt }

/-! ### Classes (R437 to R439) -/

/-- The base table (Table 16.3): the default class and the permitted classes. -/
def baseClass (src kind : Nat) : Nat × List Nat :=
  if (src = 17 ∨ src = 20) ∧ kind = 0x2F then (2, [1, 2, 3, 4, 5])
  else if kind = 0x2E then (1, [0, 1, 2])
  else if (src = 8 ∨ src = 24) ∧ kind = 1 then (2, [1, 2, 3, 4, 5])
  else if src = 36 ∧ kind = 1 then (2, [1, 2])
  else if 64 ≤ src ∧ src ≤ 255 ∧ src % 4 = 1 ∧ 1 ≤ kind ∧ kind ≤ 7 then (3, [3, 4, 5])
  else if 256 ≤ src ∧ src ≤ 319 ∧ src % 4 = 1 ∧ 1 ≤ kind ∧ kind ≤ 4 then (2, [1, 2, 5])
  else if 320 ≤ src ∧ src ≤ 383 ∧ (kind = 1 ∨ kind = 3) then (3, [3, 4, 5])
  else if 320 ≤ src ∧ src ≤ 383 ∧ kind = 2 then (2, [0, 1, 2, 3, 4])
  else if 320 ≤ src ∧ src ≤ 383 ∧ kind = 4 then (4, [4])
  else if (src = 410 ∨ src = 411) ∧ 1 ≤ kind ∧ kind ≤ 3 then (2, [1, 2])
  else if 448 ≤ src ∧ src ≤ 543 ∧ src % 4 = 3 ∧ 1 ≤ kind ∧ kind ≤ 5 then (2, [1, 2])
  else if 544 ≤ src ∧ src ≤ 575 ∧ src % 8 = 7 ∧ (kind = 1 ∨ kind = 2 ∨ kind = 3 ∨ kind = 5) then (3, [1, 2, 3, 4, 5])
  else if 544 ≤ src ∧ src ≤ 575 ∧ src % 8 = 7 ∧ kind = 4 then (2, [1, 2, 3, 4, 5])
  else if 576 ≤ src ∧ src ≤ 767 ∧ 1 ≤ kind ∧ kind ≤ 5 then (2, [1, 2, 5])
  else if src = 776 ∧ kind = 1 then (2, [1, 2])
  else if 784 ≤ src ∧ src ≤ 799 ∧ kind = 1 then (3, [1, 2, 3, 4])
  else if 784 ≤ src ∧ src ≤ 799 ∧ kind = 3 then (2, [1, 2])
  else if 808 ≤ src ∧ src ≤ 847 ∧ (src - 808) % 5 = 2 ∧ kind = 1 then (2, [1, 2])
  else if 808 ≤ src ∧ src ≤ 847 ∧ (src - 808) % 5 = 2 ∧ kind = 2 then (4, [4])
  else if src = 899 ∧ kind = 1 then (1, [0, 1, 2, 3])
  else if (src = 899 ∨ src = 900) ∧ (kind = 2 ∨ kind = 3) then (3, [2, 3, 4])
  else if 952 ≤ src ∧ src ≤ 975 ∧ (kind = 1 ∨ kind = 2) then (2, [1, 2, 3, 4])
  else if (848 ≤ src ∧ src ≤ 879) ∨ (992 ≤ src ∧ src ≤ 1023) then (2, [1, 2, 3, 4, 5])
  else (1, [0, 1, 2, 3, 4, 5])

/-- Override `i` applies to a token (R439). -/
def State.ovrApplies (s : State) (src kind i : Nat) : Bool :=
  s.effB (flt1F Reg.fltOvrEn i) && s.eff (flt1F Reg.fltOvrSrc i) == src
    && (s.effB (flt1F Reg.fltOvrAnyk i) || s.eff (flt1F Reg.fltOvrKind i) == kind)
    && (baseClass src kind).2.contains (s.eff (flt1F Reg.fltOvrClass i))

/-- The class of a token, its bucket size and its leak time in s (R437 to R440). -/
def State.classify (s : State) (src kind : Nat) : Nat × Nat × Nat :=
  let n := s.eff (flt0F Reg.fltBucketN 0)
  let w := s.eff (flt0F Reg.fltBucketW 0)
  match (List.range 128).find? (s.ovrApplies src kind) with
  | some i =>
    let on := s.eff (flt1F Reg.fltOvrN i)
    let ow := s.eff (flt1F Reg.fltOvrW i)
    (s.eff (flt1F Reg.fltOvrClass i), if on = 0 then n else on, if ow = 0 then w else ow)
  | none => ((baseClass src kind).1, n, w)

/-- The retirable channels that a token names, as (type, channel) (Table 16.4, R409, R438). -/
def tokenChannels (src detail : Nat) : List (Nat × Nat) :=
  if 64 ≤ src ∧ src ≤ 255 ∧ src % 4 = 1 then [(0, (src - 64) / 4)]
  else if 320 ≤ src ∧ src ≤ 383 then [(1, src - 320)]
  else if 544 ≤ src ∧ src ≤ 575 ∧ src % 8 = 7 then [(4, (src - 544) / 8)]
  else if 784 ≤ src ∧ src ≤ 799 then [(6, src - 784)]
  else if 808 ≤ src ∧ src ≤ 847 ∧ (src - 808) % 5 = 2 then [(3, (src - 808) / 5)]
  else if src = 899 ∨ src = 900 then (if detail % 128 < 80 then [(5, detail % 128)] else [])
  else if 952 ≤ src ∧ src ≤ 975 then
    (if detail % 512 = 0x1FF then (List.range 16).map fun i => (2, 16 * (src - 952) + i)
     else if detail % 512 < 384 then [(2, detail % 512)] else [])
  else []

/-! ### Buckets (R440, R441) -/

/-- Sources whose buckets are kept per channel. -/
def sharedSource (src : Nat) : Bool := src == 899 || src == 900 || (952 ≤ src && src ≤ 975)

/-- The bucket channels of a token: 0 on a source that is not shared. -/
def bucketChannels (src : Nat) (chs : List (Nat × Nat)) : List Nat :=
  if sharedSource src && !chs.isEmpty then chs.map (·.2) else [0]

/-- The units of a bucket. -/
def State.bucket (s : State) (src chan : Nat) : List BktUnit := s.flt.units.filter fun u => u.src == src && u.chan == chan

/-- FLT_BKTk of a source: the units of its fullest channel. -/
def State.showBucket (s : State) (src : Nat) : State :=
  let us := s.flt.units.filter fun u => u.src == src
  let n := us.foldl (fun m u => max m ((us.filter fun v => v.chan == u.chan).length)) 0
  let f := if src % 4 = 0 then Reg.fltBktCnt0 else if src % 4 = 1 then Reg.fltBktCnt1 else if src % 4 = 2 then Reg.fltBktCnt2
    else Reg.fltBktCnt3
  s.wr (f.at 0x0F3 (src / 4)) (min 15 n)

/-- FLT_BKTk PERM of a source: its last judgement. -/
def State.showPerm (s : State) (src : Nat) (p : Bool) : State :=
  let f := if src % 4 = 0 then Reg.fltBktPerm0 else if src % 4 = 1 then Reg.fltBktPerm1 else if src % 4 = 2 then Reg.fltBktPerm2
    else Reg.fltBktPerm3
  s.wrB (f.at 0x0F3 (src / 4)) p

/-- A token adds one unit to a bucket; units older than their leak time and its tolerance at the token's detection are
gone, whether or not their leak has been seen (R440, R441). -/
def State.bucketAdd (w : Nat) (t : Tok) (s : State) (chan : Nat) : State :=
  s.fltMod fun f =>
    { f with units := (f.units.filter fun u => !(u.src == t.src && u.chan == chan && u.us + 1000000 * u.w + 10000 ≤ t.us))
                        ++ [{ src := t.src, chan := chan, us := t.us, w := w }] }

/-- A token's judgement: the state, the units of the fullest bucket, and whether it is permanent. -/
def State.judge (s : State) (t : Tok) (n w : Nat) (chs : List (Nat × Nat)) : State × Nat × Bool :=
  let cs := bucketChannels t.src chs
  let a := cs.foldl (State.bucketAdd w t) s
  let most := (cs.map fun c => (a.bucket t.src c).length).foldl max 0
  let perm := n ≤ most
  (((if perm then a.inc (flt0F Reg.fltNpermPerm 0) else a).showBucket t.src).showPerm t.src perm, most, perm)

/-- A token that is not yet taken was detected before a unit of its bucket leaked: the unit still counts with it, since
tokens of the island buffer are judged by their stamps (R441). -/
def State.unitAwaited (s : State) (u : BktUnit) : Bool :=
  (s.islBuf ++ s.tokenQ).any fun t => t.src == u.src && t.kind != 0 && t.us < u.us + 1000000 * u.w

/-- BUCKET_LEAK (R440): the oldest unit of a bucket leaks W ±10 ms after it was added. -/
def execBucketLeak (src : BitVec 10) (chan : BitVec 9) (s : State) : Res :=
  match s.bucket src.toNat chan.toNat with
  | u :: _ =>
    if s.islandUp && u.us + 1000000 * u.w ≤ s.us + 10000 && !s.unitAwaited u then
      .next ((s.fltMod fun f => { f with units := f.units.erase u }).showBucket src.toNat)
    else .next s
  | [] => .next s

/-! ### Open list (R446, R447) -/

/-- Entry `k` is open. -/
def State.openValid (s : State) (k : Nat) : Bool := s.rdB (flt2F Reg.fltOpenInfoValid k)

/-- The source and kind of entry `k`. -/
def State.openKey (s : State) (k : Nat) : Nat := s.rd (flt2F Reg.fltOpenTokloTok k) % 65536

/-- The words of a token (Table 16.1). -/
def Tok.lo (t : Tok) : Nat := t.src + 1024 * t.kind + 65536 * (t.detail % 65536)
/-- The high word of a token. -/
def Tok.hi (t : Tok) : Nat := t.detail / 65536 + 65536 * (t.us % 65536)

/-- A token of class NOTIFY or above is entered in the open list, or merged (R446). -/
def State.openToken (s : State) (t : Tok) (cls : Nat) (perm : Bool) : State :=
  let inj := match s.flt.injUs with | some u => decide (u ≤ t.us ∧ t.us ≤ u + 1000) | none => false
  let put (a : State) (k : Nat) : State :=
    ((a.wr (flt2F Reg.fltOpenTokloTok k) t.lo).wr (flt2F Reg.fltOpenTokhiTok k) t.hi).wr (flt2F Reg.fltOpenTimeUs k) (t.us / 65536)
  match (List.range 128).find? fun k => s.openValid k && s.openKey k == t.lo % 65536 with
  | some k =>
    let a := (put s k).inc (flt2F Reg.fltOpenInfoCount k)
    let b := a.wr (flt2F Reg.fltOpenInfoClass k) (max cls (s.rd (flt2F Reg.fltOpenInfoClass k)))
    let c := if perm then b.wr (flt2F Reg.fltOpenInfoPerm k) 1 else b
    if inj then c.wr (flt2F Reg.fltOpenInfoInj k) 1 else c
  | none =>
    match (List.range 128).find? fun k => !s.openValid k with
    | some k =>
      let a := (((put s k).wr (flt2F Reg.fltOpenInfoCount k) 1).wr (flt2F Reg.fltOpenInfoClass k) cls).wrB
        (flt2F Reg.fltOpenInfoPerm k) perm
      (((a.wrB (flt2F Reg.fltOpenInfoInj k) inj).wr (flt2F Reg.fltOpenInfoValid k) 1).incWrap (flt2F Reg.fltOpenInfoGen k)).raise 944
    | none => (s.fltMod fun f => { f with ovf := true }).raise 949

/-- A write of FLT_ACK (R447). -/
def State.fltAck (s : State) (k gen : Nat) : State :=
  if s.openValid k && s.rd (flt2F Reg.fltOpenInfoGen k) == gen then s.wr (flt2F Reg.fltOpenInfoValid k) 0 else s

/-- A write of FLT_ACKALL (R447). -/
def State.fltAckAll (s : State) : State :=
  ((List.range 128).foldl (fun t k => t.wr (flt2F Reg.fltOpenInfoValid k) 0) s).fltMod fun f => { f with ovf := false }

/-- FLT_ACK (R447). -/
def execFltAck (entry : BitVec 7) (gen : Byte) (s : State) : Res := .next (if s.lUp then s.barWrite.fltAck entry.toNat gen.toNat else s)

/-- FLT_ACKALL (R447). -/
def execFltAckall (s : State) : Res := .next (if s.lUp then s.barWrite.fltAckAll else s)

/-! ### Retirement (R442 to R444) -/

/-- The balance candidate that a survey channel feeds (Table 9.3). -/
def State.svCand (s : State) (c : Nat) : Option Nat :=
  if c < 48 then some c
  else if 96 ≤ c ∧ c < 160 then (s.phLoop (c - 96)).map (48 + ·)
  else if 280 ≤ c ∧ c < 304 then (if s.batEn (c - 280) then some (64 + s.batGroup (c - 280)) else none)
  else if c = 336 then some 72
  else none

/-- The effect of a retirement on its unit (Table 16.4). -/
def State.retireUnit (s : State) (typ i : Nat) : State :=
  if typ = 0 then
    (if s.bayState i = 9 then s else s.follow (((s.bayRetire i).doneWait (.bayOn i) 3 0x11).doneWait (.bayOpen i)))
  else if typ = 1 then s.follow (if s.phSt i = 6 then s else s.phRetire i)
  else if typ = 2 then
    (match s.svCand i with
     | some c => if s.suspect c then s else s.becomeSuspect c true 0
     | none => s)
  else if typ = 3 then
    (if s.twSt i = 5 then s
     else
       let a := (((s.setTw i 5).wr (twcF Reg.twcStatRetired i) 1).raise (808 + 5 * i + 4)).xactFlush i 7
       s.follow ((a.twMod i fun t => { t with taken := [], skipped := [], again := [], ask := none, judge := false }).cureServe))
  else if typ = 4 then s.follow ((s.tieLeave i 0).wr (tieF Reg.tieStatRetired i) 1)
  else if typ = 5 then
    (let a := s.wr (memF Reg.memOwnRetired i) 1
     if 76 ≤ i then a.galThaw 5 else a)
  else ((s.wr (idxF Reg.idxPeerRetired i) 1).wrBit (idxF Reg.idxRetRetired 0) i true)

/-- A channel is retired (R442): counted, RETIRE. -/
def State.retireChannel (s : State) (typ i : Nat) : State :=
  let a := ((s.setRetired typ i true).inc (flt0F Reg.fltNpermRetires 0)).raise 946
  if typ = 6 then State.remoteFollow s (a.retireUnit typ i) else a.retireUnit typ i

/-- A channel is restored (R443): its bucket is emptied and its open entries close; RESTORE. -/
def State.restoreChannel (s : State) (typ i : Nat) : State :=
  let mine (src detail : Nat) : Bool := (tokenChannels src detail).contains (typ, i)
  let units := s.flt.units.filter fun u =>
    if sharedSource u.src then !((typ == 5 && (u.src == 899 || u.src == 900) && u.chan == i) || (typ == 2 && 952 ≤ u.src && u.chan == i))
    else !mine u.src 0
  let gone := (s.flt.units.map (·.src)).eraseDups
  let a := gone.foldl State.showBucket ((s.setRetired typ i false).fltMod fun f => { f with units := units })
  let b := (List.range 128).foldl (fun t k =>
    let lo := s.rd (flt2F Reg.fltOpenTokloTok k)
    let hi := s.rd (flt2F Reg.fltOpenTokhiTok k)
    if s.openValid k && mine (lo % 1024) (lo / 65536 + 65536 * (hi % 65536)) then t.wr (flt2F Reg.fltOpenInfoValid k) 0 else t) a
  let c := b.raise 947
  if typ = 0 then s.follow (c.bayRestore i)
  else if typ = 1 then s.follow (if c.phSt i = 6 then c.phJoinNext i else c)
  else if typ = 3 then c.twMod i fun t => { t with judge := true }
  else if typ = 4 then
    (let d := c.wr (tieF Reg.tieStatRetired i) 0
     s.follow (if d.tieUp i then d.tieAccessory i else d))
  else if typ = 5 then c.wr (memF Reg.memOwnRetired i) 0
  else if typ = 6 then
    State.remoteFollow s ((c.wr (idxF Reg.idxPeerRetired i) 0).wrBit (idxF Reg.idxRetRetired 0) i false)
  else c

/-- The transient remedy of the source's chapter (R120, R121, R179). -/
def State.transient (s : State) (t : Tok) : State :=
  if 64 ≤ t.src ∧ t.src ≤ 255 ∧ t.src % 4 = 1 then
    let n := (t.src - 64) / 4
    if s.bayState n ≠ 5 ∨ t.kind = 0 ∨ 7 < t.kind then s
    else if s.bayMayToggle n t.kind then
      (if (vget s.bay n).heldTrip then s else s.setBay n 6)
    else s.retireChannel 0 n
  else if 320 ≤ t.src ∧ t.src ≤ 383 ∧ (t.kind = 1 ∨ t.kind = 3) then
    let j := t.src - 320
    if s.phSt j ≠ 5 then s
    else if t.island then s.follow (s.phJoinNext j)
    else s.phMod j fun p => { p with rejoin := true }
  else s

/-- The log of the device that a token names is retired (R463). -/
def State.retireLog (s : State) (t : Tok) : State :=
  s.wr (if t.dev = 0 then gal0F Reg.galStatNvm0ok 0 else gal0F Reg.galStatNvm1ok 0) 0

/-! ### HOLD class (R445) -/

/-- Warm resets ordered in the 600 s before now. -/
def State.holdUsed (s : State) : Nat := (s.flt.resets.filter fun t => (s.us : Int) - t < 600000000).length

/-- A HOLD token orders a warm reset, or acts as CONTAIN under the limit. One that is taken in the 1 ms of an order in force
orders no second reset (DEDUCED, log entry 42). -/
def State.holdToken (s : State) : State :=
  if s.rdB (cmd1F Reg.cmdJstatReplay 0) then s.fltMod fun f => { f with deferred := true }
  else if s.eff (flt0F Reg.fltCfgHoldmax 0) ≤ s.holdUsed then s.fltMod fun f => { f with limUs := some (s.us : Int) }
  else if s.flt.order.isSome then s
  else (s.fltMod fun f => { f with order := some s.us, resets := f.resets ++ [(s.us : Int)] }).raise 948

/-! ### A token is taken (R436, R437) -/

/-- A token at or above FCLS is a capture trigger with SRCEN bit 0 (R416). -/
def State.tokenTrigger (s : State) (t : Tok) (cls : Nat) : State :=
  if bitOf (s.eff (cap0F Reg.capTrigSrcen 0)) 0 && s.eff (cap0F Reg.capTrigFcls 0) ≤ cls then s.capTrigger 0 t.us else s

/-- The channels of a token that a class retires: all of them at RETIRE, at a permanent judgement those whose bucket is full
(R437, R440, R441). -/
def State.fullChannels (s : State) (t : Tok) (chs : List (Nat × Nat)) (cls n : Nat) : List (Nat × Nat) :=
  if cls = 4 then chs
  else chs.filter fun p => !s.retired p.1 p.2 && (!sharedSource t.src || decide (n ≤ (s.bucket t.src p.2).length))

/-- The class action of a token. -/
def State.tokenAct (s : State) (t : Tok) (chs : List (Nat × Nat)) (cls n w : Nat) : State :=
  let a := (s.tokenTrigger t cls).inc (flt0F Reg.fltNtokTokens 0)
  let a := if 952 ≤ t.src ∧ t.src ≤ 975 then a.raise t.src else a
  if cls = 0 then a.inc (flt0F Reg.fltNtokIgnored 0)
  else
    let j := if cls = 3 ∨ cls = 5 ∨ (cls = 4 ∧ chs.isEmpty) then a.judge t n w chs else (a, 0, false)
    let perm := j.2.2
    let r := j.1.record 0x01 t.src [t.lo, t.hi, cls + 8 * b2n perm + 16 * min 15 j.2.1]
    let o := if 2 ≤ cls then r.openToken t cls perm else r
    if cls < 3 then o
    else
      let c := o.raise 945
      let d := if cls = 4 ∨ perm then
          (if t.src = 981 then c.retireLog t
           else (c.fullChannels t chs cls n).foldl (fun x p => x.retireChannel p.1 p.2) c)
        else c.transient t
      if cls = 5 then d.holdToken else d

/-- The collector takes the oldest token. -/
def State.takeToken (s : State) : State :=
  match s.tokenQ with
  | [] => s
  | t :: r =>
    let c := s.classify t.src t.kind
    (State.tokenAct { s with tokenQ := r } t (tokenChannels t.src t.detail) c.1 c.2.1 c.2.2).lanToken t

/-- TOKEN (R436): `new` is a token of a checker that no other command stands for (a survey ADC, R438), behind the waiting
ones; the oldest token is taken. -/
def execToken (new : Option (BitVec 10 × BitVec 6 × Word)) (s : State) : Res :=
  if !s.lUp then .next s
  else
    let a := match new with
      | some (src, kind, detail) => s.token src.toNat kind.toNat detail.toNat
      | none => s
    .next a.takeToken

/-! ### Commits of the FLT pages (R439, R443) -/

/-- One entry of FLT_CLR at a commit. -/
def State.clrEntry (s : State) (k : Nat) : State :=
  let typ := s.eff (flt0F Reg.fltClrType k)
  let i := s.eff (flt0F Reg.fltClrIndex k)
  let retire := s.effB (flt0F Reg.fltClrOp k)
  let count := [48, 64, 384, 8, 4, 80, 16]
  if !s.effB (flt0F Reg.fltClrValid k) then s
  else if typ = 7 then
    (if !retire && i < 73 && s.suspect i then
      ((s.wr (bal1F Reg.balcStSuspect i) 0).wr (bal1F Reg.balcStRun i) 0 |>.wr (bal1F Reg.balcEpsEps i) 0).showSuspects
     else s)
  else if 7 < typ ∨ nth count typ ≤ i ∨ s.retired typ i = retire then s
  else if retire then s.tokenAct { us := s.us } [(typ, i)] 4 0 0
  else s.restoreChannel typ i

/-- A commit of page 0x0F0 applies: the FLT_CLRk are carried out in ascending k and return to 0 (R443). -/
def State.applyFltPage (s : State) : State :=
  let a := s.applyPart (pageLo 0x0F0) (pageHi 0x0F0)
  let b := (List.range 5).foldl State.clrEntry a
  let c := (List.range 5).foldl (fun t k =>
    (((t.load (flt0F Reg.fltClrType k) 0).load (flt0F Reg.fltClrOp k) 0).load (flt0F Reg.fltClrIndex k) 0).load
      (flt0F Reg.fltClrValid k) 0) b
  c.commitDone 0x0F0

/-- The check of a PAGE_SET of page 0x0F1: an enabled override whose class no matching base row permits (R439). -/
def State.ovrBad (new : State) (i : Nat) : Bool :=
  let src := new.rd (flt1F Reg.fltOvrSrc i)
  let kinds := if new.rdB (flt1F Reg.fltOvrAnyk i) then List.range 64 else [new.rd (flt1F Reg.fltOvrKind i)]
  new.rdB (flt1F Reg.fltOvrEn i) && !kinds.any fun k => (baseClass src k).2.contains (new.rd (flt1F Reg.fltOvrClass i))

/-- The check of a PAGE_SET of an FLT page. -/
def State.fltPageCheck (new : State) (pg : Nat) : Option Nat :=
  if pg = 0x0F1 then (if (List.range 128).any new.ovrBad then some 2 else none) else none

/-! ### Summary and fault pair (R448 to R451) -/

/-- The pair shows OK (R449). -/
def State.pairOk (s : State) : Bool :=
  s.inRun && !s.flt.pairFail
    && !(List.range 128).any fun k =>
      s.openValid k && s.eff (flt0F Reg.fltCfgPncls 0) ≤ s.rd (flt2F Reg.fltOpenInfoClass k)

/-- The levels of FLT_P and FLT_N outside a marker (R449 to R451). -/
def State.pairLevels (s : State) : Bool × Bool :=
  if !s.islandUp || s.flt.pairFail then (false, false)
  else if s.pairOk then (if s.effB (flt0F Reg.fltCfgHben 0) && s.flt.swapped then (false, true) else (true, false))
  else (false, true)

/-- FAULT_PAIR_SWAP (R450): with HBEN, OK is marked every 1,000 µs. -/
def execFaultPairSwap (s : State) : Res :=
  if s.islandUp && s.us % 1000 == 0 && s.effB (flt0F Reg.fltCfgHben 0) then
    if s.pairOk then .next ((s.emit .pairMarker).fltMod fun f => { f with swapped := !f.swapped })
    else .next (s.fltMod fun f => { f with swapped := false })
  else .next s

/-- PNFAIL (R451). -/
def execPnfail (s : State) : Res :=
  if s.islandUp && !s.flt.pairFail then
    .next (((s.fltMod fun f => { f with pairFail := true }).wr (flt0F Reg.fltStatPnfail 0) 1).raise 950)
  else .next s

/-- FLT_SUM (Table 16.5). -/
def State.fltSum (s : State) : Nat :=
  let l := (List.range 128).filter s.openValid
  let any (n : Nat) (fs : List Fld) : Nat := b2n (fs.any fun f => s.rd f != 0) * 2 ^ n
  let sv := (List.range 12).map fun k => flt1F Reg.fltRsvRet k
  let mem := (List.range 3).map fun k => flt1F Reg.fltRmemRet k
  let lim := match s.flt.limUs with | some t => decide ((s.us : Int) - t < 600000000) | none => false
  b2n (!l.isEmpty) + 2 * b2n (l.any fun k => 3 ≤ s.rd (flt2F Reg.fltOpenInfoClass k))
    + any 2 [flt1F Reg.fltRbayloRet 0, flt1F Reg.fltRbayhiRet 0] + any 3 [flt1F Reg.fltRphloRet 0, flt1F Reg.fltRphhiRet 0]
    + any 4 sv + any 5 [flt1F Reg.fltRmiscTwc 0] + any 6 [flt1F Reg.fltRmiscTie 0] + any 7 mem + any 8 [flt1F Reg.fltRmiscIdx 0]
    + 2 ^ 9 * b2n ((List.range 73).any s.suspect) + 2 ^ 10 * b2n s.flt.ovf + 2 ^ 11 * b2n lim
    + any 12 [flt0F Reg.fltInjArm 0] + 2 ^ 13 * b2n (!s.pairOk) + 2 ^ 14 * b2n s.flt.islOvf
    + any 15 [cmd1F Reg.cmdJstatJmsused 0, cmd1F Reg.cmdJstatMirrorlost 0] + 2 ^ 16 * min 255 l.length

/-! ### Injection (R452) -/

/-- A write of FLT_INJ: TGT 1 and 3 arm only in BENCH, elsewhere the write is ignored and raises LOCKREJ. -/
def State.fltInj (s : State) (v : Nat) : State :=
  let tgt := bits v 0 4
  if (tgt = 1 ∨ tgt = 3) ∧ s.mode ≠ .bench then s.lockrej 0x0F0 0x080
  else
    let a := (((s.wr (flt0F Reg.fltInjTgt 0) tgt).wr (flt0F Reg.fltInjIndex 0) (bits v 4 8)).wr (flt0F Reg.fltInjMode 0)
      (bits v 12 2)).wr (flt0F Reg.fltInjArm 0) (bits v 15 1)
    { a with jInject := if tgt = 1 ∧ bitOf v 15 ∧ bits v 4 8 < 3 then 2 ^ bits v 4 8 else 0 }

end Sys2Proof.Machine
end

