-- ==== Sys2Proof/Machine/Lan.lean ====
section
/-!
DEFINITION. The loop analyzer and impedance engine: sweeps, points, margins and automatic impedance points (chapter 19).
-/

namespace Sys2Proof.Machine

/-- The analyzer state changed. -/
def State.lanMod (s : State) (f : LanS → LanS) : State := { s with lan := f s.lan }

/-- The frequencies of a request lie outside the limits of its injection point (R487). -/
def State.lanLimits (s : State) (n point fstart fstop : Nat) : Bool :=
  if point = 2 then fstart < 1 || 1000 < fstop
  else fstart < 10 || 200000 < fstop || 400000000 < 5 * fstop * s.eff (loopF Reg.loopPerPer n)

/-- A commit of page 0x100 applies at the start of the next point (R496); with the engine idle it may apply before it, at
SNAPSHOT_APPLY, where nothing tells the difference (DEDUCED, log entry 48). -/
def State.lanCommit (s : State) : State :=
  if s.rdB (hdr Reg.pgCbusy 0x100) then (s.applyPart (pageLo 0x100) (pageHi 0x100)).commitDone 0x100 else s

/-- A measurement begins on loop `n`: shed and parked phases return (R489). -/
def State.lanStart (s : State) (n point : Nat) (x : LanS) : State :=
  let a := ((((((s.wr (lanF Reg.lanStatState 0) (if point = 2 then 2 else 1)).wr (lanF Reg.lanStatLoop 0) n).wr
    (lanF Reg.lanStatPoint 0) point).wr (lanF Reg.lanStatDonepts 0) 0).wr (lanF Reg.lanStatMarginok 0) 0).wr
    (lanF Reg.lanStatAbort 0) 0)
  { a.returnPhases n with lan := { x with phase := s.lan.phase, zDone := s.lan.zDone, zWait := s.lan.zWait } }

/-- The result registers of a sweep that begins: no point is valid and no margin is formed. -/
def State.lanClear (s : State) : State :=
  let a := (List.range 64).foldl (fun t k => (t.wr (Reg.lanPtFValid.at 0x100 k) 0).wr (Reg.lanPtFLowsnr.at 0x100 k) 0) s
  ((a.wr (lanF Reg.lanXoverF 0) 0x3FFFF).wr (lanF Reg.lanMarginPm 0) 0x7FFF).wr (lanF Reg.lanMarginGm 0) 0x7FFF

/-- The group whose loop is `n` (R198); 0 without one. -/
def State.loopGroup (s : State) (n : Nat) : Nat :=
  ((List.range 8).find? fun k => s.effB (abc3F Reg.abcMapgrpEn k) && s.grpLoop k == n).getD 0

/-- LAN_RUN (R493, R495). -/
def State.applyLanRun (e : JEntry) (s : State) : State :=
  let n := e.inst
  let point := bits (e.arg 0) 0 2
  let fstart := bits (e.arg 1) 0 18
  let fstop := bits (e.arg 2) 0 18
  let npts := bits (e.arg 3) 0 7
  let settle := bits (e.arg 3) 8 8
  let intc := bits (e.arg 3) 16 8
  let amp := bits (e.arg 4) 0 16
  if bitOf (e.arg 0) 8 then
    (if 15 < n then s.refuseCmd e 2 else ((s.lanAbort 1).done e.seq))
  else
    match firstReason
      [(decide (15 < n) || point == 3 || decide (fstop < fstart) || npts == 0 || decide (64 < npts) || settle == 0 || intc == 0
          || amp == 0 || s.lanLimits n point fstart fstop, 2),
       (s.loopSt n != 3 || !s.rdB (loopF Reg.loopStatPgood n), 4), (point == 2 && !s.loopBidirCur n, 4), (s.holdup, 4),
       (s.lan.seq.isSome, 4), (s.mode == .bench, 4)] with
    | some r => s.refuseCmd e r
    | none =>
      ((s.lseq 0x100 e).setWait e.seq .lan).lanCommit.lanClear.lanStart n point
        { seq := some e.seq, group := s.loopGroup n, fstart := fstart, fstop := fstop, npts := npts, settle := settle,
          intc := intc, amp := amp }

/-- LAN_RUN (opcode 0xC01) with ABORT clear. -/
def execLanRun (inst : BitVec 8) (h : CmdHdr) (point fstart fstop shape amp bound : Word) (s : State) : Res :=
  .next (s.command State.applyLanRun 0xC01 inst.toNat h
    [clrBit point.toNat 8, fstart.toNat, fstop.toNat, shape.toNat, amp.toNat, bound.toNat])

/-- LAN_RUN with ABORT set. -/
def execLanAbort (inst : BitVec 8) (h : CmdHdr) (point fstart fstop shape amp bound : Word) (s : State) : Res :=
  .next (s.command State.applyLanRun 0xC01 inst.toNat h
    [setBit point.toNat 8, fstart.toNat, fstop.toNat, shape.toNat, amp.toNat, bound.toNat])

/-! ### Margins (R494) -/

/-- A point that counts: its log₂ f with 32 fraction bits, its gain (Q8.8 dB) and its phase (0.01°). -/
abbrev MPt := Int × Int × Int

/-- The first pair of points between which `v` falls through `lim`, with the fraction of the way. -/
def fallsThrough (v : MPt → Int) (lim : Int) : List MPt → Option (MPt × MPt × ℚ)
  | a :: b :: r =>
    if lim ≤ v a ∧ v b < lim then some (a, b, ((v a - lim : Int) : ℚ) / ((v a - v b : Int) : ℚ))
    else fallsThrough v lim (b :: r)
  | _ => none

/-- A quantity between two points, interpolated. -/
def between (v : MPt → Int) (x : MPt × MPt × ℚ) : ℚ := (v x.1 : ℚ) + x.2.2 * ((v x.2.1 - v x.1 : Int) : ℚ)

/-- The frequency in whole hertz nearest to a log₂ with 32 fraction bits. -/
def freqOf (l : ℚ) : Nat :=
  let f := greatest (fun x => (log2Q x 1 : ℚ) ≤ l && x != 0) 18 0
  if (log2Q (2 * f + 1) 2 : ℚ) ≤ l then f + 1 else f

/-- The margins are formed from the points that are not LOWSNR. -/
def State.margins (s : State) : State :=
  let pts : List MPt := (s.lan.pts.filter fun p => !p.2.2.2).map fun p => (log2Q p.1 1, p.2.1, p.2.2.1)
  let x := fallsThrough (·.2.1) 0 pts
  let g := fallsThrough (·.2.2) (-18000) pts
  let a := match x with
    | some q => (s.wr (lanF Reg.lanXoverF 0) (freqOf (between (·.1) q))).wr (lanF Reg.lanMarginPm 0)
        (tw 16 (ssat 16 (qround (18000 + between (·.2.2) q))))
    | none => s
  let b := match g with
    | some q => a.wr (lanF Reg.lanMarginGm 0) (tw 16 (ssat 16 (qround (-(between (·.2.1) q)))))
    | none => a
  b.wrB (lanF Reg.lanStatMarginok 0) (x.isSome && g.isSome)

/-! ### Points (R488, R490 to R493) -/

/-- The number of an open value that a demodulated point depends on. -/
def demodKey (d : Demod) : Nat := ((d.xr.toNat * 2 ^ 64 + d.xi.toNat) * 2 ^ 64 + d.yr.toNat) * 2 ^ 64 + d.yi.toNat

/-- Gain in Q8.8 dB and phase in 0.01° of −Y / X. Of a point whose X or Y is 0 the manual gives neither: free values (DESIGN CHOICE,
log entry 23). -/
def demodRatio (d : Demod) : Int × Int :=
  let xr := d.xr.toInt
  let xi := d.xi.toInt
  let yr := d.yr.toInt
  let yi := d.yi.toInt
  if (xr = 0 ∧ xi = 0) ∨ (yr = 0 ∧ yi = 0) then
    (sx 16 (Config.openValue 78 (demodKey d)).toNat, ((Config.openValue 79 (demodKey d)).toNat % 36001 : Nat) - 18000)
  else (decibels (yr * yr + yi * yi).toNat (xr * xr + xi * xi).toNat, angle (-(yr * xr + yi * xi)) (-(yi * xr - yr * xi)))

/-- The real part of −Y / X; a free value where X is 0 (DESIGN CHOICE, log entry 23). -/
def demodReal (d : Demod) : ℚ :=
  let xr := d.xr.toInt
  let xi := d.xi.toInt
  if xr = 0 ∧ xi = 0 then ((Config.openValue 80 (demodKey d)).toNat : ℚ) / 2 ^ 32
  else ((-(d.yr.toInt * xr + d.yi.toInt * xi) : Int) : ℚ) / ((xr * xr + xi * xi : Int) : ℚ)

/-- A phase unwrapped from the phase before it: less than half a turn away. -/
def unwrap (prev ph : Int) : Int := ph + 36000 * ((prev - ph + 18000) / 36000)

/-- A point whose coherence lies below CMIN (R488). -/
def State.lowSnr (s : State) (d : Demod) : Bool := d.coh.toNat < s.eff (lanF Reg.lanLimCmin 0)

/-- The table point of a string that lies within ±1 % and ±2 °C of its state (R492): its entry. -/
def State.zEntry (s : State) (n : Nat) : Option Nat :=
  let soc := s.socRep n
  let t : ℚ := (s.batT n : ℚ) / 8
  let p := (List.range 21).find? fun p => decide (|soc - ((5 * p : Nat) : ℚ)| ≤ 1)
  let k := (List.range 8).find? fun k => decide (|t - nth (s.batTax n) k| ≤ 2)
  match p, k with
  | some p, some k => some (21 * k + p)
  | _, _ => none

/-- A string qualifies for an automatic point (R492). -/
def State.zQualifies (s : State) (n : Nat) : Option Nat :=
  match s.zEntry n with
  | some e =>
    let key := 168 * n + e
    let small := decide ((100 * (sx 16 (s.rd (batF Reg.batViI n))).natAbs : ℚ) ≤ s.batC n / 5)
    let fresh := s.lan.zDone.any fun p => p.1 == key && s.us < p.2 + 86400000000
    let wait := s.lan.zWait.any fun p => p.1 == key && s.us < p.2 + 60000000
    if small && !fresh && !wait then some e else none
  | none => none

/-- IMPEDANCE_POINT_START (R492, R493). -/
def execImpedancePointStart (g : BitVec 3) (s : State) : Res :=
  let k := g.toNat
  let n := s.grpLoop k
  if s.inRun && s.coreUp 1 && s.effB (lanF Reg.lanZcfgZauto 0) && s.lanSt == 0 && s.lan.seq.isNone && !s.holdup
      && s.effB (abc3F Reg.abcMapgrpEn k) && s.loopCur n && s.loopSt n == 3 && s.rdB (loopF Reg.loopStatPgood n)
      && (s.groupStrings k).any (fun m => (s.zQualifies m).isSome) then
    let a := s.lanCommit
    .next (a.lanStart n 2 { group := k, fstart := a.eff (lanF Reg.lanZfreqF 0), fstop := a.eff (lanF Reg.lanZfreqF 0), npts := 1,
                            settle := 1, intc := a.eff (lanF Reg.lanZcfgZint 0), amp := a.eff (lanF Reg.lanZcfgZamp 0) })
  else .next s

/-- An impedance entry of a string is written (R275, R492): the real part of Z in 0.1 mΩ. -/
def State.zWrite (s : State) (d : Demod) : State :=
  let n := d.string.toNat
  match (if s.batEn n && s.batGroup n == s.lan.group then s.zQualifies n else none) with
  | none => s
  | some e =>
    let key := 168 * n + e
    if s.lowSnr d then s.lanMod fun x => { x with zWait := (x.zWait.filter fun p => p.1 != key) ++ [(key, s.us)] }
    else
      let z := sat 16 (qround (demodReal d * 320000000 / ((max 1 (s.eff (batF Reg.batIsclIlsb n)) : Nat) : ℚ))).toNat
      let f := batFk Reg.batZZ n (e / 2)
      let w := s.rd f
      let a := s.wr f (if e % 2 = 0 then z + 65536 * (w / 65536) else w % 65536 + 65536 * z)
      let b := ((a.nvmRec n zKey false).inc (lanF Reg.lanNrunZpts 0)).raise 1002
      b.lanMod fun x => { x with zDone := (x.zDone.filter fun p => p.1 != key) ++ [(key, s.us)] }

/-- ANALYZER_POINT_END (R488, R491 to R495). -/
def execAnalyzerPointEnd (res : List Demod) (s : State) : Res :=
  if !s.lUp || s.lanSt = 0 then .next s
  else if s.lan.seq.isNone then .next ((res.foldl State.zWrite s).wr (lanF Reg.lanStatState 0) 0)
  else
    match res with
    | [] => .next s
    | d :: _ =>
      let k := s.rd (lanF Reg.lanStatDonepts 0)
      let f := s.lanFreq
      let r := demodRatio d
      let ph := match s.lan.pts.getLast? with | some p => unwrap p.2.2.1 r.2 | none => r.2
      let low := s.lowSnr d
      let a := ((((s.wr (Reg.lanPtFF.at 0x100 k) f).wr (Reg.lanPtFValid.at 0x100 k) 1).wrB (Reg.lanPtFLowsnr.at 0x100 k) low).wr
        (Reg.lanPtTGain.at 0x100 k) (tw 16 (ssat 16 r.1))).wr (Reg.lanPtTPhase.at 0x100 k) (tw 16 (ssat 16 ph))
      let b := (a.wr (lanF Reg.lanStatDonepts 0) (k + 1)).lanMod fun x => { x with pts := x.pts ++ [(f, r.1, ph, low)] }
      if k + 1 < b.lan.npts then .next b.lanCommit
      else
        let c := if b.rd (lanF Reg.lanStatPoint 0) = 2 then b else b.margins
        let t := (((c.wr (lanF Reg.lanStatState 0) 0).inc (lanF Reg.lanNrunSweeps 0)).raise 1000).lanMod fun x => { x with seq := none }
        .next (t.doneWait .lan)

/-- DEV_ABORT (R490): VLS has left the target for 10 µs during POINT 0 or 1. -/
def execDevAbort (s : State) : Res :=
  if s.lUp && s.lanSt == 1 then .next (s.lanAbort 2) else .next s

end Sys2Proof.Machine
end

