-- ==== Sys2Proof/Machine/ResetOps.lean ====
section
/-!
DEFINITION. What stops with the L-die and at the entry into hold, and what a hard reset stops on the P-die: the shared
operations of every reset (chapters 1 and 22).
-/

namespace Sys2Proof.Machine

/-- The registers at the offsets that `p` names (page, offset) return to their reset values. -/
def State.resetRegs (s : State) (p : Nat → Nat → Bool) : State :=
  { s with regs := s.regs.filter fun x => !p (x.1 / 131072) (x.1 % 131072 / 32) }

/-- Every snapshot that is not applied is discarded; the shadow values stay (R14, R59). -/
def State.dropSnaps (s : State) : State :=
  State.resetRegs { s with snap := [], snapUs := [], partsDone := [] } fun _ off => off == 0x010

/-! ### The L-die stops (R65, R70, R96, R447) -/

/-- Registers that a reset of the L-die clears: PG_EVT (R70), the lock key (R71), the endpoint (R65), the cores and their
mailboxes (R509, R511), the open list (R447), and what was heard on the Iddex link (log entry 64). -/
def ldieReg (pg off : Nat) : Bool :=
  off == 0x014 || (pg == 0x000 && off == 0x048) || (pg == 0x00B && off == 0x040)
  || (pg == 0x120 && (off == 0x040 || off == 0x044 || off == 0x048 || off == 0x04C))
  || (0x110 ≤ pg && pg ≤ 0x113 && (off == 0x040 || off == 0x044)) || (pg == 0x0F2 && 0x040 ≤ off)
  || (pg == 0x098 && (off == 0x04C || (0x100 ≤ off && off < 0x400)))

/-- What the L-die holds of the journal and its paths is lost; the journal itself is in eMRAM (R93, R97). -/
def State.jStop (s : State) : State :=
  { s with sys := { s.sys with stale := s.sys.stale || s.jHeld.isSome }, jnl := s.jnl.map (fun e => { e with applied := false, replayed := false, wait := .none }), jHeld := none, repHeld := [],
           rptFull := false, redirect := false, aerFatal := false, twq := [], twHeld := [],
           twStage := List.replicate 64 0, twWaiting := false, pfwOn := false, warmArmed := false,
           twPtr := 0, twFast := 0, rbytes := [] }

/-- Events, queue and vectors are emptied, and the MSI-X table is masked (R65, R70). -/
def State.evStop (s : State) : State :=
  { s with evPend := [], evq := [], evqOvf := false, msix := [], vec := Vector.replicate 32 {} }

/-- A controller port stops (R395): its transactions are lost, the pads are released. -/
def State.twStop (s : State) (n : Nat) : State :=
  let a := (s.twMod n fun t => { t with queue := [], run := none, judge := false, taken := [], skipped := [], again := [], ask := none }).wr
    (twcF Reg.twcHstatBusy n) 0
  if a.twSt n = 5 then a else a.setTw n 0

/-- A tie port stops (R315): the contract record stays. -/
def State.tieStop (s : State) (n : Nat) : State :=
  (s.tieQuiet n).tieMod n fun x => { x with policy := none, capsSent := [] }

/-- The L-die is reset or loses its power: a boot under way ends, and everything that only the L-die holds is lost. -/
def State.ldieStop (s : State) : State :=
  let a := (s.jStop.evStop.resetRegs ldieReg).lanClear
  let b := ((((((a.wr (cmd0F Reg.cmdCfgRingen 0) 0).wr (glbF Reg.glbPfwDone 0) 0).nvcIdle).wr
    (bistF Reg.bistStatState 0) 0).wr (bistF Reg.bistStatPaused 0) 0).wr (gal0F Reg.galWinReady 0) 0).wr (gal0F Reg.galTwinReady 0) 0
  let c := (b.wr (idxF Reg.idxStatMheard 0) 0).wr (idxF Reg.idxStatSyncok 0) 0
  let d := (List.range 16).foldl (fun t k =>
    (((t.wr (idxF Reg.idxPeerHeard k) 0).wr (idxF Reg.idxPeerLost k) 0).wr (idxF Reg.idxPeerBaded k) 0).wr (idxF Reg.idxPeerAge k) 0xFF) c
  let e := (List.range 4).foldl State.tieStop ((List.range 8).foldl State.twStop d)
  let f := e.fltMod fun x => { x with order := none, deferred := false, ovf := false }
  let g := f.sysMod fun x => { x with boot := none, lockPath := 0, restarts := [], mbx := [], xfer := none, verify := none, bist := none, tap := {} }
  g.idxMod fun x => { x with orders := [], ack := none, edged := false, hits := 0, misses := 0, wrong := 0 }

/-! ### The entry into hold (R16, R17, Table 1.4) -/

/-- Untaken P-die tokens enter the island buffer with their own stamps; L-die tokens are lost (R17). -/
def State.tokensToIsland (s : State) : State :=
  (s.tokenQ.filter fun t => pdieSource t.src).foldl State.islPush { s with tokenQ := [] }

/-- A bay at the entry into hold (R106, R121, R223): no automatic toggle, no train. -/
def State.bayHold (s : State) (n : Nat) : State :=
  let a := if s.bayState n = 6 then s.setBay n 5 else s
  let b := if (vget a.bay n).frozen then a.wr (bayF Reg.bayStatAlt n) (vget a.bay n).alt else a
  b.bayMod n fun x =>
    { x with train := false, frozen := false, next := none, relLeft := 0, trimTo := none, heldTrip := x.heldTrip || a.bayState n == 5,
             cycVI := 0, cycI := 0, sumVI := 0, sumI := 0 }

/-- A loop and its phases at the entry into hold (R14, R188): the staged switch is discarded; no dwell counts, and a parked
phase switches again. -/
def State.loopHold (s : State) (n : Nat) : State :=
  let a := (s.loopMod n fun l => { l with deferred := none, coefWait := [], coefReset := false, coefNext := false, pnSum := 0 }).wr
    (loopF Reg.loopStatSwpend n) 0
  (a.loopPhases n).foldl (fun t j => if t.phSt j = 2 ∨ t.phSt j = 3 then t.setPh j 1 else t) a

/-- A learning discharge and the requests of PC1 at the entry into hold (R223, Table 10.1). -/
def State.batHold (s : State) : State :=
  let a := (List.range 8).foldl (fun t g => t.learnStop g 3) s
  let b := (List.range 24).foldl (fun t n => if t.batLst n = 2 then t.batDq n 3 else t) a
  { b with abc := { b.abc with cycN := 0, sumN := 0, span := 0, pend := none, restAsk := none, restWait := [], restFails := 0, lateRun := 0, raw := none },
           bat := b.bat.map fun x => { x with rest := if x.rest = 3 then 3 else 0 } }

/-- GLB_NRST for a cause of Table 22.4 that begins a hold. -/
def nrstOf (cause : Nat) : Row := if cause = 4 then Reg.glbNrstHard else if cause ≤ 3 then Reg.glbNrstWarm else Reg.glbNrstHold

/-- The recorded cause of the hold (R534). -/
def State.setCause (s : State) (cause : Nat) : State :=
  (s.wr (kaiF Reg.kaiStatHoldcause 0) cause).wr (glbF Reg.glbRstcauseCause 0) cause

/-- A measurement at the entry into hold (Table 19.2, R496): aborted with HOLD; its command will be replayed. -/
def State.lanHold (s : State) : State :=
  if s.lanSt = 0 then s
  else State.wr { s with lan := { s.lan with seq := none } } (lanF Reg.lanStatState 0) 0 |>.wr (lanF Reg.lanStatAbort 0) 6

/-- Hold begins with a cause of Table 22.4 (R16, R17, R530, R534, R536), from RUN, THROTTLED or BENCH; the L-die is reset. -/
def State.enterHold (s : State) (cause : Nat) : State :=
  let a := (s.jStop.lanHold.flHold.capHold.galHold (if cause = 6 then 4 else 3))
  let b := State.tokensToIsland { a with mode := .hold, holdUs := s.us }
  let c := ((b.setCause cause).inc (glbF (nrstOf cause) 0)).wr (kaiF Reg.kaiHoldusUs 0) s.us32
  let d := (c.wr (kaiF Reg.kaiStatInhold 0) 1).wr (kaiF Reg.kaiStatBridgeok 0) 0
  let e := (List.range 16).foldl State.loopHold ((List.range 48).foldl State.bayHold d)
  (e.batHold.dropSnaps.newWindow).ldieStop.forceFollow

/-- A cause of Table 22.4 arises (R535): it begins a hold, or is counted in a hold that goes on and resets the L-die. -/
def State.holdCause (s : State) (cause : Nat) : State :=
  if s.lUp then s.enterHold cause
  else if s.mode = .hold then (s.inc (glbF Reg.glbNrstHold 0)).ldieStop
  else s.ldieStop

/-- The L-die may boot (R523, R526, R532, R482, R483, R499): its supplies are good, no reset input is asserted, it has its
power, and no logic BIST runs. -/
def State.mayBoot (s : State) : Bool :=
  s.sys.supOut.isEmpty && !s.sys.perst && !s.sys.rstN && !s.rdB (thmF Reg.thmStatLoff 0) && !s.rdB (thmF Reg.thmStatHardtrip 0)
    && s.rd (thmF Reg.thmStatLevel 0) != 3 && s.sys.bist.isNone

/-- The L-die boot begins, where it may (Table 22.3 step 8). -/
def State.bootBegin (s : State) : State :=
  if (s.mode == .hold || s.mode == .boot) && s.sys.boot.isNone && s.mayBoot then s.sysMod fun x => { x with boot := some s.us } else s

/-! ### Hard reset (R532, R533) -/

/-- A loop stops in a hard reset, without an event. -/
def State.loopKill (s : State) (n : Nat) : State :=
  let z (t : State) (r : Row) : State := t.wr (loopF r n) 0
  let a := [Reg.loopStatState, Reg.loopStatPgood, Reg.loopStatIlimit, Reg.loopStatLocalsns, Reg.loopStatBank, Reg.loopStatSwpend,
    Reg.loopVrefVref, Reg.loopDnowDuty, Reg.loopImeasIout].foldl z s
  let b := [Reg.phPinPin, Reg.phPlossPloss, Reg.phPnowPnow].foldl (fun t r => t.wr (pwrF r n) 0) a
  { b with loop := vmod b.loop n fun _ => {} }

/-- A phase stops in a hard reset: IDLE unless it is retired (R532). -/
def State.phKill (s : State) (j : Nat) : State :=
  let a := { s with ph := vmod s.ph j fun _ => {} }
  if s.phSt j = 6 then a else a.wr (phF Reg.phStatState j) 0

/-- Every loop and phase stops, and the hold-up fast path with them. -/
def State.powerKill (s : State) : State :=
  let a := (List.range 64).foldl State.phKill ((List.range 16).foldl State.loopKill s)
  (a.wr (hldF Reg.hldStatState 0) 0).wr (abc0F Reg.abcStatHoldup 0) 0

/-- The control logic of the P-die is reset (R532, R533). -/
def State.pdieReset (s : State) : State :=
  let run := (List.range 16).foldl (fun m n => if s.loopRunning n then setBit m n else m) 0
  let drop := s.effB (glbF Reg.glbCfgDrophard 0)
  let a := ((s.powerKill.dropSnaps).wr (kaiF Reg.kaiRunmaskLoop 0) run).wrB (kaiF Reg.kaiStatLatchkept 0) (!drop)
  if drop then (List.range 48).foldl (fun t n => if t.bayClosed n || t.bayState n == 7 then t.bayOpenGate n false else t) a else a

end Sys2Proof.Machine
end

