-- ==== Sys2Proof/Machine/Thermal.lean ====
section
/-!
DEFINITION. Die temperature: conversions, levels, throttle actions, shutdown, the hard trip, and the thermistors (chapter 18).
-/

namespace Sys2Proof.Machine

/-! ### Sensors (R476 to R478): sensor 0 is on the L-die, 1 on the P-die -/

/-- THM_LDIE or THM_PDIE, THM_STAT.LBRK or PBRK, THM_MAX.LMAX or PMAX. -/
def thmTemp (i : Nat) : Row := if i = 0 then Reg.thmLdieTemp else Reg.thmPdieTemp
/-- Consecutive failed conversions of a sensor. -/
def thmFails (i : Nat) : Row := if i = 0 then Reg.thmLdieFails else Reg.thmPdieFails
/-- The broken bit of a sensor. -/
def thmBrk (i : Nat) : Row := if i = 0 then Reg.thmStatLbrk else Reg.thmStatPbrk
/-- The highest reading of a sensor. -/
def thmMax (i : Nat) : Row := if i = 0 then Reg.thmMaxLmax else Reg.thmMaxPmax

/-- The sensor is broken. -/
def State.broken (s : State) (i : Nat) : Bool := s.rdB (thmF (thmBrk i) 0)

/-- The last reading of a sensor, 1/8 °C. -/
def State.dieTemp (s : State) (i : Nat) : Int := sx 16 (s.rd (thmF (thmTemp i) 0))

/-- Valid conversions in a row of a sensor. -/
def State.dieGood (s : State) (i : Nat) : Nat := if i = 0 then s.sys.lGood else s.sys.pGood

/-- The valid conversions in a row set. -/
def State.setGood (s : State) (i n : Nat) : State := s.sysMod fun x => if i = 0 then { x with lGood := n } else { x with pGood := n }

/-- A sensor is found broken, with its token (detail bit [16] for the P-die), or restored (R478, Table 18.3). -/
def State.setBroken (s : State) (i : Nat) (x : Bool) : State :=
  if s.broken i = x then s
  else
    let a := s.wrB (thmF (thmBrk i) 0) x
    if x then (a.inc (thmF Reg.thmNevtNbrk 0)).tokenEv 851 0x01 i else a.raise 851

/-- One conversion of a sensor (R477, R478): a failed one, or a reading. -/
def State.convert (s : State) (i : Nat) (r : Option (BitVec 16)) : State :=
  match r with
  | none =>
    let a := (s.inc (thmF (thmFails i) 0)).setGood i 0
    if 3 ≤ a.rd (thmF (thmFails i) 0) then a.setBroken i true else a
  | some v =>
    let t := v.toInt
    let a := (s.wr (thmF (thmFails i) 0) 0).wr (thmF (thmTemp i) 0) v.toNat
    let a := if s.retired 2 (382 + i) then a else a.wr (srvF Reg.srvValSample (382 + i)) v.toNat
    if t < -480 ∨ 1600 < t then (a.setGood i 0).setBroken i true
    else
      let m := max (sx 8 (a.rd (thmF (thmMax i) 0))) (ssat 8 (t / 8))
      let b := (a.wr (thmF (thmMax i) 0) (tw 8 m)).setGood i (min 3 (a.dieGood i + 1))
      if 3 ≤ b.dieGood i then b.setBroken i false else b

/-- The higher valid die reading: of the sensors that are not broken. -/
def State.hotter (s : State) : Option Int := (([0, 1].filter fun i => !s.broken i).map s.dieTemp).max?

/-- Either sensor is broken. -/
def State.anyBroken (s : State) : Bool := s.broken 0 || s.broken 1

/-- A level in effect, 1/8 °C. -/
def State.lvl8 (s : State) (r : Row) : Int := 8 * (s.eff (thmF r 0) : Int)

/-- A level is reached (R479); a broken sensor counts as above WARN and THROTTLE (R478). -/
def State.reached (s : State) (r : Row) : Bool :=
  s.anyBroken || (match s.hotter with | some t => decide (s.lvl8 r ≤ t) | none => false)

/-- A level is left: below it less its hysteresis, with no sensor broken (R479). -/
def State.leftLevel (s : State) (r h : Row) : Bool :=
  !s.anyBroken && (match s.hotter with | some t => decide (t < s.lvl8 r - s.lvl8 h) | none => false)

/-- The sample period (R477): fast while a reading is at or above the lower of WARN and THROTTLE − 5 °C, until both have
stayed 2 °C below that for 1 s. -/
def State.sampleRate (s : State) : State :=
  let f := min (s.lvl8 Reg.thmLvlWarn) (s.lvl8 Reg.thmLvlThrottle - 40)
  let hot := s.anyBroken || (match s.hotter with | some t => decide (f ≤ t) | none => false)
  let cool := !s.anyBroken && (match s.hotter with | some t => decide (t ≤ f - 16) | none => false)
  if hot then (s.wr (thmF Reg.thmStatFast 0) 1).sysMod fun x => { x with coolUs := none }
  else if !cool then s.sysMod fun x => { x with coolUs := none }
  else match s.sys.coolUs with
    | some u => if u + 1000000 ≤ s.us then s.wr (thmF Reg.thmStatFast 0) 0 else s
    | none => s.sysMod fun x => { x with coolUs := some s.us }

/-! ### Throttle actions (R481) -/

/-- The highest link speed that PEX_CFG.MAXSPD allows (Table 3.7). -/
def State.maxSpeed (s : State) : Nat := 3 - min 2 (s.rd (pexF Reg.pexCfgMaxspd 0))

/-- A link that is up is retrained to a speed; a change is counted and raises LINK (R75). -/
def State.retrain (s : State) (speed : Nat) : State :=
  let now := s.rd (pexF Reg.pexLinkSpeed 0)
  if now = 0 ∨ now = speed then s
  else ((s.wr (pexF Reg.pexLinkSpeed 0) speed).inc (pexF Reg.pexNlinkRetrain 0)).raise 6

/-- The throttle actions begin or end: device state, capture rates, BIST, link speed (R19, R404, R481, R501). -/
def State.throttle (s : State) (x : Bool) : State :=
  let a := if x then (if s.mode = .run then { s with mode := .throttled } else s)
    else if s.mode = .throttled then { s with mode := .run } else s
  let b := (a.capMod fun c => { c with modeUs := s.us }).wrB (bistF Reg.bistStatPaused 0) (x && s.sys.bist.isSome)
  let c := b.wrB (pexF Reg.pexLinkThrlim 0) x
  c.retrain (if x then 1 else c.maxSpeed)

/-! ### Levels (R480) and shutdown (R482) -/

/-- THM_STAT.LEVEL. -/
def State.thmLevel (s : State) : Nat := s.rd (thmF Reg.thmStatLevel 0)

/-- The next level of Table 18.1. -/
def State.nextLevel (s : State) (l p : Bool) : Nat :=
  let lv := s.thmLevel
  if lv = 0 then (if s.reached Reg.thmLvlWarn then 1 else 0)
  else if lv = 1 then
    (if s.reached Reg.thmLvlThrottle then 2 else if s.leftLevel Reg.thmLvlWarn Reg.thmHysWhys then 0 else 1)
  else if lv = 2 then
    (if (match s.hotter with | some t => decide (s.lvl8 Reg.thmLvlShutdown ≤ t) | none => false) then 3
     else if s.leftLevel Reg.thmLvlThrottle Reg.thmHysThys then 1 else 2)
  else if lv = 3 then
    (if l && p && s.leftLevel Reg.thmLvlShutdown Reg.thmHysShys then
      (if !s.leftLevel Reg.thmLvlThrottle Reg.thmHysThys then 2
       else if !s.leftLevel Reg.thmLvlWarn Reg.thmHysWhys then 1 else 0)
     else 3)
  else lv

/-- A freeze ends because power goes, and the spill is merged (R466, R469, R482). -/
def State.galSave (s : State) : State :=
  let a := s.galThaw 4
  if a.rebuilding then a else a.galMerge

/-- The L-die is given 10 ms, in which it merges the spill, and hold begins (R482). -/
def State.shutdown (s : State) : State :=
  ((if s.lUp then s.galSave else s).holdCause 6).sysMod fun x => { x with grace := some s.us }

/-- L-die power is restored, and the L-die boots (Table 18.1). -/
def State.powerBack (s : State) : State :=
  ((s.wr (thmF Reg.thmStatLoff 0) 0).sysMod fun x => { x with grace := none }).bootBegin

/-- The level moves, with the actions and events of Tables 18.1 and 18.3. -/
def State.goLevel (s : State) (new : Nat) : State :=
  let old := s.thmLevel
  if new = old then s
  else
    let a := s.wr (thmF Reg.thmStatLevel 0) new
    let b := if new = 3 then a.shutdown else a
    let c := if old = 3 then b.powerBack else b
    let d := if new = 2 then c.throttle true else if old = 2 then c.throttle false else c
    let e := if new = 1 then d.raise 848 else d
    let f := if new = 2 ∨ old = 2 then e.raise 849 else e
    let g := if new = 2 then f.inc (thmF Reg.thmNevtNthr 0) else f
    let h := if new = 3 ∨ old = 3 then g.raise 850 else g
    if new = 3 then h.inc (thmF Reg.thmNevtNshd 0) else h

/-- The judgement of a set of values for page 0x0B0 (R479, Table 18.2). -/
def State.thmPageCheck (new : State) : Option Nat :=
  let hys := [Reg.thmHysWhys, Reg.thmHysThys, Reg.thmHysShys]
  let w := new.rd (thmF Reg.thmLvlWarn 0)
  let t := new.rd (thmF Reg.thmLvlThrottle 0)
  let d := new.rd (thmF Reg.thmLvlShutdown 0)
  if !(w < t && t < d && d ≤ 140) || hys.any (fun r => new.rd (thmF r 0) == 0)
      || (List.range 32).any (fun n => new.rd (thmF Reg.thmCfgBeta n) < 1000 || 8000 < new.rd (thmF Reg.thmCfgBeta n)) then some 2
  else none

/-- DIE_TEMP_SAMPLE (R476 to R481): both conversions, then one move of the level; a commit of the page applies here (R479). -/
def execDieTempSample (l p : Option (BitVec 16)) (late : Bool) (s : State) : Res :=
  if !s.islandUp then .next s
  else
    let a := if s.rdB (hdr Reg.pgCbusy 0x0B0) then (s.applyPart (pageLo 0x0B0) (pageHi 0x0B0)).commitDone 0x0B0 else s
    let b := ((if late then a.late 851 else a).convert 0 l).convert 1 p
    .next (s.follow (b.goLevel (b.nextLevel l.isSome p.isSome)).sampleRate)

/-- LDIE_POWER_DOWN (R482): VDDL and VDDS are removed; capture and scratch contents are lost. -/
def execLdiePowerDown (late : Bool) (s : State) : Res :=
  if s.sys.grace.isSome then
    let a := ((s.wr (thmF Reg.thmStatLoff 0) 1).capWipe).sysMod fun x => { x with grace := none }
    .next (if late then a.late 850 else a)
  else .next s

/-- HARD_TRIP (R483): every phase stops, every gate falls at 2 A, the L-die loses its power; kept until cold reset. -/
def execHardTrip (s : State) : Res :=
  if !s.islandUp || s.rdB (thmF Reg.thmStatHardtrip 0) then .next s
  else
    let a := (if s.lUp then s.enterHold 6 else s.ldieStop).powerKill
    let b := (List.range 48).foldl (fun t n => if t.bayClosed n || t.bayState n == 7 then t.bayOpenGate n true else t) a
    let c := (((b.wr (thmF Reg.thmStatLevel 0) 4).wr (thmF Reg.thmStatHardtrip 0) 1).wr (thmF Reg.thmStatLoff 0) 1).capWipe
    .next (State.raise ({ c with mode := .hold }.sysMod fun x => { x with grace := none }) 852)

/-! ### Thermistors (R484) -/

/-- ln 2 in 10⁻¹⁸. -/
def ln2 : Int := 693147180559945309

/-- The temperature of a thermistor at `v` µV, 1/8 °C: none outside the valid ranges (R484; log entry 59). -/
def thermistor (v r26 beta : Nat) : Option Int :=
  if v < 20000 ∨ 1980000 < v ∨ r26 = 0 ∨ beta = 0 then none
  else
    let ln : ℚ := (log2Q (1000 * v) ((2000000 - v) * r26) * ln2 : Int) / ((2 ^ 32 * 10 ^ 18 : Nat) : ℚ)
    let inv : ℚ := 20 / 5963 + ln / (beta : ℚ)
    if inv ≤ 0 then none
    else
      let t : ℚ := 1 / inv - 27315 / 100
      if t < -40 ∨ 125 < t then none else some (qround (8 * t))

/-- One thermistor is reported. -/
def State.thermUpdate (v : List (BitVec 22)) (s : State) (n : Nat) : State :=
  if !s.effB (thmF Reg.thmCfgEn n) then (s.wr (thmF Reg.thmMonValid n) 0).wr (thmF Reg.thmMonOver n) 0
  else
    let t := if s.retired 2 (304 + n) then none
      else thermistor ((v.getD n 0).toNat) (s.eff (thmF Reg.thmCfgR26 n)) (s.eff (thmF Reg.thmCfgBeta n))
    match t with
    | none => (s.wr (thmF Reg.thmMonValid n) 0).raise 854
    | some t =>
      let a := (s.wr (thmF Reg.thmMonTemp n) (tw 16 t)).wr (thmF Reg.thmMonValid n) 1
      let high := 8 * sx 8 (s.eff (thmF Reg.thmMonHigh n))
      if high ≤ t then (if a.rdB (thmF Reg.thmMonOver n) then a else (a.wr (thmF Reg.thmMonOver n) 1).raise 853)
      else if t < high - 16 then a.wr (thmF Reg.thmMonOver n) 0 else a

/-- THERMISTOR_UPDATE (R484): every 10 ms, a 1 ms mean of each ball. -/
def execThermistorUpdate (v : List (BitVec 22)) (s : State) : Res :=
  .next (if s.islandUp then (List.range 32).foldl (State.thermUpdate v) s else s)

end Sys2Proof.Machine
end

