-- ==== Sys2Proof/Machine/Bist.lean ====
section
/-!
DEFINITION. Built-in self-test (chapter 20): BIST_START in its three tests, and the ends of the tests.
-/

namespace Sys2Proof.Machine

/-- The expected signature of a test (R498; log entry 22). -/
def bistExpected (test bank : Nat) : Nat := (Config.bistExpected test bank).toNat

/-- The signature that a test gives: the expected one, or the operand. -/
def bistSig (test bank : Nat) (sig : Option (BitVec 64)) : Nat := match sig with | some x => x.toNat | none => bistExpected test bank

/-- The payload of a BIST record (Table 20.2). -/
def bistPayload (test bank : Nat) (pass aborted cold : Bool) (sig dur : Nat) : List Nat :=
  let e := bistExpected test bank
  [test + 8 * bank + 1024 * b2n pass + 2048 * b2n aborted + 4096 * b2n cold, sig % 2 ^ 32, sig / 2 ^ 32, e % 2 ^ 32, e / 2 ^ 32, dur % 2 ^ 32]

/-- A test ends (R505 to R507): the BIST page, the record, and BISTDONE or BISTFAIL. -/
def State.bistResult (s : State) (test bank sig dur : Nat) (pass aborted cold : Bool) : State :=
  let e := bistExpected test bank
  let a := ((((((s.wr (bistF Reg.bistStatState 0) 0).wr (bistF Reg.bistStatPaused 0) 0).wrB (bistF Reg.bistStatPass 0) pass).wrB
    (bistF Reg.bistStatAborted 0) aborted).wr (bistF Reg.bistStatTest 0) test).wr (bistF Reg.bistStatBank 0) bank).wr (bistF Reg.bistDurUs 0) dur
  let b := (((a.wr (bistF Reg.bistSigloSig 0) sig).wr (bistF Reg.bistSighiSig 0) (sig / 2 ^ 32)).wr (bistF Reg.bistExploSig 0) e).wr
    (bistF Reg.bistExphiSig 0) (e / 2 ^ 32)
  let c := if aborted then b else b.inc (bistF Reg.bistNrunRuns 0)
  let d := if pass then c else c.inc (bistF Reg.bistNrunFails 0)
  ((d.record 0x30 1008 (bistPayload test bank pass aborted cold sig dur)).raise (if pass then 1008 else 1009)).sysMod
    fun x => { x with bist := none }

/-- The command of a test is done: OK, or FAILED with reason 0x11 (R504). -/
def State.bistDone (s : State) (pass : Bool) : State := if pass then s.doneWait .bist else s.doneWait .bist 3 0x11

/-- A test begins: the BIST page, and the command waits for the result. -/
def State.bistBegin (s : State) (e : JEntry) (test bank : Nat) : State :=
  let a := ((((s.wr (bistF Reg.bistStatState 0) (test + 1)).wr (bistF Reg.bistStatTest 0) test).wr (bistF Reg.bistStatBank 0) bank).wr
    (bistF Reg.bistStatAborted 0) 0).wr (bistF Reg.bistProgWord 0) 0
  let b := (a.wrB (bistF Reg.bistStatPaused 0) s.throttling).sysMod fun x => { x with bist := some (test, bank, e.seq, s.us) }
  (b.setWait e.seq .bist).lseq 0x108 e

/-- A logic BIST at replay is never run again (R500): the result that the island holds, or FAILED with ABORTED. -/
def State.bistReplay (s : State) (e : JEntry) : State :=
  let t := s.setWait e.seq .bist
  match s.sys.logic with
  | some (seq, sig, dur) =>
    if seq = e.seq then ((t.bistResult 0 0 sig dur (sig == bistExpected 0 0) false false).bistDone (sig == bistExpected 0 0)).sysMod
      fun x => { x with logic := none }
    else (t.bistResult 0 0 0 0 false true false).bistDone false
  | none => (t.bistResult 0 0 0 0 false true false).bistDone false

/-- Another BIST_START is not done. -/
def State.bistBusy (s : State) (e : JEntry) : Bool :=
  s.jnl.any fun x => x.applied && x.status.isNone && x.seq != e.seq && x.opc == 0xC00

/-- Why a BIST_START is refused, if it is (R504); a memory test that a hold stopped goes on (R501). -/
def State.bistRefused (s : State) (e : JEntry) : Option Nat :=
  let test := bits (e.arg 0) 0 3
  let bank := bits (e.arg 0) 8 7
  let again := e.replayed && s.owner bank == 7
  let flying := (List.range 8).any fun f => s.flState f != 0
  firstReason
    [(2 < test, 2), (test == 1 && 79 < bank, 2), (test == 1 && s.retired 5 bank, 3),
     (test == 0 && (!s.inRun || s.holdup || flying), 4), (test == 1 && !again && (s.owner bank != 0 || s.throttling), 4),
     (test == 2 && s.mode != .bench, 4), (s.bistBusy e, 4)]

/-- BIST_START (R498 to R504); its application is a point of commit (R281). -/
def State.applyBist (e : JEntry) (s : State) : State :=
  let test := bits (e.arg 0) 0 3
  let bank := bits (e.arg 0) 8 7
  if test = 0 ∧ e.replayed then s.bistReplay e
  else
    match s.bistRefused e with
    | some r => s.refuseCmd e r
    | none =>
      let a := s.recCommitDue
      if test = 0 then ((a.enterHold 5).sysMod fun x => { x with bist := some (0, 0, e.seq, s.us), logic := none })
      else if test = 1 then (a.wr (memF Reg.memOwnOwner bank) 7).bistBegin e 1 bank
      else a.bistBegin e 2 0

/-- ARG0 with another TEST. -/
def withTest (arg0 : Word) (test : Nat) : Nat := arg0.toNat / 8 * 8 + test

/-- BIST_START with TEST 0 (opcode 0xC00). -/
def execBistLogic (inst : BitVec 8) (h : CmdHdr) (arg0 bound : Word) (s : State) : Res :=
  .next (s.command State.applyBist 0xC00 inst.toNat h [withTest arg0 0, bound.toNat])

/-- BIST_START with TEST 1. -/
def execBistMemory (inst : BitVec 8) (h : CmdHdr) (arg0 bound : Word) (s : State) : Res :=
  .next (s.command State.applyBist 0xC00 inst.toNat h [withTest arg0 1, bound.toNat])

/-- BIST_START with TEST 2 or above. -/
def execBistPdie (inst : BitVec 8) (h : CmdHdr) (arg0 bound : Word) (s : State) : Res :=
  .next (s.command State.applyBist 0xC00 inst.toNat h [withTest arg0 (max 2 (arg0.toNat % 8)), bound.toNat])

/-- LOGIC_BIST_END (R499): the island stores the result, and the L-die boots. -/
def execLogicBistEnd (sig : Option (BitVec 64)) (s : State) : Res :=
  match s.sys.bist with
  | some (test, _, seq, t) =>
    if s.mode == .hold && test == 0 then
      .next ((s.sysMod fun x => { x with bist := none, logic := some (seq, bistSig 0 0 sig, s.us - t) }).bootBegin)
    else .next s
  | none => .next s

/-- MEMORY_BIST_END (R501, R502): every word is 0, the bank is NONE's; a failing test raises TESTFAIL. -/
def execMemoryBistEnd (sig : Option (BitVec 64)) (fail : Option (BitVec 17)) (s : State) : Res :=
  match s.sys.bist with
  | some (test, m, _, t) =>
    if s.lUp && test == 1 && !s.rdB (bistF Reg.bistStatPaused 0) then
      let a := State.touched { s with mem := s.mem.wipe (wordAddr m 0) (wordAddr m (bankWords m)) } [(m, 0, bankWords m)]
      let b := (a.wr (memF Reg.memOwnOwner m) 0).wr (bistF Reg.bistProgWord 0) (bankWords m)
      let c := match fail with
        | some w =>
          ((b.wr (memF Reg.memErradrWord m) w.toNat).wr (memF Reg.memErradrKind m) 3).tokenEv 900 0x03 (m + 128 * w.toNat)
        | none => b
      let pass := fail.isNone && bistSig 1 m sig == bistExpected 1 m
      .next ((c.bistResult 1 m (bistSig 1 m sig) (s.us - t) pass false false).bistDone pass)
    else .next s
  | none => .next s

/-! ### The P-die BIST (R503) and the end of KEEPALIVE-BOOT (R528) -/

/-- The bay is an adoption candidate that meets R124: its module side, averaged over 1 ms, lies within 2 % of a system side of
36 V or more. -/
def State.adoptable (s : State) (n : Nat) : Bool :=
  let v := s.rd (bayF Reg.bayVmeasVsys n)
  let m := (vget s.bay n).vMean
  s.effB (bayF Reg.bayCfgAdopt n) && s.bayState n == 1 && 18000 ≤ v && 50 * ((v - m) + (m - v)) ≤ v

/-- Steps 5 and 6 of the cold boot are complete: adoption is judged, and the island enters HOLD (Table 22.3). -/
def State.bootHold (s : State) : State :=
  let a := (List.range 48).foldl (fun t n => if t.adoptable n then t.bayClose n true else t) s
  let b := ({ a with mode := .hold, holdUs := a.us }.wr (kaiF Reg.kaiStatInhold 0) 1).wr (kaiF Reg.kaiHoldusUs 0) a.us32
  (b.wr (glbF Reg.glbBoottIsl 0) (sat 16 (a.us / 100))).bootBegin

/-- PDIE_BIST_END (R503): at boot a failing test keeps the device in KEEPALIVE-BOOT; in BENCH it sets PDFAIL. -/
def execPdieBistEnd (sig : Option (BitVec 64)) (dur : Word) (s : State) : Res :=
  let x := bistSig 2 0 sig
  let pass := x == bistExpected 2 0
  if s.mode = .boot then
    if s.sys.pdie.isSome then .next s
    else
      let a := s.sysMod fun y => { y with pdie := some (pass, x, dur.toNat) }
      .next (if pass && a.sys.present then a.bootHold else a)
  else
    match s.sys.bist with
    | some (test, _, _, _) =>
      if s.mode == .bench && test == 2 && !s.rdB (bistF Reg.bistStatPaused 0) then
        .next (((s.wrB (kaiF Reg.kaiStatPdfail 0) (!pass)).bistResult 2 0 x dur.toNat pass false false).bistDone pass)
      else .next s
    | none => .next s

/-- BOOT_PRESENCE_DEBOUNCE_END (R103, R124, R278, R528): every bay's presence is judged. `vins` gives V_ins of the strings, as
codes of SV(256 + s); a string that it does not name takes its last sample. -/
def execBootPresenceDebounceEnd (s : State) (vins : List (BitVec 5 × BitVec 16) := []) : Res :=
  if s.mode = .boot ∧ !s.sys.present then
    let a := (List.range 48).foldl (fun t n =>
      let x := (vget t.bay n).alt != 0
      if t.bayRole n = 3 ∨ x = t.rdB (bayF Reg.bayStatPresent n) then t
      else
        let v := (t.bayString n).map fun m =>
          match vins.find? fun p => p.1.toNat == m with
          | some p => p.2.toNat
          | none => t.sv (256 + m)
        (t.bayPresent n x).bayMod n fun y => { y with insPending := if x then v else none }) (s.sysMod fun y => { y with present := true })
    .next (match a.sys.pdie with | some (true, _, _) => a.bootHold | _ => a)
  else .next s

end Sys2Proof.Machine
end

