-- ==== Sys2Proof/Machine/PageSet.lean ====
section
/-!
DEFINITION. Pages as commands see them: the judgement of a set of values (R78, and the page rules of the block chapters),
PAGE_SET, and the apply points of a committed page (R58).
-/

namespace Sys2Proof.Machine

/-! ### Judgement and application of a PAGE_SET (R78) -/

/-- The name and the role that port `n` and its tie bay give one another agree (R286). -/
def State.tieAgrees (s : State) (n : Nat) : Bool :=
  let b := s.rd (tieF Reg.tieCfgBay n)
  s.rd (bayF Reg.bayCfgRole b) == 3 && s.rd (bayF Reg.bayCfgLink b) == n

/-- An enabled string, the role of its bay and the bay's group agree (R256). -/
def State.batAgrees (s : State) (m : Nat) : Bool :=
  let b := s.rd (batF Reg.batCfgBay m)
  s.rdB (batF Reg.batCfgEn m) && s.rd (bayF Reg.bayCfgRole b) == 1 && s.rd (bayF Reg.bayCfgLink b) == s.rd (batF Reg.batCfgGroup m)

/-- A TIE bay is mapped with CYC set (R386). -/
def State.tieCycled (s : State) (n : Nat) : Bool :=
  s.rd (bayF Reg.bayCfgRole n) == 3 && (List.range 8).any fun p => (List.range 16).any fun k =>
    s.rdB (twcFk Reg.twcMapEn p k) && s.rdB (twcFk Reg.twcMapCyc p k) && s.rd (twcFk Reg.twcMapBay p k) == n

/-- A change of a bay's page leaves the bay mapped to a rod of another kind (R198), lets a two-wire port cycle a TIE bay (R386), or
breaks the agreement in which it stood with a tie port or a string (R256, R286; one that did not agree before breaks nothing:
DESIGN CHOICE, log entry 108). -/
def State.rolesBreak (old new : State) (n : Nat) : Bool :=
  (old.rd (bayF Reg.bayCfgRole n) != new.rd (bayF Reg.bayCfgRole n) && (new.mapsBad || new.tieCycled n))
    || ((List.range 4).any fun p => old.tieAgrees p && !new.tieAgrees p)
    || (List.range 24).any fun m => old.batAgrees m && !new.batAgrees m

/-- The judgement of a page's settings, from the shadow values that stood to those that would stand. -/
def State.pageCheck (old new : State) (pg : Nat) : Option Nat :=
  if 0x010 ≤ pg ∧ pg ≤ 0x03F then
    (old.bayPageCheck new (pg - 0x010)).or (if old.rolesBreak new (pg - 0x010) then some 2 else none)
  else if 0x040 ≤ pg ∧ pg ≤ 0x04F then old.loopPageCheck new (pg - 0x040)
  else if 0x050 ≤ pg ∧ pg ≤ 0x05F then new.phPageCheck (pg - 0x050)
  else if 0x060 ≤ pg ∧ pg ≤ 0x063 then new.abcPageCheck pg
  else if 0x070 ≤ pg ∧ pg ≤ 0x087 then new.batPageCheck (pg - 0x070)
  else if 0x088 ≤ pg ∧ pg ≤ 0x08B then new.tiePageCheck (pg - 0x088)
  else if 0x0A1 ≤ pg ∧ pg ≤ 0x0A8 then new.twcPageCheck (pg - 0x0A1)
  else if pg = 0x0B0 then new.thmPageCheck
  else if pg = 0x0F0 ∨ pg = 0x0F1 then new.fltPageCheck pg
  else none

/-- The offset holds a register that a PAGE_SET may write: PG_CTL, whose ENABLE is RWJ, or a block register with RWJ fields. -/
def rwjReg (pg off : Nat) : Bool :=
  pageListed pg && pageJrnl pg && (off == 0x00C || (0x040 ≤ off && (fieldsAt pg off).any fun f => f.acc == .rwj))

/-- One pair of a PAGE_SET: the RWJ fields of the register take their bits of the value. -/
def State.putPair (s : State) (pg off v : Nat) : State :=
  if off = 0x00C then s.wr (hdr Reg.pgEnable pg) (bits v 0 1) else s.putWord pg off v

/-- The page of a PAGE_SET. -/
def JEntry.page (e : JEntry) : Nat := bits (e.arg 0) 0 9

/-- The pairs of a PAGE_SET: offset and value. -/
def JEntry.pairs (e : JEntry) : List (Nat × Nat) :=
  (List.range (bits (e.arg 0) 16 3)).map fun i => (e.arg (1 + 2 * i), e.arg (2 + 2 * i))

/-- PAGE_SET (R78): all pairs or none. It names its page in its arguments and no instance, so a retired bay refuses none on its
page (DESIGN CHOICE, log entry 101); with ARG11 [0] the page is committed, and the commit's application is the done
point. -/
def State.applyPageSet (e : JEntry) (s : State) : State :=
  let pg := e.page
  let n := bits (e.arg 0) 16 3
  let ps := e.pairs
  let new := ps.foldl (fun t p => t.putPair pg p.1 p.2) s
  match firstReason
    [(n == 0 || 5 < n, 2), (ps.any fun p => !rwjReg pg p.1, 2), (ps.any fun p => !rangeOk pg p.1 p.2, 2),
     (0x010 ≤ pg && pg ≤ 0x03F && ps.any fun p => p.1 == 0x060, 4)] with
  | some r => s.refuseCmd e r
  | none =>
    match s.pageCheck new pg with
    | some r => s.refuseCmd e r
    | none =>
      let a := new.lseq pg e
      if bitOf (e.arg 11) 0 && pageStaged pg then (a.setWait e.seq (s.commitWait pg)).commit pg else a.done e.seq

/-- COMMIT (R58): a write of PG_CTL.COMMIT. A page with PG_CAP.STAGED = 0 has nothing to commit. -/
def execCommit (pg : BitVec 9) (s : State) : Res :=
  .next (
    if !s.lUp then s
    else if !pageListed pg.toNat then s.barWrite.accessErr (pg.toNat * 4096 + 0x00C) s.hostPath true
    else if pageStaged pg.toNat then s.barWrite.commit pg.toNat else s.barWrite)

/-! ### Apply points (R58) -/

/-- The page's snapshot was taken at least `d` µs before. -/
def State.snapAged (s : State) (pg d : Nat) : Bool := s.snapUs.any fun p => p.1 == pg && decide (p.2 + d ≤ s.us)

/-- How long after the COMMIT the apply point of a page lies at least, µs: the pages whose settings cross to the P-die (R116,
R148, R194, R246) and the TIE pages 2, the pages that apply at the next tick 1. -/
def applyDelay (pg : Nat) : Nat :=
  if (0x010 ≤ pg && pg ≤ 0x05F) || pg == 0x066 || (0x088 ≤ pg && pg ≤ 0x08B) then 2
  else if pg == 0x000 || (0x090 ≤ pg && pg ≤ 0x097) || pg == 0x0F0 || pg == 0x0F1 || (0x110 ≤ pg && pg ≤ 0x113) then 1 else 0

/-- The whole snapshot of a page whose settings need no more than to become active. -/
def State.applyPlain (s : State) (pg : Nat) : State := (s.applyPart (pageLo pg) (pageHi pg)).commitDone pg

/-- The apply point of page `pg` has come. The ABC, BAL, SRV, CAP and THM pages and page 0x0F9 apply in their own steps; an
episode holds the HLD page back (R235), a transaction a TWC page. -/
def State.snapApply (s : State) (pg part : Nat) : State :=
  if 0x010 ≤ pg ∧ pg ≤ 0x03F then s.follow (s.applyBayPage (pg - 0x010))
  else if 0x040 ≤ pg ∧ pg ≤ 0x04F then s.follow (s.applyLoopPage (pg - 0x040))
  else if 0x050 ≤ pg ∧ pg ≤ 0x05F then (if part ≤ 4 then s.follow (s.applyPhPart pg part) else s)
  else if pg = 0x066 then (if s.hldSt = 0 then s.applyPlain pg else s)
  else if 0x088 ≤ pg ∧ pg ≤ 0x08B then s.applyTiePage (pg - 0x088)
  else if 0x0A1 ≤ pg ∧ pg ≤ 0x0A8 then (if (vget s.twc (pg - 0x0A1)).run.isNone then s.applyTwcPage (pg - 0x0A1) else s)
  else if pg = 0x0F0 then s.applyFltPage
  else if pg = 0x000 ∨ (0x070 ≤ pg ∧ pg ≤ 0x087) ∨ (0x090 ≤ pg ∧ pg ≤ 0x098) ∨ pg = 0x0F1 ∨ (pg = 0x100 ∧ s.lanSt = 0) ∨ (0x110 ≤ pg ∧ pg ≤ 0x113) then
    s.follow (s.applyPlain pg)
  else s

/-- SNAPSHOT_APPLY (R58, R116, R148, R194). -/
def execSnapshotApply (pg : BitVec 9) (part : BitVec 3) (s : State) : Res :=
  .next (if s.lUp && s.rdB (hdr Reg.pgCbusy pg.toNat) && s.snapAged pg.toNat (applyDelay pg.toNat) then s.snapApply pg.toNat part.toNat else s)

end Sys2Proof.Machine
end

