-- ==== Sys2Proof/Machine/Images.lean ====
section
/-!
DEFINITION. Stored content (chapter 21): the NVM slots, the verification of policy firmware, Decop images, IMG_SELECT, and
the NVC transfers and verifications. Slots 0 to 3 are firmware A and B and image A and B; slot 4 is the OTP.
-/

namespace Sys2Proof.Machine

/-! ### Slots (R513, R514; log entry 65) -/

/-- A device can be read: device 0, or device 1 with MIRROR = 1 (R513). -/
def State.nvmUp (s : State) : Bool :=
  s.rdB (nvcF Reg.nvcStatDev0ok 0) || (s.rdB (nvcF Reg.nvcCfgMirror 0) && s.rdB (nvcF Reg.nvcStatDev1ok 0))

/-- The first word of a slot in the store of slot words. -/
def slotLo (k : Nat) : Nat := k * 262144

/-- Word `i` of slot `k`; an erased word reads all ones. -/
def State.slotWord (s : State) (k i : Nat) : Nat := s.sys.slots.get (slotLo k + i) 0xFFFFFFFF % 2 ^ 32

/-- The bytes of `n` words of a slot from word `i` up. -/
def State.slotBytes (s : State) (k i n : Nat) : List Byte := wordBytes ((List.range n).map fun j => s.slotWord k (i + j))

/-- The store with the words `ws` from key `lo` up; an erased word is not listed. -/
def Store.span (m : Store) (lo : Nat) (ws : List Nat) : Store :=
  (m.filter fun p => decide (p.1 < lo))
    ++ ((ws.zipIdx.map fun p => (lo + p.2, p.1)).filter fun p => p.2 != 0xFFFFFFFF)
    ++ m.filter fun p => decide (lo + ws.length ≤ p.1)

/-- Words of a slot: 1 MiB in the NVM, 16 KiB in the OTP (R518, Table 21.3). -/
def slotWords (k : Nat) : Nat := if k < 4 then 262144 else 4096

/-- Every word of the slot is erased. -/
def State.slotBlank (s : State) (k : Nat) : Bool :=
  s.sys.slots.all fun p => p.1 < slotLo k || slotLo k + 262144 ≤ p.1

/-! ### Policy firmware (R514 to R516) -/

/-- LENn of a firmware slot. -/
def State.fwLen (s : State) (k n : Nat) : Nat := bits (s.slotWord k (0x20 + n)) 0 17

/-- The body of PCn in a firmware slot. -/
def State.fwBody (s : State) (k n : Nat) : List Byte :=
  (s.slotBytes k (0x80 + 0x4000 * n) ((s.fwLen k n + 3) / 4)).take (s.fwLen k n)

/-- RBIDX of a firmware slot. -/
def State.fwIndex (s : State) (k : Nat) : Nat := s.slotWord k 3

/-- The firmware in slot `k` can be read and is verified (R513, R514; log entry 12). -/
def State.fwOk (s : State) (k : Nat) : Bool :=
  if !s.nvmUp then false
  else if s.slotWord k 0 ≠ 0x4D465043 ∨ s.slotWord k 1 / 65536 ≠ 0x9648 ∨ bits (s.slotWord k 2) 0 8 ≠ 0xB1 then false
  else if (List.range 4).any fun n => 65536 < s.fwLen k n then false
  else if s.fwIndex k < s.rd (pol0F Reg.polRbcntCnt 0) then false
  else
    let digest := s.slotBytes k 0x10 12
    (sha384 (s.slotBytes k 0 16 ++ (List.range 4).flatMap (s.fwBody k)) == digest)
      && Config.fwSignature digest (s.slotBytes k 0x40 24)

/-- The four bodies are loaded into SB0 to SB3, and the cores start (R508, R515). -/
def State.fwLoad (s : State) (k : Nat) (trial : Bool) : State :=
  let a := (List.range 4).foldl (fun t n =>
    let b := { t with mem := t.mem.putRun (wordAddr (64 + n) 0) (t.fwBody k n) }
    ((b.wr (polF Reg.polStatRunning n) 1).wr (polF Reg.polStatStopped n) 0).wr (polF Reg.polStatRestarts n) 0) s
  ((a.wr (pol0F Reg.polFwselActive 0) k).wrB (pol0F Reg.polFwselTrial 0) trial).wr (pol0F Reg.polFwselNofw 0) 0

/-- Firmware at a boot of the L-die (R515): the pending or selected slot, the other, none; a TRIAL selection counts for this
boot only (R517). -/
def State.fwBoot (s : State) : State :=
  let pick := match s.sys.fwPend with | some p => p.1 | none => s.sys.fwSel
  let trial := match s.sys.fwPend with | some p => p.2 | none => false
  let a := (s.wr (pol0F Reg.polFwselSelected 0) s.sys.fwSel).sysMod fun x => { x with fwPend := none }
  if a.fwOk pick then (a.fwLoad pick trial).raise 996
  else if a.fwOk (1 - pick) then (a.fwLoad (1 - pick) false).raise 996
  else
    let b := (List.range 4).foldl (fun t n => t.wr (polF Reg.polStatRunning n) 0) a
    ((b.wr (pol0F Reg.polFwselTrial 0) 0).wr (pol0F Reg.polFwselNofw 0) 1).raise 997

/-! ### Decop images (R518, R519) -/

/-- The sections of an image from word `p` to its end word: (TYPE, first word, value) of each entry, in order; none when the
sections do not cover it exactly. -/
def imgSections (w : Nat → Nat) (stop : Nat) : Nat → Nat → Option (List (Nat × Nat × Nat))
  | 0, p => if p = stop then some [] else none
  | n + 1, p =>
    let c := bits (w p) 16 16
    if stop < p + 1 + 2 * c then none
    else
      match imgSections w stop n (p + 1 + 2 * c) with
      | some r => some (((List.range c).map fun i => (bits (w p) 0 8, w (p + 1 + 2 * i), w (p + 2 + 2 * i))) ++ r)
      | none => none

/-- The page of an entry. -/
def entPage (e : Nat × Nat × Nat) : Nat := bits e.2.1 12 9
/-- The offset of an entry. -/
def entOff (e : Nat × Nat × Nat) : Nat := bits e.2.1 0 12

/-- The pages that a section TYPE may write (Table 21.5). -/
def typePage (typ pg : Nat) : Bool :=
  if typ = 1 then 0x010 ≤ pg && pg ≤ 0x03F else if typ = 2 then 0x040 ≤ pg && pg ≤ 0x05F
  else if typ = 3 then 0x090 ≤ pg && pg ≤ 0x097 else if typ = 4 then 0x060 ≤ pg && pg ≤ 0x066
  else if typ = 5 then 0x070 ≤ pg && pg ≤ 0x087 else if typ = 6 then pg == 0x0B0
  else if typ = 7 then (0x001 ≤ pg && pg ≤ 0x00B) || (0x088 ≤ pg && pg ≤ 0x0A8) || (0x0C0 ≤ pg && pg ≤ 0x0F9) || pg == 0x100 || pg == 0x118
  else false

/-- A page that some section TYPE may write. -/
def imgPage (pg : Nat) : Bool := pageListed pg && ([1, 2, 3, 4, 5, 6, 7] : List Nat).any fun t => typePage t pg

/-- A field that an image may write. -/
def imgField (f : Fld) : Bool := f.acc == .rw || f.acc == .rwj || f.acc == .rwl

/-- An entry lies on a page its TYPE permits, at an allocated writable register (R519); BAYn_CTL is no setting (R129). -/
def entryOk (e : Nat × Nat × Nat) : Bool :=
  let pg := entPage e
  let off := entOff e
  typePage e.1 pg && pageListed pg && off % 4 == 0
    && (if off < 0x040 then (off == 0x00C && e.2.2 ≤ 1) || off == 0x018 else (fieldsAt pg off).any imgField)
    && rangeOk pg off e.2.2 && !(0x010 ≤ pg && pg ≤ 0x03F && off == 0x060)

/-- One field loaded: shadow and active value. -/
def State.imgPut (s : State) (f : Fld) (v : Nat) : State := if f.staged then s.load f v else s.wr f v

/-- One entry applied (R519). -/
def State.imgEntry (s : State) (e : Nat × Nat × Nat) : State :=
  let pg := entPage e
  if entOff e = 0x00C then s.wr (hdr Reg.pgEnable pg) e.2.2
  else if entOff e = 0x018 then s.wr (hdr Reg.pgEvten pg) e.2.2
  else ((fieldsAt pg (entOff e)).filter imgField).foldl (fun t f => t.imgPut f (bits e.2.2 f.lo f.width)) s

/-- The key of a register store names a setting of an image page: a writable field, or ENABLE or PG_EVTEN. MEMn_OWN.REQ stands
with the owner of its bank, which a hard reset keeps (R428; log entry 66). -/
def settingKey (k : Nat) : Bool :=
  let pg := k / 131072
  let off := k % 131072 / 32
  imgPage pg && !(0x0D0 ≤ pg && pg ≤ 0x0DF)
    && (off == 0x00C || off == 0x018 || (0x040 ≤ off && (fieldsAt pg off).any fun f => f.lo == k % 32 && imgField f))

/-- Every setting of the image pages but the pages in `keep` returns to its reset value. -/
def State.imgClear (s : State) (keep : List Nat) : State :=
  let gone (k : Nat) : Bool := settingKey k && !keep.contains (k / 131072)
  { s with regs := s.regs.filter fun p => !gone p.1, act := s.act.filter fun p => !gone p.1 }

/-- The words that end an image before its CRC-32. -/
def State.imgStop (s : State) (k : Nat) : Nat := s.slotWord k 3 / 4 - 1

/-- The image in slot `k` can be read, and its header and CRC check (R513, R518). -/
def State.imgHeader (s : State) (k : Nat) : Bool :=
  let len := s.slotWord k 3
  (k == 4 || s.nvmUp) && s.slotWord k 0 == 0x504F4344 && s.slotWord k 1 == 0x96480001 && bits (s.slotWord k 2) 0 8 == 0xB1 && len % 4 == 0 && 68 ≤ len
    && len ≤ 4 * slotWords k && (List.range 10).all (fun i => s.slotWord k (6 + i) == 0)
    && (crc32 (s.slotBytes k 0 (s.imgStop k))).toNat == s.slotWord k (s.imgStop k)

/-- The entries of the image in slot `k`; a blank OTP is an image with no sections (R519). -/
def State.imgEntries (s : State) (k : Nat) : Option (List (Nat × Nat × Nat)) :=
  if k = 4 ∧ s.slotBlank 4 then some []
  else if s.imgHeader k then imgSections (s.slotWord k) (s.imgStop k) (bits (s.slotWord k 2) 8 8) 16
  else none

/-- The entries of a valid image (R519): none when the image is not valid. -/
def State.imgValid (s : State) (k : Nat) : Option (List (Nat × Nat × Nat)) :=
  match s.imgEntries k with
  | none => none
  | some es =>
    if !es.all entryOk then none
    else
      let new := es.foldl State.imgEntry (s.imgClear [])
      if (es.map entPage).any fun pg => (new.pageCheck new pg).isSome then none else some es

/-- The pages of the bays that the island holds closed. -/
def State.closedPages (s : State) : List Nat := ((List.range 48).filter s.bayClosed).map fun n => 0x010 + n

/-- The settings of an image applied over reset values, but for the bays held closed (R18, R519). -/
def State.imgApply (s : State) (es : List (Nat × Nat × Nat)) : State :=
  let keep := s.closedPages
  let a := (es.filter fun e => !keep.contains (entPage e)).foldl State.imgEntry (s.imgClear keep)
  let b := (List.range 80).foldl (fun t m =>
    if es.any fun e => entPage e == 0x0D0 + m / 5 && entOff e == (memF Reg.memOwnReq m).off then t.bankRequest m (t.rd (memF Reg.memOwnReq m)) else t) a
  if b.rdB (str0F Reg.strCfgEn 0) then (b.wr (str0F Reg.strCfgEn 0) 0).strCfg (b.word 0x0E4 (str0F Reg.strCfgEn 0).off) else b

/-- The slots of the two images as the boot tries them: the pending or selected one, the other, OTP (R517, R519). -/
def imgOrder (pick : Nat) : List Nat := if pick < 2 then [2 + pick, 3 - pick, 4] else [4]

/-- The image at a boot after a hard or cold reset (R519): IMGFAIL for each image found invalid before the one applied. -/
def State.imgBoot (s : State) : State :=
  let pick := match s.sys.imgPend with | some p => p.1 | none => s.sys.imgSel
  let a := (s.wr (pol0F Reg.polFwselImgsel 0) s.sys.imgSel).sysMod fun x => { x with imgPend := none }
  let order := imgOrder pick
  let b := (order.takeWhile fun k => (a.imgValid k).isNone).foldl (fun t _ => t.raise 998) a
  match order.find? fun k => (a.imgValid k).isSome with
  | some k =>
    match a.imgValid k with
    | some es => (b.imgApply es).wr (pol0F Reg.polFwselImgact 0) (k - 2)
    | none => b
  | none => b.imgApply []

/-- The OTP image of KEEPALIVE-BOOT (Table 22.3 step 4): nothing when it is not valid. -/
def State.imgFactory (s : State) : State :=
  match s.imgValid 4 with
  | some es => es.foldl State.imgEntry s
  | none => s

/-! ### IMG_SELECT (R516, R517) -/

/-- The slot of a selection: firmware A or B, image A or B, or OTP. -/
def selSlot (target slot : Nat) : Nat := if target = 0 then slot else 2 + slot

/-- The last verification of a slot failed. -/
def State.verifyFailed (s : State) (k : Nat) : Bool := s.sys.verified.any fun p => p.1 == k && !p.2

/-- The slot is the destination of the NVC transfer in progress. -/
def State.xferTo (s : State) (k : Nat) : Bool := match s.sys.xfer with | some x => x.2.1 == k | none => false

/-- The rollback counter rises to the RBIDX of a firmware slot, and never falls (R516). -/
def State.rbAdvance (s : State) (k : Nat) : State :=
  (s.wr (pol0F Reg.polRbcntCnt 0) (max (s.rd (pol0F Reg.polRbcntCnt 0)) (s.fwIndex k))).raise 999

/-- IMG_SELECT (R516, R517): recorded at its application. -/
def State.applyImgSelect (e : JEntry) (s : State) : State :=
  let target := bits (e.arg 0) 0 1
  let slot := bits (e.arg 0) 1 2
  let trial := bitOf (e.arg 0) 8
  let adv := bitOf (e.arg 1) 0
  let k := selSlot target slot
  match firstReason
    [(slot == 3 || (slot == 2 && target == 0) || (adv && target == 1), 2),
     (s.verifyFailed k || s.xferTo k || (adv && trial)
       || (adv && (s.rdB (pol0F Reg.polFwselNofw 0) || s.rd (pol0F Reg.polFwselActive 0) != slot)), 4)] with
  | some r => s.refuseCmd e r
  | none =>
    let a := if target = 0 then
        (s.wr (pol0F Reg.polFwselSelected 0) slot).sysMod fun x => { x with fwPend := some (slot, trial), fwSel := if trial then x.fwSel else slot }
      else
        (s.wr (pol0F Reg.polFwselImgsel 0) slot).sysMod fun x => { x with imgPend := some (slot, trial), imgSel := if trial then x.imgSel else slot }
    ((if adv then a.rbAdvance k else a).lseq 0x110 e).done e.seq

/-- IMG_SELECT (opcode 0xC02). -/
def execImgSelect (inst : BitVec 8) (h : CmdHdr) (target rbadv : Word) (s : State) : Res :=
  .next (s.command State.applyImgSelect 0xC02 inst.toNat h [target.toNat, rbadv.toNat])

/-! ### The xSPI controllers (R513, R520) -/

/-- The RESULT of an NVC operation, which ends. -/
def State.nvcEnd (s : State) (result : Nat) : State := (s.wr (nvcF Reg.nvcStatResult 0) result).nvcIdle

/-- A slot is named by a pending selection (R520). -/
def State.pendingSlot (s : State) (k : Nat) : Bool :=
  (match s.sys.fwPend with | some p => p.1 == k | none => false)
    || (match s.sys.imgPend with | some p => selSlot 1 p.1 == k | none => false)

/-- A transfer from bank `m` to slot `k` is refused (R519, R520, Table 21.7). -/
def State.xferRefused (s : State) (m k ofs len : Nat) : Bool :=
  4 < k || len == 0 || slotWords k < 16384 * ofs + 1024 * len || (k == 4 && (s.mode != .bench || !s.slotBlank 4))
    || (k < 2 && !s.rdB (pol0F Reg.polFwselNofw 0) && s.rd (pol0F Reg.polFwselActive 0) == k) || s.pendingSlot k || s.owner m != 3

/-- A write of NVC_CTL.GO (R520); ignored while an operation runs. -/
def State.nvcGo (s : State) : State :=
  if s.rdB (nvcF Reg.nvcStatBusy 0) then s
  else
    let m := s.rd (nvcF Reg.nvcXsrcBank 0)
    let k := s.rd (nvcF Reg.nvcXdstSlot 0)
    let ofs := s.rd (nvcF Reg.nvcXdstOfs 0)
    let len := s.rd (nvcF Reg.nvcXlenLen 0)
    if s.xferRefused m k ofs len then (s.wr (nvcF Reg.nvcStatResult 0) 1).raise 1017
    else ((s.wr (nvcF Reg.nvcStatBusy 0) 1).wr (nvcF Reg.nvcCtlGo 0) 1).sysMod fun x => { x with xfer := some (m, k, 16384 * ofs, 1024 * len) }

/-- NVC_TRANSFER (R520). -/
def execNvcTransfer (s : State) : Res := .next (if s.lUp then s.barWrite.nvcGo else s)

/-- The words of a bank as a transfer reads them: an uncorrectable word reads 0 (R409). -/
def State.bankRead (s : State) (m n : Nat) : List Nat :=
  (List.range n).flatMap fun i =>
    if s.memBad.contains (m, i, true) then [0, 0] else let w := s.mem.word (wordAddr m i); [w % 2 ^ 32, w / 2 ^ 32]

/-- NVC_TRANSFER_DONE (R513, R520): the words of the bank are in the slot; with a bad read-back its first word is open (log
entry 23). -/
def execNvcTransferDone (fail0 fail1 bad : Bool) (s : State) : Res :=
  match s.sys.xfer with
  | none => .next s
  | some (m, k, lo, n) =>
    if !s.lUp then .next s
    else
      let seg : FrameR := { segs := [(m, 0, n / 2)] }
      let ws := s.bankRead m (n / 2)
      let a := (s.eccFound [seg] [] []).sysMod fun x => { x with xfer := none }
      let devs := s.nvcDevs
      let out := devs.filter fun d => if d = 0 then fail0 else fail1
      let b := out.foldl State.nvcFail a
      if out.length = devs.length then .next ((b.nvcEnd 2).raise 1017)
      else if bad then
        let d := b.draw 33
        .next ((((d.2.sysMod fun x => { x with slots := x.slots.span (slotLo k + lo) (ws.set 0 (d.1.toNat % 2 ^ 32)) })).nvcEnd 3).raise 1017)
      else .next (((b.sysMod fun x => { x with slots := x.slots.span (slotLo k + lo) ws }).nvcEnd 0).raise 1016)

/-- A write of NVC_CTL.VERIFY (R508, R520); without PC3 it fails with RESULT 4. -/
def State.nvcVerify (s : State) : State :=
  let k := s.rd (nvcF Reg.nvcXdstSlot 0)
  if s.rdB (nvcF Reg.nvcStatBusy 0) then s
  else if 4 < k then (s.wr (nvcF Reg.nvcStatResult 0) 1).raise 1017
  else if !s.coreUp 3 then s.wr (nvcF Reg.nvcStatResult 0) 4
  else ((s.wr (nvcF Reg.nvcStatBusy 0) 1).wr (nvcF Reg.nvcCtlVerify 0) 1).sysMod fun x => { x with verify := some k }

/-- NVC_VERIFY (R520). -/
def execNvcVerify (s : State) : Res := .next (if s.lUp then s.barWrite.nvcVerify else s)

/-- VERIFY_DONE (R514, R519, R520): NVC_SLOTk and RESULT. -/
def execVerifyDone (s : State) : Res :=
  match s.sys.verify with
  | none => .next s
  | some k =>
    if !s.lUp then .next s
    else
      let ok := if k < 2 then s.fwOk k else (s.imgValid k).isSome
      let a := s.sysMod fun x => { x with verify := none, verified := (x.verified.filter fun p => p.1 != k) ++ [(k, ok)] }
      let b := if k < 4 then (a.wrB (nvcF Reg.nvcSlotValid k) ok).wr (nvcF Reg.nvcSlotRbidx k) (if k < 2 then s.fwIndex k else 0) else a
      .next (b.nvcEnd (if ok then 0 else 3))

end Sys2Proof.Machine
end

