-- ==== Sys2Proof/Machine/Cores.lean ====
section
/-!
DEFINITION. The policy cores as the chapter describes them: heartbeats and restarts, and the mailbox (chapter 21).
-/

namespace Sys2Proof.Machine

/-! ### Heartbeats (R509) -/

/-- The mailbox exchange of a core is lost (R511). -/
def State.mbxDrop (s : State) (n : Nat) : State :=
  ((s.wr (polF Reg.polMbctlBusy n) 0).wr (polF Reg.polMbctlGo n) 0).sysMod fun x => { x with mbx := x.mbx.filter fun p => p.1 != n }

/-- Restarts of a core. -/
def State.restartsOf (s : State) (n : Nat) : Nat := (s.sys.restarts.filter fun p => p.1 == n).length

/-- POLn_STAT.RESTARTS follows the restarts of the last 600 s. -/
def State.showRestarts (s : State) (n : Nat) : State := s.wr (polF Reg.polStatRestarts n) (sat 4 (s.restartsOf n))

/-- Restarts that lie 600 s back leave the window. -/
def State.restartWindow (s : State) (n : Nat) : State :=
  (s.sysMod fun x => { x with restarts := x.restarts.filter fun p => p.1 != n || decide (s.us < p.2 + 600000000) }).showRestarts n

/-- A core hangs (R509): restarted, or stopped after three restarts in 600 s. -/
def State.coreHang (s : State) (n : Nat) : State :=
  let a := ((s.mbxDrop n).restartWindow n).tokenEv (992 + n) 0x01 0
  if a.restartsOf n < 3 then (a.sysMod fun x => { x with restarts := x.restarts ++ [(n, s.us)] }).showRestarts n
  else (a.wr (polF Reg.polStatRunning n) 0).wr (polF Reg.polStatStopped n) 1

/-- CORE_HEARTBEAT_TIMEOUT (R509). -/
def execCoreHeartbeatTimeout (core : BitVec 2) (late : Bool) (s : State) : Res :=
  let n := core.toNat
  .next (if s.coreUp n then (if late then (s.coreHang n).late (992 + n) else s.coreHang n) else s)

/-- RESTART_WINDOW_EXPIRY (R509). -/
def execRestartWindowExpiry (core : BitVec 2) (s : State) : Res := .next (if s.lUp then s.restartWindow core.toNat else s)

/-! ### Mailbox (R511, R512) -/

/-- A write of POLn_MBCTL.GO: the request words are taken, and GO stays set until the exchange ends (R511; log entry 92). -/
def State.mbxGo (s : State) (n : Nat) : State :=
  if s.rdB (polF Reg.polMbctlBusy n) then s
  else ((s.wr (polF Reg.polMbctlBusy n) 1).wr (polF Reg.polMbctlGo n) 1).sysMod fun x =>
    { x with mbx := x.mbx ++ [(n, (List.range 16).map fun k => s.rd (polFk Reg.polReqD n k))] }

/-- The request words of the open exchange of a core. -/
def State.mbxOpen (s : State) (n : Nat) : Option (List Nat) := (s.sys.mbx.find? fun p => p.1 == n).map Prod.snd

/-- MSG of a request. -/
def mbxMsg (q : List Nat) : Nat := bits (nth q 0) 0 16

/-- The exchange of a core ends with a status (R511): RSP0, DONE and MBXDONE. -/
def State.mbxEnd (s : State) (n msg status : Nat) : State :=
  let a := (s.mbxDrop n).wr (polFk Reg.polRspD n 0) (msg + 16777216 * status)
  (a.wr (polF Reg.polMbctlDone n) 1).raise (1012 + n)

/-- Response words from RSP1 on. -/
def State.mbxPut (s : State) (n : Nat) (ws : List Nat) : State :=
  ws.zipIdx.foldl (fun t p => t.wr (polFk Reg.polRspD n (p.2 + 1)) p.1) s

/-- Message 0x0001: VERSION and RBIDX of the running firmware. -/
def State.mbxVersion (s : State) (n : Nat) : State :=
  let k := s.rd (pol0F Reg.polFwselActive 0)
  (s.mbxPut n [s.slotWord k 4, s.fwIndex k]).mbxEnd n 0x0001 0

/-- Message 0x0101: GDIS and GCHG of a group in host-policy mode. -/
def State.mbxRequests (s : State) (q : List Nat) : State :=
  let g := nth q 1
  if bits (nth q 0) 16 8 < 3 ∨ 7 < g ∨ 2 ^ 24 ≤ nth q 2 ∨ 2 ^ 24 ≤ nth q 3 then s.mbxEnd 1 0x0101 2
  else if !s.effB (pol0F Reg.polHpmBat 0) then s.mbxEnd 1 0x0101 3
  else ((s.wr (abc0F Reg.abcGdisDis g) (nth q 2)).wr (abc0F Reg.abcGchgChg g) (nth q 3)).mbxEnd 1 0x0101 0

/-- Message 0x0102: the usable energy of the group's strings in service, J. -/
def State.mbxEnergy (s : State) (q : List Nat) : State :=
  let g := nth q 1
  if bits (nth q 0) 16 8 < 1 ∨ 7 < g then s.mbxEnd 1 0x0102 2
  else
    let e := sumN ((s.inService.filter fun m => s.batGroup m == g).map fun m => s.rd (batF Reg.batEuseE m))
    (s.mbxPut 1 [sat 32 e]).mbxEnd 1 0x0102 0

/-- Message 0x0201: the weights in force of the FEED rods, ascending, four to a word. -/
def State.mbxWeights (s : State) : State :=
  let ws := (rods.filter fun r => s.rodKind r == 1).map s.rodWeight
  let word (i : Nat) : Nat := ws.getD (4 * i) 0 + 256 * ws.getD (4 * i + 1) 0 + 65536 * ws.getD (4 * i + 2) 0 + 16777216 * ws.getD (4 * i + 3) 0
  (s.mbxPut 2 ((List.range 4).map word)).mbxEnd 2 0x0201 0

/-- A core can answer (R508): it runs, and PC3, which serves the mailbox, runs. -/
def State.mbxUp (s : State) (n : Nat) : Bool := s.coreUp n && s.coreUp 3

/-- A core answers the request `q`, whatever its MSG (Table 21.2). -/
def State.mbxServe (s : State) (n : Nat) (q : List Nat) : State :=
  if mbxMsg q = 0x0001 then s.mbxVersion n
  else if n = 1 ∧ mbxMsg q = 0x0101 then s.mbxRequests q
  else if n = 1 ∧ mbxMsg q = 0x0102 then s.mbxEnergy q
  else if n = 2 ∧ mbxMsg q = 0x0201 then s.mbxWeights
  else s.mbxEnd n (mbxMsg q) 1

/-- The open exchange of a core, if the core can answer it and it carries the message. -/
def State.mbxAsked (s : State) (n msg : Nat) : Option (List Nat) := (s.mbxOpen n).filter fun q => s.mbxUp n && mbxMsg q == msg

/-- MAILBOX_VERSION (Table 21.2). -/
def execMailboxVersion (core : BitVec 2) (s : State) : Res :=
  match s.mbxAsked core.toNat 0x0001 with
  | some _ => .next (s.mbxVersion core.toNat)
  | none => .next s

/-- MAILBOX_GROUP_REQUESTS (Table 21.2, R512). -/
def execMailboxGroupRequests (s : State) : Res :=
  match s.mbxAsked 1 0x0101 with
  | some q => .next (s.mbxRequests q)
  | none => .next s

/-- MAILBOX_GROUP_ENERGY (Table 21.2). -/
def execMailboxGroupEnergy (s : State) : Res :=
  match s.mbxAsked 1 0x0102 with
  | some q => .next (s.mbxEnergy q)
  | none => .next s

/-- MAILBOX_FEED_WEIGHTS (Table 21.2). -/
def execMailboxFeedWeights (s : State) : Res :=
  match s.mbxAsked 2 0x0201 with
  | some _ => .next s.mbxWeights
  | none => .next s

/-- MAILBOX_ANSWER (R511): the open exchange of a core is answered. -/
def execMailboxAnswer (core : BitVec 2) (s : State) : Res :=
  match s.mbxOpen core.toNat with
  | some q => .next (if s.mbxUp core.toNat then s.mbxServe core.toNat q else s)
  | none => .next s

/-- MAILBOX_TIMEOUT (R511): STATUS 0x04; a late answer is discarded and logged. -/
def execMailboxTimeout (core : BitVec 2) (late : Bool) (s : State) : Res :=
  let n := core.toNat
  match s.mbxOpen n with
  | some q =>
    let a := s.mbxEnd n (mbxMsg q) 4
    .next (if late then a.late (1012 + n) else a)
  | none => .next s

end Sys2Proof.Machine
end

