-- ==== Sys2Proof/Machine/Commands.lean ====
section
/-!
DEFINITION. The command paths (chapter 4): the application of every opcode, the host-memory ring, the two-wire staging path,
DONE reports and done bounds, the rebuild of the journal, bench mode and the reset command (R530, R539).
-/

namespace Sys2Proof.Machine

/-! ### Commands without a block of their own -/

/-- NOP. -/
def State.applyNop (e : JEntry) (s : State) : State := s.done e.seq

/-- GLB_WARMRESET: done at application; the reset follows the DONE report (R530, R531). -/
def State.applyWarmreset (e : JEntry) (s : State) : State := (s.lseq 0x000 e).done e.seq

/-- Why BENCH_ENTER is refused (R539, Table 1.5). -/
def State.benchRefused (s : State) : Bool :=
  (List.range 48).any s.bayClosed || (List.range 16).any (fun n => s.loopSt n != 0) || (List.range 8).any (fun f => s.flState f != 0)
    || s.sys.bist.isSome || s.lanSt != 0

/-- BENCH_ENTER (R539). -/
def State.applyBenchEnter (e : JEntry) (s : State) : State :=
  if s.benchRefused then s.refuseCmd e 4 else (State.forceFollow { s with mode := .bench }).done e.seq

/-- BENCH_LEAVE (R503, R539). -/
def State.applyBenchLeave (e : JEntry) (s : State) : State :=
  if s.mode ≠ .bench then s.done e.seq
  else if s.rdB (kaiF Reg.kaiStatPdfail 0) then s.refuseCmd e 4
  else (State.forceFollow { s with mode := if s.throttling then .throttled else .run }).done e.seq

/-- The application of an accepted command by its opcode (Table 4.2); an opcode that is not in the table completes REFUSED
(R78). -/
def State.applyCommand (e : JEntry) (s : State) : State :=
  if e.opc = 0x000 then s.applyNop e else if e.opc = 0x001 then s.applyWarmreset e
  else if e.opc = 0x002 then s.applyBenchEnter e else if e.opc = 0x003 then s.applyBenchLeave e
  else if e.opc = 0x010 then s.applyPageSet e else if e.opc = 0x100 then s.applyBayArm e
  else if e.opc = 0x101 then s.applyBayOpen e else if e.opc = 0x102 then s.applyBayToggle e
  else if e.opc = 0x103 then s.applyBayLimit e else if e.opc = 0x200 then s.applyLoopStart e
  else if e.opc = 0x201 then s.applyLoopStop e else if e.opc = 0x202 then s.applyLoopVset e
  else if e.opc = 0x203 then s.applyLoopCoef e else if e.opc = 0x300 then s.applyPhCfg e
  else if e.opc = 0x400 then s.applyAbcCap e else if e.opc = 0x401 then s.applyRodSet e
  else if e.opc = 0x500 then s.applyHldSet e else if e.opc = 0x600 then s.applyBatLearn e
  else if e.opc = 0x601 then s.applyBatRest e else if e.opc = 0x700 then s.applyTiePolicy e
  else if e.opc = 0x701 then s.applyTieRequest e else if e.opc = 0x800 then s.applyFlightRun e
  else if e.opc = 0xB00 then s.applyGalFreeze e else if e.opc = 0xB01 then s.applyGalClear e
  else if e.opc = 0xC00 then s.applyBist e else if e.opc = 0xC01 then s.applyLanRun e
  else if e.opc = 0xC02 then s.applyImgSelect e else s.refuseCmd e 1

/-- NOP (opcode 0x000). -/
def execNop (inst : BitVec 8) (h : CmdHdr) (s : State) : Res := .next (s.command State.applyNop 0x000 inst.toNat h [])

/-- GLB_WARMRESET (opcode 0x001). -/
def execGlbWarmreset (inst : BitVec 8) (h : CmdHdr) (s : State) : Res := .next (s.command State.applyWarmreset 0x001 inst.toNat h [])

/-- BENCH_ENTER (opcode 0x002). -/
def execBenchEnter (inst : BitVec 8) (h : CmdHdr) (s : State) : Res := .next (s.command State.applyBenchEnter 0x002 inst.toNat h [])

/-- BENCH_LEAVE (opcode 0x003). -/
def execBenchLeave (inst : BitVec 8) (h : CmdHdr) (s : State) : Res := .next (s.command State.applyBenchLeave 0x003 inst.toNat h [])

/-- PAGE_SET (opcode 0x010). -/
def execPageSet (inst : BitVec 8) (h : CmdHdr) (args : List Word) (s : State) : Res :=
  .next (s.command State.applyPageSet 0x010 inst.toNat h ((args.take 12).map (·.toNat)))

/-! ### The host-memory ring (R88 to R90) -/

/-- Entry `i` of the command ring in host memory; words that the host has not placed there are open (log entry 23). -/
def State.ringEntry (s : State) (i : Nat) : List Nat × State :=
  match s.hostRing.find? fun p => p.1 == s.ringAddr i with
  | some p => ((p.2 ++ List.replicate 16 0).take 16, s)
  | none => ((List.range 16).map (fun k => (Config.openValue (34 + 2000 * k) s.draws).toNat % 2 ^ 32), { s with draws := s.draws + 1 })

/-- Fetching goes on (R88 to R90, R537): the ring is set up, no spell of redirection is on, the report ring takes reports, and
no power-fail warning stops it. -/
def State.fetching (s : State) : Bool :=
  s.lUp && s.rdB (cmd0F Reg.cmdCfgRingen 0) && !s.redirect && !s.pfwOn && !s.repFull && s.repHeld.isEmpty
    && s.rd (cmd0F Reg.cmdRheadIdx 0) != s.rd (cmdfF Reg.cmdRtailIdx 0) % s.ringSize

/-- At most `n` entries are fetched and checked (R88); `bad` are the journal macros that fail on the first. -/
def State.fetch : Nat → Nat → State → State
  | 0, _, s => s
  | n + 1, bad, s =>
    if s.fetching then
      let i := s.rd (cmd0F Reg.cmdRheadIdx 0)
      let e := s.ringEntry i
      State.fetch n 0 ((State.check State.applyCommand e.1 false bad e.2).wr (cmd0F Reg.cmdRheadIdx 0) ((i + 1) % s.ringSize))
    else s

/-- Every entry up to CMD_RTAIL is fetched. -/
def State.fetchAll (s : State) (bad : Nat) : State := State.fetch 4096 bad s

/-- A DONE report on its own path is issued (R85, R93): its position is free, CMD_DONESEQ follows, and DONEPOST is raised. A
GLB_WARMRESET that ran in this boot now orders its reset (R530, R531; log entry 67). -/
def State.issued (s : State) (seq : Nat) : State :=
  match s.jFind seq with
  | none => s
  | some e =>
    if e.issued then s
    else
      let a := s.jMod seq fun x => { x with issued := true }
      let b := ((a.wr (cmd1F Reg.cmdDoneseqSeq 0) seq).wr (cmd1F Reg.cmdJfillCnt 0) a.jFill).raise 43
      if e.opc = 0x001 ∧ e.applied ∧ !e.replayed ∧ e.status = some (0, 0) then { b with warmArmed := true } else b

/-- Held ring reports are written while the ring takes them (R89); during a spell of redirection they go to the two-wire
queue (R90). A DONE report that the queue holds back is not issued yet (R92, R97). -/
def State.ringDrain : Nat → State → State
  | 0, s => s
  | n + 1, s =>
    match s.repHeld with
    | [] => s
    | r :: rest =>
      if s.redirect || s.ringReady then
        let a := { s with repHeld := rest }
        let b := if s.redirect then a.writeTw (r.words.set 0 (nth r.words 0 + 134217728)) else a.writeRing r.words
        let kept := s.redirect && b.twHeld != a.twHeld
        State.ringDrain n (match r.doneSeq with | some q => if kept then b else b.issued q | none => b)
      else s

/-- The held reports that can go, go. -/
def State.drain (s : State) : State := State.ringDrain (s.repHeld.length + 1) s

/-- CMD_RTAIL_WRITE (R88). -/
def execCmdRtailWrite (idx : BitVec 12) (entries : List (BitVec 12 × List Word)) (jbad : BitVec 3) (s : State) : Res :=
  if !s.barOn then .next s
  else
    let es := entries.map fun p => (s.ringAddr p.1.toNat, p.2.map (·.toNat))
    let a := { s with hostRing := (s.hostRing.filter fun (p : Nat × List Nat) => !es.any fun q => q.1 == p.1) ++ es }
    .next ((a.wr (cmdfF Reg.cmdRtailIdx 0) idx.toNat).fetchAll jbad.toNat)

/-- CMD_PHEAD_WRITE (R89): held reports are issued, and fetching resumes. -/
def execCmdPheadWrite (idx : BitVec 12) (jbad : BitVec 3) (s : State) : Res :=
  .next (if s.barOn then (((s.wr (cmdfF Reg.cmdPheadIdx 0) idx.toNat).ringFollow).drain).fetchAll jbad.toNat else s)

/-- A write of CMD_CFG (R88): setting RINGEN zeroes CMD_RHEAD and CMD_PTAIL, and the first pass of the report ring has PHASE
1. -/
def State.cmdCfg (s : State) (v : Nat) : State :=
  let was := s.rdB (cmd0F Reg.cmdCfgRingen 0)
  let a := ((s.wr (cmd0F Reg.cmdCfgRingen 0) (bits v 0 1)).wr (cmd0F Reg.cmdCfgTwen 0) (bits v 1 1)).wr (cmd0F Reg.cmdCfgMirror 0) (bits v 2 1)
  if bitOf v 0 && !was then
    (((((a.wr (cmd0F Reg.cmdRheadIdx 0) 0).wr (cmd0F Reg.cmdPtailIdx 0) 0).wr (cmd0F Reg.cmdPtailPhase 0) 1).ringFollow).drain).fetchAll 0
  else a.ringFollow

/-- RINGEN_SET (R88). -/
def execRingenSet (v : Word) (s : State) : Res := .next (if s.lUp then s.barWrite.cmdCfg (setBit v.toNat 0) else s)

/-! ### DONE reports and done bounds (R84, R85, R87) -/

/-- A DONE report of the command is held (R89, R92). -/
def State.doneHeld (s : State) (seq : Nat) : Bool :=
  s.repHeld.any (fun r => r.doneSeq == some seq) || s.twHeld.any fun w => bits (nth w 0) 0 4 == 2 && nth w 1 == seq

/-- The BIST record of a test waits at the writer's input: it reaches the gallery before the DONE report (R504). -/
def State.bistTold (s : State) (e : JEntry) : Bool := !(e.opc == 0xC00 && s.offers.any fun o => o.typ == 0x30)

/-- The command whose DONE report is to be made next: the lowest SEQ whose report is not issued, if its status is recorded and
its report is not held. -/
def State.doneNext (s : State) : Option (JEntry × Nat × Nat) :=
  match s.jnl.find? fun e => !e.issued with
  | some e => match e.status with
    | some (c, r) => if s.doneHeld e.seq || !s.bistTold e then none else some (e, c, r)
    | none => none
  | none => none

/-- A DONE report on the ring path: the report of the command itself, or its mirror. -/
def State.ringDone (s : State) (own : Bool) (words : List Nat) : State :=
  if s.redirect then
    let a := s.writeTw (words.set 0 (nth words 0 + 134217728))
    if own && a.twHeld == s.twHeld then a.issued (nth words 1) else a
  else if s.ringReady && s.repHeld.isEmpty then (if own then (s.writeRing words).issued (nth words 1) else s.writeRing words)
  else { s with repHeld := s.repHeld ++ [{ words := words, doneSeq := if own then some (nth words 1) else none }] }

/-- A DONE report on the two-wire path. -/
def State.twDone (s : State) (own : Bool) (words : List Nat) : State :=
  let a := s.writeTw words
  if own && a.twHeld == s.twHeld then a.issued (nth words 1) else a

/-- DONE_REPORT (R84, R85). `jbad` are the macros whose copy of the status word fails its read-back or its CRC (R94). -/
def execDoneReport (s : State) (jbad : BitVec 3 := 0) : Res :=
  if !s.lUp then .next s
  else
    match s.doneNext with
    | none => .next s
    | some (e, c, r) =>
      let s := (s.macros.filter fun m => bitOf jbad.toNat m).foldl State.macroFail s
      let words := [repWord 2 c r e.replayed false e.twoWire false, e.seq, e.htag, s.us32]
      let a := if e.twoWire then s.twDone true words else s.ringDone true words
      .next (if s.rdB (cmd0F Reg.cmdCfgMirror 0) then (if e.twoWire then a.ringDone false words else a.twDone false words) else a)

/-- The bound of a command does not run while its flight is LANDED (R330). -/
def State.boundStands (s : State) (e : JEntry) : Bool := match e.wait with | .flight f => s.flState f == 3 | _ => false

/-- A command is failed by its done bound (R87); for a GAL_CLEAR that is a done point, and the nonce is renewed (R472). -/
def State.boundFail (s : State) (e : JEntry) : State :=
  let a := s.setStatus e.seq 3 0x10
  if e.wait = .clear then a.newNonce else a

/-- DONE_BOUND_EXPIRY (R87): FAILED with reason 0x10; the command's later done point will be discarded. -/
def execDoneBoundExpiry (seq : Word) (s : State) : Res :=
  match s.jFind seq.toNat with
  | some e => .next (if s.lUp && e.applied && e.status.isNone && !s.boundStands e then s.boundFail e else s)
  | none => .next s

/-- WARMRESET_START (R530): 1 ms after the DONE report. -/
def execWarmresetStart (s : State) : Res :=
  .next (if s.lUp && s.warmArmed then (s.enterHold 2).bootBegin else s)

/-! ### The two-wire staging path (R91, R92) -/

/-- The words of the 64 staged bytes. -/
def State.stagedWords (s : State) : List Nat := (List.range 16).map fun i => bytesToNat ((s.twStage.drop (4 * i)).take 4)

/-- CMD_TWSTAT.BUSY. -/
def State.twBusy (s : State) : Bool := s.rdB (cmd3F Reg.cmdTwstatBusy 0)

/-- The staged command is checked, and BUSY ends with its report in the queue (R91, R92). -/
def State.twCheck (s : State) (bad : Nat) : State :=
  let a := State.check State.applyCommand s.stagedWords true bad { s with twWaiting := false }
  if a.jHeld.any (fun p => p.2) || a.mode == .hold then a else a.twFree

/-- 0x01 at the doorbell (R91): the staged command is submitted; a power-fail warning keeps it waiting (R537). With CMD_CFG.TWEN
= 0 the doorbell is ignored, and bytes are staged all the same (DESIGN CHOICE, log entry 97). -/
def State.doorbell (s : State) (bad : Nat) : State :=
  if !s.rdB (cmd0F Reg.cmdCfgTwen 0) || s.twBusy then s
  else
    let a := s.wr (cmd3F Reg.cmdTwstatBusy 0) 1
    if s.pfwOn then { a with twWaiting := true } else a.twCheck bad

/-- DOORBELL (R91). -/
def execDoorbell (jbad : BitVec 3) (s : State) : Res := .next (if s.lUp then s.doorbell jbad.toNat else s)

/-- Held reports enter the two-wire queue while it has room (R92). -/
def State.twDrain : Nat → State → State
  | 0, s => s
  | n + 1, s =>
    match s.twHeld with
    | [] => s
    | w :: rest =>
      if s.twq.length < 64 then
        let a := { s with twq := s.twq ++ [w], twHeld := rest }
        let own := bits (nth w 0) 0 4 == 2 && (bitOf (nth w 0) 26 || bitOf (nth w 0) 27)
        let b := if own then a.issued (nth w 1) else a
        let answer := bits (nth w 0) 0 4 != 2 && bitOf (nth w 0) 26
        State.twDrain n (if answer then b.wr (cmd3F Reg.cmdTwstatBusy 0) 0 else b)
      else s

/-- A read of byte 0x6F removes the oldest report, and a held one takes the room (R92). -/
def State.reportPop (s : State) : State :=
  let a := { s with twq := s.twq.drop 1 }
  State.twDrain (a.twHeld.length + 1) a

/-- REPORT_POP (R92). -/
def execReportPop (s : State) : Res := .next (if s.lUp then s.reportPop else s)

/-- REBUILT (R94, R460, Table 17.3): JMS is in service, the spill is merged, and the held command is accepted and applied. With
`fail` the surviving copy has failed in the rebuild, and the mirror is lost. -/
def execRebuilt (s : State) (fail : Bool := false) : Res :=
  if s.lUp && s.rebuilding && fail then .next (s.macros.foldl State.macroFail s)
  else if s.lUp && s.rebuilding then
    let c : State := { s with jnl := s.jnl.map fun e => { e with copies := setBit e.copies 2 } }
    let b := (c.wr (cmd1F Reg.cmdJstatRebuild 0) 0).wr (cmd1F Reg.cmdJstatJmsused 0) 1
    let a := (if b.fstate = 0 then b.wr (gal0F Reg.galStatFstate 0) 2 else b).raise 37
    match s.jHeld with
    | none => .next a
    | some (ws, tw) =>
      let b := State.applyBy State.applyCommand (nth ws 1) (({ a with jHeld := none }).accept ws tw)
      .next (if tw then b.twFree else b)
  else .next s

end Sys2Proof.Machine
end

