-- ==== Sys2Proof/Machine/RunEntry.lean ====
section
/-!
DEFINITION. The entry into RUN (R18, R96, Table 22.3 steps 9 to 13): the journal scan, firmware and image, the load of the
pages from island state, the records of the boot, and the replay.
-/

namespace Sys2Proof.Machine

/-! ### Redirection (R90) -/

/-- PCIe cannot carry reports: the link is not in L0, bus mastering is disabled, or a fatal AER error has been logged. -/
def State.pcieOut (s : State) : Bool :=
  !s.rdB (pexF Reg.pexLinkL0 0) || !s.rdB (pexF Reg.pexCmdBme 0) || s.aerFatal

/-- A spell of redirection begins or ends with its cases (R90). -/
def State.redirectFollow (s : State) : State :=
  if s.pcieOut && !s.redirect then (State.raise { s with redirect := true } 41).drain
  else if !s.pcieOut && s.redirect then ((State.drain { s with redirect := false }).fetchAll 0)
  else s

/-! ### The journal at boot (R94, R95) -/

/-- The scan (Table 4.5): single copies above LAST are erased and counted, and macros with a bad copy are retired; a rebuild
that was cut off starts again. -/
def State.scan (s : State) (half : Bool) (bad : Nat) : State :=
  let n := b2n half + b2n s.sys.stale
  let a := (s.inc (cmd1F Reg.cmdReplayDiscard 0) n).sysMod fun x => { x with stale := false }
  let b := (a.macros.filter fun m => bitOf bad m).foldl State.macroFail a
  if (!b.macroOk 0 || !b.macroOk 1) && !b.macroOk 2 && !b.mirrorLost then b.wr (cmd1F Reg.cmdJstatRebuild 0) 1 else b

/-- The commands to be replayed: no status in the journal (R95, R96). -/
def State.undone (s : State) : List JEntry := s.jnl.filter fun e => e.status.isNone

/-- Replay in SEQ order (R96): REPLAYDONE after the last one, and a HOLD token that was deferred (R445). -/
def State.replay (s : State) : State :=
  let l := s.undone.map (·.seq)
  let a := l.foldl (fun t q => State.applyBy State.applyCommand q (t.jMod q fun e => { e with replayed := true }))
    (s.wr (cmd1F Reg.cmdJstatReplay 0) 1)
  let b := a.wr (cmd1F Reg.cmdJstatReplay 0) 0
  let c := if l.isEmpty then b else b.raise 39
  if c.flt.deferred then (c.fltMod fun f => { f with deferred := false }).holdToken else c

/-! ### Firmware, image, island state (R18, R515, R519, R533) -/

/-- The BOOT record kind (Table 17.2, Table 22.4). -/
def State.bootKind (s : State) : Nat :=
  if s.sys.cold then 0 else if s.sys.hard then 2 else if 7 ≤ s.rd (kaiF Reg.kaiStatHoldcause 0) then 3 else 1

/-- The bay, loop and phase pages take the island's values (R18): the shadow values follow the active ones, and RETRYLEFT the
budget (R133). -/
def State.loadPages (s : State) : State :=
  (List.range 48).foldl State.bayRetryLeft { s with regs := Store.copy stagedKey (pageLo 0x010) (pageHi 0x05F) s.act s.regs }

/-- One loop that ran at the hard reset starts to its image target (R533), or its bit clears. -/
def State.loopRestart (s : State) (n : Nat) : State :=
  let t := if s.loopCur n then sx 16 (s.eff (loopF Reg.loopIsetIset n)) else (s.eff (loopF Reg.loopVsetVset n) : Nat)
  if (s.loopPhases n).all (fun j => s.retired 1 j) || !s.targetOk n t then s.wrBit (kaiF Reg.kaiRunmaskLoop 0) n false
  else (s.loopMod n fun l => { l with target := t, rateUp := 0, rateDn := 0, coast := false }).loopStart n false

/-- The loops of KAI_RUNMASK. -/
def State.loopsRestart (s : State) : State :=
  ((List.range 16).filter fun n => bitOf (s.rd (kaiF Reg.kaiRunmaskLoop 0)) n).foldl State.loopRestart s

/-- After a hard or cold reset the image is applied (R519); then the pages are loaded. -/
def State.loadImage (s : State) : State :=
  if s.sys.hard || s.sys.cold then
    let a := (s.imgBoot.loadPages).forceFollow
    if s.sys.hard then a.loopsRestart else a
  else s.loadPages

/-! ### Records and tokens of the island (R17, R70, R436) -/

/-- At RUN entry only the island's entries are queued (R70): other sources that become pending append no queue entry. -/
def State.keepQueue (old s : State) : State := { s with evq := old.evq, evqOvf := old.evqOvf }

/-- One entry of the island buffer becomes an ISLEVT record and sets its PG_EVT bit, with its own stamp. -/
def State.islEntry (s : State) (t : Tok) : State :=
  let a := s.keepQueue (s.galAccept { typ := 0x03, src := t.src, payloads := [[t.lo, t.hi, t.us % 2 ^ 32]], island := some t.us })
  match evBit t.src with
  | some (pg, b) => a.setEvt pg b t.src t.us
  | none => a

/-- The island buffer is written to the gallery, ISLOVF behind it, and its tokens go to the collector in front of all others
(R17, R436). No ISLOVF record is written behind an empty buffer (DESIGN CHOICE, log entry 69). -/
def State.islDrain (s : State) : State :=
  let l := s.islBuf
  let a := (s.wr (kaiF Reg.kaiIslbufUsed 0) l.length).wr (kaiF Reg.kaiIslbufOvf 0) (sat 16 s.islOvf)
  let b := l.foldl State.islEntry a
  let c := if l.isEmpty then b else b.keepQueue (b.galAccept { typ := 0x04, src := 24, payloads := [[sat 32 s.islOvf]] })
  let toks := (l.filter fun t => t.kind != 0).map fun t => { t with island := true }
  { c with islBuf := [], islOvf := 0, tokenQ := toks ++ c.tokenQ, flt := { c.flt with islOvf := s.islOvf != 0 } }

/-- The records at a RUN entry (R456, R469): the merge first, then BOOT, then the island buffer. -/
def State.bootRecords (s : State) (kind replays : Nat) : State :=
  (s.keepQueue ((s.galRun).galAccept { typ := 0x23, src := 0, payloads := [[kind, replays]] })).islDrain

/-! ### Units that resume -/

/-- Bays and their strings (R106, R123, R223, R277, R278): throttles are released, a rest ends, and bays that became present in
hold have their insertion judged. -/
def State.baysResume (s : State) : State :=
  let a := (List.range 48).foldl (fun t n => if t.rd (bayF Reg.bayAlimThstep n) != 0 then t.orderStep n 0 else t) s
  let b := (List.range 24).foldl State.restStop a
  (List.range 48).foldl (fun t n =>
    match (vget t.bay n).insPending with
    | some v =>
      let u := t.bayMod n fun y => { y with insPending := none }
      match u.bayString n with
      | some m => if u.rdB (bayF Reg.bayStatPresent n) then u.batInsert m v else u
      | none => u
    | none => t) b

/-- Enforcement starts from OVER clear with every step at 0, and the cycles that fell in hold are counted (R201, R223). -/
def State.abcResume (s : State) : State :=
  let a := rods.foldl (fun t r => (((t.wr (abc2F Reg.rodRstOver r) 0).wr (abc2F Reg.rodRstOverms r) 0).wr
    (abc2F Reg.rodRstThrottling r) 0).wr (abc2F Reg.rodRstThstep r) 0) s
  let b := State.wr { a with abc := { a.abc with rods := a.abc.rods.map fun x => { x with hist := [] } } } (abc0F Reg.abcStatNover 0) 0
  if s.sys.cold then b else b.inc (abc0F Reg.abcGapcycCnt 0) (s.us / 100 - s.holdUs / 100)

/-- A phase whose rejoin was pending rejoins (R179). -/
def State.phasesResume (s : State) : State :=
  (List.range 64).foldl (fun t j => if (t.phx j).rejoin then t.phJoinNext j else t) s

/-- A controller port (R395): a bay in the open part of a cycle ramps back and its cycle counts as done; the lines are judged. -/
def State.twResume (s : State) (n : Nat) : State :=
  let t := s.twp n
  let a := match t.cyc with
    | some k =>
      let b := s.eff (twcFk Reg.twcMapBay n k)
      if s.bayState b = 7 ∧ (vget s.bay b).owner = 1 then ((s.bayCycleEnd b).inc (twcF Reg.twcNhangCycled n)) else s
    | none => s
  let c := a.twMod n fun x => { x with cyc := none, back := false }
  if c.effB (twcF Reg.twcCfgEn n) && c.twSt n != 5 then c.twMod n fun x => { x with judge := true } else c

/-- A tie port (R315): READY with its bay closed goes on, and its source advertises; any other attached port starts from NEGOTIATE, or from DETACHED, as
its lines show. -/
def State.tieResume (s : State) (n : Nat) : State :=
  let b := s.tieBay n
  let st := s.tieState n
  if !s.tieOn n || st ≤ 2 || st == 8 then s
  else if st == 5 && s.bayClosed b then (if s.tieSource n then s.tieAdvertise n else s)
  else if (s.tp n).cls = 0 then s.tieLeave n 0
  else
    let a := (s.tieEndContract n).setTie n 3
    if s.bayState b = 7 then
      let c := a.bayCycleEnd b
      if c.tieSource n then c.tieMod n fun x => { x with capsOnOn := true } else c
    else if !a.tieSource n then a
    else if a.bayState b = 3 then a.tieOffer n
    else
      let c := a.tieClose n
      if c.bayClosed b then c.tieMod n fun x => { x with capsOnOn := true } else c.tieOffer n

/-- Flights (R338, R344): a return condition stands as it is; a device-started flight that was held runs again from its start. -/
def State.flightResume (s : State) (f : Nat) : State :=
  let ret := s.eff (flF Reg.flCfgRet f)
  let a := if ret = 1 then s.flMod f fun x => { x with cond := s.hldSt == 0 && s.hld.trigUs != 0 }
    else if ret = 2 then s.flMod f fun x => { x with cond := (vget s.rail (s.eff (flF Reg.flCfgRetrail f))).good } else s
  if a.flState f = 6 ∧ a.rdB (flF Reg.flStatDevstart f) ∧ !(a.flx f).order then
    (a.wr (flF Reg.flStatState f) 0).deviceStart f (a.flx f).startDown
  else a

/-- An entity that is on is judged afresh (R327); one that a hard reset stopped is OFF. -/
def State.entResume (s : State) (e : Nat) : State :=
  let a := s.wrB (seq7F Reg.seqEstGood e) (s.entGood e)
  let st := a.est e
  if a.entOn e then
    (if (st = 2 ∨ st = 4) ∧ a.entGood e then a.entBecomesGood e else if st = 3 ∧ !a.entGood e then a.entLosesGood e else a)
  else if st = 3 ∨ st = 2 ∨ st = 4 then a.setEst e 0
  else if (st = 5 ∨ st = 8) ∧ a.entFell e then a.entFalls e
  else a

/-- Every unit of the L-die that goes on from island state. -/
def State.unitsResume (s : State) : State :=
  let a := s.capRun.abcResume.baysResume.phasesResume
  let b := (List.range 4).foldl State.tieResume ((List.range 8).foldl State.twResume a)
  ((List.range 160).foldl State.entResume b).recCommitDue

/-! ### RUN (R18, R19, R536) -/

/-- The state that the boot ends in (Table 1.5, R503). -/
def State.runMode (s : State) : Mode :=
  if s.rdB (kaiF Reg.kaiStatPdfail 0) then .bench else if s.throttling then .throttled else .run

/-- The registers that a RUN entry writes (R18, R534, R536, R540). -/
def State.runMarks (s : State) (kind start : Nat) : State :=
  let a := ((s.wr (kaiF Reg.kaiStatInhold 0) 0).wr (kaiF Reg.kaiStatBridgeok 0) 1).inc (kaiF Reg.kaiBridgeTrain 0)
  let b := (a.wr (glbF Reg.glbRstcauseBootkind 0) kind).wr (glbF Reg.glbBoottLdie 0) (sat 16 ((s.us - start) / 100))
  let c := if s.sys.cold then b else b.wr (kaiF Reg.kaiHolddurMs 0) (sat 32 ((s.us - s.holdUs) / 1000))
  (c.wrB (pexF Reg.pexLinkThrlim 0) s.throttling).capMod fun x => { x with modeUs := s.us }

/-- The result of the power-up P-die BIST is recorded at the first RUN entry (R503, R505). -/
def State.powerUpBist (s : State) : State :=
  match s.sys.cold, s.sys.pdie with
  | true, some (pass, sig, dur) => (s.wrB (bistF Reg.bistStatPupass 0) pass).bistResult 2 0 sig dur pass false true
  | _, _ => s

/-- NVM devices whose read or parameter table fails at boot, the retry included, are treated as failed (R513, R572). -/
def State.nvmBoot (s : State) (nvm : Nat) : State :=
  ([0, 1].filter fun d => bitOf nvm d && s.rdB (nvcF (if d = 0 then Reg.nvcStatDev0ok else Reg.nvcStatDev1ok) 0)).foldl State.nvcFail s

/-- The L-die enters RUN: everything of Table 22.3 steps 9 to 13. -/
def State.enterRun (s : State) (half : Bool) (bad nvm start : Nat) : State :=
  let kind := s.bootKind
  let a := State.runMarks { s with mode := s.runMode, pfwOn := s.rdB (glbF Reg.glbPfwNow 0) } kind start
  let b := a.sysMod fun x => { x with boot := none, hbUs := s.us }
  let n := s.undone.length
  let r := b.bootRecords kind n
  let c := r.scan half bad
  let d := (((c.wr (cmd1F Reg.cmdReplayCnt 0) n).nvmBoot nvm).fwBoot.loadImage).powerUpBist
  let e := (d.unitsResume).raise 0
  let f := r.keepQueue (if s.sys.cold then e else e.raise 1)
  let g := ((List.range 8).foldl State.flightResume f).redirectFollow.replay
  let h := if s.sys.cold && g.effB (seq0F Reg.seqGcfgBooten 0) then g.deviceStart 0 false else g
  (s.follow h).sysMod fun x => { x with cold := false, hard := false }

/-- RUN_ENTRY (R18): the boot under way is complete, and the island is in HOLD. `half` is a single copy found above LAST, `bad`
the macros with a bad copy (R95), `nvm` the NVM devices whose boot-time read fails (R572). -/
def execRunEntry (half : Bool) (bad : BitVec 3) (s : State) (nvm : BitVec 2 := 0) : Res :=
  match s.sys.boot with
  | some t => .next (if s.mode = .hold then s.enterRun half bad.toNat nvm.toNat t else s)
  | none => .next s

end Sys2Proof.Machine
end

