-- ==== Sys2Proof/Machine/Resets.lean ====
section
/-!
DEFINITION. Supplies, reset inputs, the cold reset, the heartbeat, the die bridge and the power-fail warning (chapters 1 and 22).
-/

namespace Sys2Proof.Machine

/-! ### Cold reset (R20, R528) -/

/-- The registers that eMRAM or the NVM keeps (R56, R51, R79, R93, R442, R461, R472, R473, R516, R420): what a cold reset does
not clear. -/
def coldKept (k : Nat) : Bool :=
  let pg := k / 131072
  let off := k % 131072 / 32
  off == 0x020 || off == 0x024
    || (pg == 0x009 && (off == 0x040 || off == 0x044 || off == 0x048 || k == (cmd1F Reg.cmdJstatJm0ok 0).key
      || k == (cmd1F Reg.cmdJstatJm1ok 0).key || k == (cmd1F Reg.cmdJstatJmsused 0).key || k == (cmd1F Reg.cmdJstatMirrorlost 0).key))
    || (pg == 0x0E3 && 0x040 ≤ off && off < 0x0C0)
    || (pg == 0x0F1 && 0x300 ≤ off && off ≤ 0x34C)
    || (pg == 0x0F8 && (off == 0x06C || k == (gal0F Reg.galStatKeyset 0).key)) || (pg == 0x0F9 && off == 0x048)
    || (pg == 0x110 && off == 0x058)

/-- The times of ordered warm resets on the new microsecond counter (R445). -/
def State.rebaseResets (s : State) : List Int := s.flt.resets.map fun t => t - (s.us : Int)

/-- The module records as eMRAM holds them; of two records the one seen later keeps the higher mark (R280). -/
def State.coldRecs (s : State) : List ModRec :=
  s.recsNvm.map fun r => { r with seen := (s.recsNvm.filter fun x => x.seen < r.seen).length }

/-- What comes through the cold reset: eMRAM, the NVM slots and the OTP, host memory, and the model's own fields. -/
def State.coldBase (s : State) : State :=
  { State.reset with
    pending := s.pending, out := s.out, rdata := s.rdata, draws := s.draws, hostRing := s.hostRing,
    regs := s.regs.filter fun p => coldKept p.1,
    act := s.act.filter fun p => coldKept p.1,
    jnl := s.jnl.map (fun e => { e with applied := false, replayed := false, wait := .none }),
    recs := s.coldRecs, recsNvm := s.coldRecs,
    cap := { State.reset.cap with vaultT := s.cap.vaultT, vault := s.cap.vault },
    str := { State.reset.str with descs := s.str.descs },
    flt := { State.reset.flt with resets := s.rebaseResets },
    gal := { State.reset.gal with
      tail := s.gal.tail.map (fun r => { r with atUs := 0 }), nvm := s.gal.nvm, next := s.gal.next, clr := s.gal.clr,
      pages := s.gal.pages, nonce := s.gal.nonce, key := s.gal.key, ophBase := s.gal.ophNvm, ophNvm := s.gal.ophNvm,
      pcc := sat 24 (s.gal.pcc + 1) },
    sys := { State.reset.sys with
      slots := s.sys.slots, fwSel := s.sys.fwSel, imgSel := s.sys.imgSel, fwPend := s.sys.fwPend, imgPend := s.sys.imgPend,
      stale := s.sys.stale } }

/-- Retired units show it (R442): bay, phase, segment, tie port, bank, Iddex peer. -/
def State.showRetired (s : State) : State :=
  let put (t : State) (typ n : Nat) (f : Nat → State → State) : State :=
    (List.range n).foldl (fun u i => if u.retired typ i then f i u else u) t
  let a := put s 0 48 fun i t => t.wr (bayF Reg.bayStatState i) 9
  let b := put a 1 64 fun i t => t.wr (phF Reg.phStatState i) 6
  let c := put b 3 8 fun i t => (t.wr (twcF Reg.twcStatState i) 5).wr (twcF Reg.twcStatRetired i) 1
  let d := put c 4 4 fun i t => t.wr (tieF Reg.tieStatRetired i) 1
  let e := put d 5 80 fun i t => t.wr (memF Reg.memOwnRetired i) 1
  put e 6 16 fun i t => (t.wr (idxF Reg.idxPeerRetired i) 1).wrBit (idxF Reg.idxRetRetired 0) i true

/-- A learning discharge in progress is disqualified with COLD (Table 10.1, Table 10.2, Table 10.3). -/
def State.coldLearn (old s : State) : State :=
  (List.range 24).foldl (fun t n => if old.batLst n = 2 then (t.setLst n 2).batDq n 9 else t) s

/-- The cold reset (R528, Table 22.3 steps 1 and 4): straps sampled, OTP image applied. -/
def State.coldReset (s : State) (idxAddr twtAddr : Nat) (aux hv : Bool) : State :=
  let a := (((s.coldBase.wr (idxF Reg.idxStatAddr 0) idxAddr).wrB (idxF Reg.idxStatMaster 0) (idxAddr == 0)).wr
    (twtF Reg.twtStatAddr 0) twtAddr)
  let b := (a.wrB (kaiF Reg.kaiStatAuxok 0) aux).wrB (kaiF Reg.kaiStatHvok 0) hv
  let c := (b.wr (gal0F Reg.galOphOph 0) s.gal.ophNvm).wr (gal0F Reg.galPccPcc 0) b.gal.pcc
  ((State.coldLearn s c.showRetired.galShow).imgFactory).forceFollow

/-- COLD_RESET (R528, R548, R549): from OFF, with a regulator good. -/
def execColdReset (testMode : Bool) (idxAddr : BitVec 4) (twtAddr : BitVec 2) (aux hv : Bool) (s : State) : Res :=
  if s.mode = .off ∧ (aux ∨ hv) then
    (if testMode then .fault .productionTest else .next (s.coldReset idxAddr.toNat twtAddr.toNat aux hv))
  else .next s

/-! ### Supplies (R523, R524) -/

/-- ISLAND_LOSS (R524, R26, Table 1.5): OFF; every gate falls, every phase stops, and what is not in eMRAM or NVM is lost. -/
def execIslandLoss (s : State) : Res :=
  let a := ((s.galHold 3).ldieStop.powerKill).capWipe
  let b := (List.range 48).foldl (fun t n => if t.bayState n = 9 then t else (t.setArm n false).bayToOpen n) a
  let c := (b.wr (kaiF Reg.kaiStatAuxok 0) 0).wr (kaiF Reg.kaiStatHvok 0) 0
  .next { c with mode := .off, tokenQ := [], islBuf := [], islOvf := 0 }

/-- The OK bit of an island regulator: the auxiliary one, or the bus one. -/
def regOk (hv : Bool) : Fld := kaiF (if hv then Reg.kaiStatHvok else Reg.kaiStatAuxok) 0

/-- REGLOSS (R524): one regulator goes out while the other stays good. -/
def execRegloss (hv : Bool) (s : State) : Res :=
  if s.islandUp && s.rdB (regOk hv) && s.rdB (regOk !hv) then
    .next (((s.wr (regOk hv) 0).inc (kaiF (if hv then Reg.kaiNregHvloss else Reg.kaiNregAuxloss) 0)).tokenEv 25 (if hv then 0x02 else 0x01) 0)
  else .next s

/-- REGBACK (R524). -/
def execRegback (hv : Bool) (s : State) : Res :=
  .next (if s.islandUp && !s.rdB (regOk hv) then (s.wr (regOk hv) 1).raise 26 else s)

/-- SUPPLY_OUT (R523, R535): an L-die supply falls through its out level. -/
def execSupplyOut (sup : BitVec 3) (s : State) : Res :=
  if s.islandUp && sup.toNat < 5 && !s.sys.supOut.contains sup.toNat then
    .next ((s.holdCause 8).sysMod fun x => { x with supOut := x.supOut ++ [sup.toNat] })
  else .next s

/-- LDIE_RESET_RELEASE (R523, R526): every supply has been good for 1 ms, with the reset inputs high. -/
def execLdieResetRelease (s : State) : Res :=
  .next (if s.islandUp && !s.lUp && !s.sys.rstN then (s.sysMod fun x => { x with supOut := [], perst := false }).bootBegin else s)

/-! ### Reset inputs (R526, R527, R530 to R533) -/

/-- WARM_RESET (R530): PE_PERST_N is low. -/
def execWarmReset (s : State) : Res :=
  .next (if s.islandUp then (s.holdCause 1).sysMod fun x => { x with perst := true } else s)

/-- HARD_RESET (R532, R533, R535): RESET_N has been low for 10 ms. In KEEPALIVE-BOOT it resets the L-die only (Table 1.5). -/
def execHardReset (s : State) : Res :=
  let low (t : State) : State := t.sysMod fun x => { x with rstN := true }
  if s.lUp then .next (low (((s.enterHold 4).pdieReset).sysMod fun x => { x with hard := true }))
  else if s.mode = .hold then
    .next (low (((((s.inc (glbF Reg.glbNrstHard 0)).setCause 4).ldieStop).pdieReset).sysMod fun x => { x with hard := true }))
  else if s.mode = .boot then .next (low (s.inc (glbF Reg.glbNrstHard 0)).ldieStop)
  else .next s

/-- RESET_N_RELEASE (R527): the end of a hard reset, or a short pulse that is counted. -/
def execResetNRelease (late : Bool) (s : State) : Res :=
  if !s.islandUp then .next s
  else if s.sys.rstN then
    let a := s.sysMod fun x => { x with rstN := false }
    .next (if late then (a.late 0).bootBegin else a.bootBegin)
  else .next (s.inc (glbF Reg.glbNrstShort 0))

/-! ### Heartbeat and bridge (R12, R15) -/

/-- HEARTBEAT (R15). -/
def execHeartbeat (s : State) : Res := .next (if s.lUp then s.sysMod fun x => { x with hbUs := s.us } else s)

/-- HEARTBEAT_TIMEOUT (R15, R47): the L-die is lost, and it boots again where its supplies are good (Table 22.4). -/
def execHeartbeatTimeout (late : Bool) (s : State) : Res :=
  if s.lUp then
    let a := s.enterHold 7
    .next (if late then (a.late 24).bootBegin else a.bootBegin)
  else .next s

/-- An injection armed on the die bridge spoils the send (R452): one with MODE 1, three in a row with MODE 2. -/
def State.bridgeInject (s : State) : Bool :=
  s.lUp && s.rdB (flt0F Reg.fltInjArm 0) && s.rd (flt0F Reg.fltInjTgt 0) == 3
    && (s.rd (flt0F Reg.fltInjMode 0) == 1 || s.rd (flt0F Reg.fltInjMode 0) == 2)

/-- The bridge carries transfers: while the L-die runs, and in HOLD once a boot is under way (Table 22.3 step 12). -/
def State.bridgeUp (s : State) : Bool := s.lUp || (s.mode == .hold && s.sys.boot.isSome)

/-- BRIDGE_TRANSFER (R12): one send of a transfer and the test of its check code. In HOLD the token enters the island buffer
(R541). -/
def execBridgeTransfer (ok : Bool) (s : State) : Res :=
  if !s.bridgeUp then .next s
  else
    let inj := s.bridgeInject
    let n := s.sys.bridge + 1
    let a := if inj && (s.rd (flt0F Reg.fltInjMode 0) == 1 || n == 3) then s.injected else s
    if ok && !inj then .next (a.sysMod fun x => { x with bridge := 0 })
    else
      let b := (a.inc (kaiF Reg.kaiBridgeResend 0)).sysMod fun x => { x with bridge := n % 3 }
      .next (if n = 3 then b.tokenEv 24 0x01 0 else b)

/-! ### Ordered warm resets (R445) -/

/-- HOLD_ORDER (R445): the warm reset ordered for a HOLD token, 1 ms after it. -/
def execHoldOrder (s : State) : Res :=
  .next (if s.lUp && s.flt.order.isSome then (s.enterHold 3).bootBegin else s)

/-- HOLD_WINDOW_EXPIRY (R445): what lies 600 s back leaves the window. -/
def execHoldWindowExpiry (s : State) : Res :=
  .next (if s.islandUp then s.fltMod fun f =>
    { f with resets := f.resets.filter (fun t => decide ((s.us : Int) - t < 600000000)),
             limUs := f.limUs.filter fun t => decide ((s.us : Int) - t < 600000000) } else s)

/-! ### Power-fail warning (R537, R538) -/

/-- POWER_FAIL_WARNING (R537, R538): commands are no longer fetched or checked; in hold it is counted. -/
def execPowerFailWarning (s : State) : Res :=
  if !s.islandUp then .next s
  else
    let a := (s.inc (glbF Reg.glbPfwCnt 0)).wr (glbF Reg.glbPfwNow 0) 1
    .next (if s.lUp && !s.pfwOn then State.wr { a with pfwOn := true } (glbF Reg.glbPfwDone 0) 0 else a)

/-- Pages of the tail are flushed, at most `n` of them. -/
def State.flushTail : Nat → State → State
  | 0, s => s
  | n + 1, s => if s.gal.tail.isEmpty then s else State.flushTail n s.galPage

/-- PFW_WRITES_COMPLETE (R537): OPH, the end of a freeze and the merge of the spill, the flush, DONE and PFW. -/
def execPfwWritesComplete (fail0 fail1 : Bool) (s : State) : Res :=
  if s.lUp && s.pfwOn && !s.rdB (glbF Reg.glbPfwDone 0) then
    let a := s.galMod fun g => { g with ophNvm := max g.ophNvm (s.oph s.us) }
    let c := a.galSave
    let bad := c.logDevs.filter fun d => if d = 0 then fail0 else fail1
    let d := if c.flushDue && !c.logDevs.isEmpty then
        (if bad.isEmpty then (State.flushTail c.gal.tail.length c).clearRetry else bad.foldl State.nvmFail c)
      else c
    .next ((d.wr (glbF Reg.glbPfwDone 0) 1).raise 27)
  else .next s

/-- POWER_FAIL_WARNING_END (R538): the checking of commands resumes. -/
def execPowerFailWarningEnd (s : State) : Res :=
  let a := s.wr (glbF Reg.glbPfwNow 0) 0
  if s.lUp && s.pfwOn then
    let b := State.fetchAll { a with pfwOn := false } 0
    .next (if b.twWaiting then b.twCheck 0 else b)
  else .next (if s.islandUp then a else s)

end Sys2Proof.Machine
end

