-- ==== Sys2Proof/Machine/Registers.lean ====
section
/-!
DEFINITION. The register pages as the host sees them (chapter 3): what a read returns and clears, what a write does, the
common header, the lock key, the windows of BAR0 and BAR4, and the events towards the host.
-/

namespace Sys2Proof.Machine

/-! ### What a read returns -/

/-- The stored fields of a register as a read returns them: write-only fields read 0 (R5). -/
def State.storedWord (s : State) (pg off : Nat) : Nat :=
  ((fieldsAt pg off).filter fun f => f.acc != .wo).foldl (fun a f => a + s.rd f * 2 ^ f.lo) 0

/-- GLB_STATE.STATE (Table 22.6). -/
def Mode.code (m : Mode) : Nat :=
  match m with
  | .off => 0
  | .boot => 1
  | .hold => 2
  | .run => 3
  | .throttled => 4
  | .bench => 5

/-- The bits of a list of truth values, the first lowest. -/
def flagBits (l : List Bool) : Nat := sumN (l.zipIdx.map fun p => b2n p.1 * 2 ^ p.2)

/-- EVT_QPOP as it stands: the oldest entry of the event queue (R70). -/
def State.queueWord (s : State) : Nat :=
  match s.evq with
  | [] => 0
  | e :: _ => e.src + 1024 + 2048 * b2n e.ovf + 4096 * e.stamp

/-- The rank of a phase among the assigned phases of its loop (Table 7.4). -/
def State.phRank (s : State) (j : Nat) : Nat :=
  match s.phLoop j with
  | some n => (s.loopPhases n).findIdx (· == j)
  | none => 0

/-- PHn_STAT: ASSIGNED, LOOP and RANK with the stored fields. -/
def State.phStatWord (s : State) (pg off j : Nat) : Nat :=
  match s.phLoop j with
  | some n => s.storedWord pg off + 32 + 256 * n + 4096 * s.phRank j
  | none => s.storedWord pg off

/-- PHi_NACT: phases of LOOPi in the switching set, shed, and retired. -/
def State.phNactWord (s : State) (n : Nat) : Nat :=
  let count (p : Nat → Bool) : Nat := ((s.loopPhases n).filter p).length
  count (fun j => phInSet (s.phSt j)) + 256 * count (fun j => s.phSt j == 4) + 65536 * count fun j => s.retired 1 j

/-- MEMn_OWN (R407): a retired bank reads owner 0. -/
def State.bankWord (s : State) (m : Nat) : Nat :=
  s.owner m + 16 * s.rd (memF Reg.memOwnReq m) + 256 * s.rd (memF Reg.memOwnPending m) + 512 * b2n (s.held m)
    + 1024 * b2n (s.retired 5 m)


/-- FLf_TIME: the flight time while the flight's clock runs. -/
def State.flTimeWord (s : State) (f : Nat) : Nat := (s.flStamp f).rd (flF Reg.flTimeT f)

/-- Registers whose value follows other state: none where the stored fields are the whole of it. -/
def State.liveWord (s : State) (pg off : Nat) : Option Nat :=
  if pg = 0x000 ∧ off = 0x084 then some s.mode.code
  else if pg = 0x001 ∧ off = 0x048 then some s.us32
  else if pg = 0x004 ∧ off = 0x048 then some (flagBits ((List.range 32).map s.vecPending))
  else if pg = 0x006 ∧ 0x040 ≤ off ∧ off < 0x0C0 then some (flagBits ((List.range 32).map fun j => s.evPend.contains (8 * (off - 0x040) + j)))
  else if pg = 0x007 ∧ off = 0x040 then some s.queueWord
  else if pg = 0x007 ∧ off = 0x044 then some s.evq.length
  else if pg = 0x00B ∧ off = 0x040 then some (s.storedWord pg off + 2 * s.twq.length)
  else if 0x040 ≤ pg ∧ pg ≤ 0x04F ∧ off = 0x0C0 then some (s.storedWord pg off + 65536 * (s.loopPhases (pg - 0x040)).length)
  else if 0x050 ≤ pg ∧ pg ≤ 0x05F ∧ off % 0x40 = 0x10 ∧ off < 0x140 then
    some (s.phStatWord pg off (4 * (pg - 0x050) + (off - 0x050) / 0x40))
  else if 0x050 ≤ pg ∧ pg ≤ 0x05F ∧ off = 0x22C then some (s.phNactWord (pg - 0x050))
  else if pg = 0x062 ∧ 0x050 ≤ off ∧ off % 0x20 = 0x10 ∧ off < 0x840 then
    some (tw 64 (vget s.abc.rods ((off - 0x050) / 0x20)).en % 2 ^ 32)
  else if pg = 0x066 ∧ off = 0x080 then some (s.storedWord pg off + 256 * flagBits ((List.range 8).map s.armed))
  else if pg = 0x066 ∧ off = 0x088 then some (if s.hldSt = 0 then s.storedWord pg off else sat 32 (s.episodeUs / 1000))
  else if pg = 0x066 ∧ off = 0x094 then some (sat 32 (s.hld.drawn / 80000).toNat)
  else if 0x070 ≤ pg ∧ pg ≤ 0x087 ∧ off = 0x080 then some (tw 40 (s.bt (pg - 0x070)).count % 2 ^ 32)
  else if 0x070 ≤ pg ∧ pg ≤ 0x087 ∧ off = 0x0A4 then some (s.sinceS (pg - 0x070))
  else if pg = 0x096 ∧ 0x048 ≤ off ∧ off % 0x10 = 8 ∧ off < 0x0C8 then some (s.flTimeWord ((off - 0x048) / 0x10))
  else if pg = 0x098 ∧ off = 0x054 then some (tw 64 s.idx.tofs % 2 ^ 32)
  else if 0x0D0 ≤ pg ∧ pg ≤ 0x0DF ∧ off < 0x0E0 ∧ off % 0x20 = 0 then some (s.bankWord (5 * (pg - 0x0D0) + (off - 0x040) / 0x20))
  else if pg = 0x0F0 ∧ off = 0x048 then some s.fltSum
  else if pg = 0x0F0 ∧ off = 0x054 then some (s.storedWord pg off + min 15 s.holdUsed)
  else if pg = 0x0F8 ∧ off = 0x064 then some (s.gal.pcc % 2 ^ 24)
  else if pg = 0x0F8 ∧ off = 0x068 then some (min (2 ^ 20 - 1) (ophSub s.us))
  else if pg = 0x110 ∧ off = 0x050 then
    some (s.storedWord pg off + 4 * b2n ((List.range 4).any fun n => s.effB (tieF Reg.tieCfgHost n)))
  else if pg = 0x130 ∧ off = 0x044 then
    some (min 511 (s.rd (srvF Reg.srvValSample 337) / 100) + 65536 * min 1023 (s.rd (srvF Reg.srvValSample 336) * 2 / 100))
  else none

/-- PG_STAT.BLKSTAT (block chapters). -/
def State.blkstat (s : State) (pg : Nat) : Nat :=
  if 0x010 ≤ pg ∧ pg ≤ 0x03F then s.rd (bayF Reg.bayStatState (pg - 0x010))
  else if 0x040 ≤ pg ∧ pg ≤ 0x04F then s.rd (loopF Reg.loopStatState (pg - 0x040))
  else if 0x050 ≤ pg ∧ pg ≤ 0x05F then
    flagBits ((List.range 4).map fun q => phInSet (s.phSt (4 * (pg - 0x050) + q)))
      + 16 * flagBits ((List.range 4).map fun q => s.retired 1 (4 * (pg - 0x050) + q))
  else if pg = 0x066 then s.rd (hldF Reg.hldStatState 0)
  else if 0x070 ≤ pg ∧ pg ≤ 0x087 then s.rd (batF Reg.batStatSvc (pg - 0x070))
  else if 0x088 ≤ pg ∧ pg ≤ 0x08B then s.rd (tieF Reg.tieStatState (pg - 0x088))
  else if 0x090 ≤ pg ∧ pg ≤ 0x097 then flagBits ((List.range 8).map fun f => s.flState f != 0)
  else if 0x0A1 ≤ pg ∧ pg ≤ 0x0A8 then s.rd (twcF Reg.twcStatState (pg - 0x0A1))
  else if pg = 0x108 then s.rd (bistF Reg.bistStatState 0)
  else 0

/-- An instance or channel on the page is retired (Table 3.2, Table 16.7). -/
def State.pageRetired (s : State) (pg : Nat) : Bool :=
  if 0x010 ≤ pg ∧ pg ≤ 0x03F then s.retired 0 (pg - 0x010)
  else if 0x050 ≤ pg ∧ pg ≤ 0x05F then (List.range 4).any fun q => s.retired 1 (4 * (pg - 0x050) + q)
  else if 0x0C0 ≤ pg ∧ pg ≤ 0x0C7 then (List.range 48).any fun i => s.retired 2 (48 * (pg - 0x0C0) + i)
  else if 0x0A1 ≤ pg ∧ pg ≤ 0x0A8 then s.retired 3 (pg - 0x0A1)
  else if 0x088 ≤ pg ∧ pg ≤ 0x08B then s.retired 4 (pg - 0x088)
  else if 0x0D0 ≤ pg ∧ pg ≤ 0x0DF then (List.range 5).any fun i => s.retired 5 (5 * (pg - 0x0D0) + i)
  else if pg = 0x098 then (List.range 16).any fun a => s.retired 6 a
  else false

/-- A sense channel on the page is suspect: the page of the balance candidate's instance (log entry 74). -/
def State.pageSuspect (s : State) (pg : Nat) : Bool :=
  if 0x010 ≤ pg ∧ pg ≤ 0x03F then s.suspect (pg - 0x010)
  else if 0x040 ≤ pg ∧ pg ≤ 0x04F then s.suspect (48 + (pg - 0x040))
  else if 0x070 ≤ pg ∧ pg ≤ 0x087 then s.suspect (64 + s.batGroup (pg - 0x070))
  else if pg = 0x0C7 then s.suspect 72
  else if pg = 0x064 then s.nSuspects != 0
  else false

/-- The open entries whose source lies on the page. -/
def State.pageOpen (s : State) (pg : Nat) : Nat :=
  ((List.range 128).filter fun k => s.openValid k && evPage (bits (s.openKey k) 0 10) == pg).length

/-- PG_LOCK.LOCK as a read returns it; 0 on a page with LOCKABLE = 0 (R56). -/
def State.lockBit (s : State) (pg : Nat) : Nat := if pageLockable pg then s.rd (hdr Reg.pgLock pg) else 0

/-- A word of the common header (Table 3.2). -/
def State.headerWord (s : State) (pg off : Nat) : Nat :=
  if off = 0x000 then pageId pg
  else if off = 0x004 then 0x0100
  else if off = 0x008 then pageCap pg
  else if off = 0x00C then s.rd (hdr Reg.pgEnable pg)
  else if off = 0x010 then
    s.rd (hdr Reg.pgEnable pg) + 2 * b2n (pageStaged pg && s.staged pg) + 4 * s.rd (hdr Reg.pgCbusy pg)
      + 8 * s.rd (hdr Reg.pgCpend pg) + 16 * s.lockBit pg + 65536 * s.blkstat pg
  else if off = 0x014 then s.rd (hdr Reg.pgEvt pg)
  else if off = 0x018 then s.rd (hdr Reg.pgEvten pg)
  else if off = 0x01C then
    b2n (s.pageOpen pg != 0) + 2 * b2n (s.pageRetired pg) + 4 * b2n (s.pageSuspect pg) + 256 * min 255 (s.pageOpen pg)
  else if off = 0x020 then s.lockBit pg
  else if off = 0x024 then s.rd (hdr Reg.pgLseq pg)
  else 0

/-- A register of a page as a read returns it (R50). -/
def State.pageWord (s : State) (pg off : Nat) : Nat :=
  if !pageListed pg then 0
  else if off < 0x040 then s.headerWord pg off
  else (s.liveWord pg off).getD (s.storedWord pg off)

/-! ### What a read does -/

/-- The RC fields of a register return to their reset values; what hardware sets at the same moment stays (R5, R6; log entry
75). -/
def State.rcClear (s : State) (pg off set : Nat) : State :=
  ((fieldsAt pg off).filter fun f => f.acc == .rc).foldl
    (fun t f => t.wr f (if bits set f.lo f.width = 0 then f.reset else bits set f.lo f.width)) s

/-- The high word that a read of a low word latches. -/
def State.readLatch (s : State) (pg off : Nat) : State :=
  if pg = 0x001 ∧ off = 0x048 then s.usLatch
  else if pg = 0x062 ∧ 0x050 ≤ off ∧ off % 0x20 = 0x10 ∧ off < 0x840 then
    let r := (off - 0x050) / 0x20
    s.wr (abc2F Reg.rodEnhiEn r) (tw 64 (vget s.abc.rods r).en / 2 ^ 32)
  else if 0x070 ≤ pg ∧ pg ≤ 0x087 ∧ off = 0x080 then
    s.wr (batF Reg.batCnthiCount (pg - 0x070)) (tw 40 (s.bt (pg - 0x070)).count / 2 ^ 32)
  else if pg = 0x098 ∧ off = 0x054 then s.wr (idxF Reg.idxTofshiOfs 0) (tw 64 s.idx.tofs / 2 ^ 32)
  else s

/-- What a read of a register does beside its answer. -/
def State.afterRead (s : State) (pg off set : Nat) : State :=
  if pg = 0x007 ∧ off = 0x040 then { s with evq := s.evq.drop 1 }
  else if pageListed pg && 0x040 ≤ off then (s.readLatch pg off).rcClear pg off set
  else s

/-- A read of one register of a page: the value, and the state after it (R50, R63). -/
def State.pageRead (s : State) (pg off set : Nat) : Nat × State := (s.pageWord pg off, s.afterRead pg off set)

/-! ### What a write does -/

/-- A write of PG_EVTEN: a set bit that it enables becomes pending, and the pending state of a bit that it disables ends
(R67; log entry 76). -/
def State.evtEnable (s : State) (pg v : Nat) : State :=
  let a := s.wr (hdr Reg.pgEvten pg) v
  let live (n : Nat) : Bool :=
    if n = 2 ∨ n = 3 then a.stillPending pg n
    else match evBit n with | some (p, b) => p != pg || a.evtOn pg b | none => true
  let c := { a with evPend := a.evPend.filter live }
  (List.range 32).foldl (fun t b =>
    if t.evtOn pg b then (match evtSource pg b with | some n => t.pend n t.us | none => t) else t) c

/-- Read-only fields that the unit behind the page writes anew at once, because they show what goes on (PLL, banks, windows,
stream, gallery, NVM devices, link, island), and those whose reset value is itself the restored or strapped one (R54; log entry
73). Every other field returns to its reset value. -/
def shown (pg : Nat) : List Row :=
  if pg = 0x001 then [Reg.tmbStatPlllock, Reg.tmbStatXtalok, Reg.tmbStatOnint, Reg.tmbStatCalok, Reg.tmbStatSlewing,
    Reg.tmbCalTapcode]
  else if pg = 0x009 then [Reg.cmdLastSeq, Reg.cmdDoneseqSeq, Reg.cmdJfillCnt, Reg.cmdJstatJm0ok, Reg.cmdJstatJm1ok,
    Reg.cmdJstatJmsused, Reg.cmdJstatRebuild, Reg.cmdJstatMirrorlost, Reg.cmdJstatReplay]
  else if pg = 0x00B then [Reg.cmdTwstatBusy]
  else if pg = 0x0A0 then [Reg.twtStatAddr, Reg.twtStatInxfr]
  else if 0x0D0 ≤ pg ∧ pg ≤ 0x0DF then [Reg.memOwnOwner, Reg.memOwnPending, Reg.memOwnHeld, Reg.memOwnRetired]
  else if pg = 0x0E1 then pageRows 0x0E1
  else if pg = 0x0E3 then pageRows 0x0E3
  else if pg = 0x0E4 then [Reg.strDheadIdx, Reg.strCtailIdx, Reg.strStatRunning, Reg.strStatStalled, Reg.strStatNomem,
    Reg.strStatFill, Reg.strStatSteps]
  else if pg = 0x0F8 then [Reg.galStatFstate, Reg.galStatFreezebroken, Reg.galStatOnecopy, Reg.galStatNvm0ok, Reg.galStatNvm1ok,
    Reg.galStatKeyset, Reg.galStatSpill, Reg.galStatTail, Reg.galOphOph, Reg.galPccPcc, Reg.galSubSub, Reg.galNonceNonce,
    Reg.galNextseqSeq, Reg.galOldestSeq, Reg.galClrseqSeq, Reg.galNvstatHead, Reg.galNvstatWraps]
  else if pg = 0x118 then [Reg.nvcStatBusy, Reg.nvcStatDev0ok, Reg.nvcStatDev1ok]
  else if pg = 0x120 then [Reg.pexLinkSpeed, Reg.pexLinkWidth, Reg.pexLinkL0, Reg.pexLinkL1, Reg.pexLinkReversed,
    Reg.pexLinkThrlim, Reg.pexLinkLtssm, Reg.pexCmdBme, Reg.pexCmdMse, Reg.pexCmdMsixen, Reg.pexCmdFmask, Reg.pexCmdAspml1,
    Reg.pexAeruncStat, Reg.pexAercorStat]
  else if pg = 0x130 then [Reg.kaiStatAuxok, Reg.kaiStatHvok, Reg.kaiStatInhold, Reg.kaiStatBridgeok, Reg.kaiStatPdfail]
  else []

/-- The field stays over a block reset. -/
def staysShown (pg off : Nat) (f : Fld) : Bool :=
  f.acc == .ro && (shown pg).any fun r => r.lo == f.lo && (r.indexAt off).isSome

/-- The value at a key of the store returns to its reset value at a block reset of page `pg`. -/
def State.blkCleared (s : State) (pg k : Nat) : Bool :=
  let off := k % 131072 / 32
  k / 131072 == pg && 0x040 ≤ off && (fieldsAt pg off).any fun f =>
    f.lo == k % 32 && !staysShown pg off f && !(f.acc == .rwl && s.rdB (hdr Reg.pgLock pg))

/-- What follows a change of settings of a page that no command made. -/
def State.settingsFollow (old s : State) (pg : Nat) : State :=
  if pg = 0x001 then s.forceFollow
  else if pg = 0x004 ∨ pg = 0x005 then (old.dueNew s).releaseAll
  else if 0x0E0 ≤ pg ∧ pg ≤ 0x0E3 then s.capShow
  else if pg = 0x0E4 then s.strShow
  else s

/-- The event unit's own registers at a block reset: EVT_SUM and EVT_QCNT return to 0, and no message is held (R54). -/
def State.evtReset (s : State) (pg : Nat) : State :=
  if pg = 0x004 then { s with vec := s.vec.map fun x => { x with held := false, gap := false } }
  else if pg = 0x006 then { s with evPend := [] }
  else if pg = 0x007 then { s with evq := [], evqOvf := false }
  else s

/-- A block reset (R54): the block registers, PG_EVT and PG_EVTEN; an RWL field of a locked page stays (R55). -/
def State.blockReset (s : State) (pg : Nat) : State :=
  let a := { s with regs := s.regs.filter fun p => !s.blkCleared pg p.1, act := s.act.filter fun p => !s.blkCleared pg p.1 }
  State.settingsFollow s (((a.evtReset pg).clearEvt pg (2 ^ 32 - 1)).evtEnable pg 0) pg

/-- A write of PG_CTL (R52, R54, R58). -/
def State.writeCtl (s : State) (pg v : Nat) : State :=
  let jrnl := pageJrnl pg
  let differs := bits v 0 1 != s.rd (hdr Reg.pgEnable pg)
  let a := if jrnl then s else s.wr (hdr Reg.pgEnable pg) (bits v 0 1)
  let b := if bitOf v 2 && pageStaged pg then a.commit pg else a
  let c := if bitOf v 1 && !jrnl then b.blockReset pg else b
  if jrnl && (differs || bitOf v 1) then c.jrej pg 0x00C else c

/-- A write of a header register. -/
def State.writeHeader (s : State) (pg off v : Nat) : State :=
  if off = 0x00C then s.writeCtl pg v
  else if off = 0x014 then s.clearEvt pg v
  else if off = 0x018 then s.evtEnable pg v
  else if off = 0x020 then (if bitOf v 0 && pageLockable pg then s.wr (hdr Reg.pgLock pg) 1 else s)
  else s

/-- One field written by its access code (R5, R55, R57). A W1S bit starts an action: the action sets the bit and clears it when
what it started has ended (`State.writeAction`; log entry 92). -/
def State.writeField (s : State) (f : Fld) (v : Nat) : State :=
  let x := bits v f.lo f.width
  match f.acc with
  | .rw => s.wr f x
  | .rwl => if s.rdB (hdr Reg.pgLock f.page) then s else s.wr f x
  | .w1c => s.wr f (clrMask (s.rd f) x)
  | .wo => s.wr f x
  | .w1s => s
  | .ro => s
  | .rc => s
  | .rwj => s

/-- Every field of a register written by its access code. -/
def State.writeFields (s : State) (pg off v : Nat) : State := (fieldsAt pg off).foldl (fun t f => t.writeField f v) s

/-- The action of a write that starts one, by register; none for a register that only holds values. -/
def State.writeAction (s : State) (pg off v : Nat) : Option State :=
  if pg = 0x001 ∧ off = 0x040 then some (s.tmbCfg v)
  else if pg = 0x004 ∧ off = 0x044 then some (if s.vecPending (bits v 0 5) then s.due (bits v 0 5) else s)
  else if pg = 0x008 ∧ off = 0x040 then some (s.cmdCfg v)
  else if pg = 0x008 ∧ 0x044 ≤ off ∧ off ≤ 0x058 ∧ s.rdB (cmd0F Reg.cmdCfgRingen 0) then some s
  else if 0x0A1 ≤ pg ∧ pg ≤ 0x0A8 ∧ off = 0x100 then some (s.hostPass (pg - 0x0A1) v)
  else if 0x0D0 ≤ pg ∧ pg ≤ 0x0DF ∧ off < 0x0E0 ∧ off % 0x20 = 0 then some (s.bankRequest (5 * (pg - 0x0D0) + (off - 0x040) / 0x20) (bits v 4 3))
  else if pg = 0x0E0 ∧ off = 0x048 then some (s.capCtl v)
  else if pg = 0x0E4 ∧ off = 0x040 then some (s.strCfg v)
  else if pg = 0x0F0 ∧ off = 0x080 then some (if s.rdB (hdr Reg.pgLock pg) then s else s.fltInj v)
  else if pg = 0x0F0 ∧ off = 0x084 then some (s.fltAck (bits v 0 7) (bits v 16 8))
  else if pg = 0x0F0 ∧ off = 0x088 then some (if bitOf v 0 then s.fltAckAll else s)
  else if pg = 0x0F8 ∧ off = 0x040 then some (s.galCur v)
  else if pg = 0x0F8 ∧ off = 0x04C then some (s.galTcur v)
  else if pg = 0x0F8 ∧ 0x080 ≤ off ∧ off < 0x0A0 ∧ s.rdB (gal0F Reg.galStatKeyset 0) then some (s.lockrej pg off)
  else if pg = 0x0F8 ∧ off = 0x0A0 then some (if bitOf v 0 then s.keyLoad else s)
  else if 0x110 ≤ pg ∧ pg ≤ 0x113 ∧ off = 0x044 then
    let a := s.writeFields pg off v
    some (if bitOf v 0 then a.mbxGo (pg - 0x110) else a)
  else if pg = 0x118 ∧ off = 0x050 then
    let a := if bitOf v 0 then s.nvcGo else s
    some (if bitOf v 1 then a.nvcVerify else a)
  else none

/-- Fields of a register whose value differs between the word written and the word read. -/
def changed (fs : List Fld) (v old : Nat) : Bool := fs.any fun f => bits v f.lo f.width != bits old f.lo f.width

/-- A write of a block register (R50, R52, R55). EVT_EOI changes no setting. -/
def State.writeBlock (s : State) (pg off v : Nat) : State :=
  let fs := fieldsAt pg off
  let old := s.pageWord pg off
  let jr := changed (fs.filter fun f => f.acc == .rwj) v old
  let lr := s.rdB (hdr Reg.pgLock pg) && changed (fs.filter fun f => f.acc == .rwl) v old
  let a := (s.writeAction pg off v).getD (s.writeFields pg off v)
  let b := if pg = 0x004 ∧ off = 0x044 then a else s.settingsFollow a pg
  let c := if jr then b.jrej pg off else b
  if fs.isEmpty && (s.writeAction pg off v).isNone then s else if lr then c.lockrej pg off else c

/-- A write of one register of a listed page. -/
def State.pageWrite (s : State) (pg off v : Nat) : State :=
  if off < 0x040 then s.writeHeader pg off v else s.writeBlock pg off v

/-! ### The lock key (R71 to R73) -/

/-- The lock state of the target pages clears (R71). -/
def State.unlock (s : State) (target : Nat) : State :=
  ((List.range 512).filter fun p => pageLockable p && (target == 0xFFFF || target == p)).foldl (fun t p => t.wr (hdr Reg.pgLock p) 0) s

/-- A write of GLB_LOCKKEY on a path: the next word of the sequence, an abort, or nothing (R71 to R73). -/
def State.lockKey (s : State) (path key : Nat) : State :=
  let st := s.rd (glbF Reg.glbLockstatStage 0)
  if s.rdB (glbF Reg.glbLockstatLockout 0) then s
  else if st = 0 then
    if key = 0x0000A5C3 then
      State.wr { s with sys := { s.sys with lockPath := path } } (glbF Reg.glbLockstatStage 0) 1
    else s
  else if path ≠ s.sys.lockPath then s.lockAbort
  else if st = 1 then
    if key = 0x00003C5A then s.wr (glbF Reg.glbLockstatStage 0) 2
    else s.lockAbort
  else if bits key 16 16 = 0xC3A5 then
    ((s.unlock (bits key 0 16)).wr (glbF Reg.glbLockstatStage 0) 0).wr (glbF Reg.glbLockstatFails 0) 0
  else s.lockAbort

/-! ### The windows (R60, R61, R63, R65) -/

/-- A 32-bit write that reaches a page (R50, R63): `path` as in GLB_ERRADDR.PATH. -/
def State.regWrite (s : State) (path addr v : Nat) : State :=
  let pg := addr / 4096
  let off := addr % 4096
  if pg = 0x000 ∧ off = 0x044 then s.lockKey path v
  else
    let a := if path = 0 then s.barWrite else s
    if pageListed pg then a.pageWrite pg off v else a.accessErr addr path true

/-- A write in BAR4 (Table 3.3): the command fast registers and the MSI-X table. -/
def State.bar4Write (s : State) (addr v : Nat) : State :=
  if addr = 0x8100 then (s.wr (cmdfF Reg.cmdRtailIdx 0) v).fetchAll 0
  else if addr = 0x8104 then (((s.wr (cmdfF Reg.cmdPheadIdx 0) v).ringFollow).drain).fetchAll 0
  else if 0xC000 ≤ addr ∧ addr < 0xC200 then
    let n := (addr - 0xC000) / 16
    let i := addr / 4 % 4
    if i < 3 then { s with msix := s.msix.put (4 * n + i) 0 (if i = 0 then v / 4 * 4 else v) }
    else State.release { s with vec := vmod s.vec n fun x => { x with masked := bitOf v 0 } } n
  else s

/-- A dword in BAR4 (Table 3.3). -/
def State.bar4Word (s : State) (summary : Nat → Byte) (addr : Nat) : Nat :=
  if addr < 0x8000 then s.winWord (addr / 4)
  else if addr < 0x8010 then bytesToNat ((List.range 4).map fun i => summary (addr - 0x8000 + i))
  else if addr = 0x8100 then s.rd (cmdfF Reg.cmdRtailIdx 0)
  else if addr = 0x8104 then s.rd (cmdfF Reg.cmdPheadIdx 0)
  else if addr = 0x8108 then s.rd (cmd1F Reg.cmdLastSeq 0)
  else if 0xC000 ≤ addr ∧ addr < 0xC200 then
    let n := (addr - 0xC000) / 16
    let i := addr / 4 % 4
    if i < 3 then s.msix.get (4 * n + i) 0 else b2n (vget s.vec n).masked
  else if addr = 0xD000 then flagBits ((List.range 32).map fun v => (vget s.vec v).held && s.vecMasked v)
  else 0

/-- The 16 summary status bytes (Table 14.1). -/
def State.summary (s : State) : List Byte :=
  let b (n : Nat) : Byte := BitVec.ofNat 8 n
  let st := if s.mode = .run then 1 else if s.mode = .throttled then 2 else if s.mode = .bench then 3 else 0
  let fltLow := !(s.pairLevels).1
  [b (st + 8 * b2n (s.evtSet 0x000 1) + 16 * b2n fltLow + 32 * s.rd (pexF Reg.pexLinkL0 0) + 64 * b2n s.redirect), b s.evq.length]
    ++ natToBytes 2 s.fltSum ++ natToBytes 4 (s.rd (cmd1F Reg.cmdLastSeq 0)) ++ natToBytes 4 (s.rd (cmd1F Reg.cmdDoneseqSeq 0))
    ++ [b s.twq.length,
        b (s.rd (cmd3F Reg.cmdTwstatBusy 0) + 2 * s.rd (cmd1F Reg.cmdJstatRebuild 0) + 4 * s.rd (cmd1F Reg.cmdJstatMirrorlost 0)),
        b (s.rd (cmd1F Reg.cmdJfillCnt 0) / 256), b (s.rd (twtF Reg.twtWinWin 0))]

/-! ### BAR2 (R62) -/

/-- The word written by a BAR2 write with byte enables (R62). -/
def mergeBytes (old new be : Nat) : Nat :=
  sumN ((List.range 8).map fun i => bits (if bitOf be i then new else old) (8 * i) 8 * 2 ^ (8 * i))

/-- A word of a HOST-owned bank read through BAR2 (R409): `ecc` as in BAR2_ACCESS. -/
def State.bar2Read (s : State) (m w ecc : Nat) : State :=
  let bad := ecc = 2 ∨ s.memBad.contains (m, w, true)
  if ecc = 3 then State.raise (({ s with rdata := 0 } : State).inc (memF Reg.memEccOvwr m)) 897
  else if bad then State.eccUnc { s with rdata := 0 } m w
  else
    let a : State := { s with rdata := s.mem.word (wordAddr m w) }
    if ecc = 1 ∨ s.memBad.contains (m, w, false) then
      State.eccCorr { a with memBad := a.memBad.filter fun (x : Nat × Nat × Bool) => !(x.1 == m && x.2.1 == w) } m w
    else a

/-- A word of a HOST-owned bank written through BAR2: a narrower write is a read-modify-write under SECDED (R62). -/
def State.bar2Write (s : State) (m w data be ecc : Nat) : State :=
  let narrow := be ≠ 255
  if ecc = 3 then (s.inc (memF Reg.memEccOvwr m)).raise 897
  else
    let bad := narrow ∧ (ecc = 2 ∨ s.memBad.contains (m, w, true))
    let old := if bad then 0 else s.mem.word (wordAddr m w)
    let a := if bad then s.eccUnc m w else if narrow ∧ (ecc = 1 ∨ s.memBad.contains (m, w, false)) then s.eccCorr m w else s
    State.touched { a with mem := a.mem.putWords (wordAddr m w) [mergeBytes old data be] } [(m, w, 1)]

/-- A BAR2 access (R62): only HOST-owned banks are served. -/
def State.bar2 (s : State) (addr : Nat) (write : Bool) (data be ecc : Nat) : State :=
  let m := addr / 0x100000
  let w := addr % 0x100000 / 8
  if s.owner m ≠ 3 then State.accessErr (if write then s else { s with rdata := 0 }) addr 1 write
  else if write then s.bar2Write m w data be ecc
  else s.bar2Read m w ecc

/-! ### Host accesses -/

/-- The `n` bytes of a dword that was only partly written over the register target are discarded (R377). -/
def State.partialWrite (s : State) (addr n : Nat) : State :=
  ((s.inc (twtF Reg.twtNerrPartial 0) n).raise 804).accessErr addr 3 true

/-- The endpoint is out of reset: the L-die runs or boots (R65). -/
def State.endpointUp (s : State) : Bool := s.lUp || (s.islandUp && s.sys.boot.isSome)

/-- A path serves accesses: the two-wire target while the L-die runs, a BAR where requests to it are served (R65). -/
def State.serves (s : State) (path : Nat) : Bool := if path = 3 then s.lUp else s.barOn

/-- A read that is not served: all ones on PCIe where the link carries an Unsupported Request, no completion otherwise, and a NAK
on the two-wire path (R65). -/
def State.unserved (s : State) (path : Nat) : State :=
  if path ≠ 3 ∧ s.endpointUp ∧ s.linkUp then s.answer (2 ^ 32 - 1) else s

/-- A host write on a path (R61, R65): nothing is written where the path is not served. -/
def State.hostWrite (s : State) (path addr v be : Nat) : State :=
  if !s.serves path then s
  else if path = 1 then
    if bitOf addr 2 then s.bar2 addr true (v * 2 ^ 32) (be * 16) 0 else s.bar2 addr true v be 0
  else if path = 3 then
    if be = 15 ∧ addr % 4 = 0 then s.regWrite 3 addr v
    else s.partialWrite (addr / 4 * 4) ((List.range 4).filter (bitOf be)).length
  else if be ≠ 15 ∨ addr % 4 ≠ 0 then (if path = 0 then s.barWrite else s).accessErr addr path true
  else if path = 2 then s.bar4Write addr v
  else if addr < 0x200000 then s.regWrite 0 addr v
  else s

/-- A host read on a path (R50, R60 to R65): the answer stands in `rdata`. -/
def State.hostRead (s : State) (path addr set : Nat) : State :=
  let a := addr / 4 * 4
  if !s.serves path then s.unserved path
  else if path = 1 then s.bar2 addr false 0 255 0
  else if path = 2 then s.answer (s.bar4Word (fun i => nth s.summary i) a)
  else if a < 0x200000 then
    let r := s.pageRead (a / 4096) (a % 4096) set
    r.2.answer r.1
  else s.answer 0

/-! ### Commands -/

/-- REGISTER_WRITE (R5, R61). -/
def execRegisterWrite (path : BitVec 2) (addr : BitVec 26) (v : Word) (be : BitVec 4) (s : State) : Res :=
  .next (s.hostWrite path.toNat addr.toNat v.toNat be.toNat)

/-- RC_READ (R5, R6). -/
def execRcRead (path : BitVec 2) (addr : BitVec 26) (set : Word) (s : State) : Res :=
  .next (s.hostRead path.toNat addr.toNat set.toNat)

/-- BLKRST (R54): PG_CTL written with ENABLE as it reads, and BLKRST. -/
def execBlkrst (pg : BitVec 9) (s : State) : Res :=
  .next (s.hostWrite s.hostPath (pg.toNat * 4096 + 0x00C) (b2n (s.rdB (hdr Reg.pgEnable pg.toNat)) + 2) 15)

/-- LOCK_SET (R56). -/
def execLockSet (pg : BitVec 9) (s : State) : Res := .next (s.hostWrite s.hostPath (pg.toNat * 4096 + 0x020) 1 15)

/-- PG_EVT_CLEAR (R6, R67): a bit that hardware sets at the same moment stays set, or rises. -/
def execPgEvtClear (pg : BitVec 9) (mask set : Word) (s : State) : Res :=
  let p := pg.toNat
  let a := s.hostWrite s.hostPath (p * 4096 + 0x014) (clrMask mask.toNat set.toNat) 15
  .next (if s.lUp && pageListed p then
      (List.range 32).foldl (fun t b =>
        if bitOf set.toNat b then (match evtSource p b with | some n => t.raiseBit p b n | none => t) else t) a
    else a)

/-- EVT_EOI (R68, R69). `src` is a source whose event arises at the same moment: where it makes the vector pending, the message
that this sends is the one that follows. -/
def execEvtEoi (vec : BitVec 5) (s : State) (src : Option (BitVec 10) := none) : Res :=
  let a := (match src with
    | some n => s.raise n.toNat
    | none => s).barWrite
  .next (if !s.vecPending vec.toNat && a.vecPending vec.toNat then a else a.hostWrite a.hostPath 0x4044 vec.toNat 15)

/-- MSIX_UNMASK (R68): the vector's control word in the MSI-X table is written 0. -/
def execMsixUnmask (vec : BitVec 5) (s : State) : Res := .next (s.hostWrite 2 (0xC00C + 16 * vec.toNat) 0 15)

/-- EVT_GEN_SET (R68). -/
def execEvtGenSet (s : State) : Res := .next (s.hostWrite s.hostPath 0x4040 1 15)

/-- MSI_GAP_END (R68). -/
def execMsiGapEnd (vec : BitVec 5) (s : State) : Res :=
  .next (if s.lUp && (vget s.vec vec.toNat).gap then
      State.release { s with vec := vmod s.vec vec.toNat fun x => { x with gap := false } } vec.toNat
    else s)

/-- EVT_QPOP (R70). -/
def execEvtQpop (s : State) : Res := .next (s.hostRead s.hostPath 0x7040 0)

/-- GLB_LOCKKEY (R71 to R73). -/
def execGlbLockkey (path : BitVec 2) (key : Word) (s : State) : Res := .next (s.hostWrite path.toNat 0x044 key.toNat 15)

/-- LOCK_KEY_TIMEOUT (R72): a key word that met the timeout is discarded and logged. -/
def execLockKeyTimeout (late : Bool) (s : State) : Res :=
  if s.lUp && s.rd (glbF Reg.glbLockstatStage 0) != 0 then
    .next (if late then (s.lockAbort).late 5 else s.lockAbort)
  else .next s

/-- LOCKOUT_END (R73). -/
def execLockoutEnd (s : State) : Res :=
  if s.lUp && s.rdB (glbF Reg.glbLockstatLockout 0) then
    .next ((s.wr (glbF Reg.glbLockstatLockout 0) 0).wr (glbF Reg.glbLockstatFails 0) 0)
  else .next s

/-- BAR2_ACCESS (R62, R409). -/
def execBar2Access (addr : BitVec 26) (write : Bool) (data : BitVec 64) (be : Byte) (ecc : BitVec 2) (s : State) : Res :=
  .next (if s.barOn then s.bar2 addr.toNat write data.toNat be.toNat ecc.toNat
    else if !write && s.endpointUp && s.linkUp then { s with rdata := 2 ^ 64 - 1 } else s)

/-- FLT_INJ (R452): a write of the register, which is RWL. -/
def execFltInj (v : Word) (s : State) : Res := .next (s.hostWrite s.hostPath 0xF0080 v.toNat 15)

end Sys2Proof.Machine
end

