-- ==== Sys2Proof/Machine/Pcie.lean ====
section
/-!
DEFINITION. The PCIe endpoint as the PEX page mirrors it (R74, R75, R90, R529).
-/

namespace Sys2Proof.Machine

/-- What follows a change of the link or of the command bits: redirection (R90), held messages (R68), the stream reader
(R424). -/
def State.pcieFollow (s : State) : State := if s.lUp then ((s.redirectFollow).releaseAll).strShow else s

/-- The highest speed that the link trains to now (R74, R481). -/
def State.speedCap (s : State) : Nat := if s.throttling then 1 else s.maxSpeed

/-- PEX_LINK as the link stands; a link that is down reads 0 throughout (Table 3.7). -/
def State.putLink (s : State) (speed width l0 l1 rev ltssm : Nat) : State :=
  let up := speed ≠ 0
  let v (x : Nat) : Nat := if up then x else 0
  ((((((s.wr (pexF Reg.pexLinkSpeed 0) speed).wr (pexF Reg.pexLinkWidth 0) (v width)).wr (pexF Reg.pexLinkL0 0) (v l0)).wr
    (pexF Reg.pexLinkL1 0) (v l1)).wr (pexF Reg.pexLinkReversed 0) (v rev)).wrB (pexF Reg.pexLinkThrlim 0) s.throttling).wr
    (pexF Reg.pexLinkLtssm 0) (v ltssm)

/-- PCIE_LINK_CHANGE (R74, R75, R90). MAXSPD and the throttle cap hold where the link trains: from Detect to Recovery, or to
another speed or width. -/
def execPcieLinkChange (speed width : BitVec 2) (l0 l1 reversed : Bool) (ltssm : BitVec 4) (s : State) : Res :=
  if !s.endpointUp then .next s
  else
    let trains := s.rd (pexF Reg.pexLinkSpeed 0) ≠ speed.toNat ∨ s.rd (pexF Reg.pexLinkWidth 0) ≠ width.toNat
      ∨ s.rd (pexF Reg.pexLinkLtssm 0) < 4
    let sp := if trains then min speed.toNat s.speedCap else speed.toNat
    let a := s.putLink sp width.toNat (b2n l0) (b2n l1) (b2n reversed) ltssm.toNat
    let was := s.rd (pexF Reg.pexLinkSpeed 0)
    let now := a.rd (pexF Reg.pexLinkSpeed 0)
    let shape := was ≠ now ∨ s.rd (pexF Reg.pexLinkWidth 0) ≠ a.rd (pexF Reg.pexLinkWidth 0)
    let left := s.rdB (pexF Reg.pexLinkL0 0) ∧ !a.rdB (pexF Reg.pexLinkL0 0)
    let code := a.rd (pexF Reg.pexLinkLtssm 0)
    let b := if left ∧ (code = 0 ∨ code = 3) then a.inc (pexF Reg.pexNlinkDown 0) else a
    let c := if was ≠ 0 ∧ now ≠ 0 ∧ shape then b.inc (pexF Reg.pexNlinkRetrain 0) else b
    let d := if shape ∨ s.rd (pexF Reg.pexLinkL0 0) ≠ a.rd (pexF Reg.pexLinkL0 0) then c.raise 6 else c
    .next d.pcieFollow

/-- PCIE_AER_ERROR (R75, R90): receiver errors are correctable bit 0; replay rollovers and timeouts are bits 8 and 12 (PCI
Express Base Specification; log entry 78). -/
def execPcieAerError (unc cor : Word) (fatal : Bool) (s : State) : Res :=
  if !s.endpointUp ∨ (unc = 0 ∧ cor = 0) then .next s
  else
    let c := cor.toNat
    let a := (s.wr (pexF Reg.pexAeruncStat 0) (s.rd (pexF Reg.pexAeruncStat 0) ||| unc.toNat)).wr (pexF Reg.pexAercorStat 0)
      (s.rd (pexF Reg.pexAercorStat 0) ||| c)
    let b := (a.inc (pexF Reg.pexNerrRxerr 0) (bits c 0 1)).inc (pexF Reg.pexNerrReplay 0) (bits c 8 1 + bits c 12 1)
    let d := b.raise 7
    .next (State.pcieFollow (if fatal ∧ unc ≠ 0 then { d with aerFatal := true } else d))

/-- PCIE_CONFIG_REQUEST (R1, R65, R529): answered with Retry Status before RUN; in RUN the command bits change and AER status bits
clear, and a fatal error is no longer logged once no uncorrectable bit is left. A request that writes nothing reads the
identity: Device ID 0x9648 above the vendor's (log entry 93). -/
def execPcieConfigRequest (cmd : Option (BitVec 5)) (unc cor : Word) (s : State) : Res :=
  if s.lUp then
    let a := match cmd with
      | none => s
      | some c =>
        ((((s.wr (pexF Reg.pexCmdBme 0) (bits c.toNat 0 1)).wr (pexF Reg.pexCmdMse 0) (bits c.toNat 1 1)).wr
          (pexF Reg.pexCmdMsixen 0) (bits c.toNat 2 1)).wr (pexF Reg.pexCmdFmask 0) (bits c.toNat 3 1)).wr
          (pexF Reg.pexCmdAspml1 0) (bits c.toNat 4 1)
    let b := (a.wr (pexF Reg.pexAeruncStat 0) (clrMask (a.rd (pexF Reg.pexAeruncStat 0)) unc.toNat)).wr (pexF Reg.pexAercorStat 0)
      (clrMask (a.rd (pexF Reg.pexAercorStat 0)) cor.toNat)
    let c := State.pcieFollow { b with aerFatal := b.aerFatal && b.rd (pexF Reg.pexAeruncStat 0) != 0 }
    .next (if cmd.isNone ∧ unc = 0 ∧ cor = 0 then c.answer (0x96480000 + Config.vendorId.toNat) else c)
  else if s.endpointUp then .next (s.emit .configRetry)
  else .next s

end Sys2Proof.Machine
end

