-- ==== Sys2Proof/Machine/Target.lean ====
section
/-!
DEFINITION. The two-wire target port (chapter 14): the register target and the fast target. A transaction is one command; the
bytes are those after the address byte.
-/

namespace Sys2Proof.Machine

/-- The first byte of a write transaction: the target's address and the direction bit (R375). -/
def State.targetAddr (s : State) (fast : Bool) : Nat := 2 * ((if fast then 0x58 else 0x48) + s.rd (twtF Reg.twtStatAddr 0))

/-- A target answers (R65, R399). -/
def State.targetOn (s : State) (fast : Bool) : Bool :=
  s.lUp && s.rdB (twtF (if fast then Reg.twtCfgFasten else Reg.twtCfgRegen) 0)

/-- PECWR. -/
def State.pecOn (s : State) : Bool := s.rdB (twtF Reg.twtCfgPecwr 0)

/-- The PEC of a write transaction over its address byte and the bytes before the PEC (R382). -/
def State.pecOk (s : State) (fast : Bool) (bytes : List Byte) (pec : Byte) : Bool :=
  crc8 (s.targetAddr fast :: bytes.map (·.toNat)) == pec.toNat

/-- A PEC that does not match (R382). -/
def State.pecBad (s : State) : State := (s.inc (twtF Reg.twtNerrPecerr 0)).raise 803

/-! ### Register target (R376 to R382) -/

/-- The pointer that two pointer bytes give, high byte first (R376). -/
def pointerOf (hi lo : Byte) : Nat := 256 * hi.toNat + lo.toNat

/-- What a write phase at pointer `p` with data bytes `data` comes to (R378): how many bytes lie in the write block, and
whether a byte is NAKed; while PECWR = 1 the first byte past the block is held. -/
def blockTake (pec : Bool) (p n : Nat) : Nat × Bool :=
  let room := 32 - p % 32
  (min room n, decide (room + (if pec then 1 else 0) < n))

/-- The pointer after a write phase, with a NAK counted (R376, R378). -/
def State.regPointer (s : State) (bytes : List Byte) : State :=
  match bytes with
  | hi :: lo :: data =>
    let p := pointerOf hi lo
    let r := blockTake s.pecOn p data.length
    let a := { s with twPtr := (p + r.1) % 65536 }
    if r.2 then (a.inc (twtF Reg.twtNerrBlknak 0)).raise 802 else a
  | _ => s

/-- One dword of the window with the bytes written to it (byte lane, value): applied if all four were, else discarded (R377). -/
def State.applyDword (base : Nat) (s : State) (d : Nat × List (Nat × Byte)) : State :=
  if d.2.length = 4 then s.regWrite 3 (base + 4 * d.1) (bytesToNat (d.2.map Prod.snd))
  else s.partialWrite (base + 4 * d.1) d.2.length

/-- The written bytes of a block by dword, in rising address order (R377). -/
def dwordsOf (p : Nat) (data : List Byte) : List (Nat × List (Nat × Byte)) :=
  let l := data.zipIdx.map fun x => (p + x.2, x.1)
  ((List.range 9).map fun i =>
    (p / 4 + i, (l.filter fun y => y.1 / 4 == p / 4 + i).map fun y => (y.1 % 4, y.2))).filter fun d => !d.2.isEmpty

/-- The staged bytes of a write take effect (R377); TWT_WIN counts as it stood in the transaction. -/
def State.commitBytes (s : State) (p : Nat) (data : List Byte) : State :=
  if data.isEmpty then s
  else
    let base := 65536 * s.rd (twtF Reg.twtWinWin 0)
    ((dwordsOf p data).foldl (State.applyDword base) s).inc (twtF Reg.twtNxfrWr 0)

/-- A write transaction of the register target without its PEC (R376 to R378). -/
def State.regTargetWrite (s : State) (bytes : List Byte) : State :=
  match bytes with
  | [] => s
  | [_] => s.inc (twtF Reg.twtNerr2Short 0)
  | hi :: lo :: data =>
    let p := pointerOf hi lo
    (s.regPointer bytes).commitBytes p (data.take (blockTake s.pecOn p data.length).1)

/-- A write that ran past the held byte carries no valid PEC (R382). -/
def State.overrun (s : State) (bytes : List Byte) : Bool :=
  match bytes with
  | hi :: lo :: data => (blockTake s.pecOn (pointerOf hi lo) data.length).2
  | _ => false

/-- REGISTER_TARGET_WRITE (R376 to R378, R382). -/
def execRegisterTargetWrite (bytes : List Byte) (s : State) : Res :=
  if !s.targetOn false then .next s
  else if !s.pecOn then .next (s.regTargetWrite bytes)
  else if s.overrun bytes then .next (s.regPointer bytes)
  else
    match bytes.getLast? with
    | none => .next s
    | some pec =>
      if s.pecOk false bytes.dropLast pec then .next (s.regTargetWrite bytes.dropLast) else .next ((s.regPointer bytes.dropLast).pecBad)

/-- One byte of a read (R379): a dword is read once, at the first byte taken from it. -/
def State.readByte (base p : Nat) (x : State × Nat) (i : Nat) : State × Nat :=
  let a := (p + i) % 65536
  let r := if i = 0 ∨ a % 4 = 0 then
      let q := x.1.pageRead ((base + a) / 4096) (a / 4 * 4 % 4096) 0
      (q.2, q.1)
    else x
  ({ r.1 with rbytes := r.1.rbytes ++ [bits r.2 (8 * (a % 4)) 8] }, r.2)

/-- A read phase of `n` bytes (R376, R379). -/
def State.regTargetRead (s : State) (n : Nat) : State :=
  let p := s.twPtr
  let base := 65536 * s.rd (twtF Reg.twtWinWin 0)
  let a := ((List.range n).foldl (State.readByte base p) ({ s with rbytes := [] }, 0)).1
  State.inc { a with twPtr := (p + n) % 65536 } (twtF Reg.twtNxfrRd 0)

/-- REGISTER_TARGET_READ (R376, R379): a write phase before it ends without a commit (R377). -/
def execRegisterTargetRead (ptr : List Byte) (n : Byte) (s : State) : Res :=
  if !s.targetOn false then .next s
  else
    let a := if ptr.length = 1 then s.inc (twtF Reg.twtNerr2Short 0) else s.regPointer ptr
    .next (a.regTargetRead n.toNat)

/-! ### Fast target (R383, R384) -/

/-- A byte that a write may change now: the window byte, the staging bytes and the doorbell; the latter two not while a staged
command is busy (R91, R383). -/
def State.fastWritable (s : State) (a : Nat) : Bool := a == 0x0F || (0x10 ≤ a && a ≤ 0x50 && !s.twBusy)

/-- The data bytes of a write before the first one that is not writable, with their places. -/
def State.fastTake (s : State) (p : Nat) (data : List Byte) : List (Nat × Byte) :=
  (data.zipIdx.map fun x => ((p + x.2) % 256, x.1)).takeWhile fun x => s.fastWritable x.1

/-- A NAKed byte is counted: BUSYNAK for staging and doorbell while busy, RONAK elsewhere (R91, R383). -/
def State.fastNak (s : State) (a : Nat) : State :=
  if 0x10 ≤ a ∧ a ≤ 0x50 then s.inc (cmd3F Reg.cmdTwstatBusynak 0) else s.inc (twtF Reg.twtNerrRonak 0)

/-- The bytes of a write take effect: staging bytes and the window byte, and the doorbell last (R383). -/
def State.fastCommit (s : State) (jbad : Nat) (w : List (Nat × Byte)) : State :=
  if w.isEmpty then s
  else
    let a := w.foldl (fun t x =>
      if x.1 = 0x0F then t.wr (twtF Reg.twtWinWin 0) (x.2.toNat % 32)
      else if x.1 = 0x50 then t
      else { t with twStage := t.twStage.set (x.1 - 0x10) x.2 }) s
    let b := a.inc (twtF Reg.twtNxfrWr 0)
    if w.any fun x => x.1 == 0x50 && x.2 == 1#8 then b.doorbell jbad else b

/-- The pointer after a write phase of the fast target, with a NAK counted (R383). -/
def State.fastPointer (s : State) (bytes : List Byte) : State :=
  match bytes with
  | [] => s
  | p :: data =>
    let w := s.fastTake p.toNat data
    let a := { s with twFast := (p.toNat + w.length) % 256 }
    if w.length < data.length then a.fastNak ((p.toNat + w.length) % 256) else a

/-- A write transaction of the fast target without its PEC (R383). -/
def State.fastTargetWrite (s : State) (jbad : Nat) (bytes : List Byte) : State :=
  match bytes with
  | [] => s
  | p :: data => (s.fastPointer bytes).fastCommit jbad (s.fastTake p.toNat data)

/-- With PECWR = 1 the byte past the writable ones is held as a possible PEC (R382; log entry 79); a byte after it is NAKed,
and nothing commits. -/
def State.fastOverrun (s : State) (bytes : List Byte) : Bool :=
  match bytes with
  | [] => false
  | p :: data => decide ((s.fastTake p.toNat data).length + 1 < data.length)

/-- FAST_TARGET_WRITE (R91, R382, R383). -/
def execFastTargetWrite (bytes : List Byte) (jbad : BitVec 3) (s : State) : Res :=
  if !s.targetOn true then .next s
  else if !s.pecOn then .next (s.fastTargetWrite jbad.toNat bytes)
  else if s.fastOverrun bytes then .next (s.fastPointer bytes)
  else
    match bytes.getLast? with
    | none => .next s
    | some pec =>
      if s.pecOk true bytes.dropLast pec then .next (s.fastTargetWrite jbad.toNat bytes.dropLast)
      else .next ((s.fastPointer bytes.dropLast).pecBad)

/-- A byte of the oldest report of the two-wire queue; an empty queue presents zeros (R92). -/
def State.reportByte (s : State) (i : Nat) : Byte :=
  match s.twq with
  | [] => 0#8
  | w :: _ => BitVec.ofNat 8 (bits (nth w (i / 4)) (8 * (i % 4)) 8)

/-- A byte of the fast target as a read sends it (R92, R383, R384, R464). -/
def State.fastByte (s : State) (a : Nat) : Byte :=
  if a < 0x10 then nth s.summary a
  else if a < 0x50 then nth s.twStage (a - 0x10)
  else if 0x60 ≤ a ∧ a < 0x70 then s.reportByte (a - 0x60)
  else if a = 0x70 then BitVec.ofNat 8 s.twq.length
  else if 0x80 ≤ a then BitVec.ofNat 8 (s.twinByte (a - 0x80))
  else 0#8

/-- One byte of a read, and what reading it does (R92, R464). -/
def State.fastReadByte (p : Nat) (s : State) (i : Nat) : State :=
  let a := (p + i) % 256
  let b := { s with rbytes := s.rbytes ++ [(s.fastByte a).toNat] }
  if a = 0x6F then b.reportPop else if a = 0xFF then b.galAdvance else b

/-- SUMMARY_STATUS_READ (R383, R384): a read of the fast target. -/
def execSummaryStatusRead (ptr : Byte) (n : Byte) (s : State) : Res :=
  if !s.targetOn true then .next s
  else
    let a := (List.range n.toNat).foldl (State.fastReadByte ptr.toNat) { s with rbytes := [] }
    .next (State.inc { a with twFast := (ptr.toNat + n.toNat) % 256 } (twtF Reg.twtNxfrRd 0))

/-! ### Aborted transactions (R380, R381) -/

/-- An aborted transaction leaves its pointer; nothing staged in it commits. -/
def State.targetAbort (s : State) (fast : Bool) (bytes : List Byte) : State := if fast then s.fastPointer bytes else s.regPointer bytes

/-- BUSERR (R380). -/
def execBuserr (fast : Bool) (bytes : List Byte) (s : State) : Res :=
  .next (if s.targetOn fast then ((s.targetAbort fast bytes).inc (twtF Reg.twtStatBuserr 0)).raise 800 else s)

/-- TWT_TIMEOUT (R381): an edge that met the timeout is discarded and logged. -/
def execTwtTimeout (fast : Bool) (bytes : List Byte) (late : Bool) (s : State) : Res :=
  if s.targetOn fast && s.rdB (twtF Reg.twtCfgTouten 0) then
    let a := ((s.targetAbort fast bytes).inc (twtF Reg.twtStatTimeout 0)).raise 801
    .next (if late then a.late 801 else a)
  else .next s

end Sys2Proof.Machine
end

