-- ==== Sys2Proof/Machine/Dispatch.lean ====
section
/-!
DEFINITION. What each command does: one arm per row of the table of operations and events, one call of its meaning.
-/

namespace Sys2Proof.Machine

def exec (i : Instr) (s : State) : Host.Outcome State Fault Refusal :=
  match i with
  | .coldReset testMode idxAddr twtAddr aux hv => Sys2Proof.Machine.execColdReset testMode idxAddr twtAddr aux hv s
  | .islandLoss => Sys2Proof.Machine.execIslandLoss s
  | .regloss hv => Sys2Proof.Machine.execRegloss hv s
  | .regback hv => Sys2Proof.Machine.execRegback hv s
  | .supplyOut sup => Sys2Proof.Machine.execSupplyOut sup s
  | .ldieResetRelease => Sys2Proof.Machine.execLdieResetRelease s
  | .warmReset => Sys2Proof.Machine.execWarmReset s
  | .hardReset => Sys2Proof.Machine.execHardReset s
  | .resetNRelease late => Sys2Proof.Machine.execResetNRelease late s
  | .powerFailWarning => Sys2Proof.Machine.execPowerFailWarning s
  | .powerFailWarningEnd => Sys2Proof.Machine.execPowerFailWarningEnd s
  | .pllLock => Sys2Proof.Machine.execPllLock s
  | .pdieBistEnd sig dur => Sys2Proof.Machine.execPdieBistEnd sig dur s
  | .runEntry half bad nvm => Sys2Proof.Machine.execRunEntry half bad s nvm
  | .heartbeat => Sys2Proof.Machine.execHeartbeat s
  | .heartbeatTimeout late => Sys2Proof.Machine.execHeartbeatTimeout late s
  | .bridgeTransfer ok => Sys2Proof.Machine.execBridgeTransfer ok s
  | .xtalQualified => Sys2Proof.Machine.execXtalQualified s
  | .xtalReturn => Sys2Proof.Machine.execXtalReturn s
  | .xtalEdgeTimeout late => Sys2Proof.Machine.execXtalEdgeTimeout late s
  | .xtalCountWindow xtal osc => Sys2Proof.Machine.execXtalCountWindow xtal osc s
  | .pllUnlock => Sys2Proof.Machine.execPllUnlock s
  | .slewDone => Sys2Proof.Machine.execSlewDone s
  | .interpolatorCalibration spans => Sys2Proof.Machine.execInterpolatorCalibration spans s
  | .handshakeMeasurement cyc => Sys2Proof.Machine.execHandshakeMeasurement cyc s
  | .tmbUsLoRead => Sys2Proof.Machine.execTmbUsLoRead s
  | .registerWrite path addr v be => Sys2Proof.Machine.execRegisterWrite path addr v be s
  | .rcRead path addr set => Sys2Proof.Machine.execRcRead path addr set s
  | .commit pg => Sys2Proof.Machine.execCommit pg s
  | .snapshotApply pg part => Sys2Proof.Machine.execSnapshotApply pg part s
  | .blkrst pg => Sys2Proof.Machine.execBlkrst pg s
  | .lockSet pg => Sys2Proof.Machine.execLockSet pg s
  | .pgEvtClear pg mask set => Sys2Proof.Machine.execPgEvtClear pg mask set s
  | .evtEoi vec src => Sys2Proof.Machine.execEvtEoi vec s src
  | .msixUnmask vec => Sys2Proof.Machine.execMsixUnmask vec s
  | .evtGenSet => Sys2Proof.Machine.execEvtGenSet s
  | .msiGapEnd vec => Sys2Proof.Machine.execMsiGapEnd vec s
  | .evtQpop => Sys2Proof.Machine.execEvtQpop s
  | .glbLockkey path key => Sys2Proof.Machine.execGlbLockkey path key s
  | .lockKeyTimeout late => Sys2Proof.Machine.execLockKeyTimeout late s
  | .lockoutEnd => Sys2Proof.Machine.execLockoutEnd s
  | .pcieLinkChange speed width l0 l1 reversed ltssm => Sys2Proof.Machine.execPcieLinkChange speed width l0 l1 reversed ltssm s
  | .pcieAerError unc cor fatal => Sys2Proof.Machine.execPcieAerError unc cor fatal s
  | .pcieConfigRequest cmd unc cor => Sys2Proof.Machine.execPcieConfigRequest cmd unc cor s
  | .bar2Access addr write data be ecc => Sys2Proof.Machine.execBar2Access addr write data be ecc s
  | .nop inst h => Sys2Proof.Machine.execNop inst h s
  | .glbWarmreset inst h => Sys2Proof.Machine.execGlbWarmreset inst h s
  | .warmresetStart => Sys2Proof.Machine.execWarmresetStart s
  | .benchEnter inst h => Sys2Proof.Machine.execBenchEnter inst h s
  | .benchLeave inst h => Sys2Proof.Machine.execBenchLeave inst h s
  | .pageSet inst h args => Sys2Proof.Machine.execPageSet inst h args s
  | .bayArm inst h flags bound => Sys2Proof.Machine.execBayArm inst h flags bound s
  | .bayOpen inst h flags => Sys2Proof.Machine.execBayOpen inst h flags s
  | .bayToggle inst h flags => Sys2Proof.Machine.execBayToggle inst h flags s
  | .bayLimit inst h ilim tflt plim rsh => Sys2Proof.Machine.execBayLimit inst h ilim tflt plim rsh s
  | .loopStart inst h target ron delay flags => Sys2Proof.Machine.execLoopStart inst h target ron delay flags s
  | .loopStop inst h delay roff coast flags => Sys2Proof.Machine.execLoopStop inst h delay roff coast flags s
  | .loopVset inst h target rate arg2 flags => Sys2Proof.Machine.execLoopVset inst h target rate arg2 flags s
  | .loopCoef inst h b0 b1 b2 b3 a1 a2 a3 reset => Sys2Proof.Machine.execLoopCoef inst h b0 b1 b2 b3 a1 a2 a3 reset s
  | .phCfg inst h imcfg lim mon shed => Sys2Proof.Machine.execPhCfg inst h imcfg lim mon shed s
  | .abcCap inst h cap slew => Sys2Proof.Machine.execAbcCap inst h cap slew s
  | .rodSet inst h cfg floor ceil enf => Sys2Proof.Machine.execRodSet inst h cfg floor ceil enf s
  | .hldSet inst h cfg lvl rate tgt pre0 pre1 pre2 pre3 => Sys2Proof.Machine.execHldSet inst h cfg lvl rate tgt pre0 pre1 pre2 pre3 s
  | .batLearn inst h power => Sys2Proof.Machine.execBatLearn inst h power s
  | .batLearnAbort inst h power => Sys2Proof.Machine.execBatLearnAbort inst h power s
  | .batRest inst h wait => Sys2Proof.Machine.execBatRest inst h wait s
  | .batRestAbort inst h wait => Sys2Proof.Machine.execBatRestAbort inst h wait s
  | .tiePolicy inst h host drp => Sys2Proof.Machine.execTiePolicy inst h host drp s
  | .tieRequest inst h obj bound => Sys2Proof.Machine.execTieRequest inst h obj bound s
  | .tieRequestSwap inst h obj bound => Sys2Proof.Machine.execTieRequestSwap inst h obj bound s
  | .tieRequestHardreset inst h obj bound => Sys2Proof.Machine.execTieRequestHardreset inst h obj bound s
  | .tieRequestCaps inst h obj bound => Sys2Proof.Machine.execTieRequestCaps inst h obj bound s
  | .flightRun inst h action bound => Sys2Proof.Machine.execFlightRun inst h action bound s
  | .flightContinue inst h bound => Sys2Proof.Machine.execFlightContinue inst h bound s
  | .flightAbort inst h bound => Sys2Proof.Machine.execFlightAbort inst h bound s
  | .galFreeze inst h => Sys2Proof.Machine.execGalFreeze inst h s
  | .galThaw inst h => Sys2Proof.Machine.execGalThaw inst h s
  | .galClear inst h rekey nonce mac0 mac1 mac2 mac3 mac4 mac5 => Sys2Proof.Machine.execGalClear inst h rekey nonce mac0 mac1 mac2 mac3 mac4 mac5 s
  | .bistLogic inst h arg0 bound => Sys2Proof.Machine.execBistLogic inst h arg0 bound s
  | .bistMemory inst h arg0 bound => Sys2Proof.Machine.execBistMemory inst h arg0 bound s
  | .bistPdie inst h arg0 bound => Sys2Proof.Machine.execBistPdie inst h arg0 bound s
  | .lanRun inst h point fstart fstop shape amp bound => Sys2Proof.Machine.execLanRun inst h point fstart fstop shape amp bound s
  | .lanAbort inst h point fstart fstop shape amp bound => Sys2Proof.Machine.execLanAbort inst h point fstart fstop shape amp bound s
  | .imgSelect inst h target rbadv => Sys2Proof.Machine.execImgSelect inst h target rbadv s
  | .doneReport jbad => Sys2Proof.Machine.execDoneReport s jbad
  | .doneBoundExpiry seq => Sys2Proof.Machine.execDoneBoundExpiry seq s
  | .cmdRtailWrite idx entries jbad => Sys2Proof.Machine.execCmdRtailWrite idx entries jbad s
  | .cmdPheadWrite idx jbad => Sys2Proof.Machine.execCmdPheadWrite idx jbad s
  | .ringenSet v => Sys2Proof.Machine.execRingenSet v s
  | .doorbell jbad => Sys2Proof.Machine.execDoorbell jbad s
  | .reportPop => Sys2Proof.Machine.execReportPop s
  | .rebuilt fail => Sys2Proof.Machine.execRebuilt s fail
  | .presenceChange n vins late => Sys2Proof.Machine.execPresenceChange n vins late s
  | .urgent n => Sys2Proof.Machine.execUrgent n s
  | .urgentEnd n => Sys2Proof.Machine.execUrgentEnd n s
  | .extraction n late => Sys2Proof.Machine.execExtraction n late s
  | .throttleTrainEnd n => Sys2Proof.Machine.execThrottleTrainEnd n s
  | .throttleRepeat n => Sys2Proof.Machine.execThrottleRepeat n s
  | .rampComplete n => Sys2Proof.Machine.execRampComplete n s
  | .adopted n => Sys2Proof.Machine.execAdopted n s
  | .gateOff n => Sys2Proof.Machine.execGateOff n s
  | .limitEntry n => Sys2Proof.Machine.execLimitEntry n s
  | .limitExit n => Sys2Proof.Machine.execLimitExit n s
  | .fastTrip n peak => Sys2Proof.Machine.execFastTrip n peak s
  | .slow n peak late => Sys2Proof.Machine.execSlow n peak late s
  | .ramptime n peak late => Sys2Proof.Machine.execRamptime n peak late s
  | .reverse n peak late => Sys2Proof.Machine.execReverse n peak late s
  | .gatelow n peak late => Sys2Proof.Machine.execGatelow n peak late s
  | .senseopen n peak => Sys2Proof.Machine.execSenseopen n peak s
  | .togdlyEnd n => Sys2Proof.Machine.execTogdlyEnd n s
  | .timedOpenEnd n vmean late => Sys2Proof.Machine.execTimedOpenEnd n vmean s late
  | .loopSample n esum imon remote => Sys2Proof.Machine.execLoopSample n esum imon remote s
  | .latchPoint n late slack => Sys2Proof.Machine.execLatchPoint n late slack s
  | .ondelayEnd n => Sys2Proof.Machine.execOndelayEnd n s
  | .offdelayEnd n => Sys2Proof.Machine.execOffdelayEnd n s
  | .offLevelReached n => Sys2Proof.Machine.execOffLevelReached n s
  | .pgoodSet n late => Sys2Proof.Machine.execPgoodSet n late s
  | .pgoodClear n => Sys2Proof.Machine.execPgoodClear n s
  | .senseLoss n late => Sys2Proof.Machine.execSenseLoss n late s
  | .senseLossHigh n => Sys2Proof.Machine.execSenseLossHigh n s
  | .loopOv n late => Sys2Proof.Machine.execLoopOv n late s
  | .loopUv n late => Sys2Proof.Machine.execLoopUv n late s
  | .overload n late => Sys2Proof.Machine.execOverload n late s
  | .peakCrossing n => Sys2Proof.Machine.execPeakCrossing n s
  | .stageFault n late => Sys2Proof.Machine.execStageFault n late s
  | .imonopen n late => Sys2Proof.Machine.execImonopen n late s
  | .rejoin n late => Sys2Proof.Machine.execRejoin n late s
  | .dwellEnd n late => Sys2Proof.Machine.execDwellEnd n late s
  | .parkEnd n late => Sys2Proof.Machine.execParkEnd n late s
  | .imbalanceWindow late => Sys2Proof.Machine.execImbalanceWindow s late
  | .abacusSettle => Sys2Proof.Machine.execAbacusSettle s
  | .enforcementIssue late slack => Sys2Proof.Machine.execEnforcementIssue late slack s
  | .feedTrim => Sys2Proof.Machine.execFeedTrim s
  | .holdupTrigger bus lvl slp extra => Sys2Proof.Machine.execHoldupTrigger bus lvl slp extra s
  | .handover => Sys2Proof.Machine.execHandover s
  | .recoverStart bus lvl slp => Sys2Proof.Machine.execRecoverStart bus s lvl slp
  | .recoverBreak bus lvl slp => Sys2Proof.Machine.execRecoverBreak bus lvl slp s
  | .episodeEnd late => Sys2Proof.Machine.execEpisodeEnd late s
  | .balanceCycle late => Sys2Proof.Machine.execBalanceCycle late s
  | .balanceWindow => Sys2Proof.Machine.execBalanceWindow s
  | .telemetryRead => Sys2Proof.Machine.execTelemetryRead s
  | .socUpdate => Sys2Proof.Machine.execSocUpdate s
  | .restPoint n v late => Sys2Proof.Machine.execRestPoint n v late s
  | .chargeTermination n late => Sys2Proof.Machine.execChargeTermination n late s
  | .cutoff n late => Sys2Proof.Machine.execCutoff n late s
  | .pseudoOcv n => Sys2Proof.Machine.execPseudoOcv n s
  | .stale n late => Sys2Proof.Machine.execStale n late s
  | .rotationDue n late => Sys2Proof.Machine.execRotationDue n late s
  | .learningPause n late => Sys2Proof.Machine.execLearningPause n late s
  | .offsetCalStart n => Sys2Proof.Machine.execOffsetCalStart n s
  | .offsetCalEnd n mean => Sys2Proof.Machine.execOffsetCalEnd n mean s
  | .identityTry n late => Sys2Proof.Machine.execIdentityTry n late s
  | .histogramUpdate => Sys2Proof.Machine.execHistogramUpdate s
  | .recordCommit => Sys2Proof.Machine.execRecordCommit s
  | .rotationRequest n => Sys2Proof.Machine.execRotationRequest n s
  | .learnAdmissionTimeout g => Sys2Proof.Machine.execLearnAdmissionTimeout g s
  | .restAdmissionTimeout n => Sys2Proof.Machine.execRestAdmissionTimeout n s
  | .gdisHoldExpiry g => Sys2Proof.Machine.execGdisHoldExpiry g s
  | .drpToggle n ts1 ts2 => Sys2Proof.Machine.execDrpToggle n ts1 ts2 s
  | .attach n ts1 ts2 late => Sys2Proof.Machine.execAttach n ts1 ts2 late s
  | .accessoryAttach n ts1 ts2 late => Sys2Proof.Machine.execAccessoryAttach n ts1 ts2 late s
  | .detach n ts1 ts2 late => Sys2Proof.Machine.execDetach n ts1 ts2 late s
  | .moistureMeasurement n gnd1 gnd2 snp1 snp2 => Sys2Proof.Machine.execMoistureMeasurement n gnd1 gnd2 s snp1 snp2
  | .receipt n id => Sys2Proof.Machine.execReceipt n id s
  | .caps n id dual objs => Sys2Proof.Machine.execCaps n id dual objs s
  | .request n id obj => Sys2Proof.Machine.execRequest n id obj s
  | .accept n id => Sys2Proof.Machine.execAccept n id s
  | .reject n id reason => Sys2Proof.Machine.execReject n id reason s
  | .ready n id => Sys2Proof.Machine.execReady n id s
  | .swap n id => Sys2Proof.Machine.execSwap n id s
  | .getcaps n id => Sys2Proof.Machine.execGetcaps n id s
  | .reservedMessage n id typ rev => Sys2Proof.Machine.execReservedMessage n id typ rev s
  | .tieHardReset n => Sys2Proof.Machine.execTieHardReset n s
  | .frameSent n => Sys2Proof.Machine.execFrameSent n s
  | .receiptTimeout n late => Sys2Proof.Machine.execReceiptTimeout n late s
  | .responseTimeout n late => Sys2Proof.Machine.execResponseTimeout n late s
  | .capsRepeat n late => Sys2Proof.Machine.execCapsRepeat n late s
  | .transitionTimeout n late => Sys2Proof.Machine.execTransitionTimeout n late s
  | .collisionBackoffEnd n late => Sys2Proof.Machine.execCollisionBackoffEnd n late s
  | .breach n late => Sys2Proof.Machine.execBreach n late s
  | .breachLimitEnd n late => Sys2Proof.Machine.execBreachLimitEnd n late s
  | .breachRecovery n => Sys2Proof.Machine.execBreachRecovery n s
  | .slot f t late => Sys2Proof.Machine.execSlot f t late s
  | .landing f k => Sys2Proof.Machine.execLanding f k s
  | .upDeadline f e late => Sys2Proof.Machine.execUpDeadline f e late s
  | .downDeadline f e late => Sys2Proof.Machine.execDownDeadline f e late s
  | .railGood n late => Sys2Proof.Machine.execRailGood n s late
  | .railGoodLost n late => Sys2Proof.Machine.execRailGoodLost n s late
  | .railOv n late => Sys2Proof.Machine.execRailOv n s late
  | .railFallen n => Sys2Proof.Machine.execRailFallen n s
  | .returnWaitEnd f late => Sys2Proof.Machine.execReturnWaitEnd f late s
  | .syncPulse => Sys2Proof.Machine.execSyncPulse s
  | .syncEdge err => Sys2Proof.Machine.execSyncEdge err s
  | .syncEdgeMissed late => Sys2Proof.Machine.execSyncEdgeMissed late s
  | .iddexSlot wrong => Sys2Proof.Machine.execIddexSlot wrong s
  | .masterFrame payload => Sys2Proof.Machine.execMasterFrame payload s
  | .slaveFrame src payload => Sys2Proof.Machine.execSlaveFrame src payload s
  | .orderAckDeadline f => Sys2Proof.Machine.execOrderAckDeadline f s
  | .peerLost a late => Sys2Proof.Machine.execPeerLost a late s
  | .pgraceEnd a => Sys2Proof.Machine.execPgraceEnd a s
  | .registerTargetWrite bytes => Sys2Proof.Machine.execRegisterTargetWrite bytes s
  | .registerTargetRead ptr n => Sys2Proof.Machine.execRegisterTargetRead ptr n s
  | .buserr fast bytes => Sys2Proof.Machine.execBuserr fast bytes s
  | .twtTimeout fast bytes late => Sys2Proof.Machine.execTwtTimeout fast bytes late s
  | .fastTargetWrite bytes jbad => Sys2Proof.Machine.execFastTargetWrite bytes jbad s
  | .summaryStatusRead ptr n => Sys2Proof.Machine.execSummaryStatusRead ptr n s
  | .galleryWindowAdvance => Sys2Proof.Machine.execGalleryWindowAdvance s
  | .transactionEnd n result data bad => Sys2Proof.Machine.execTransactionEnd n result data bad s
  | .transactionRetry n => Sys2Proof.Machine.execTransactionRetry n s
  | .arbitrationLoss n => Sys2Proof.Machine.execArbitrationLoss n s
  | .stretch n => Sys2Proof.Machine.execStretch n s
  | .hang n sda scl late => Sys2Proof.Machine.execHang n sda scl late s
  | .segmentRelease n => Sys2Proof.Machine.execSegmentRelease n s
  | .skipRetry n => Sys2Proof.Machine.execSkipRetry n s
  | .skipwaitEnd n => Sys2Proof.Machine.execSkipwaitEnd n s
  | .lineJudgementEnd n sda scl => Sys2Proof.Machine.execLineJudgementEnd n sda scl s
  | .hostPassThrough n v => Sys2Proof.Machine.execHostPassThrough n v s
  | .frameStart sv ll => Sys2Proof.Machine.execFrameStart sv ll s
  | .bankOwnerRequest m req => Sys2Proof.Machine.execBankOwnerRequest m req s
  | .ownershipGrant m => Sys2Proof.Machine.execOwnershipGrant m s
  | .transparentTestRegion m fail w => Sys2Proof.Machine.execTransparentTestRegion m fail w s
  | .comparatorTrigger k codes => Sys2Proof.Machine.execComparatorTrigger k codes s
  | .swtrig => Sys2Proof.Machine.execSwtrig s
  | .rel k => Sys2Proof.Machine.execRel k s
  | .holdtExpiry k => Sys2Proof.Machine.execHoldtExpiry k s
  | .vaultWriteEnd k ok0 ok1 unc corr => Sys2Proof.Machine.execVaultWriteEnd k ok0 ok1 unc corr s
  | .stepInstant => Sys2Proof.Machine.execStepInstant s
  | .streamRead unc corr => Sys2Proof.Machine.execStreamRead unc corr s
  | .bufferFlush => Sys2Proof.Machine.execBufferFlush s
  | .strDtailWrite idx descs => Sys2Proof.Machine.execStrDtailWrite idx descs s
  | .strCheadWrite idx => Sys2Proof.Machine.execStrCheadWrite idx s
  | .streamEnable v => Sys2Proof.Machine.execStreamEnable v s
  | .token new => Sys2Proof.Machine.execToken new s
  | .bucketLeak src chan => Sys2Proof.Machine.execBucketLeak src chan s
  | .holdOrder => Sys2Proof.Machine.execHoldOrder s
  | .fltAck entry gen => Sys2Proof.Machine.execFltAck entry gen s
  | .fltAckall => Sys2Proof.Machine.execFltAckall s
  | .faultPairSwap => Sys2Proof.Machine.execFaultPairSwap s
  | .pnfail => Sys2Proof.Machine.execPnfail s
  | .fltInj v => Sys2Proof.Machine.execFltInj v s
  | .recordOffer new bad => Sys2Proof.Machine.execRecordOffer new bad s
  | .flush fail0 fail1 => Sys2Proof.Machine.execFlush fail0 fail1 s
  | .galCur cur => Sys2Proof.Machine.execGalCur cur s
  | .galTcur cur => Sys2Proof.Machine.execGalTcur cur s
  | .freezeTimeout late => Sys2Proof.Machine.execFreezeTimeout late s
  | .mergeDone => Sys2Proof.Machine.execMergeDone s
  | .keyLoad => Sys2Proof.Machine.execKeyLoad s
  | .ophStep => Sys2Proof.Machine.execOphStep s
  | .dieTempSample l p late => Sys2Proof.Machine.execDieTempSample l p late s
  | .ldiePowerDown late => Sys2Proof.Machine.execLdiePowerDown late s
  | .hardTrip => Sys2Proof.Machine.execHardTrip s
  | .thermistorUpdate v => Sys2Proof.Machine.execThermistorUpdate v s
  | .analyzerPointEnd res => Sys2Proof.Machine.execAnalyzerPointEnd res s
  | .devAbort => Sys2Proof.Machine.execDevAbort s
  | .impedancePointStart g => Sys2Proof.Machine.execImpedancePointStart g s
  | .logicBistEnd sig => Sys2Proof.Machine.execLogicBistEnd sig s
  | .memoryBistEnd sig fail => Sys2Proof.Machine.execMemoryBistEnd sig fail s
  | .coreHeartbeatTimeout core late => Sys2Proof.Machine.execCoreHeartbeatTimeout core late s
  | .mailboxVersion core => Sys2Proof.Machine.execMailboxVersion core s
  | .mailboxGroupRequests => Sys2Proof.Machine.execMailboxGroupRequests s
  | .mailboxGroupEnergy => Sys2Proof.Machine.execMailboxGroupEnergy s
  | .mailboxFeedWeights => Sys2Proof.Machine.execMailboxFeedWeights s
  | .mailboxAnswer core => Sys2Proof.Machine.execMailboxAnswer core s
  | .mailboxTimeout core late => Sys2Proof.Machine.execMailboxTimeout core late s
  | .nvcTransfer => Sys2Proof.Machine.execNvcTransfer s
  | .nvcTransferDone fail0 fail1 bad => Sys2Proof.Machine.execNvcTransferDone fail0 fail1 bad s
  | .nvcVerify => Sys2Proof.Machine.execNvcVerify s
  | .pllRelock => Sys2Proof.Machine.execPllRelock s
  | .surveySample codes bus lvl slp => Sys2Proof.Machine.execSurveySample codes bus lvl slp s
  | .altClassChange n mv => Sys2Proof.Machine.execAltClassChange n mv s
  | .tsClassChange n ts1 ts2 => Sys2Proof.Machine.execTsClassChange n ts1 ts2 s
  | .bootPresenceDebounceEnd vins => Sys2Proof.Machine.execBootPresenceDebounceEnd s vins
  | .retryWindowExpiry n => Sys2Proof.Machine.execRetryWindowExpiry n s
  | .holdWindowExpiry => Sys2Proof.Machine.execHoldWindowExpiry s
  | .restartWindowExpiry core => Sys2Proof.Machine.execRestartWindowExpiry core s
  | .winready fast => Sys2Proof.Machine.execWinready fast s
  | .verifyDone => Sys2Proof.Machine.execVerifyDone s
  | .pfwWritesComplete fail0 fail1 => Sys2Proof.Machine.execPfwWritesComplete fail0 fail1 s
  | .tieFrameDiscarded n hdr objs crc => Sys2Proof.Machine.execTieFrameDiscarded n s hdr objs crc
  | .iddexFrameDiscarded slot frame => Sys2Proof.Machine.execIddexFrameDiscarded s slot frame

end Sys2Proof.Machine
end

