-- ==== Sys2Proof/Machine/Step.lean ====
section
/-!
DEFINITION. One step: the command at the front of the queue, or 1 µs of idling.
-/

namespace Sys2Proof.Machine

/-- The queue is empty: 1 µs passes (R33); in OFF nothing counts (log entry 2). -/
def State.idle (s : State) : State := if s.mode = .off then s else { s with us := (s.us + 1) % 2 ^ 64 }

/-- Take the command at the front of the queue and run it on the state with the queue's rest. -/
def step (s : State) : Host.Outcome State Fault Refusal :=
  match s.pending with
  | [] => .next s.idle
  | c :: rest => exec c { s with pending := rest }

/-- The command that a word spells, put at the front of the queue; no word spells one. -/
def State.withFetchWord (s : State) (nbits w : Nat) : State :=
  match decodeTableWord nbits w with
  | some c => { s with pending := c :: s.pending }
  | none => s

end Sys2Proof.Machine
end

