-- ==== Sys2Proof/Safety.lean ====
section
/-!
DEFINITION. What a good state and a safe step are, and the words that the statements use for what a command leaves alone.
-/

namespace Sys2Proof.Machine

/-- The invariant of the block: the register stores and the memory keep their canonical form, and no queue holds more than the
part gives it: the event queue and the two-wire report queue 64 entries (R70, R92), the gallery's writer 64 offers (R459), the
island buffer 256 entries (R17). -/
structure State.Inv (s : State) : Prop where
  regs : s.regs.sorted = true
  act : s.act.sorted = true
  mem : s.mem.wf = true
  evq : s.evq.length ≤ 64
  twq : s.twq.length ≤ 64
  offers : s.offers.length ≤ 64
  islBuf : s.islBuf.length ≤ 256

/-- The changes of device state that Table 1.5 lists (R19): the island comes good, or both regulators go out; boot ends in hold; a
return from hold ends in RUN or BENCH; the throttle level comes and goes; hold begins; bench mode is entered and left. THROTTLED
counts as RUN. -/
def modeMoves : List (Mode × Mode) :=
  [(.off, .boot), (.boot, .off), (.hold, .off), (.run, .off), (.throttled, .off), (.bench, .off), (.boot, .hold), (.hold, .run),
   (.hold, .throttled), (.hold, .bench), (.run, .throttled), (.throttled, .run), (.run, .hold), (.throttled, .hold),
   (.bench, .hold), (.run, .bench), (.throttled, .bench), (.bench, .run), (.bench, .throttled)]

/-- The commands that can change the banks: resets that lose their contents, the load of the policy cores' code at a boot, accesses
through BAR2, the frames of the two rings, and the memory test. -/
def storesMemory (c : Instr) : Bool :=
  match c with
  | .coldReset _ _ _ _ _ | .islandLoss | .hardTrip | .ldiePowerDown _ | .runEntry _ _ _ => true
  | .bar2Access _ _ _ _ _ | .frameStart _ _ | .memoryBistEnd _ _ => true
  | .registerWrite path _ _ _ => path == 1
  | _ => false

/-- A step is safe if it answers a next state. -/
def State.stepSafe (s : State) : Prop := ∃ t, step s = .next t

/-- The key of a PG_EVT register (offset 0x014 of a page). -/
def evtKey (k : Nat) : Prop := k % 131072 / 32 = 0x014

/-- Every register field but those listed reads in `t` as in `s`. -/
def regsBut (s t : State) (ks : List Fld) : Prop := ∀ f : Fld, (∀ g ∈ ks, f.key ≠ g.key) → t.rd f = s.rd f

/-- Nothing but the listed register fields differs between `s` and `t`. -/
def onlyRegs (s t : State) (ks : List Fld) : Prop := t = { s with regs := t.regs } ∧ regsBut s t ks

/-- The fields that raising an event or offering a record may change beside PG_EVT: the two counts of refused records
(R459). -/
def signalFields : List Fld := [gal0F Reg.galNrefLen 0, gal0F Reg.galNrefSpace 0]

/-- Nothing but the listed register fields, and what raises events, sends tokens and offers records (R17, R66 to R70, R434,
R459), differs between `s` and `t`: PG_EVT, the pending sources, the event queue, the vectors and their messages, the token
queue, the island buffer, and the offers to the gallery with their refusals. -/
def onlySignals (s t : State) (ks : List Fld) : Prop :=
  t = { s with regs := t.regs, evPend := t.evPend, evq := t.evq, evqOvf := t.evqOvf, vec := t.vec, out := t.out,
               tokenQ := t.tokenQ, islBuf := t.islBuf, islOvf := t.islOvf, offers := t.offers,
               gal := { s.gal with refS := t.gal.refS, refL := t.gal.refL } }
    ∧ ∀ f : Fld, ¬ evtKey f.key → (∀ g ∈ signalFields ++ ks, f.key ≠ g.key) → t.rd f = s.rd f

/-- The command `ws` that arrives in `s` on a path that is open passes every check of R80: the L-die runs and no power-fail
warning is on, its check word and its version are right, its SEQ is the next one, the journal has a free position and its
macros take the write. -/
def State.accepts (s : State) (ws : List Nat) (twoWire : Bool) (bad : Nat) : Prop :=
  s.pathOpen twoWire = true ∧ s.lUp = true ∧ s.pfwOn = false ∧ cmdChk ws = nth ws 3 ∧ bits (nth ws 0) 12 4 = 1
    ∧ nth ws 1 = (s.rd (cmd1F Reg.cmdLastSeq 0) + 1) % 2 ^ 32 ∧ s.jFill < 32768 ∧ s.rebuilding = false
    ∧ s.mirrorLost = false ∧ s.macroBad bad = []

/-- The entry of an accepted command at its application (R85). -/
def State.appliedEntry (s : State) (ws : List Nat) (twoWire : Bool) : JEntry :=
  { seq := nth ws 1, words := journalWords ws, twoWire := twoWire, applied := true, copies := s.copyMask }

/-- The state in which an accepted command is applied: accepted under R80, the command marked as applied, and the command that
it supersedes completed (R86). -/
def State.accepted (s : State) (ws : List Nat) (twoWire : Bool) : State :=
  State.supersede (((s.arrive twoWire).accept ws twoWire).jMod (nth ws 1) fun e => { e with applied := true }) (s.appliedEntry ws twoWire)

/-- The status of the command with this SEQ. -/
def State.statusOf (s : State) (seq : Nat) : Option (Nat × Nat) := (s.jFind seq).bind (·.status)

/-- The command with this SEQ is applied and not done, and waits for `w`. -/
def State.waitsFor (s : State) (seq : Nat) (w : Wait) : Prop :=
  ∃ e, s.jFind seq = some e ∧ e.applied = true ∧ e.status = none ∧ e.wait = w

/-- `u` holds what a latch-off of bay `n` of this kind leaves in a state `s` (R119): TRIPPED, the kind and the time, and the token
while the L-die runs. -/
def latchedOff (s u : State) (n kind peak : Nat) : Prop :=
  u.bayState n = 5 ∧ u.rd (bayF Reg.bayStatTripped n) = 1 ∧ u.rd (bayF Reg.bayStatTripkind n) = kind
    ∧ u.rd (bayF Reg.bayTripusUs n) = s.us32
    ∧ (s.lUp = true → { src := 64 + 4 * n + 1, kind := kind, detail := s.tripDetail n peak % 2 ^ 32, us := s.us } ∈ u.tokenQ)

/-- `u` holds what a fault of loop `n` of this kind leaves in a state `s` (R162 to R165): FAULT with no phase switching, the kind
and the time, and the token while the L-die runs. -/
def loopFaulted (s u : State) (n kind : Nat) : Prop :=
  u.loopSt n = 6 ∧ u.switchSet n = [] ∧ u.rd (loopF Reg.loopStatPgood n) = 0 ∧ u.rd (loopF Reg.loopStatFaultkind n) = kind
    ∧ u.rd (loopF Reg.loopFltusUs n) = s.us32
    ∧ (s.lUp = true → { src := 256 + 4 * n + 1, kind := kind, detail := s.loopDetail n % 2 ^ 32, us := s.us } ∈ u.tokenQ)

end Sys2Proof.Machine
end

