-- ==== Sys2Proof/Certificates/Slice0/Obligations.lean ====
section
/-!
DEFINITION. The statements for the provers. A statement of completion says, for each command it names, that `exec` answers a
next state under conditions on the state and the operands alone, and what that state holds. Where other units follow a change
in the same step (`State.follow`), the facts are those of the state that they follow.
-/

open Sys2Proof Sys2Proof.Machine

/-! ### The machine -/

/-- A step runs the command at the front of the queue, on the state with the queue's rest. -/
def Obligations.StepRunsFront : Prop :=
  ∀ (c : Instr) (rest : List Instr) (s : State), s.pending = c :: rest → step s = exec c { s with pending := rest }

/-- On an empty queue 1 µs passes, and in OFF nothing does (DESIGN CHOICE, log entry 2; the counter is R33's). -/
def Obligations.EmptyQueueCountsTime : Prop :=
  ∀ s : State, s.pending = [] →
    (s.mode ≠ .off → step s = .next { s with us := (s.us + 1) % 2 ^ 64 }) ∧ (s.mode = .off → step s = .next s)

/-- State.reset satisfies the invariant. -/
def Obligations.ResetInv : Prop := State.reset.Inv

/-- Every step keeps the invariant: canonical stores and memory, and the bounds of the queues (R17, R70, R92, R459). -/
def Obligations.StepKeepsInv : Prop := ∀ s t : State, s.Inv → step s = .next t → t.Inv

/-- Every command answers a next state, in every state, but a COLD_RESET with TEST_MODE high from OFF: that enters production test,
which "is not supported in a shelf" (R549) and which no rule gives an effect, and stops by name (DESIGN CHOICE, log entry 1). Every
form of Instr completes by this statement, among them blkrst, lockSet, pgEvtClear, evtEoi, msixUnmask, evtGenSet, msiGapEnd, fltInj,
abcCap, rodSet, abacusSettle, enforcementIssue, feedTrim, frameSent, receipt, receiptTimeout, responseTimeout, capsRepeat,
transitionTimeout, tieFrameDiscarded, reservedMessage, caps, request, accept, reject, ready, swap, getcaps and collisionBackoffEnd;
what each does is stated by family below. -/
def Obligations.EveryCommandCompletes : Prop :=
  (∀ (c : Instr) (s : State), (∀ a t x h, c ≠ .coldReset true a t x h) → ∃ t, exec c s = .next t)
  ∧ ∀ (a : BitVec 4) (t : BitVec 2) (aux hv : Bool) (s : State), s.mode = .off → (aux ∨ hv) →
      exec (.coldReset true a t aux hv) s = .fault .productionTest

/-- No command changes the queue of waiting commands, and none but COLD_RESET the microsecond counter (R33: commands take no
time of their own; DESIGN CHOICE, log entry 2). -/
def Obligations.QueueAndClockFrame : Prop :=
  ∀ (c : Instr) (s t : State), exec c s = .next t →
    t.pending = s.pending ∧ ((∀ m a w x h, c ≠ .coldReset m a w x h) → t.us = s.us)

/-- Every change of the device state is one that Table 1.5 lists (R19: no other transitions exist), THROTTLED taken as the part
of RUN that it is. -/
def Obligations.ModeMoves : Prop :=
  ∀ (c : Instr) (s t : State), exec c s = .next t → t.mode = s.mode ∨ (s.mode, t.mode) ∈ modeMoves

/-- R516: the rollback counter never falls, and it rises only with an IMG_SELECT of the journal that has RBADV set. Where the rules
leave a point open it follows the model's own reading (log entry 17). -/
def Obligations.RollbackCounter : Prop :=
  ∀ (c : Instr) (s t : State), exec c s = .next t →
    s.rd (pol0F Reg.polRbcntCnt 0) ≤ t.rd (pol0F Reg.polRbcntCnt 0)
    ∧ (s.rd (pol0F Reg.polRbcntCnt 0) < t.rd (pol0F Reg.polRbcntCnt 0) →
        ∃ e ∈ t.jnl, e.opc = 0xC02 ∧ bitOf (e.arg 1) 0 = true)

/-- R442: retirements survive every reset, cold reset included, and every loss of power of the dies. Where the rules leave a point
open it follows the model's own reading (log entry 64). -/
def Obligations.RetirementsSurviveResets : Prop :=
  ∀ (s t : State) (typ i : Nat), i < [48, 64, 384, 8, 4, 80, 16].getD typ 0 → s.retired typ i = true →
    (∀ a b x h, exec (.coldReset false a b x h) s = .next t → t.retired typ i = true)
    ∧ (exec .warmReset s = .next t → t.retired typ i = true)
    ∧ (exec .hardReset s = .next t → t.retired typ i = true)
    ∧ (exec .warmresetStart s = .next t → t.retired typ i = true)
    ∧ (exec .holdOrder s = .next t → t.retired typ i = true)
    ∧ (exec .islandLoss s = .next t → t.retired typ i = true)
    ∧ (∀ k, exec (.supplyOut k) s = .next t → t.retired typ i = true)
    ∧ (∀ l, exec (.heartbeatTimeout l) s = .next t → t.retired typ i = true)
    ∧ (exec .hardTrip s = .next t → t.retired typ i = true)
    ∧ (∀ l, exec (.ldiePowerDown l) s = .next t → t.retired typ i = true)

/-- R70: the event queue holds 64 entries, keeps them when it is full and discards new ones, and the next entry queued after a
discard carries OVF; EVT_QPOP removes and returns the oldest entry, and reads VALID = 0 on an empty queue. -/
def Obligations.EventQueue : Prop :=
  ∀ (s : State) (n us : Nat),
    (s.evq.length < 64 → (s.queueEv n us).evq = s.evq ++ [{ src := n, ovf := s.evqOvf, stamp := us % 2 ^ 20 }]
        ∧ (s.queueEv n us).evqOvf = false)
    ∧ (64 ≤ s.evq.length → (s.queueEv n us).evq = s.evq ∧ (s.queueEv n us).evqOvf = true)
    ∧ (s.evq.length ≤ 64 → (s.queueEv n us).evq.length ≤ 64)
    ∧ (s.lUp = true →
      (∀ (e : QEntry) (r : List QEntry), s.evq = e :: r → ∃ t, exec .evtQpop s = .next t ∧ t.evq = r
        ∧ (e.src < 1024 → e.stamp < 2 ^ 20 → bitOf t.rdata 10 = true ∧ bits t.rdata 0 10 = e.src ∧ bitOf t.rdata 11 = e.ovf
            ∧ bits t.rdata 12 20 = e.stamp))
      ∧ (s.evq = [] → ∃ t, exec .evtQpop s = .next t ∧ t.evq = [] ∧ bitOf t.rdata 10 = false))

/-- R451: a readback that fails drives both lines of the fault pair low, sets FLT_STAT.PNFAIL and raises PNFAIL; no command but a
cold reset ends it, and a cold reset does. -/
def Obligations.PairFailure : Prop :=
  ∀ s : State,
    (s.islandUp = true → s.flt.pairFail = false →
      ∃ t, exec .pnfail s = .next t ∧ t.pairLevels = (false, false) ∧ t.rd (flt0F Reg.fltStatPnfail 0) = 1
        ∧ (s.lUp = true → t.evtSet 0x0F0 6 = true))
    ∧ (s.flt.pairFail = true → ∀ (c : Instr) (t : State), (∀ m a w x h, c ≠ .coldReset m a w x h) → exec c s = .next t →
        t.pairLevels = (false, false))
    ∧ (s.mode = .off → ∀ (a : BitVec 4) (b : BitVec 2) (x h : Bool), (x ∨ h) → ∃ t, exec (.coldReset false a b x h) s = .next t
        ∧ t.flt.pairFail = false)

/-- R50: a read of a page that is not listed, or of an offset that holds no register, returns 0; a write of such a page is ignored
and raises ACCESSERR with its address in GLB_ERRADDR, and a write of such an offset is ignored and raises no event. A write over BAR0
does to a lock key sequence under way what every one does, here as in the next two statements (`barWrite`, R72). -/
def Obligations.EmptyOffsets : Prop :=
  ∀ (s : State) (pg off : Nat) (path : BitVec 2) (v : Word), s.Inv → path = 0 ∨ path = 3 → s.serves path.toNat = true → pg < 512 →
    off < 0x1000 → off % 4 = 0 →
    let addr := BitVec.ofNat 26 (pg * 4096 + off)
    let u := if path = 0 then s.barWrite else s
    (pageListed pg = false →
      (∃ t, exec (.rcRead path addr 0) s = .next t ∧ t.rdata = 0)
      ∧ ∃ t, exec (.registerWrite path addr v 15) s = .next t ∧ t.evtSet 0x000 4 = true
          ∧ (bitOf (s.rd (hdr Reg.pgEvten 0)) 4 = true → 4 ∈ t.evPend)
          ∧ t.rd (glbF Reg.glbErraddrAddr 0) = pg * 4096 + off
          ∧ onlySignals u t [glbF Reg.glbErraddrAddr 0, glbF Reg.glbErraddrPath 0, glbF Reg.glbErraddrWrite 0])
    ∧ (pageListed pg = true →
        (0x028 ≤ off ∧ off < 0x040) ∨ (0x040 ≤ off ∧ fieldsAt pg off = [] ∧ s.liveWord pg off = none ∧ s.writeAction pg off v.toNat = none) →
      (∃ t, exec (.rcRead path addr 0) s = .next t ∧ t.rdata = 0) ∧ exec (.registerWrite path addr v 15) s = .next u)

/-- R52: a direct write leaves every RWJ field of its register as it is; if it carries another value for one, PG_EVT.JREJ of the
page is set and EV2 has the page and the offset as its detail; if it carries them all as a read returns them, no JREJ comes; in
either case the RW fields of the same register take effect. ENABLE of a page with JRNL = 1 is such a field. Where the rules
leave a point open it follows the model's own reading (log entries 11 and 72). -/
def Obligations.JournaledFields : Prop :=
  ∀ (s : State) (pg off : Nat) (path : BitVec 2) (v : Word), s.Inv → path = 0 ∨ path = 3 → s.serves path.toNat = true → pg < 512 →
    pageListed pg = true → off < 0x1000 → off % 4 = 0 →
    let u := if path = 0 then s.barWrite else s
    ∃ t, exec (.registerWrite path (BitVec.ofNat 26 (pg * 4096 + off)) v 15) s = .next t
      ∧ (0x040 ≤ off →
          (∀ f ∈ fieldsAt pg off, f.acc = .rwj → t.rd f = u.rd f)
          ∧ ((∃ f ∈ fieldsAt pg off, f.acc = .rwj ∧ bits v.toNat f.lo f.width ≠ bits (u.pageWord pg off) f.lo f.width) →
              t.evtSet pg 31 = true ∧ t.jrejDetail = pg * 4096 + off
              ∧ (bitOf (u.rd (hdr Reg.pgEvten pg)) 31 = true → 2 ∈ t.evPend))
          ∧ ((∀ f ∈ fieldsAt pg off, f.acc = .rwj → bits v.toNat f.lo f.width = bits (u.pageWord pg off) f.lo f.width) →
              t.jrejDetail = s.jrejDetail ∧ (t.evtSet pg 31 = true → s.evtSet pg 31 = true))
          ∧ (u.writeAction pg off v.toNat = none → (pg, off) ≠ (0x000, 0x044) →
              ∀ f ∈ fieldsAt pg off, f.acc = .rw → t.rd f = bits v.toNat f.lo f.width))
      ∧ (off = 0x00C → pageJrnl pg = true →
          t.rd (hdr Reg.pgEnable pg) = s.rd (hdr Reg.pgEnable pg)
          ∧ (bits v.toNat 0 1 ≠ s.rd (hdr Reg.pgEnable pg) → t.evtSet pg 31 = true ∧ t.jrejDetail = pg * 4096 + off)
          ∧ (bits v.toNat 0 2 = s.rd (hdr Reg.pgEnable pg) → t.jrejDetail = s.jrejDetail))

/-- R56: writing 1 sets PG_LOCK.LOCK of a page with LOCKABLE = 1, and writing 0 has no effect; no command clears it but one that
comes while the lock key sequence stands before its last word; it survives warm, hard and cold reset; on a page with LOCKABLE =
0 it reads 0 and a write of 1 is ignored. Where the rules leave a point open it follows the model's own reading (log entries 64
and 72). -/
def Obligations.LockBits : Prop :=
  ∀ (s : State) (pg : Nat) (path : BitVec 2), s.Inv → pg < 512 → pageListed pg = true →
    let addr := BitVec.ofNat 26 (pg * 4096 + 0x020)
    let u := if path = 0 then s.barWrite else s
    (path = 0 ∨ path = 3 → s.serves path.toNat = true →
      (∀ v : Word, bitOf v.toNat 0 = false → exec (.registerWrite path addr v 15) s = .next u)
      ∧ (∀ v : Word, bitOf v.toNat 0 = true → pageLockable pg = true →
          ∃ t, exec (.registerWrite path addr v 15) s = .next t ∧ t.rd (hdr Reg.pgLock pg) = 1 ∧ onlyRegs u t [hdr Reg.pgLock pg])
      ∧ (pageLockable pg = false → (∃ t, exec (.rcRead path addr 0) s = .next t ∧ t.rdata = 0)
          ∧ ∀ v : Word, exec (.registerWrite path addr v 15) s = .next u))
    ∧ (s.rd (hdr Reg.pgLock pg) = 1 → ∀ t : State,
        (∀ c : Instr, s.rd (glbF Reg.glbLockstatStage 0) ≠ 2 → exec c s = .next t → t.rd (hdr Reg.pgLock pg) = 1)
        ∧ (exec .warmReset s = .next t → t.rd (hdr Reg.pgLock pg) = 1)
        ∧ (exec .hardReset s = .next t → t.rd (hdr Reg.pgLock pg) = 1)
        ∧ (∀ a b x h, exec (.coldReset false a b x h) s = .next t → t.rd (hdr Reg.pgLock pg) = 1))

/-- Every byte of the banks is as before, but for the commands of `storesMemory`: a read through BAR2 leaves them too, a boot of the
L-die writes the code banks SB0 to SB3 only, the memory test the bank it tests, and a frame only banks of the two rings (R405,
R409, R411, R422, R502, R515). Where the rules leave a point open it follows the model's own reading (log entries 12 and 60). -/
def Obligations.MemoryFrame : Prop :=
  ∀ (s t : State),
    (∀ c : Instr, storesMemory c = false → exec c s = .next t → t.mem = s.mem)
    ∧ (∀ a d be e, exec (.bar2Access a false d be e) s = .next t → t.mem = s.mem)
    ∧ (∀ h b n a, a < wordAddr 64 0 ∨ wordAddr 68 0 ≤ a → exec (.runEntry h b n) s = .next t → t.mem.byte a = s.mem.byte a)
    ∧ (∀ g f a, (∀ k m q u, s.sys.bist = some (k, m, q, u) → a < wordAddr m 0 ∨ wordAddr m (bankWords m) ≤ a) →
        exec (.memoryBistEnd g f) s = .next t → t.mem.byte a = s.mem.byte a)
    ∧ (∀ sv ll a, (∀ m ∈ s.capBanks ++ s.strBanks, a < wordAddr m 0 ∨ wordAddr m (bankWords m) ≤ a) → s.strBanks ≠ [] →
        exec (.frameStart sv ll) s = .next t → t.mem.byte a = s.mem.byte a)

/-! ### Timebase (chapter 2) -/

/-- PLL_LOCK, PLL_UNLOCK, PLL_RELOCK and SLEW_DONE (R32, R37), INTERPOLATOR_CALIBRATION (R34, R35), HANDSHAKE_MEASUREMENT (R39) and
TMB_US_LO_READ (R33): what each leaves in its registers, and that it changes nothing else.

XTAL_QUALIFIED and XTAL_RETURN (R32, R38), XTAL_EDGE_TIMEOUT and XTAL_COUNT_WINDOW (R36, R37, R47): the crystal qualifies and
the PLL moves to it; a loss on the crystal moves it to the internal oscillator and is counted. Where the rules leave a point
open it follows the model's own reading (log entries 20, 43 and 61). -/
def Obligations.Timebase : Prop :=
  (
  ∀ s : State, s.Inv → s.islandUp = true →
    (∃ t, exec .pllLock s = .next t ∧ t.rd (tmbF Reg.tmbStatPlllock 0) = 1 ∧ onlyRegs s t [tmbF Reg.tmbStatPlllock 0])
    ∧ (s.rdB (tmbF Reg.tmbStatPlllock 0) = true →
        ∃ t, exec .pllUnlock s = .next t ∧ t.rd (tmbF Reg.tmbStatPlllock 0) = 0 ∧ onlySignals s t [tmbF Reg.tmbStatPlllock 0])
    ∧ (∃ t, exec .pllRelock s = .next t ∧ t.rd (tmbF Reg.tmbStatPlllock 0) = 1 ∧ onlyRegs s t [tmbF Reg.tmbStatPlllock 0])
    ∧ (∃ t, exec .slewDone s = .next t ∧ t.rd (tmbF Reg.tmbStatSlewing 0) = 0 ∧ onlyRegs s t [tmbF Reg.tmbStatSlewing 0])
    ∧ (∃ t, exec (.interpolatorCalibration true) s = .next t ∧ t.rd (tmbF Reg.tmbStatCalok 0) = 1
        ∧ t.rd (tmbF Reg.tmbCalCalcnt 0) = (s.rd (tmbF Reg.tmbCalCalcnt 0) + 1) % 2 ^ 16
        ∧ t.rd (tmbF Reg.tmbCalTapcode 0) = (Config.tapCode s.draws).toNat ∧ t = { s with regs := t.regs, draws := s.draws + 1 }
        ∧ regsBut s t [tmbF Reg.tmbCalCalcnt 0, tmbF Reg.tmbCalTapcode 0, tmbF Reg.tmbStatCalok 0])
    ∧ (∃ t, exec (.interpolatorCalibration false) s = .next t ∧ t.rd (tmbF Reg.tmbStatCalok 0) = 0
        ∧ onlySignals s t [tmbF Reg.tmbStatCalok 0])
    ∧ (∀ cyc, ∃ t, exec (.handshakeMeasurement cyc) s = .next t ∧ t.rd (fabF Reg.fabHscycCyc 0) = cyc.toNat
        ∧ onlyRegs s t [fabF Reg.fabHscycCyc 0])
    ∧ (s.lUp = true → ∃ t, exec .tmbUsLoRead s = .next t ∧ t.rdata = s.us % 2 ^ 32
        ∧ t.rd (tmbF Reg.tmbUsHiUs 0) = s.us / 2 ^ 32 % 2 ^ 32 ∧ regsBut s t [tmbF Reg.tmbUsHiUs 0]))
  ∧ (
  ∀ s : State, s.Inv → s.islandUp = true →
    (s.onInt = true → s.sys.xtalEver = false →
      ∃ t, exec .xtalQualified s = .next t ∧ t.rd (tmbF Reg.tmbStatXtalok 0) = 1 ∧ t.rdB (tmbF Reg.tmbStatOnint 0) = s.forceInt
        ∧ (s.forceInt = false → t.rd (tmbF Reg.tmbStatSlewing 0) = 1 ∧ t.sys.xtalEver = true))
    ∧ (s.onInt = true → s.sys.xtalEver = true →
      ∃ t, exec .xtalReturn s = .next t ∧ t.rd (tmbF Reg.tmbStatXtalok 0) = 1
        ∧ t.rdB (tmbF Reg.tmbStatOnint 0) = (s.forceInt || (!s.sys.forced && !s.rdB (tmbF Reg.tmbCfgAutoret 0))))
    ∧ (s.onInt = false → ∀ late, ∃ t, exec (.xtalEdgeTimeout late) s = .next t ∧ t.rd (tmbF Reg.tmbStatXtalok 0) = 0
        ∧ t.rd (tmbF Reg.tmbStatOnint 0) = 1 ∧ t.rd (tmbF Reg.tmbStatSlewing 0) = 1
        ∧ t.rd (tmbF Reg.tmbXlossXlosscnt 0) = sat 16 (s.rd (tmbF Reg.tmbXlossXlosscnt 0) + 1) % 2 ^ 16)
    ∧ (s.onInt = true → ∃ t, exec (.xtalEdgeTimeout false) s = .next t ∧ t.rd (tmbF Reg.tmbStatXtalok 0) = 0
        ∧ onlyRegs s t [tmbF Reg.tmbStatXtalok 0])
    ∧ (∀ xtal osc : BitVec 16, 5 * osc.toNat < 100 * ((xtal.toNat - osc.toNat) + (osc.toNat - xtal.toNat)) → s.onInt = false →
        ∃ t, exec (.xtalCountWindow xtal osc) s = .next t ∧ t.rd (tmbF Reg.tmbStatXtalok 0) = 0 ∧ t.rd (tmbF Reg.tmbStatOnint 0) = 1)
    ∧ (∀ xtal osc : BitVec 16, 100 * ((xtal.toNat - osc.toNat) + (osc.toNat - xtal.toNat)) ≤ 5 * osc.toNat →
        exec (.xtalCountWindow xtal osc) s = .next s))

/-! ### Supplies and resets (chapters 1 and 22) -/

/-- COLD_RESET, ISLAND_LOSS, REGLOSS, REGBACK, SUPPLY_OUT and LDIE_RESET_RELEASE (R523, R524, R526, R528, Table 1.5).

POWER_FAIL_WARNING, PFW_WRITES_COMPLETE and POWER_FAIL_WARNING_END (R537, R538). Where the rules leave a point open it follows
the model's own reading (log entries 43, 63, 64 and 87). -/
def Obligations.Supplies : Prop :=
  (
  ∀ s : State, s.Inv →
    (∀ (a : BitVec 4) (w : BitVec 2) (aux hv : Bool), s.mode = .off → (aux ∨ hv) →
      ∃ t, exec (.coldReset false a w aux hv) s = .next t ∧ t.mode = .boot ∧ t.us = 0 ∧ t.evq = [] ∧ t.tokenQ = [])
    ∧ (∃ t, exec .islandLoss s = .next t ∧ t.mode = .off ∧ t.tokenQ = [] ∧ t.islBuf = [] ∧ t.mem = [])
    ∧ (∀ hv, s.islandUp = true → s.rdB (regOk hv) = true → s.rdB (regOk !hv) = true →
      ∃ t, exec (.regloss hv) s = .next t ∧ t.rd (regOk hv) = 0 ∧ t.rdB (regOk !hv) = true
        ∧ onlySignals s t [regOk hv, kaiF (if hv then Reg.kaiNregHvloss else Reg.kaiNregAuxloss) 0])
    ∧ (∀ hv, s.islandUp = true → s.rdB (regOk hv) = false →
      ∃ t, exec (.regback hv) s = .next t ∧ t.rd (regOk hv) = 1 ∧ onlySignals s t [regOk hv])
    ∧ (∀ sup : BitVec 3, s.islandUp = true → sup.toNat < 5 → sup.toNat ∉ s.sys.supOut →
      ∃ t, exec (.supplyOut sup) s = .next t ∧ sup.toNat ∈ t.sys.supOut ∧ t.lUp = false)
    ∧ (s.islandUp = true → s.lUp = false → s.sys.rstN = false →
      ∃ t, exec .ldieResetRelease s = .next t ∧ t.sys.supOut = [] ∧ t.sys.perst = false ∧ t = { s with sys := t.sys }
        ∧ (s.sys.boot = none → s.rdB (thmF Reg.thmStatLoff 0) = false → s.rdB (thmF Reg.thmStatHardtrip 0) = false →
            s.rd (thmF Reg.thmStatLevel 0) ≠ 3 → s.sys.bist = none → t.sys.boot = some s.us)))
  ∧ (
  ∀ s : State, s.Inv →
    (s.islandUp = true → ∃ t, exec .powerFailWarning s = .next t ∧ t.rd (glbF Reg.glbPfwNow 0) = 1
        ∧ t.pfwOn = (s.pfwOn || s.lUp)
        ∧ regsBut s t [glbF Reg.glbPfwCnt 0, glbF Reg.glbPfwNow 0, glbF Reg.glbPfwDone 0])
    ∧ (∀ f0 f1, s.lUp = true → s.pfwOn = true → s.rdB (glbF Reg.glbPfwDone 0) = false →
        ∃ t, exec (.pfwWritesComplete f0 f1) s = .next t ∧ t.rd (glbF Reg.glbPfwDone 0) = 1)
    ∧ (s.islandUp = true → ¬ (s.lUp = true ∧ s.pfwOn = true) →
        ∃ t, exec .powerFailWarningEnd s = .next t ∧ t.rd (glbF Reg.glbPfwNow 0) = 0 ∧ onlyRegs s t [glbF Reg.glbPfwNow 0])
    ∧ (s.lUp = true → s.pfwOn = true → s.twWaiting = false → s.rdB (cmd0F Reg.cmdCfgRingen 0) = false →
        ∃ t, exec .powerFailWarningEnd s = .next t ∧ t.rd (glbF Reg.glbPfwNow 0) = 0 ∧ t.pfwOn = false))

/-- WARM_RESET, HARD_RESET, RESET_N_RELEASE, HEARTBEAT, HEARTBEAT_TIMEOUT, HOLD_ORDER and WARMRESET_START (R14 to R16, R445, R526,
R527, R530, R532): the island enters hold, and the event queue and the report queue are empty.

RUN_ENTRY (R18, R19, R503), BRIDGE_TRANSFER (R12) and HOLD_WINDOW_EXPIRY (R445). Where the rules leave a point open it follows
the model's own reading (log entries 64, 69, 84, 85 and 87). -/
def Obligations.ResetsAndBoot : Prop :=
  (
  ∀ s : State, s.Inv →
    (s.lUp = true → ∃ t, exec .warmReset s = .next t ∧ t.mode = .hold ∧ t.holdUs = s.us ∧ t.sys.perst = true ∧ t.evq = []
      ∧ t.evPend = [] ∧ t.twq = [])
    ∧ (s.lUp = true → ∃ t, exec .hardReset s = .next t ∧ t.mode = .hold ∧ t.holdUs = s.us ∧ t.sys.rstN = true ∧ t.sys.hard = true)
    ∧ (s.mode = .hold → ∃ t, exec .hardReset s = .next t ∧ t.mode = .hold ∧ t.holdUs = s.holdUs ∧ t.sys.rstN = true)
    ∧ (∀ late, s.islandUp = true → s.sys.rstN = true → ∃ t, exec (.resetNRelease late) s = .next t ∧ t.sys.rstN = false)
    ∧ (∀ late, s.islandUp = true → s.sys.rstN = false → ∃ t, exec (.resetNRelease late) s = .next t
      ∧ t.rd (glbF Reg.glbNrstShort 0) = sat 8 (s.rd (glbF Reg.glbNrstShort 0) + 1) % 2 ^ 8
      ∧ onlyRegs s t [glbF Reg.glbNrstShort 0])
    ∧ (s.lUp = true → ∃ t, exec .heartbeat s = .next t ∧ t = { s with sys := { s.sys with hbUs := s.us } })
    ∧ (∀ late, s.lUp = true → ∃ t, exec (.heartbeatTimeout late) s = .next t ∧ t.mode = .hold ∧ t.holdUs = s.us)
    ∧ (s.lUp = true → s.flt.order.isSome = true → ∃ t, exec .holdOrder s = .next t ∧ t.mode = .hold ∧ t.flt.order = none)
    ∧ (s.lUp = true → s.warmArmed = true → ∃ t, exec .warmresetStart s = .next t ∧ t.mode = .hold ∧ t.warmArmed = false))
  ∧ (
  ∀ s : State, s.Inv →
    (∀ (half : Bool) (bad : BitVec 3) (nvm : BitVec 2), s.mode = .hold → s.sys.boot.isSome = true →
      ∃ t, exec (.runEntry half bad nvm) s = .next t ∧ t.sys.cold = false ∧ t.sys.hard = false)
    ∧ (∀ (half : Bool) (bad : BitVec 3) (nvm : BitVec 2), s.mode = .hold → s.sys.boot.isSome = true → s.undone = [] → s.redirect = false →
      ∃ t, exec (.runEntry half bad nvm) s = .next t
        ∧ t.mode = (if s.rdB (kaiF Reg.kaiStatPdfail 0) then .bench else if s.throttling then .throttled else .run))
    ∧ (s.bridgeUp = true → s.bridgeInject = false →
      ∃ t, exec (.bridgeTransfer true) s = .next t ∧ t = { s with sys := { s.sys with bridge := 0 } })
    ∧ (s.bridgeUp = true → s.bridgeInject = false → s.sys.bridge ≠ 2 →
      ∃ t, exec (.bridgeTransfer false) s = .next t ∧ t.sys.bridge = (s.sys.bridge + 1) % 3
        ∧ t.rd (kaiF Reg.kaiBridgeResend 0) = sat 16 (s.rd (kaiF Reg.kaiBridgeResend 0) + 1) % 2 ^ 16 ∧ t.tokenQ = s.tokenQ)
    ∧ (s.lUp = true → s.bridgeInject = false → s.sys.bridge = 2 →
      ∃ t, exec (.bridgeTransfer false) s = .next t ∧ t.sys.bridge = 0
        ∧ t.tokenQ = s.tokenQ ++ [{ src := 24, kind := 1, detail := 0, us := s.us }])
    ∧ (s.mode = .hold → s.bridgeUp = true → s.sys.bridge = 2 → s.islBuf.length < 256 →
      ∃ t, exec (.bridgeTransfer false) s = .next t ∧ t.sys.bridge = 0 ∧ t.tokenQ = s.tokenQ
        ∧ t.islBuf = s.islBuf ++ [{ src := 24, kind := 1, detail := 0, us := s.us }])
    ∧ (s.islandUp = true → ∃ t, exec .holdWindowExpiry s = .next t ∧ (∀ x ∈ t.flt.resets, (s.us : Int) - x < 600000000)
        ∧ t = { s with flt := { s.flt with resets := t.flt.resets, limUs := t.flt.limUs } }))

/-! ### Registers and events (chapter 3) -/

/-- REGISTER_WRITE and RC_READ (R5, R6, R50, R57, R61, R65): over BAR0 or the register target, where the path is served, a 32-bit
write of a register that starts no action leaves every field as its access code says; a write that is not 32 bits wide and one
to a page that is not listed change no register but GLB_ERRADDR; a read answers the register and clears its RC fields. Over BAR0
a write does to a lock key sequence under way what every one does (`barWrite`, R72). On a path that is not served nothing is
written, and a read over PCIe ends in all ones where the link carries the answer. Where the rules leave a point open it follows
the model's own reading (log entries 71, 75 and 92). -/
def Obligations.RegisterAccess : Prop :=
  ∀ s : State, s.Inv →
    (∀ path : BitVec 2, path = 0 ∨ path = 3 → s.serves path.toNat = true →
      let u := if path = 0 then s.barWrite else s
      (∀ (pg off : Nat) (v : Word), pg < 512 → pageListed pg = true → 0x040 ≤ off → off < 0x1000 → off % 4 = 0 →
          u.writeAction pg off v.toNat = none → pg ∉ [0x000, 0x001, 0x004, 0x005, 0x0E0, 0x0E1, 0x0E2, 0x0E3, 0x0E4, 0x0F8] →
          ∀ f ∈ fieldsAt pg off, ∃ t, exec (.registerWrite path (BitVec.ofNat 26 (pg * 4096 + off)) v 15) s = .next t
            ∧ (f.acc = .rw → t.rd f = bits v.toNat f.lo f.width)
            ∧ (f.acc = .rwl → s.rdB (hdr Reg.pgLock pg) = false → t.rd f = bits v.toNat f.lo f.width)
            ∧ (f.acc = .rwl → s.rdB (hdr Reg.pgLock pg) = true → t.rd f = u.rd f)
            ∧ (f.acc = .w1c → t.rd f = clrMask (u.rd f) (bits v.toNat f.lo f.width) % 2 ^ f.width)
            ∧ (f.acc = .ro ∨ f.acc = .rwj ∨ f.acc = .rc → t.rd f = u.rd f))
      ∧ (∀ (pg : BitVec 9) (v : Word), pageListed pg.toNat = true →
          ∃ t, exec (.registerWrite path (BitVec.ofNat 26 (pg.toNat * 4096 + 0x018)) v 15) s = .next t
            ∧ t.rd (hdr Reg.pgEvten pg.toNat) = v.toNat ∧ regsBut u t [hdr Reg.pgEvten pg.toNat])
      ∧ (∀ (addr : BitVec 26) (v : Word), addr.toNat % 4 = 0 → addr.toNat < 0x200000 → pageListed (addr.toNat / 4096) = false →
          ∃ t, exec (.registerWrite path addr v 15) s = .next t ∧ t.evtSet 0x000 4 = true
            ∧ onlySignals u t [glbF Reg.glbErraddrAddr 0, glbF Reg.glbErraddrPath 0, glbF Reg.glbErraddrWrite 0])
      ∧ (∀ addr : BitVec 26, addr.toNat < 0x200000 →
          ∃ t, exec (.rcRead path addr 0) s = .next t
            ∧ t.rdata = s.pageWord (addr.toNat / 4 * 4 / 4096) (addr.toNat / 4 * 4 % 4096) % 2 ^ 32
            ∧ ∀ f ∈ fieldsAt (addr.toNat / 4 * 4 / 4096) (addr.toNat / 4 * 4 % 4096), f.acc = .rc → t.rd f = f.reset))
    ∧ (s.barOn = true → ∀ (addr : BitVec 26) (be : BitVec 4) (v : Word), be ≠ 15 →
        ∃ t, exec (.registerWrite 0 addr v be) s = .next t ∧ t.evtSet 0x000 4 = true
          ∧ onlySignals s.barWrite t [glbF Reg.glbErraddrAddr 0, glbF Reg.glbErraddrPath 0, glbF Reg.glbErraddrWrite 0])
    ∧ (∀ (path : BitVec 2) (addr : BitVec 26), s.serves path.toNat = false →
        (∀ v be, exec (.registerWrite path addr v be) s = .next s)
        ∧ (path ≠ 3 → s.endpointUp = true → s.linkUp = true →
            ∃ t, exec (.rcRead path addr 0) s = .next t ∧ t = { s with rdata := 2 ^ 32 - 1 })
        ∧ (path = 3 ∨ s.endpointUp = false ∨ s.linkUp = false → exec (.rcRead path addr 0) s = .next s))

/-- BLKRST (R54), LOCK_SET (R56), PG_EVT_CLEAR (R6, R67), EVT_QPOP (R70) and FLT_INJ (R55, R452), over the path that is served: a
block reset of a page with JRNL = 0 returns its RW fields, PG_EVT and PG_EVTEN to their reset values, and of a page with JRNL =
1 is ignored with JREJ; LOCK sets on a lockable page only; what hardware sets while a bit is cleared stays set; a page that is
not listed raises ACCESSERR; FLT_INJ takes its word unless the page is locked.

EVT_EOI, MSIX_UNMASK, EVT_GEN_SET and MSI_GAP_END (R68, R69): an EOI of a pending vector sends one message, or holds it back,
and does nothing on a vector that is not pending; where an event makes the vector pending at the same moment exactly one message
follows; unmasking, GEN and the end of a gap let a held message go if its vector is still pending. Where the rules leave a point
open it follows the model's own reading (log entries 70, 72, 73 and 76). -/
def Obligations.PageAndMessageCommands : Prop :=
  (
  ∀ s : State, s.Inv → s.lUp = true →
    let u := s.barWrite
    (∀ pg : BitVec 9, pageListed pg.toNat = true → pageJrnl pg.toNat = false →
        ∃ t, exec (.blkrst pg) s = .next t ∧ t.rd (hdr Reg.pgEvten pg.toNat) = 0
          ∧ (pg.toNat ≠ 0x001 → t.rd (hdr Reg.pgEvt pg.toNat) = 0)
          ∧ (∀ off < 0x1000, 0x040 ≤ off → ∀ f ∈ fieldsAt pg.toNat off, f.acc = .rw → t.rd f = f.reset))
    ∧ (∀ pg : BitVec 9, pageListed pg.toNat = true → pageJrnl pg.toNat = true →
        ∃ t, exec (.blkrst pg) s = .next t ∧ t.evtSet pg.toNat 31 = true ∧ t.jrejDetail = pg.toNat * 4096 + 0x00C
          ∧ ∀ f : Fld, ¬ evtKey f.key → (∀ g ∈ signalFields, f.key ≠ g.key) → t.rd f = u.rd f)
    ∧ (∀ pg : BitVec 9, pageListed pg.toNat = true → pageLockable pg.toNat = true →
        ∃ t, exec (.lockSet pg) s = .next t ∧ t.rd (hdr Reg.pgLock pg.toNat) = 1 ∧ onlyRegs u t [hdr Reg.pgLock pg.toNat])
    ∧ (∀ pg : BitVec 9, pageListed pg.toNat = true → pageLockable pg.toNat = false → exec (.lockSet pg) s = .next u)
    ∧ (∀ pg : BitVec 9, pageListed pg.toNat = false → ∀ c ∈ [Instr.blkrst pg, .lockSet pg, .pgEvtClear pg 0 0],
        ∃ t, exec c s = .next t ∧ t.evtSet 0x000 4 = true
          ∧ onlySignals u t [glbF Reg.glbErraddrAddr 0, glbF Reg.glbErraddrPath 0, glbF Reg.glbErraddrWrite 0])
    ∧ (∀ (pg : BitVec 9) (mask : Word), pageListed pg.toNat = true →
        ∃ t, exec (.pgEvtClear pg mask 0) s = .next t
          ∧ t.rd (hdr Reg.pgEvt pg.toNat) = clrMask (u.rd (hdr Reg.pgEvt pg.toNat)) mask.toNat % 2 ^ 32
          ∧ regsBut u t [hdr Reg.pgEvt pg.toNat])
    ∧ (∀ (pg : BitVec 9) (mask set : Word), pageListed pg.toNat = true →
        ∃ t, exec (.pgEvtClear pg mask set) s = .next t
          ∧ ∀ b < 32, bitOf set.toNat b = true → (evtSource pg.toNat b).isSome = true → t.evtSet pg.toNat b = true)
    ∧ (∃ t, exec .evtQpop s = .next t ∧ t.evq = s.evq.drop 1 ∧ t.rdata = s.queueWord % 2 ^ 32 ∧ t.regs = s.regs)
    ∧ (∀ v : Word, s.rdB (hdr Reg.pgLock 0x0F0) = false → s.mode = .bench →
        ∃ t, exec (.fltInj v) s = .next t ∧ t.rd (flt0F Reg.fltInjTgt 0) = bits v.toNat 0 4
          ∧ t.rd (flt0F Reg.fltInjArm 0) = bits v.toNat 15 1)
    ∧ (∀ v : Word, s.rdB (hdr Reg.pgLock 0x0F0) = true →
        ∃ t, exec (.fltInj v) s = .next t ∧ t.rd (flt0F Reg.fltInjTgt 0) = s.rd (flt0F Reg.fltInjTgt 0)
          ∧ t.rd (flt0F Reg.fltInjArm 0) = s.rd (flt0F Reg.fltInjArm 0)))
  ∧ (
  ∀ s : State, s.Inv → s.lUp = true →
    let u := s.barWrite
    (∀ v : BitVec 5, s.vecPending v.toNat = true → u.vecFree v.toNat = true →
        ∃ t, exec (.evtEoi v none) s = .next t ∧ t.out = u.out ++ [.msix v.toNat] ∧ t.regs = u.regs)
    ∧ (∀ v : BitVec 5, s.vecPending v.toNat = true → u.vecFree v.toNat = false →
        ∃ t, exec (.evtEoi v none) s = .next t ∧ (vget t.vec v.toNat).held = true ∧ t.out = u.out ∧ t.regs = u.regs)
    ∧ (∀ v : BitVec 5, u.vecPending v.toNat = false → exec (.evtEoi v none) s = .next u)
    ∧ (∀ (v : BitVec 5) (n : BitVec 10), s.rd (glbF Reg.glbLockstatStage 0) = 0 → s.vecPending v.toNat = false →
        (s.raise n.toNat).vecPending v.toNat = true → exec (.evtEoi v (some n)) s = .next (s.raise n.toNat))
    ∧ (∀ v : BitVec 5, s.barOn = true →
        ∃ t, exec (.msixUnmask v) s = .next t ∧ (vget t.vec v.toNat).masked = false ∧ t.regs = s.regs
          ∧ ((vget s.vec v.toNat).held = true → s.vecPending v.toNat = true → t.vecMasked v.toNat = false →
              s.rdB (evt0F Reg.evtCfgGen 0) = true → (vget s.vec v.toNat).gap = false → t.out = s.out ++ [.msix v.toNat]))
    ∧ (s.barOn = false → ∀ v : BitVec 5, exec (.msixUnmask v) s = .next s)
    ∧ (∃ t, exec .evtGenSet s = .next t ∧ t.rd (evt0F Reg.evtCfgGen 0) = 1 ∧ regsBut u t [evt0F Reg.evtCfgGen 0]
        ∧ ∀ v < 32, (vget t.vec v).held = true → t.vecFree v = false)
    ∧ (∀ v : BitVec 5, (vget s.vec v.toNat).gap = true → (vget s.vec v.toNat).held = true → s.vecPending v.toNat = true →
        s.vecMasked v.toNat = false → s.rdB (evt0F Reg.evtCfgGen 0) = true →
        ∃ t, exec (.msiGapEnd v) s = .next t ∧ t.out = s.out ++ [.msix v.toNat] ∧ (vget t.vec v.toNat).held = false)
    ∧ (∀ v : BitVec 5, (vget s.vec v.toNat).held = false →
        ∃ t, exec (.msiGapEnd v) s = .next t ∧ (vget t.vec v.toNat).gap = false ∧ t.out = s.out ∧ t.regs = s.regs))

/-- GLB_LOCKKEY, LOCK_KEY_TIMEOUT and LOCKOUT_END (R71 to R73), over BAR0 or the register target: the three words of the sequence,
an abort with its count, and the lockout after the fourth failure. Where the rules leave a point open it follows the model's own
reading (log entry 72). -/
def Obligations.LockKey : Prop :=
  ∀ s : State, s.Inv → s.lUp = true →
    (∀ path : BitVec 2, path = 0 ∨ path = 3 → s.serves path.toNat = true → s.rdB (glbF Reg.glbLockstatLockout 0) = false →
      (s.rd (glbF Reg.glbLockstatStage 0) = 0 →
          ∃ t, exec (.glbLockkey path 0x0000A5C3) s = .next t ∧ t.rd (glbF Reg.glbLockstatStage 0) = 1 ∧ t.sys.lockPath = path.toNat)
      ∧ (s.rd (glbF Reg.glbLockstatStage 0) = 1 → s.sys.lockPath = path.toNat →
          ∃ t, exec (.glbLockkey path 0x00003C5A) s = .next t ∧ onlyRegs s t [glbF Reg.glbLockstatStage 0]
            ∧ t.rd (glbF Reg.glbLockstatStage 0) = 2)
      ∧ (s.rd (glbF Reg.glbLockstatStage 0) = 2 → s.sys.lockPath = path.toNat → ∀ pg : Nat, pg < 512 → pageLockable pg = true →
          ∃ t, exec (.glbLockkey path (BitVec.ofNat 32 (0xC3A50000 + pg))) s = .next t ∧ t.rd (hdr Reg.pgLock pg) = 0
            ∧ t.rd (glbF Reg.glbLockstatStage 0) = 0 ∧ t.rd (glbF Reg.glbLockstatFails 0) = 0)
      ∧ (s.rd (glbF Reg.glbLockstatStage 0) = 1 → s.sys.lockPath = path.toNat → ∀ key : Word, key ≠ 0x00003C5A →
          ∃ t, exec (.glbLockkey path key) s = .next t ∧ t.rd (glbF Reg.glbLockstatStage 0) = 0
            ∧ t.rd (glbF Reg.glbLockstatFails 0) = (s.rd (glbF Reg.glbLockstatFails 0) + 1) % 16 ∧ t.evtSet 0x000 5 = true)
      ∧ (s.rd (glbF Reg.glbLockstatStage 0) ≠ 0 → s.sys.lockPath ≠ path.toNat → ∀ key : Word,
          ∃ t, exec (.glbLockkey path key) s = .next t ∧ t.rd (glbF Reg.glbLockstatStage 0) = 0 ∧ t.evtSet 0x000 5 = true))
    ∧ (s.rdB (glbF Reg.glbLockstatLockout 0) = false →
        s.rd (glbF Reg.glbLockstatStage 0) ≠ 0 → s.rd (glbF Reg.glbLockstatFails 0) = 3 → ∀ late,
        ∃ t, exec (.lockKeyTimeout late) s = .next t ∧ t.rd (glbF Reg.glbLockstatStage 0) = 0
          ∧ t.rd (glbF Reg.glbLockstatLockout 0) = 1)
    ∧ (s.rdB (glbF Reg.glbLockstatLockout 0) = true →
        (∃ t, exec .lockoutEnd s = .next t ∧ t.rd (glbF Reg.glbLockstatLockout 0) = 0 ∧ t.rd (glbF Reg.glbLockstatFails 0) = 0
          ∧ onlyRegs s t [glbF Reg.glbLockstatLockout 0, glbF Reg.glbLockstatFails 0])
        ∧ ∀ (path : BitVec 2) (key : Word), path = 0 ∨ path = 3 → exec (.glbLockkey path key) s = .next s)

/-- BAR2_ACCESS (R62, R409): a full write of a word of a HOST-owned bank is read back, every other byte of the memory stands, and a
bank of another owner is not served. Where the rules leave a point open it follows the model's own reading (log entries 60 and
79). -/
def Obligations.Bar2Words : Prop :=
  ∀ (s : State) (m w : Nat) (data : BitVec 64), s.Inv → s.barOn = true → m < 64 → w < 0x20000 →
    (s.owner m = 3 →
      (∃ t, exec (.bar2Access (BitVec.ofNat 26 (m * 0x100000 + 8 * w)) true data 255 0) s = .next t
        ∧ t.mem.word (wordAddr m w) = data.toNat
        ∧ ∀ a, (a < wordAddr m w ∨ wordAddr m w + 8 ≤ a) → t.mem.byte a = s.mem.byte a)
      ∧ ∃ t, exec (.bar2Access (BitVec.ofNat 26 (m * 0x100000 + 8 * w)) false 0 255 0) s = .next t ∧ t.mem = s.mem
        ∧ (s.memBad.contains (m, w, true) = false → t.rdata = s.mem.word (wordAddr m w)))
    ∧ (s.owner m ≠ 3 →
      ∃ t, exec (.bar2Access (BitVec.ofNat 26 (m * 0x100000 + 8 * w)) true data 255 0) s = .next t ∧ t.mem = s.mem
        ∧ t.evtSet 0x000 4 = true)

/-! ### PCIe (R65, R74, R75, R90, R529) -/

/-- PCIE_LINK_CHANGE, PCIE_AER_ERROR and PCIE_CONFIG_REQUEST: the mirror of the link, the AER status bits, the command bits, and
Retry Status before RUN (R1: the Device ID is 0x9648). Where the rules leave a point open it follows the model's own reading
(log entries 71, 78 and 93). -/
def Obligations.PcieCommands : Prop :=
  ∀ s : State, s.Inv →
    (∀ (speed width : BitVec 2) (l0 l1 rev : Bool) (ltssm : BitVec 4), s.endpointUp = true →
        ∃ t, exec (.pcieLinkChange speed width l0 l1 rev ltssm) s = .next t
          ∧ (s.rd (pexF Reg.pexLinkLtssm 0) < 4 ∨ s.rd (pexF Reg.pexLinkSpeed 0) ≠ speed.toNat →
              t.rd (pexF Reg.pexLinkSpeed 0) = min speed.toNat s.speedCap % 4)
          ∧ (4 ≤ s.rd (pexF Reg.pexLinkLtssm 0) → s.rd (pexF Reg.pexLinkSpeed 0) = speed.toNat →
              s.rd (pexF Reg.pexLinkWidth 0) = width.toNat → t.rd (pexF Reg.pexLinkSpeed 0) = speed.toNat)
          ∧ (t.linkUp = true → t.rd (pexF Reg.pexLinkWidth 0) = width.toNat ∧ t.rd (pexF Reg.pexLinkL0 0) = b2n l0
              ∧ t.rd (pexF Reg.pexLinkLtssm 0) = ltssm.toNat)
          ∧ (t.linkUp = false → t.rd (pexF Reg.pexLinkWidth 0) = 0 ∧ t.rd (pexF Reg.pexLinkL0 0) = 0))
    ∧ (∀ (unc cor : Word) (fatal : Bool), s.endpointUp = true → (unc ≠ 0 ∨ cor ≠ 0) →
        ∃ t, exec (.pcieAerError unc cor fatal) s = .next t
          ∧ t.rd (pexF Reg.pexAeruncStat 0) = (s.rd (pexF Reg.pexAeruncStat 0) ||| unc.toNat) % 2 ^ 32
          ∧ t.rd (pexF Reg.pexAercorStat 0) = (s.rd (pexF Reg.pexAercorStat 0) ||| cor.toNat) % 2 ^ 32)
    ∧ (s.lUp = false → s.endpointUp = true → ∀ cmd unc cor, ∃ t, exec (.pcieConfigRequest cmd unc cor) s = .next t
        ∧ t = { s with out := s.out ++ [.configRetry] })
    ∧ (s.lUp = true → s.redirect = false → ∀ c : BitVec 5, bits c.toNat 0 1 = 1 → s.rdB (pexF Reg.pexLinkL0 0) = true →
        s.aerFatal = false → ∃ t, exec (.pcieConfigRequest (some c) 0 0) s = .next t
        ∧ t.rd (pexF Reg.pexCmdBme 0) = 1 ∧ t.rd (pexF Reg.pexCmdMsixen 0) = bits c.toNat 2 1
        ∧ t.rd (pexF Reg.pexCmdFmask 0) = bits c.toNat 3 1)
    ∧ (s.lUp = true → ∃ t, exec (.pcieConfigRequest none 0 0) s = .next t ∧ t.rdata / 2 ^ 16 = 0x9648)

/-! ### The two-wire target (R376 to R384) -/

/-- REGISTER_TARGET_WRITE and REGISTER_TARGET_READ, FAST_TARGET_WRITE, SUMMARY_STATUS_READ, BUSERR and TWT_TIMEOUT: pointers, bytes
sent, staging bytes, and the counts of aborted transactions. Where the rules leave a point open it follows the model's own
reading (log entries 77 and 79). -/
def Obligations.TargetCommands : Prop :=
  ∀ s : State, s.Inv →
    (∀ hi lo : Byte, s.targetOn false = true → s.pecOn = false →
        ∃ t, exec (.registerTargetWrite [hi, lo]) s = .next t ∧ t = { s with twPtr := 256 * hi.toNat + lo.toNat })
    ∧ (∀ n : Byte, s.targetOn false = true →
        ∃ t, exec (.registerTargetRead [] n) s = .next t ∧ t.twPtr = (s.twPtr + n.toNat) % 65536 ∧ t.rbytes.length = n.toNat)
    ∧ (∀ b : Byte, s.targetOn true = true → s.pecOn = false → s.twBusy = false → s.twStage.length = 64 →
        ∃ t, exec (.fastTargetWrite [0x10, b] 0) s = .next t ∧ t.twStage = s.twStage.set 0 b ∧ t.twFast = 0x11)
    ∧ (s.targetOn true = true →
        ∃ t, exec (.summaryStatusRead 0 16) s = .next t ∧ t.rbytes = s.summary.map (·.toNat) ∧ t.twFast = 16)
    ∧ (∀ fast, s.targetOn fast = true →
        ∃ t, exec (.buserr fast []) s = .next t ∧ t.evtSet 0x0A0 0 = true
          ∧ t.rd (twtF Reg.twtStatBuserr 0) = sat 8 (s.rd (twtF Reg.twtStatBuserr 0) + 1) % 2 ^ 8)
    ∧ (∀ fast, s.targetOn fast = true → s.rdB (twtF Reg.twtCfgTouten 0) = true →
        ∃ t, exec (.twtTimeout fast [] false) s = .next t ∧ t.evtSet 0x0A0 1 = true
          ∧ t.rd (twtF Reg.twtStatTimeout 0) = sat 8 (s.rd (twtF Reg.twtStatTimeout 0) + 1) % 2 ^ 8)

/-! ### The command paths (chapter 4) -/

/-- NOP, GLB_WARMRESET, BENCH_ENTER and BENCH_LEAVE (Table 4.2, R530, R539): an accepted command that its checks let pass is done.
Where the rules leave a point open it follows the model's own reading (log entries 8, 40 and 67). -/
def Obligations.PlainCommands : Prop :=
  ∀ (s : State) (inst : BitVec 8) (h : CmdHdr), s.Inv →
    (s.accepts (cmdWords 0x000 inst.toNat h []) h.twoWire h.jbad.toNat →
      ∃ t, exec (.nop inst h) s = .next t ∧ t.statusOf h.seq.toNat = some (0, 0) ∧ t.mode = s.mode ∧ t.mem = s.mem)
    ∧ (s.accepts (cmdWords 0x001 inst.toNat h []) h.twoWire h.jbad.toNat →
      ∃ t, exec (.glbWarmreset inst h) s = .next t ∧ t.statusOf h.seq.toNat = some (0, 0) ∧ t.mode = s.mode
        ∧ t.rd (hdr Reg.pgLseq 0x000) = h.seq.toNat)
    ∧ (s.accepts (cmdWords 0x002 inst.toNat h []) h.twoWire h.jbad.toNat → s.benchRefused = false →
      ∃ t, exec (.benchEnter inst h) s = .next t ∧ t.statusOf h.seq.toNat = some (0, 0) ∧ t.mode = .bench)
    ∧ (s.accepts (cmdWords 0x003 inst.toNat h []) h.twoWire h.jbad.toNat → s.mode = .bench → s.rdB (kaiF Reg.kaiStatPdfail 0) = false →
      ∃ t, exec (.benchLeave inst h) s = .next t ∧ t.statusOf h.seq.toNat = some (0, 0)
        ∧ t.mode = if s.throttling then .throttled else .run)

/-- PAGE_SET (R78): one pair that the checks let pass sets the RWJ fields of its register; without COMMIT the command is done, with
it the command waits for the commit.

COMMIT and SNAPSHOT_APPLY (R57, R58): a snapshot of every staged value of the page is taken, or CPEND waits behind one in
progress; at the apply point the snapshot becomes active. Shown for the plain pages of their families. Where the rules leave a
point open it follows the model's own reading (log entries 13, 14, 40, 52, 101 and 108). -/
def Obligations.StagedSettings : Prop :=
  (
  ∀ (s : State) (inst : BitVec 8) (h : CmdHdr) (pg off v c : Word), s.Inv →
    let args : List Word := [pg + 0x10000, off, v, 0, 0, 0, 0, 0, 0, 0, 0, c]
    let ws := cmdWords 0x010 inst.toNat h (args.map (·.toNat))
    let u := s.accepted ws h.twoWire
    pg.toNat < 512 → s.accepts ws h.twoWire h.jbad.toNat → rwjReg pg.toNat off.toNat = true → rangeOk pg.toNat off.toNat v.toNat = true →
    0x040 ≤ off.toNat → (0x010 ≤ pg.toNat ∧ pg.toNat ≤ 0x03F → off.toNat ≠ 0x060) →
    u.pageCheck (u.putPair pg.toNat off.toNat v.toNat) pg.toNat = none →
      ∃ t, exec (.pageSet inst h args) s = .next t
        ∧ (∀ f ∈ fieldsAt pg.toNat off.toNat, f.acc = .rwj → t.rd f = bits v.toNat f.lo f.width)
        ∧ t.rd (hdr Reg.pgLseq pg.toNat) = h.seq.toNat
        ∧ (bitOf c.toNat 0 = false → t.statusOf h.seq.toNat = some (0, 0))
        ∧ (bitOf c.toNat 0 = true → pageStaged pg.toNat = true → t.waitsFor h.seq.toNat (s.commitWait pg.toNat)))
  ∧ (
  ∀ (s : State) (pg : BitVec 9), s.Inv → s.lUp = true →
    (pageListed pg.toNat = true → pageStaged pg.toNat = true →
      (s.rdB (hdr Reg.pgCbusy pg.toNat) = false →
        ∃ t, exec (.commit pg) s = .next t ∧ t.rd (hdr Reg.pgCbusy pg.toNat) = 1 ∧ (pg.toNat, s.us) ∈ t.snapUs
          ∧ t.snap = Store.copy stagedKey (pageLo pg.toNat) (pageHi pg.toNat) s.barWrite.regs s.snap ∧ t.act = s.act)
      ∧ (s.rdB (hdr Reg.pgCbusy pg.toNat) = true →
        ∃ t, exec (.commit pg) s = .next t ∧ t.rd (hdr Reg.pgCpend pg.toNat) = 1 ∧ t.snap = s.snap ∧ t.act = s.act))
    ∧ (s.rdB (hdr Reg.pgCbusy pg.toNat) = true → s.snapAged pg.toNat (applyDelay pg.toNat) = true →
      s.rdB (hdr Reg.pgCpend pg.toNat) = false →
      (pg.toNat = 0x066 → s.hldSt = 0 → ∀ part, ∃ t, exec (.snapshotApply pg part) s = .next t
          ∧ t.rd (hdr Reg.pgCbusy 0x066) = 0 ∧ t.act = Store.copy stagedKey (pageLo 0x066) (pageHi 0x066) s.snap s.act)
      ∧ (0x010 ≤ pg.toNat ∧ pg.toNat ≤ 0x03F → ∀ part, ∃ u, exec (.snapshotApply pg part) s = .next (s.follow u)
          ∧ u.rd (hdr Reg.pgCbusy pg.toNat) = 0
          ∧ u.act = Store.copy stagedKey (pageLo pg.toNat) (pageHi pg.toNat) s.snap s.act)))

/-- CMD_RTAIL_WRITE, CMD_PHEAD_WRITE and RINGEN_SET (R88, R89): the index is held; one NOP in the ring is fetched and done; a held
report leaves when the ring takes it; setting RINGEN zeroes CMD_RHEAD and CMD_PTAIL and gives PHASE 1. Where the rules leave a
point open it follows the model's own reading (log entries 30, 88 and 96). -/
def Obligations.RingCommands : Prop :=
  ∀ s : State, s.Inv → s.barOn = true →
    (∀ idx es bad, s.rdB (cmd0F Reg.cmdCfgRingen 0) = false →
      ∃ t, exec (.cmdRtailWrite idx es bad) s = .next t ∧ t.rd (cmdfF Reg.cmdRtailIdx 0) = idx.toNat
        ∧ t = { s with regs := t.regs, hostRing := t.hostRing } ∧ regsBut s t [cmdfF Reg.cmdRtailIdx 0])
    ∧ (∀ (i : Nat) (ws : List Word) (idx : BitVec 12) (bad : BitVec 3), s.ringReady = true → s.redirect = false → s.repHeld = [] →
      s.rd (cmd0F Reg.cmdRheadIdx 0) = i → i < s.ringSize → idx.toNat = (i + 1) % s.ringSize →
      ws.length = 16 → bits (nth (ws.map (·.toNat)) 0) 0 12 = 0 → s.accepts (ws.map (·.toNat)) false bad.toNat →
      ∃ t, exec (.cmdRtailWrite idx [(BitVec.ofNat 12 i, ws)] bad) s = .next t
        ∧ t.rd (cmdfF Reg.cmdRtailIdx 0) = idx.toNat ∧ t.rd (cmd0F Reg.cmdRheadIdx 0) = idx.toNat
        ∧ t.statusOf (nth (ws.map (·.toNat)) 1) = some (0, 0))
    ∧ (∀ (idx : BitVec 12) (bad : BitVec 3), s.repHeld = [] → s.rdB (cmd0F Reg.cmdCfgRingen 0) = false →
      ∃ t, exec (.cmdPheadWrite idx bad) s = .next t ∧ t.rd (cmdfF Reg.cmdPheadIdx 0) = idx.toNat
        ∧ t = { s with regs := t.regs, rptFull := false } ∧ regsBut s t [cmdfF Reg.cmdPheadIdx 0])
    ∧ (∀ r : Report, s.repHeld = [r] → ∀ (idx : BitVec 12) (bad : BitVec 3), r.doneSeq = none → s.redirect = false →
      s.rdB (cmd0F Reg.cmdCfgRingen 0) = true → s.pfwOn = true →
      (s.rd (cmd0F Reg.cmdPtailIdx 0) + 1) % s.repSize ≠ idx.toNat % s.repSize →
      ∃ t, exec (.cmdPheadWrite idx bad) s = .next t ∧ t.rd (cmdfF Reg.cmdPheadIdx 0) = idx.toNat ∧ t.repHeld = []
        ∧ s.out ++ [.ringReport (s.repAddr (s.rd (cmd0F Reg.cmdPtailIdx 0)))
            (r.words.set 0 (nth r.words 0 + s.rd (cmd0F Reg.cmdPtailPhase 0) * 2147483648))] <+: t.out)
    ∧ (∀ v : Word, s.rdB (cmd0F Reg.cmdCfgRingen 0) = false → s.rd (cmdfF Reg.cmdRtailIdx 0) % s.ringSize = 0 → s.repHeld = [] →
      ∃ t, exec (.ringenSet v) s = .next t ∧ t.rd (cmd0F Reg.cmdCfgRingen 0) = 1 ∧ t.rd (cmd0F Reg.cmdRheadIdx 0) = 0
        ∧ t.rd (cmd0F Reg.cmdPtailIdx 0) = 0 ∧ t.rd (cmd0F Reg.cmdPtailPhase 0) = 1)

/-- DONE_REPORT (R84, R85, R93), DONE_BOUND_EXPIRY (R87), DOORBELL (R91), REPORT_POP (R92) and REBUILT (R94). Where the rules leave
a point open it follows the model's own reading (log entries 30, 95 and 97). -/
def Obligations.ReportCommands : Prop :=
  ∀ s : State, s.Inv → s.lUp = true →
    (∀ jbad : BitVec 3, (s.macros.filter fun m => bitOf jbad.toNat m) = [] →
      ∀ (e : JEntry) (c r : Nat), s.doneNext = some (e, c, r) → s.jFind e.seq = some e → e.seq < 2 ^ 32 →
      s.rdB (cmd0F Reg.cmdCfgMirror 0) = false →
      (e.twoWire = true → s.twq.length < 64 → s.twHeld = [] →
        ∃ t, exec (.doneReport jbad) s = .next t ∧ t.rd (cmd1F Reg.cmdDoneseqSeq 0) = e.seq
          ∧ t.twq = s.twq ++ [[repWord 2 c r e.replayed false true false, e.seq, e.htag, s.us32]]
          ∧ ∃ x, t.jFind e.seq = some x ∧ x.issued = true)
      ∧ (e.twoWire = false → s.redirect = false → s.ringReady = true → s.repHeld = [] →
        ∃ t, exec (.doneReport jbad) s = .next t ∧ t.rd (cmd1F Reg.cmdDoneseqSeq 0) = e.seq
          ∧ .ringReport (s.repAddr (s.rd (cmd0F Reg.cmdPtailIdx 0))) [repWord 2 c r e.replayed false false false
              + s.rd (cmd0F Reg.cmdPtailPhase 0) * 2147483648, e.seq, e.htag, s.us32] ∈ t.out
          ∧ ∃ x, t.jFind e.seq = some x ∧ x.issued = true))
    ∧ (∀ (seq : Word) (e : JEntry), s.jFind seq.toNat = some e → e.applied = true → e.status = none → s.boundStands e = false →
      ∃ t, exec (.doneBoundExpiry seq) s = .next t ∧ t.statusOf seq.toNat = some (3, 0x10)
        ∧ t.rd (cmd2F Reg.cmdNfailCnt 0) = sat 16 (s.rd (cmd2F Reg.cmdNfailCnt 0) + 1) % 2 ^ 16 ∧ t.evtSet 0x008 10 = true)
    ∧ (∀ bad : BitVec 3, s.rdB (cmd0F Reg.cmdCfgTwen 0) = true → s.twBusy = false → s.twq.length < 63 → s.twHeld = [] →
      s.jHeld = none → bits (nth s.stagedWords 0) 0 12 = 0 → s.accepts s.stagedWords true bad.toNat →
      ∃ t, exec (.doorbell bad) s = .next t ∧ t.twBusy = false ∧ t.statusOf (nth s.stagedWords 1) = some (0, 0)
        ∧ t.twq = s.twq ++ [[repWord 1 0 0 false false true false, nth s.stagedWords 1, nth s.stagedWords 2, s.us32]])
    ∧ (∀ bad : BitVec 3, s.rdB (cmd0F Reg.cmdCfgTwen 0) = true → s.twBusy = false → s.pfwOn = true →
      ∃ t, exec (.doorbell bad) s = .next t ∧ t.twBusy = true ∧ t.twWaiting = true ∧ t.jnl = s.jnl)
    ∧ (∀ bad : BitVec 3, s.rdB (cmd0F Reg.cmdCfgTwen 0) = false ∨ s.twBusy = true → exec (.doorbell bad) s = .next s)
    ∧ (s.twHeld = [] → ∃ t, exec .reportPop s = .next t ∧ t = { s with twq := s.twq.drop 1 })
    ∧ (s.rebuilding = true → s.jHeld = none →
      ∃ t, exec (.rebuilt false) s = .next t ∧ t.rebuilding = false ∧ t.rd (cmd1F Reg.cmdJstatJmsused 0) = 1
        ∧ t.jnl = s.jnl.map fun e => { e with copies := setBit e.copies 2 })
    ∧ (s.rebuilding = true → s.mirrorLost = false → s.macros ≠ [] →
      ∃ t, exec (.rebuilt true) s = .next t ∧ t.rebuilding = false ∧ t.mirrorLost = true ∧ t.jHeld = none)

/-! ### Bays (chapter 5) -/

/-- ALT_CLASS_CHANGE, PRESENCE_CHANGE, URGENT, URGENT_END and EXTRACTION (R102 to R105, Table 5.5).

TOGDLY_END, RETRY_WINDOW_EXPIRY and TIMED_OPEN_END (R120, R121, R123); that a TIE bay is left to its port is the model's choice
(log entry 47). Where the rules leave a point open it follows the model's own reading (log entries 41, 47, 82 and 89). -/
def Obligations.BayInputs : Prop :=
  (
  ∀ (s : State) (n : BitVec 6), s.Inv → s.islandUp = true → n.toNat < 48 → s.bayRole n.toNat ≠ 3 →
    (∀ mv : BitVec 12, (vget s.bay n.toNat).frozen = false →
      ∃ t, exec (.altClassChange n mv) s = .next t ∧ t.rd (bayF Reg.bayStatAlt n.toNat) = (vget t.bay n.toNat).alt % 4
        ∧ (2600 < mv.toNat → (vget t.bay n.toNat).alt = 0)
        ∧ (900 ≤ mv.toNat → mv.toNat ≤ 2400 → (vget t.bay n.toNat).alt = 1) ∧ (mv.toNat < 400 → (vget t.bay n.toNat).alt = 2)
        ∧ ((400 ≤ mv.toNat ∧ mv.toNat < 900) ∨ (2400 < mv.toNat ∧ mv.toNat ≤ 2600) →
            (vget t.bay n.toNat).alt = (vget s.bay n.toNat).alt)
        ∧ t = { s with regs := t.regs, bay := t.bay } ∧ regsBut s t [bayF Reg.bayStatAlt n.toNat])
    ∧ (∀ vins late, ((vget s.bay n.toNat).alt != 0) ≠ s.rdB (bayF Reg.bayStatPresent n.toNat) →
      ∃ u, exec (.presenceChange n vins late) s = .next (s.follow u)
        ∧ u.rdB (bayF Reg.bayStatPresent n.toNat) = ((vget s.bay n.toNat).alt != 0)
        ∧ (s.lUp = true → u.evtSet (0x010 + n.toNat) 0 = true)
        ∧ u.bayState n.toNat = if s.bayState n.toNat ≤ 1 then b2n ((vget s.bay n.toNat).alt != 0) else s.bayState n.toNat)
    ∧ ((vget s.bay n.toNat).alt = 2 → (vget s.bay n.toNat).urgent = false → (vget s.bay n.toNat).frozen = false →
        s.bayRole n.toNat = 0 ∨ s.effB (bayF Reg.bayCfgUrgopen n.toNat) = false →
      ∃ t, exec (.urgent n) s = .next t ∧ (vget t.bay n.toNat).urgent = true ∧ t.bayState n.toNat = s.bayState n.toNat
        ∧ (s.lUp = true → t.evtSet (0x010 + n.toNat) 2 = true))
    ∧ ((vget s.bay n.toNat).alt = 2 → (vget s.bay n.toNat).urgent = false → (vget s.bay n.toNat).frozen = false →
        s.bayRole n.toNat ≠ 0 → s.effB (bayF Reg.bayCfgUrgopen n.toNat) = true →
      (s.bayClosed n.toNat = true →
        ∃ u, exec (.urgent n) s = .next (s.follow u) ∧ (vget u.bay n.toNat).urgent = true ∧ u.bayState n.toNat = 8
          ∧ (vget u.bay n.toNat).fastOpen = true ∧ u.rd (bayF Reg.bayCtlArm n.toNat) = 0)
      ∧ (s.bayState n.toNat = 5 ∨ s.bayState n.toNat = 6 →
        ∃ u, exec (.urgent n) s = .next (s.follow u) ∧ (vget u.bay n.toNat).urgent = true
          ∧ u.bayState n.toNat = b2n (s.rdB (bayF Reg.bayStatPresent n.toNat)) ∧ u.rd (bayF Reg.bayCtlArm n.toNat) = 0))
    ∧ ((vget s.bay n.toNat).alt ≠ 2 → (vget s.bay n.toNat).frozen = false → ∃ t, exec (.urgentEnd n) s = .next t ∧ (vget t.bay n.toNat).urgent = false
        ∧ t = { s with bay := t.bay })
    ∧ (∀ late, (vget s.bay n.toNat).alt = 0 → (vget s.bay n.toNat).frozen = false →
        s.bayClosed n.toNat = true ∨ s.bayState n.toNat = 8 →
      ∃ u, exec (.extraction n late) s = .next (s.follow u) ∧ u.bayState n.toNat = 1 ∧ u.rd (bayF Reg.bayCtlArm n.toNat) = 0
        ∧ (vget u.bay n.toNat).fastOpen = true ∧ (s.lUp = true → u.evtSet (0x010 + n.toNat) 0 = true)))
  ∧ (
  ∀ (s : State) (n : BitVec 6), s.Inv → n.toNat < 48 →
    (s.bayState n.toNat = 6 → s.lUp = true →
      ∃ u, exec (.togdlyEnd n) s = .next (s.follow u) ∧ (vget u.bay n.toNat).retries = (vget s.bay n.toNat).retries ++ [s.us]
        ∧ (s.bayRole n.toNat ≠ 3 →
            u.bayState n.toNat = 2 ∧ u.rd (bayF Reg.bayCtlArm n.toNat) = 1 ∧ (vget u.bay n.toNat).rampTimer = true)
        ∧ (s.bayRole n.toNat = 3 → u.bayState n.toNat = b2n (s.rdB (bayF Reg.bayStatPresent n.toNat))))
    ∧ (∃ t, exec (.retryWindowExpiry n) s = .next t
        ∧ (vget t.bay n.toNat).retries
          = (vget s.bay n.toNat).retries.filter (fun x => decide (s.us < x + 1000000 * s.eff (bayF Reg.bayRetryRwin n.toNat)))
        ∧ t.rd (bayF Reg.bayStatRetryleft n.toNat)
          = (s.eff (bayF Reg.bayRetryBudget n.toNat) - (vget t.bay n.toNat).retries.length) % 2 ^ 4
        ∧ t = { s with regs := t.regs, bay := t.bay } ∧ regsBut s t [bayF Reg.bayStatRetryleft n.toNat])
    ∧ (∀ vmean late, s.bayState n.toNat = 7 → s.lUp = true → (vget s.bay n.toNat).owner ≠ 2 →
      ∃ u, exec (.timedOpenEnd n vmean late) s = .next (s.follow u) ∧ u.bayState n.toNat = 2
        ∧ (vget u.bay n.toNat).rampTimer = true ∧ (vget u.bay n.toNat).owner = 0))

/-- THROTTLE_TRAIN_END and THROTTLE_REPEAT (R106), RAMP_COMPLETE, ADOPTED and GATE_OFF (R108, R111, R124), LIMIT_ENTRY and
LIMIT_EXIT (R113): the states of Table 5.5.

FAST_TRIP, SLOW, RAMPTIME, REVERSE, GATELOW and SENSEOPEN (R107, R113 to R115, R119, Table 5.3): a closed bay latches off with
its kind. Where the rules leave a point open it follows the model's own reading (log entries 41, 82, 99 and 100). -/
def Obligations.BayStates : Prop :=
  (
  ∀ (s : State) (n : BitVec 6), s.Inv → n.toNat < 48 →
    ((vget s.bay n.toNat).train = true → (vget s.bay n.toNat).next = none →
      ∃ t, exec (.throttleTrainEnd n) s = .next t ∧ t.rd (bayF Reg.bayStatAlt n.toNat) = (vget s.bay n.toNat).alt % 4
        ∧ (vget t.bay n.toNat).train = false ∧ (vget t.bay n.toNat).frozen = false ∧ t = { s with regs := t.regs, bay := t.bay })
    ∧ (s.throttles n.toNat = true → (vget s.bay n.toNat).train = false → s.rd (bayF Reg.bayAlimThstep n.toNat) ≠ 0 →
      ∃ t, exec (.throttleRepeat n) s = .next t ∧ t.out = s.out ++ [.throttle n.toNat (s.rd (bayF Reg.bayAlimThstep n.toNat))]
        ∧ t.rd (bayF Reg.bayStatAlt n.toNat) = 3 ∧ (vget t.bay n.toNat).frozen = true)
    ∧ (s.bayState n.toNat = 2 → s.bayMet n.toNat = true → ∃ u, exec (.rampComplete n) s = .next (s.follow u) ∧ u.bayState n.toNat = 3
        ∧ u.rd (bayF Reg.bayStatPgood n.toNat) = 1 ∧ (s.lUp = true → u.evtSet (0x010 + n.toNat) 3 = true))
    ∧ (s.bayState n.toNat = 10 → ∃ u, exec (.adopted n) s = .next (s.follow u) ∧ u.bayState n.toNat = 3
        ∧ u.rd (bayF Reg.bayStatAdopted n.toNat) = 1)
    ∧ (s.bayState n.toNat = 8 → ∃ u, exec (.gateOff n) s = .next (s.follow u)
        ∧ u.bayState n.toNat = if s.rdB (bayF Reg.bayStatPresent n.toNat) then 1 else 0)
    ∧ (s.bayState n.toNat = 3 → ∃ u, exec (.limitEntry n) s = .next (s.follow u) ∧ u.bayState n.toNat = 4
        ∧ u.rd (bayF Reg.bayStatLimiting n.toNat) = 1 ∧ u.rd (bayF Reg.bayStatPgood n.toNat) = s.rd (bayF Reg.bayStatPgood n.toNat))
    ∧ (s.bayState n.toNat = 4 → ∃ u, exec (.limitExit n) s = .next (s.follow u) ∧ u.bayState n.toNat = 3
        ∧ u.rd (bayF Reg.bayStatLimiting n.toNat) = 0 ∧ (s.lUp = true → u.evtSet (0x010 + n.toNat) 3 = true)))
  ∧ (
  ∀ (s : State) (n : BitVec 6) (peak : BitVec 16) (late : Bool), s.Inv → n.toNat < 48 →
    (s.bayClosed n.toNat = true →
      ∃ u, exec (.fastTrip n peak) s = .next (s.follow u) ∧ latchedOff s u n.toNat 1 peak.toNat)
    ∧ (s.bayState n.toNat = 4 → s.slowReached n.toNat = true →
      ∃ u, exec (.slow n peak late) s = .next (s.follow u) ∧ latchedOff s u n.toNat 2 peak.toNat)
    ∧ (s.bayState n.toNat = 2 → (vget s.bay n.toNat).rampTimer = true →
      ∃ u, exec (.ramptime n peak late) s = .next (s.follow u) ∧ latchedOff s u n.toNat 3 peak.toNat)
    ∧ (s.bayRole n.toNat = 0 ∨ s.bayRole n.toNat = 2 → s.bayClosed n.toNat = true →
      ∃ u, exec (.reverse n peak late) s = .next (s.follow u) ∧ latchedOff s u n.toNat 4 peak.toNat)
    ∧ (s.bayState n.toNat = 3 ∨ s.bayState n.toNat = 10 → 30000 ≤ s.busMv →
      ∃ u, exec (.gatelow n peak late) s = .next (s.follow u) ∧ latchedOff s u n.toNat 5 peak.toNat)
    ∧ (s.bayClosed n.toNat = true →
      ∃ u, exec (.senseopen n peak) s = .next (s.follow u) ∧ latchedOff s u n.toNat 6 peak.toNat))

/-- BAY_ARM, BAY_OPEN, BAY_TOGGLE and BAY_LIMIT (R126 to R129, R114): an accepted and admitted command has its effect and waits for
its done point (Table 4.2). Where the rules leave a point open it follows the model's own reading (log entries 34 and 82). -/
def Obligations.BayCommands : Prop :=
  ∀ (s : State) (inst : BitVec 8) (h : CmdHdr), s.Inv → inst.toNat < 48 →
    (∀ flags bound : Word,
      let ws := cmdWords 0x100 inst.toNat h [flags.toNat, bound.toNat]
      let v := s.accepted ws h.twoWire
      s.accepts ws h.twoWire h.jbad.toNat → v.bayArmRefused inst.toNat (bitOf flags.toNat 1) = none → s.bayRole inst.toNat ≠ 3 →
      s.bayState inst.toNat = 1 →
        ∃ u, exec (.bayArm inst h flags bound) s = .next (v.follow u)
          ∧ u.bayState inst.toNat = (if bitOf flags.toNat 0 && s.bayMet inst.toNat then 10 else 2)
          ∧ u.rd (bayF Reg.bayCtlArm inst.toNat) = 1 ∧ u.waitsFor h.seq.toNat (.bayOn inst.toNat)
          ∧ u.rd (hdr Reg.pgLseq (0x010 + inst.toNat)) = h.seq.toNat)
    ∧ (∀ flags : Word,
      let ws := cmdWords 0x101 inst.toNat h [flags.toNat]
      let v := s.accepted ws h.twoWire
      s.accepts ws h.twoWire h.jbad.toNat → s.bayClosed inst.toNat = true →
        ∃ u, exec (.bayOpen inst h flags) s = .next (v.follow u) ∧ u.bayState inst.toNat = 8
          ∧ u.rd (bayF Reg.bayCtlArm inst.toNat) = 0 ∧ (vget u.bay inst.toNat).fastOpen = bitOf flags.toNat 0
          ∧ u.waitsFor h.seq.toNat (.bayOpen inst.toNat))
    ∧ (∀ flags : Word,
      let ws := cmdWords 0x102 inst.toNat h [flags.toNat]
      let v := s.accepted ws h.twoWire
      s.accepts ws h.twoWire h.jbad.toNat → s.mode ≠ .bench → s.bayRole inst.toNat ≠ 3 →
      s.bayState inst.toNat = 5 ∨ s.bayState inst.toNat = 6 →
        ∃ u, exec (.bayToggle inst h flags) s = .next (v.follow u)
          ∧ u.bayState inst.toNat = (if bitOf flags.toNat 0 && s.bayMet inst.toNat then 10 else 2)
          ∧ u.rd (bayF Reg.bayCtlArm inst.toNat) = 1 ∧ u.waitsFor h.seq.toNat (.bayOn inst.toNat))
    ∧ (∀ ilim tflt plim rsh : Word,
      let ws := cmdWords 0x103 inst.toNat h [ilim.toNat, tflt.toNat, plim.toNat, rsh.toNat]
      s.accepts ws h.twoWire h.jbad.toNat → s.bayState inst.toNat ≠ 9 →
      rangeOk (0x010 + inst.toNat) 0x04C ilim.toNat = true → rangeOk (0x010 + inst.toNat) 0x050 tflt.toNat = true →
      rangeOk (0x010 + inst.toNat) 0x048 plim.toNat = true → rangeOk (0x010 + inst.toNat) 0x05C rsh.toNat = true →
      bits ilim.toNat 0 9 + 10 ≤ bits ilim.toNat 16 9 →
        ∃ t, exec (.bayLimit inst h ilim tflt plim rsh) s = .next t
          ∧ t.rd (bayF Reg.bayIlimIlim inst.toNat) = bits ilim.toNat 0 9 ∧ t.rd (bayF Reg.bayIlimFtrip inst.toNat) = bits ilim.toNat 16 9
          ∧ t.rd (bayF Reg.bayTfltTflt inst.toNat) = bits tflt.toNat 0 10 ∧ t.rd (bayF Reg.bayPlimPlim inst.toNat) = bits plim.toNat 0 11
          ∧ t.rd (bayF Reg.bayRshRsh inst.toNat) = bits rsh.toNat 0 16
          ∧ t.waitsFor h.seq.toNat (s.commitWait (0x010 + inst.toNat)))

/-! ### Loops and phases (chapters 6 and 7) -/

/-- LOOP_SAMPLE and LATCH_POINT (R40 to R46, R139, R145, R146): a voltage loop with one conversion to a sample runs the compensator
once on its error word; the result that is on time is in force from the latch point, a late one is discarded and counted. Where
the rules leave a point open it follows the model's own reading (log entries 6 and 102). -/
def Obligations.LoopSampling : Prop :=
  ∀ (s : State) (n : BitVec 4), s.Inv →
    (∀ (esum : BitVec 16) imon remote, s.loopRunning n.toNat = true → s.loopCur n.toNat = false → s.lanSt = 0 →
      s.eff (loopF Reg.loopCfgAvg n.toNat) = 0 →
      ∃ u, exec (.loopSample n esum imon remote) s = .next (s.follow u)
        ∧ (u.lp n.toNat).e = [iclamp (-2048) 2047 esum.toInt, nth (s.lp n.toNat).e 0, nth (s.lp n.toNat).e 1]
        ∧ (u.lp n.toNat).fresh = some (compensatorDuty
            (compensatorSum (s.coef n.toNat) (fun i => s.coef n.toNat (4 + i)) (iclamp (-2048) 2047 esum.toInt)
              (s.lp n.toNat).e (s.lp n.toNat).u)
            (s.eff (loopF Reg.loopDutyDmin n.toNat)) (s.eff (loopF Reg.loopDutyDmax n.toNat)))
        ∧ u.loopSt n.toNat = s.loopSt n.toNat)
    ∧ (∀ (d : Nat) (slack : BitVec 14), s.loopRunning n.toNat = true → (s.lp n.toNat).fresh = some d →
      (∃ t, exec (.latchPoint n false slack) s = .next t ∧ (t.lp n.toNat).duty = d ∧ (t.lp n.toNat).fresh = none
        ∧ t.rd (loopF Reg.loopDnowDuty n.toNat) = d / 2 ^ 14 % 2 ^ 16 ∧ t.rd (fabF Reg.fabLplateRun n.toNat) = 0)
      ∧ ∃ u, exec (.latchPoint n true slack) s = .next (s.follow u) ∧ (u.lp n.toNat).fresh = none
        ∧ u.rd (fabF Reg.fabLplateLatecnt n.toNat) = sat 16 (s.rd (fabF Reg.fabLplateLatecnt n.toNat) + 1) % 2 ^ 16)

/-- ONDELAY_END, OFFDELAY_END, OFF_LEVEL_REACHED, PGOOD_SET and PGOOD_CLEAR (R153, R154, R156, Table 6.4).

SENSE_LOSS, SENSE_LOSS_HIGH, LOOP_OV, LOOP_UV and OVERLOAD (R143, R144, R160, R162 to R165). Where the rules leave a point open
it follows the model's own reading (log entries 53, 80, 81 and 103). -/
def Obligations.LoopStates : Prop :=
  (
  ∀ (s : State) (n : BitVec 4), s.Inv →
    (s.loopSt n.toNat = 1 → ((s.loopPhases n.toNat).any fun j => s.phSt j == 0) = true →
      ∃ u, exec (.ondelayEnd n) s = .next (s.follow u) ∧ u.loopSt n.toNat = 2
        ∧ (u.lp n.toNat).wref = (if s.loopCur n.toNat then 0 else 4000 * (s.vls n.toNat : Int))
        ∧ ∀ j ∈ s.loopPhases n.toNat, s.phSt j = 0 → u.phSt j = 1)
    ∧ (s.loopSt n.toNat = 4 → ((s.lp n.toNat).coast || s.effB (loopF Reg.loopCfgStopmode n.toNat)) = true →
      ∃ u, exec (.offdelayEnd n) s = .next (s.follow u) ∧ u.loopSt n.toNat = 0 ∧ u.switchSet n.toNat = [])
    ∧ (s.loopSt n.toNat = 4 → ((s.lp n.toNat).coast || s.effB (loopF Reg.loopCfgStopmode n.toNat)) = false →
        s.loopCur n.toNat = false →
      ∃ u, exec (.offdelayEnd n) s = .next (s.follow u) ∧ u.loopSt n.toNat = 5 ∧ u.rdB (loopF Reg.loopStatPgood n.toNat) = false)
    ∧ (s.loopSt n.toNat = 5 → s.loopCur n.toNat = false →
      ∃ u, exec (.offLevelReached n) s = .next (s.follow u) ∧ u.loopSt n.toNat = 0 ∧ u.switchSet n.toNat = [])
    ∧ (∀ late, s.loopSt n.toNat = 2 ∨ s.loopSt n.toNat = 3 ∨ s.loopSt n.toNat = 4 → s.loopAtGoal n.toNat = true →
      ∃ u, exec (.pgoodSet n late) s = .next (s.follow u) ∧ u.rdB (loopF Reg.loopStatPgood n.toNat) = true
        ∧ u.loopSt n.toNat = (if s.loopSt n.toNat = 2 then 3 else s.loopSt n.toNat))
    ∧ (s.loopRunning n.toNat = true →
      ∃ u, exec (.pgoodClear n) s = .next (s.follow u) ∧ u.rdB (loopF Reg.loopStatPgood n.toNat) = false
        ∧ u.loopSt n.toNat = s.loopSt n.toNat))
  ∧ (
  ∀ (s : State) (n : BitVec 4) (late : Bool), s.Inv →
    (s.senseJudged n.toNat = true → s.trulyLow n.toNat = false →
      ∃ t, exec (.senseLoss n late) s = .next t ∧ t.rd (loopF Reg.loopStatLocalsns n.toNat) = 1
        ∧ t.rd (loopF Reg.loopStatFaultkind n.toNat) = 4 ∧ t.loopSt n.toNat = s.loopSt n.toNat)
    ∧ (s.senseJudged n.toNat = true →
      ∃ t, exec (.senseLossHigh n) s = .next t ∧ t.rd (loopF Reg.loopStatLocalsns n.toNat) = 1
        ∧ t.rd (loopF Reg.loopStatFaultkind n.toNat) = 4 ∧ t.loopSt n.toNat = s.loopSt n.toNat)
    ∧ (s.loopRunning n.toNat = true → s.loopCur n.toNat = false →
      ∃ u, exec (.loopOv n late) s = .next (s.follow u) ∧ loopFaulted s u n.toNat 1)
    ∧ (s.loopSt n.toNat = 3 → s.loopCur n.toNat = false →
      ∃ u, exec (.loopUv n late) s = .next (s.follow u) ∧ u.loopSt n.toNat = 3
        ∧ u.rd (loopF Reg.loopStatFaultkind n.toNat) = 2 ∧ u.rdB (loopF Reg.loopStatPgood n.toNat) = false)
    ∧ (s.loopRunning n.toNat = true → s.loopCur n.toNat = false → s.overloaded n.toNat = true →
      ∃ u, exec (.overload n late) s = .next (s.follow u) ∧ loopFaulted s u n.toNat 3))

/-- LOOP_START, LOOP_STOP, LOOP_VSET, LOOP_COEF and PH_CFG (R147, R153, R155, R156, R166 to R168, R173, R194): an accepted and
admitted command has its effect. Shown without delays, on a loop that the hold-up fast path does not drive. Where the rules
leave a point open it follows the model's own reading (log entries 14, 80 and 81). -/
def Obligations.LoopCommands : Prop :=
  ∀ (s : State) (inst : BitVec 8) (h : CmdHdr), s.Inv →
    (∀ target ron : Word,
      let ws := cmdWords 0x200 inst.toNat h [target.toNat, ron.toNat, 0, 0]
      let v := s.accepted ws h.twoWire
      inst.toNat < 16 → s.accepts ws h.twoWire h.jbad.toNat → s.targetOk inst.toNat (s.loopTarget inst.toNat target.toNat) = true →
      bits ron.toNat 0 10 ≤ 1000 → (bits ron.toNat 0 10 ≠ 0 ∨ s.eff (loopF Reg.loopRampRon inst.toNat) ≠ 0) →
      ((s.loopPhases inst.toNat).any fun j => s.phSt j == 0) = true → ((s.loopPhases inst.toNat).all fun j => s.retired 1 j) = false →
      s.mode ≠ .bench → s.loopSt inst.toNat = 0 → (s.lp inst.toNat).held = false →
      s.eff (loopF Reg.loopOntOndly inst.toNat) = 0 → s.rdB (loopF Reg.loopStatPgood inst.toNat) = false →
        ∃ u, exec (.loopStart inst h target ron 0 0) s = .next (v.follow u) ∧ u.loopSt inst.toNat = 2
          ∧ (u.lp inst.toNat).target = s.loopTarget inst.toNat target.toNat ∧ u.waitsFor h.seq.toNat (.loopGood inst.toNat)
          ∧ u.rd (hdr Reg.pgLseq (0x040 + inst.toNat)) = h.seq.toNat)
    ∧ (∀ roff : Word,
      let ws := cmdWords 0x201 inst.toNat h [0, roff.toNat, 1, 0]
      let v := s.accepted ws h.twoWire
      inst.toNat < 16 → s.accepts ws h.twoWire h.jbad.toNat → bits roff.toNat 0 10 ≤ 1000 →
      (bits roff.toNat 0 10 ≠ 0 ∨ s.eff (loopF Reg.loopRampRoff inst.toNat) ≠ 0) →
      s.loopSt inst.toNat = 2 ∨ s.loopSt inst.toNat = 3 → (s.lp inst.toNat).held = false →
      s.eff (loopF Reg.loopOfftOffdly inst.toNat) = 0 →
        ∃ u, exec (.loopStop inst h 0 roff 1 0) s = .next (v.follow u) ∧ u.loopSt inst.toNat = 0 ∧ u.switchSet inst.toNat = []
          ∧ ((s.loopCur inst.toNat || s.loopLow inst.toNat) = true → u.statusOf h.seq.toNat = some (0, 0))
          ∧ ((s.loopCur inst.toNat || s.loopLow inst.toNat) = false → u.waitsFor h.seq.toNat (.loopOff inst.toNat)))
    ∧ (∀ target rate : Word,
      let ws := cmdWords 0x202 inst.toNat h [target.toNat, rate.toNat, 0, 0]
      let v := s.accepted ws h.twoWire
      inst.toNat < 16 → s.accepts ws h.twoWire h.jbad.toNat → s.targetOk inst.toNat (s.loopTarget inst.toNat target.toNat) = true →
      bits rate.toNat 0 10 ≠ 0 → bits rate.toNat 0 10 ≤ 1000 → (s.lp inst.toNat).held = false →
      (s.loopRunning inst.toNat = true →
        ∃ u, exec (.loopVset inst h target rate 0 0) s = .next (v.follow u) ∧ (u.loopSt inst.toNat = 2 ∨ u.loopSt inst.toNat = 3)
          ∧ (u.lp inst.toNat).target = s.loopTarget inst.toNat target.toNat ∧ (u.lp inst.toNat).wref = (s.lp inst.toNat).wref
          ∧ (u.lp inst.toNat).rateUp = bits rate.toNat 0 10)
      ∧ (s.loopSt inst.toNat = 0 →
        ∃ u, exec (.loopVset inst h target rate 0 0) s = .next (v.follow u) ∧ u.loopSt inst.toNat = 0
          ∧ (u.lp inst.toNat).target = s.loopTarget inst.toNat target.toNat ∧ u.statusOf h.seq.toNat = some (0, 0)))
    ∧ (∀ b0 b1 b2 b3 a1 a2 a3 reset : Word,
      let ws := cmdWords 0x203 inst.toNat h
        [b0.toNat, b1.toNat, b2.toNat, b3.toNat, a1.toNat, a2.toNat, a3.toNat, reset.toNat]
      inst.toNat < 16 → s.accepts ws h.twoWire h.jbad.toNat → s.rdB (loopF Reg.loopStatSwpend inst.toNat) = false →
        ∃ t, exec (.loopCoef inst h b0 b1 b2 b3 a1 a2 a3 reset) s = .next t
          ∧ (∀ i < 7, t.rd (coefF inst.toNat (1 - s.rd (loopF Reg.loopStatBank inst.toNat)) i)
              = nth [b0.toNat, b1.toNat, b2.toNat, b3.toNat, a1.toNat, a2.toNat, a3.toNat] i % 2 ^ 24)
          ∧ t.rd (loopF Reg.loopStatSwpend inst.toNat) = 1 ∧ (t.lp inst.toNat).coefReset = bitOf reset.toNat 0
          ∧ t.waitsFor h.seq.toNat (.coef inst.toNat))
    ∧ (∀ imcfg lim mon shed : Word,
      let args := [imcfg.toNat, lim.toNat, mon.toNat, shed.toNat]
      let ws := cmdWords 0x300 inst.toNat h args
      let v := s.accepted ws h.twoWire
      let j := inst.toNat
      let pg := 0x050 + j / 4
      let off := 0x040 + 0x40 * (j % 4)
      j < 64 → s.accepts ws h.twoWire h.jbad.toNat → (∀ i < 4, rangeOk pg (off + 4 * i) (nth args i) = true) →
      ((List.range 4).foldl (fun t i => t.putWord pg (off + 4 * i) (nth args i)) v).phaseCheck j = none →
      s.retired 1 j = false → ((s.phLoop j).all fun n => s.loopSt n == 0) = true →
        ∃ t, exec (.phCfg inst h imcfg lim mon shed) s = .next t
          ∧ t.rd (phF Reg.phImcfgGain j) = bits imcfg.toNat 0 16 ∧ t.rd (phF Reg.phImcfgOfs j) = bits imcfg.toNat 16 16
          ∧ t.rd (phF Reg.phLimIpk j) = bits lim.toNat 0 12 ∧ t.rd (phF Reg.phMonImbpct j) = bits mon.toNat 0 8
          ∧ t.rd (phF Reg.phShedShedlvl j) = bits shed.toNat 0 11 ∧ t.waitsFor h.seq.toNat (s.commitWait pg))

/-- PEAK_CROSSING, STAGE_FAULT, IMONOPEN, REJOIN, DWELL_END, PARK_END and IMBALANCE_WINDOW (R174 to R181, R185, R186, R191). Where
the rules leave a point open it follows the model's own reading (log entries 81, 105 and 106). -/
def Obligations.PhaseCommands : Prop :=
  ∀ (s : State) (n : BitVec 6) (late : Bool), s.Inv →
    (phInSet (s.phSt n.toNat) = true → (s.phx n.toNat).cut = false →
      ∃ u, exec (.peakCrossing n) s = .next (s.follow u)
        ∧ u.rd (phF Reg.phCntPkcnt n.toNat) = sat 16 (s.rd (phF Reg.phCntPkcnt n.toNat) + 1) % 2 ^ 16
        ∧ u.rd (phF Reg.phStatPklim n.toNat) = 1
        ∧ u.phSt n.toNat = (if s.eff (phF Reg.phLimPkn n.toNat) ≤ (s.phx n.toNat).trunc + 1 then 5 else s.phSt n.toNat))
    ∧ (phInSet (s.phSt n.toNat) = true → s.effB (phF Reg.phMonStgen n.toNat) = true →
      ∃ u, exec (.stageFault n late) s = .next (s.follow u) ∧ u.phSt n.toNat = 5
        ∧ u.rd (phF Reg.phStatFaultkind n.toNat) = 3 ∧ u.rd (phF Reg.phFltusUs n.toNat) = s.us32
        ∧ (s.lUp = true → { src := 320 + n.toNat, kind := 3, detail := s.phDetail n.toNat % 2 ^ 32, us := s.us } ∈ u.tokenQ))
    ∧ (phInSet (s.phSt n.toNat) = true →
      ∃ u, exec (.imonopen n late) s = .next (s.follow u) ∧ u.phSt n.toNat = 6 ∧ u.retired 1 n.toNat = true
        ∧ u.rd (phF Reg.phStatFaultkind n.toNat) = 4)
    ∧ (s.phSt n.toNat = 5 → (s.phx n.toNat).rejoin = true → s.lUp = true →
      (s.phLoop n.toNat = none → ∃ u, exec (.rejoin n late) s = .next (s.follow u) ∧ u.phSt n.toNat = 0)
      ∧ ∀ k, s.phLoop n.toNat = some k → s.loopRunning k = true →
        ∃ u, exec (.rejoin n late) s = .next (s.follow u) ∧ (u.phx n.toNat).joinNext = true ∧ u.phSt n.toNat = 5)
    ∧ (∀ k, s.phLoop n.toNat = some k → s.phSt n.toNat = 2 → s.shedRuns k n.toNat = true → s.lastToShed k n.toNat = true →
      ∃ t, exec (.dwellEnd n late) s = .next t ∧ t.phSt n.toNat = 3)
    ∧ (∀ k, s.phLoop n.toNat = some k → s.phSt n.toNat = 3 → s.shedRuns k n.toNat = true →
        ((s.loopPhases k).any fun j => j != n.toNat && phInSet (s.phSt j)) = true →
      ∃ u, exec (.parkEnd n late) s = .next (s.follow u) ∧ u.phSt n.toNat = 4
        ∧ u.rd (phF Reg.phCntSheds n.toNat) = sat 8 (s.rd (phF Reg.phCntSheds n.toNat) + 1) % 2 ^ 8)
    ∧ (∀ lates, s.lUp = true → ∃ t, exec (.imbalanceWindow lates) s = .next t
        ∧ ∀ j < 64, t.rd (phF Reg.phImeasI j) = tw 16 (ssat 16 (qround (s.phMean j / 10))) ∧ (t.phx j).iN = 0
          ∧ t.phSt j = s.phSt j)

/-! ### Abacus, hold-up and balance (chapters 8 and 9) -/

/-- ABACUS_SETTLE, ENFORCEMENT_ISSUE and FEED_TRIM (chapters 2 and 8): a settle applies the ABC snapshots that are 2 µs old, closes
the samples of its cycle and forms figures that no order shows yet; the issue posts the orders of a settle that is on time, and
discards, counts and logs a late one; a trim slot starts its sums again, fails a write that is still on its way, and writes
VOUT_TRIM to a FEED module whose deviation calls for it. In hold none of them acts, and no trim is made while the fast path is
in force.

ABC_CAP and ROD_SET (R198, R220, R221): an admitted command holds its values in the shadow registers and waits for the settle
that applies them; one whose values are out of range, whose kind an active rod does not have, or whose floors exceed the budget
is refused. Where the rules leave a point open it follows the model's own reading (log entries 29, 49, 107 and 113). -/
def Obligations.Abacus : Prop :=
  (
  ∀ s : State, s.Inv →
    (s.lUp = false → exec .abacusSettle s = .next s ∧ exec .feedTrim s = .next s
      ∧ ∀ late slack, exec (.enforcementIssue late slack) s = .next s)
    ∧ (s.lUp = true → ∃ t, exec .abacusSettle s = .next t ∧ (t.abc.pend.map (·.us)) = some s.us ∧ t.abc.cycN = 0
        ∧ t.abc.sumN = s.abc.sumN + s.abc.cycN ∧ t.abc.span = s.abc.span + 1
        ∧ (∀ n < 16, t.rd (loopF Reg.loopAlimAlim n) = s.rd (loopF Reg.loopAlimAlim n))
        ∧ (∀ n < 48, t.rd (bayF Reg.bayAlimAlim n) = s.rd (bayF Reg.bayAlimAlim n))
        ∧ ∀ pg ∈ [0x060, 0x061, 0x062, 0x063], s.rdB (hdr Reg.pgCbusy pg) = true →
            (t.rdB (hdr Reg.pgCbusy pg) = false ↔ ∃ p ∈ s.snapUs, p.1 = pg ∧ p.2 + 2 ≤ s.us))
    ∧ (s.lUp = true → ∀ p : SettleP, s.abc.pend = some p → ∀ slack : BitVec 16,
      (∃ t, exec (.enforcementIssue true slack) s = .next t ∧ t.abc.pend = none ∧ t.abc.lateRun = s.abc.lateRun + 1
        ∧ t.bay = s.bay ∧ t.loop = s.loop ∧ t.rd (fabF Reg.fabAbclateCnt 0) = (s.rd (fabF Reg.fabAbclateCnt 0) + 1) % 2 ^ 32
        ∧ (s.abc.lateRun % 3 = 2 → { src := 20, kind := 0x2F, us := s.us } ∈ t.tokenQ))
      ∧ ∃ t, exec (.enforcementIssue false slack) s = .next t ∧ t.abc.pend = none ∧ t.abc.lateRun = 0
        ∧ t.rd (fabF Reg.fabAbcminMin 0) = min (s.rd (fabF Reg.fabAbcminMin 0)) slack.toNat
        ∧ (∀ n < 16, t.rd (loopF Reg.loopAlimAlim n) = lookupD p.lalim n 0xFFFF % 2 ^ 16)
        ∧ ∀ n < 48, s.bayRole n ≠ 3 → t.rd (bayF Reg.bayAlimAlim n) = lookupD p.balim n 0x1FF % 2 ^ 9)
    ∧ (s.lUp = true → s.abc.pend = none → ∀ late slack, exec (.enforcementIssue late slack) s = .next s)
    ∧ (s.holdup = true → exec .feedTrim s = .next s)
    ∧ (s.lUp = true → s.holdup = false → ∃ t, exec .feedTrim s = .next t
        ∧ (∀ n < 48, (vget t.bay n).trimN = 0 ∧ (vget t.bay n).trimP = 0
          ∧ ((vget s.bay n).trimTo.isSome = true → (vget t.bay n).trimTo = none ∧ t.rd (abc3F Reg.abcTrimTrimok n) = 0))
        ∧ ∀ b < 48, (∀ m < 48, m ≠ b → (vget s.bay m).trimTo = none ∧ (vget s.bay m).trimN = 0) → s.bayRole b = 0 →
            (vget s.bay b).trimTo = none → (vget s.bay b).trimN ≠ 0 → s.trimGoal b ≠ s.trimNow b → ∀ p addr : Nat,
            s.twModule b = some (p, addr) → s.twSt p = 1 → (s.twp p).run = none → (s.twp p).queue = [] →
          (vget t.bay b).trimTo = some (s.trimGoal b) ∧ ∃ x : Xact, (t.twp p).run = some x ∧ x.cls = 0 ∧ x.arg = b
            ∧ x.data = trimBytes b (s.trimGoal b) ∧ t.out = s.out ++ [.pmbus p addr 0x22 (s.xactBytes p x)]))
  ∧ (
  ∀ (s : State) (inst : BitVec 8) (h : CmdHdr), s.Inv →
    (∀ cap slew : Word, s.accepts (cmdWords 0x400 inst.toNat h [cap.toNat, slew.toNat]) h.twoWire h.jbad.toNat →
      (bits cap.toNat 0 24 ≤ 8388607 → ∃ t, exec (.abcCap inst h cap slew) s = .next t
        ∧ t.rd (abc0F Reg.abcCapCap 0) = bits cap.toNat 0 24 ∧ t.rd (abc0F Reg.abcCapslewSlew 0) = bits slew.toNat 0 16
        ∧ t.rdB (hdr Reg.pgCbusy 0x060) = true ∧ t.waitsFor h.seq.toNat (.settle 0x060 false))
      ∧ (8388607 < bits cap.toNat 0 24 → ∃ t, exec (.abcCap inst h cap slew) s = .next t ∧ t.statusOf h.seq.toNat = some (2, 2)
        ∧ t.rd (abc0F Reg.abcCapCap 0) = s.rd (abc0F Reg.abcCapCap 0)))
    ∧ (∀ cfg floor ceil enf : Word,
      let args := [cfg.toNat, floor.toNat, ceil.toNat, enf.toNat]
      let r := inst.toNat
      let kind := bits cfg.toNat 0 3
      let fl := s.floorsWith r kind (bits floor.toNat 0 24)
      let inRange := r < 64 ∧ (∀ i < 4, rangeOk 0x061 (0x040 + 0x10 * r + 4 * i) (nth args i) = true)
        ∧ (kind = 3 ∨ bits floor.toNat 0 24 ≤ bits ceil.toNat 0 24) ∧ (kind ≠ 0 ∨ s.rodMapped r = false)
      let allowed := (s.rodActive r = false ∨ kind = s.rodKind r)
        ∧ (fl ≤ s.rd (abc0F Reg.abcFloorsF 0) ∨ fl ≤ s.rd (abc0F Reg.abcBudgetB 0))
      s.accepts (cmdWords 0x401 inst.toNat h args) h.twoWire h.jbad.toNat →
        (inRange → allowed → ∃ t, exec (.rodSet inst h cfg floor ceil enf) s = .next t ∧ t.rd (abc1F Reg.rodCfgKind r) = kind
          ∧ t.rd (abc1F Reg.rodFloorFloor r) = bits floor.toNat 0 24 ∧ t.rd (abc1F Reg.rodCeilCeil r) = bits ceil.toNat 0 24
          ∧ t.rdB (hdr Reg.pgCbusy 0x061) = true ∧ t.waitsFor h.seq.toNat (.settle 0x061 false))
        ∧ (¬ (inRange ∧ allowed) → ∃ t, exec (.rodSet inst h cfg floor ceil enf) s = .next t
          ∧ (inRange → t.statusOf h.seq.toNat = some (2, 4)) ∧ (¬ inRange → t.statusOf h.seq.toNat = some (2, 2))
          ∧ (r < 64 → t.rd (abc1F Reg.rodFloorFloor r) = s.rd (abc1F Reg.rodFloorFloor r)))))

/-- HOLDUP_TRIGGER, HANDOVER, RECOVER_START, RECOVER_BREAK and EPISODE_END (R229, R231, R234, R236, R243, Table 9.1).

HLD_SET (R246): an admitted command holds its values in the shadow registers and waits for the commit. Where the rules leave a
point open it follows the model's own reading (log entries 27 and 55). -/
def Obligations.HoldUp : Prop :=
  (
  ∀ s : State, s.Inv →
    (∀ (bus : BitVec 10) (lvl slp : List (BitVec 10)) extra, s.islandUp = true → s.hldSt = 0 → s.effB (hldF Reg.hldCfgEn 0) = true →
        let b := busSamples bus lvl slp
        s.hldCause b ≠ 0 →
      ∃ u, exec (.holdupTrigger bus lvl slp extra) s = .next (s.follow u) ∧ u.hldSt = 1
        ∧ u.rd (hldF Reg.hldStatCause 0) = s.hldCause b ∧ u.rd (hldF Reg.hldTrigusUs 0) = s.us32
        ∧ (s.effB (hldF Reg.hldCfgLvlen 0) = true → 4 ≤ b.length →
            (s.hldCause b % 2 = 1 ↔ ∀ v ∈ b.take 4, v < s.eff (hldF Reg.hldLvlVhold 0)))
        ∧ u.rd (hldF Reg.hldVbusVbus 0) = bus.toNat ∧ u.rd (hldF Reg.hldNepisCnt 0) = sat 16 (s.rd (hldF Reg.hldNepisCnt 0) + 1) % 2 ^ 16
        ∧ ∀ k ∈ s.armedGroups, s.grpLoop k < 16 → (u.lp (s.grpLoop k)).held = true)
    ∧ (s.hldSt = 1 → ∃ u, exec .handover s = .next (s.follow u) ∧ u.hldSt = 2)
    ∧ (∀ (bus : BitVec 10) (lvl slp : List (BitVec 10)),
      s.hldSt = 2 → s.eff (hldF Reg.hldLvlVrec 0) < bus.toNat → s.hldCause (busSamples bus lvl slp) = 0 →
        ∃ t, exec (.recoverStart bus lvl slp) s = .next t ∧ t.hldSt = 3)
    ∧ (∀ (bus : BitVec 10) (lvl slp : List (BitVec 10)),
      s.hldSt = 3 → bus.toNat ≤ s.eff (hldF Reg.hldLvlVrec 0) ∨ s.hldCause (busSamples bus lvl slp) ≠ 0 →
        ∃ t, exec (.recoverBreak bus lvl slp) s = .next t ∧ t.hldSt = 2)
    ∧ (∀ late, s.hldSt = 3 → ∃ u, exec (.episodeEnd late) s = .next (s.follow u) ∧ u.hldSt = 0 ∧ u.rd (abc0F Reg.abcStatHoldup 0) = 0
        ∧ ∀ n < 16, (u.lp n).held = false))
  ∧ (
  ∀ (s : State) (inst : BitVec 8) (h : CmdHdr) (cfg lvl rate tgt pre0 pre1 pre2 pre3 : Word), s.Inv →
    let pre := [pre0.toNat, pre1.toNat, pre2.toNat, pre3.toNat]
    let ws := cmdWords 0x500 inst.toNat h ([cfg.toNat, lvl.toNat, rate.toNat, tgt.toNat] ++ pre)
    s.accepts ws h.twoWire h.jbad.toNat → rangeOk 0x066 0x040 cfg.toNat = true → rangeOk 0x066 0x044 lvl.toNat = true →
    rangeOk 0x066 0x048 rate.toNat = true → rangeOk 0x066 0x04C tgt.toNat = true →
    (∀ k < 8, rangeOk 0x066 (0x060 + 4 * k) (bits (nth pre (k / 2)) (16 * (k % 2)) 16) = true) →
    bits lvl.toNat 0 10 < bits lvl.toNat 16 10 →
    (∀ k < 8, (sx 16 (bits (nth pre (k / 2)) (16 * (k % 2)) 16)).natAbs ≤ s.eff (loopF Reg.loopIsclIfs (s.grpLoop k))) →
    (∀ k < 8, bitOf (bits cfg.toNat 8 8) k = true → s.effB (abc3F Reg.abcMapgrpEn k) = true) →
      ∃ t, exec (.hldSet inst h cfg lvl rate tgt pre0 pre1 pre2 pre3) s = .next t
        ∧ t.rd (hldF Reg.hldCfgGrpen 0) = bits cfg.toNat 8 8 ∧ t.rd (hldF Reg.hldLvlVhold 0) = bits lvl.toNat 0 10
        ∧ t.rd (hldF Reg.hldLvlVrec 0) = bits lvl.toNat 16 10 ∧ t.rd (hldF Reg.hldRateRect 0) = bits rate.toNat 24 8
        ∧ t.rd (hldF Reg.hldTgtTarget 0) = bits tgt.toNat 0 16
        ∧ (∀ k < 8, t.rd (hldF Reg.hldPreIpre k) = bits (nth pre (k / 2)) (16 * (k % 2)) 16)
        ∧ t.waitsFor h.seq.toNat (s.commitWait 0x066))

/-- BALANCE_CYCLE, BALANCE_WINDOW and TELEMETRY_READ (R41, R42, R247, R248, R252, R254): the raw figures of a settle enter the
window with their weight, a late cycle is void; a window that ends starts the sums again; READ_POUT is asked of the FEED
modules. Where the rules leave a point open it follows the model's own reading (log entries 6, 25 and 49). -/
def Obligations.BalanceCommands : Prop :=
  ∀ s : State, s.Inv → s.balRuns = true →
    (∀ raw, s.abc.raw = some raw → ∃ t, exec (.balanceCycle false) s = .next t ∧ t.bal.n = s.bal.n + raw.weight
        ∧ t.bal.sr = s.bal.sr + raw.weight * raw.r ∧ t.bal.srr = s.bal.srr + raw.weight * raw.r * raw.r
        ∧ t.bal.ss = s.bal.ss + raw.weight * raw.s ∧ t.abc.raw = none)
    ∧ (∃ t, exec (.balanceCycle true) s = .next t ∧ t.bal.void = s.bal.void + 1 ∧ t.bal.n = s.bal.n ∧ t.abc.raw = none
        ∧ t.rd (fabF Reg.fabBallateCnt 0) = (s.rd (fabF Reg.fabBallateCnt 0) + 1) % 2 ^ 32)
    ∧ (∃ t, exec .balanceWindow s = .next t ∧ t.bal.n = 0 ∧ t.bal.void = 0 ∧ t.bal.sr = 0 ∧ t.rd (bal0F Reg.balWinusUs 0) = s.us32
        ∧ ((s.bal.n = 0 ∨ 1000 < s.bal.void) → t.rd (bal0F Reg.balStatVoid 0) = 1
            ∧ t.rd (bal0F Reg.balNwinVoid 0) = sat 16 (s.rd (bal0F Reg.balNwinVoid 0) + 1) % 2 ^ 16))
    ∧ (∀ b p addr : Nat, s.effB (bal0F Reg.balCfgTelen 0) = true → (List.range 48).filter (fun n => s.bayRole n == 0) = [b] →
        s.twModule b = some (p, addr) → s.twSt p = 1 → (s.twp p).run = none → (s.twp p).queue = [] →
      ∃ t, exec .telemetryRead s = .next t ∧ t.out = s.out ++ [.pmbus p addr 0x96 []] ∧ t.twSt p = 2)

/-! ### Batteries (chapter 10) -/

/-- SOC_UPDATE, REST_POINT, CHARGE_TERMINATION, CUTOFF and PSEUDO_OCV (R257, R262 to R266, R269, R274): the reference points set the
anchor at the present count, with their uncertainty. Where the rules leave a point open it follows the model's own reading (log
entries 9 and 83). -/
def Obligations.BatteryReferences : Prop :=
  ∀ (s : State) (n : BitVec 5) (late : Bool), s.Inv →
    (s.estimates = true → ∃ t, exec .socUpdate s = .next t ∧ t.hld.euUs = s.us
        ∧ (∀ k ∈ s.strings, (t.bt k).count = (s.bt k).count ∧ t.rdB (batF Reg.batStatNotemp k) = (s.batTherms k).isEmpty
          ∧ (s.bt k).dchg - (t.bt k).dchg = (s.batQl k * (((s.bt k).dchg / (s.batQl k : Int)).toNat) : Nat))
        ∧ t.rd (hldF Reg.hldEuseE 0) = sat 32 (sumN (s.inService.map fun k => t.rd (batF Reg.batEuseE k))) % 2 ^ 32)
    ∧ (s.batRuns n.toNat = true →
      (∀ v, ∃ t, exec (.restPoint n v late) s = .next t ∧ (t.bt n.toNat).sinceUs = s.us ∧ (t.bt n.toNat).cntA = (s.bt n.toNat).count
        ∧ t.rd (batF Reg.batSocUnc n.toNat) = 10 ∧ t.rd (batF Reg.batStatPseudo n.toNat) = 0
        ∧ t.rd (batF Reg.batStatStale n.toNat) = 0 ∧ t.rd (batF Reg.batStatCountdis n.toNat) = 0)
      ∧ ((s.bt n.toNat).charged = true → ∃ t, exec (.chargeTermination n late) s = .next t ∧ t.rd (batF Reg.batStatFull n.toNat) = 1
        ∧ (t.bt n.toNat).socA = 100 ∧ (t.bt n.toNat).cntA = (s.bt n.toNat).count ∧ t.rd (batF Reg.batSocUnc n.toNat) = 10
        ∧ t.batLst n.toNat = if s.batLst n.toNat = 2 then 2 else 1)
      ∧ (∃ t, exec (.cutoff n late) s = .next t ∧ t.rdB (batF Reg.batStatEmpty n.toNat) = true ∧ (t.bt n.toNat).socA = 0
        ∧ (t.bt n.toNat).cntA = (s.bt n.toNat).count ∧ t.rd (batF Reg.batSocUnc n.toNat) = 10
        ∧ t.rd (batF Reg.batStatCountdis n.toNat) = 0)
      ∧ (∀ v, s.socV n.toNat = some v → s.rdB (batF Reg.batStatPseudo n.toNat) = true →
          s.rdB (batF Reg.batStatNotemp n.toNat) = false → 5 * s.batI n.toNat ≤ s.batC n.toNat →
          -(5 * s.batI n.toNat) ≤ s.batC n.toNat →
        ∃ t, exec (.pseudoOcv n) s = .next t ∧ (t.bt n.toNat).socA = s.socC n.toNat + (v - s.socC n.toNat) / 16
          ∧ (t.bt n.toNat).cntA = (s.bt n.toNat).count))

/-- STALE, ROTATION_DUE, LEARNING_PAUSE, OFFSET_CAL_START, OFFSET_CAL_END, IDENTITY_TRY, HISTOGRAM_UPDATE, RECORD_COMMIT and
ROTATION_REQUEST (R259, R267, R271, R277, R279, R281).

LEARN_ADMISSION_TIMEOUT, REST_ADMISSION_TIMEOUT and GDIS_HOLD_EXPIRY (R276, R283, R512). Where the rules leave a point open it
follows the model's own reading (log entries 18, 47, 83, 109 and 110). -/
def Obligations.BatteryTimers : Prop :=
  (
  ∀ (s : State) (n : BitVec 5) (late : Bool), s.Inv → s.batRuns n.toNat = true →
    (s.sinceReached n.toNat (3600000000 * s.eff (batF Reg.batTimeStaleh n.toNat)) = true →
      ∃ t, exec (.stale n late) s = .next t ∧ t.rd (batF Reg.batStatStale n.toNat) = 1 ∧ t.evtSet (0x070 + n.toNat) 2 = true)
    ∧ (s.effB (batF Reg.batTimeRoten n.toNat) = true →
        s.sinceReached n.toNat (86400000000 * s.eff (batF Reg.batTimeRotd n.toNat)) = true →
      ∃ t, exec (.rotationDue n late) s = .next t ∧ (t.bt n.toNat).due = true ∧ t.evtSet (0x070 + n.toNat) 2 = true)
    ∧ (s.batLst n.toNat = 2 → ∃ t, exec (.learningPause n late) s = .next t ∧ t.batLst n.toNat = 4
        ∧ t.rd (batF Reg.batStatLdq n.toNat) = 6)
    ∧ (s.batOpen n.toNat = true → ∃ t, exec (.offsetCalStart n) s = .next t ∧ (t.bt n.toNat).cal = true ∧ t = { s with bat := t.bat })
    ∧ (∀ mean : BitVec 20, (s.bt n.toNat).cal = true → s.batOpen n.toNat = true →
        mean.toInt.natAbs ≤ 16 * s.eff (batF Reg.batIsclOfsmax n.toNat) →
      ∃ t, exec (.offsetCalEnd n mean) s = .next t ∧ (t.bt n.toNat).cal = false
        ∧ t.rd (batF Reg.batOfsOfs n.toNat) = tw 16 (ssat 16 mean.toInt) ∧ t.rd (batF Reg.batOfsOfsok n.toNat) = 1)
    ∧ (∀ k p a : Nat, (s.bt n.toNat).tries = some k → k < 3 → s.twModule (s.batBay n.toNat) = some (p, a) → s.twSt p = 1 →
        (s.twp p).run = none → (s.twp p).queue = [] →
      ∃ t, exec (.identityTry n late) s = .next t ∧ (t.bt n.toNat).tries = some (k + 1) ∧ t.out = s.out ++ [.pmbus p a 0x9E []])
    ∧ (s.batEn n.toNat = true → s.batSvc n.toNat ≠ 0 →
      ∃ t, exec .histogramUpdate s = .next t
        ∧ t.rd (batFk Reg.batHsS n.toNat (min 9 ((qtrunc (s.socRep n.toNat)).toNat / 10)))
          = sat 32 (s.rd (batFk Reg.batHsS n.toNat (min 9 ((qtrunc (s.socRep n.toNat)).toNat / 10))) + 10) % 2 ^ 32
        ∧ t.rd (batF Reg.batXvVmax n.toNat) = max (s.sv (256 + n.toNat)) (s.rd (batF Reg.batXvVmax n.toNat)) % 2 ^ 16)
    ∧ (s.recDue = true → ∃ t, exec .recordCommit s = .next t ∧ t.recDue = false ∧ t.recUs = s.us ∧ t.recsNvm = t.recs)
    ∧ (∀ m, s.abc.restAsk = none → s.abc.rest = none → s.effB (pol0F Reg.polHpmBat 0) = false →
        (s.batMod n.toNat fun b => { b with again := false }).restPick = some m →
      ∃ t, exec (.rotationRequest n) s = .next t ∧ t.abc.restAsk = some m ∧ (t.bt m).rest = 1))
  ∧ (
  ∀ s : State, s.Inv →
    (∀ g : BitVec 3, (s.move g.toNat).on = false →
      ∃ t, exec (.learnAdmissionTimeout g) s = .next t ∧ t.move g.toNat = {}
        ∧ ∀ (seq : Nat) (e : JEntry), s.jFind seq = some e → ∀ n : Nat, e.applied = true → e.status = none → e.wait = .learn n →
            s.batGroup n = g.toNat → t.statusOf seq = some (2, 4))
    ∧ (∀ n : BitVec 5, (s.bt n.toNat).rest = 2 →
      let waiting := s.jnl.filter fun e => e.applied && e.wait == .restOpen n.toNat
      ∃ t, exec (.restAdmissionTimeout n) s = .next t
        ∧ (waiting.length ≤ 1 → (t.bt n.toNat).rest = 0 ∧ t.abc.restAsk ≠ some n.toNat ∧ n.toNat ∉ t.abc.restWait)
        ∧ (2 ≤ waiting.length → (t.bt n.toNat).rest = 2 ∧ t.abc.restAsk = s.abc.restAsk)
        ∧ ∀ (e : JEntry) (r : List JEntry), waiting = e :: r → e.status = none → s.jFind e.seq = some e →
            t.statusOf e.seq = some (2, 4))
    ∧ (∀ g : BitVec 3, s.effB (pol0F Reg.polHpmBat 0) = true →
      ∃ t, exec (.gdisHoldExpiry g) s = .next t ∧ t.rd (abc0F Reg.abcGdisDis g.toNat) = 0 ∧ t.rd (abc0F Reg.abcGchgChg g.toNat) = 0
        ∧ onlyRegs s t [abc0F Reg.abcGdisDis g.toNat, abc0F Reg.abcGchgChg g.toNat]))

/-- BAT_LEARN and BAT_REST, with and without ABORT (R276, R277, R283). Where the rules leave a point open it follows the model's own
reading (log entries 83 and 111). -/
def Obligations.BatteryCommands : Prop :=
  ∀ (s : State) (inst : BitVec 8) (h : CmdHdr) (x : Word), s.Inv → inst.toNat < 24 → s.inRun = true →
    (∀ k : Nat,
      s.accepts (cmdWords 0x600 inst.toNat h [0, x.toNat]) h.twoWire h.jbad.toNat → s.retired 0 (s.batBay inst.toNat) = false →
      s.batEn inst.toNat = true → s.batGroup inst.toNat < 8 → s.groupLoop (s.batGroup inst.toNat) = some k → s.loopCur k = true →
      s.loopRunning k = true → (s.move (s.batGroup inst.toNat)).on = false → (s.move (s.batGroup inst.toNat)).ask = false →
      s.groupRests (s.batGroup inst.toNat) = false →
      (∀ m ∈ s.groupStrings (s.batGroup inst.toNat), s.rdB (batF Reg.batStatFull m) = true) → s.coreUp 1 = true →
        ∃ t, exec (.batLearn inst h x) s = .next t ∧ (t.move (s.batGroup inst.toNat)).ask = true
          ∧ (t.move (s.batGroup inst.toNat)).pow = 80 * bits x.toNat 0 16 ∧ t.waitsFor h.seq.toNat (.learn inst.toNat))
    ∧ (s.accepts (cmdWords 0x600 inst.toNat h [1, x.toNat]) h.twoWire h.jbad.toNat → s.batEn inst.toNat = true →
      (s.move (s.batGroup inst.toNat)).on = true →
        ∃ t, exec (.batLearnAbort inst h x) s = .next t ∧ (t.move (s.batGroup inst.toNat)).on = false
          ∧ t.statusOf h.seq.toNat = some (0, 0))
    ∧ (s.accepts (cmdWords 0x601 inst.toNat h [0, x.toNat]) h.twoWire h.jbad.toNat → s.retired 0 (s.batBay inst.toNat) = false →
      s.batEn inst.toNat = true → s.batSvc inst.toNat = 2 → s.abc.rest = none → (s.move (s.batGroup inst.toNat)).on = false →
        ∃ t, exec (.batRest inst h x) s = .next t ∧ (t.bt inst.toNat).rest = 2 ∧ t.waitsFor h.seq.toNat (.restOpen inst.toNat)
          ∧ ((s.bt inst.toNat).rest ≠ 2 → s.abc.restAsk.all (fun m => (s.bt m).rest != 2) = true → t.abc.restAsk = some inst.toNat)
          ∧ ∀ m, s.abc.restAsk = some m → (s.bt m).rest = 2 →
              t.abc.restAsk = some m
                ∧ t.abc.restWait = s.abc.restWait ++ (if (s.bt inst.toNat).rest = 2 then [] else [inst.toNat]))
    ∧ (let ws := cmdWords 0x601 inst.toNat h [1, x.toNat]
      let v := s.accepted ws h.twoWire
      s.accepts ws h.twoWire h.jbad.toNat → (s.bt inst.toNat).rest = 3 →
        ∃ u, exec (.batRestAbort inst h x) s = .next (v.follow u) ∧ (u.bt inst.toNat).rest = 0
          ∧ u.statusOf h.seq.toNat = some (0, 0))

/-! ### Survey and temperature (chapters 1, 10 and 18) -/

/-- SURVEY_SAMPLE (R10, R11, R257, R258): the code of a channel is held, the reading of the bus monitor is shown, and the coulomb
counter of an enabled string takes the sample, with its residue.

DIE_TEMP_SAMPLE (R477 to R480), LDIE_POWER_DOWN (R482), HARD_TRIP (R483) and THERMISTOR_UPDATE (R484). Where the rules leave a
point open it follows the model's own reading (log entries 31, 32, 50 and 83). -/
def Obligations.SurveyAndThermal : Prop :=
  (
  ∀ (s : State) (c : BitVec 9) (v : BitVec 16) (bus : BitVec 10) (lvl slp : List (BitVec 10)), s.Inv → s.islandUp = true → c.toNat < 384 →
    svReserved c.toNat = false → s.retired 2 c.toNat = false →
      ∃ u, exec (.surveySample [(c, v)] bus lvl slp) s = .next (s.follow u) ∧ u.sv c.toNat = v.toNat
        ∧ (∀ d, d ≠ c.toNat → d < 384 → u.sv d = s.sv d) ∧ u.rd (hldF Reg.hldVbusVbus 0) = bus.toNat
        ∧ ∀ n < 24, c.toNat = 280 + n → s.batEn n = true →
            (u.bt n).count = iclamp (-(2 ^ 39 - 1)) (2 ^ 39 - 1)
              ((s.bt n).count + Int.tdiv ((s.bt n).res + s.batIx n v.toNat) 16000000000)
            ∧ (u.bt n).res = Int.tmod ((s.bt n).res + s.batIx n v.toNat) 16000000000)
  ∧ (
  ∀ s : State, s.Inv → s.islandUp = true →
    (∀ (a b : BitVec 16) (late : Bool), s.rdB (hdr Reg.pgCbusy 0x0B0) = false → s.anyBroken = false → s.thmLevel = 0 →
        -480 ≤ a.toInt → a.toInt ≤ 1600 → -480 ≤ b.toInt → b.toInt ≤ 1600 →
      ∃ u, exec (.dieTempSample (some a) (some b) late) s = .next (s.follow u)
        ∧ u.dieTemp 0 = a.toInt ∧ u.dieTemp 1 = b.toInt
        ∧ u.thmLevel = if s.lvl8 Reg.thmLvlWarn ≤ max a.toInt b.toInt then 1 else 0)
    ∧ (∀ late, s.sys.grace.isSome = true → ∃ t, exec (.ldiePowerDown late) s = .next t ∧ t.rd (thmF Reg.thmStatLoff 0) = 1
        ∧ t.sys.grace = none ∧ t.mem = [])
    ∧ (s.rdB (thmF Reg.thmStatHardtrip 0) = false →
      ∃ t, exec .hardTrip s = .next t ∧ t.mode = .hold ∧ t.rd (thmF Reg.thmStatHardtrip 0) = 1 ∧ t.thmLevel = 4
        ∧ (∀ n < 48, t.bayClosed n = false) ∧ (∀ n < 16, t.loopRunning n = false))
    ∧ (∀ (v : List (BitVec 22)) (n : Nat), n < 32 → s.effB (thmF Reg.thmCfgEn n) = true → s.retired 2 (304 + n) = false →
      ∃ t, exec (.thermistorUpdate v) s = .next t
        ∧ (∀ d, thermistor ((v.getD n 0).toNat) (s.eff (thmF Reg.thmCfgR26 n)) (s.eff (thmF Reg.thmCfgBeta n)) = some d →
            t.rd (thmF Reg.thmMonTemp n) = tw 16 d ∧ t.rd (thmF Reg.thmMonValid n) = 1)
        ∧ (thermistor ((v.getD n 0).toNat) (s.eff (thmF Reg.thmCfgR26 n)) (s.eff (thmF Reg.thmCfgBeta n)) = none →
            t.rd (thmF Reg.thmMonValid n) = 0)))

/-! ### Built-in self-test (chapter 20) -/

/-- BIST_START in its three tests (R498 to R504): an admitted command starts its test and waits for the result; the logic test takes
the device into hold.

LOGIC_BIST_END, MEMORY_BIST_END, PDIE_BIST_END and BOOT_PRESENCE_DEBOUNCE_END (R499, R501, R503, R528). Where the rules leave a
point open it follows the model's own reading (log entries 22, 33 and 34). -/
def Obligations.SelfTest : Prop :=
  (
  ∀ (s : State) (inst : BitVec 8) (h : CmdHdr) (arg0 bound : Word), s.Inv →
    (let ws := cmdWords 0xC00 inst.toNat h [withTest arg0 0, bound.toNat]
      let v := s.accepted ws h.twoWire
      s.accepts ws h.twoWire h.jbad.toNat → v.bistRefused (s.appliedEntry ws h.twoWire) = none →
        ∃ t, exec (.bistLogic inst h arg0 bound) s = .next t ∧ t.mode = .hold ∧ t.sys.bist = some (0, 0, h.seq.toNat, s.us)
          ∧ t.rd (kaiF Reg.kaiStatHoldcause 0) = 5)
    ∧ (let ws := cmdWords 0xC00 inst.toNat h [withTest arg0 1, bound.toNat]
      let v := s.accepted ws h.twoWire
      s.accepts ws h.twoWire h.jbad.toNat → v.bistRefused (s.appliedEntry ws h.twoWire) = none →
        ∃ t, exec (.bistMemory inst h arg0 bound) s = .next t
          ∧ t.sys.bist = some (1, bits arg0.toNat 8 7, h.seq.toNat, s.us)
          ∧ t.rd (memF Reg.memOwnOwner (bits arg0.toNat 8 7)) = 7 ∧ t.waitsFor h.seq.toNat .bist)
    ∧ (let ws := cmdWords 0xC00 inst.toNat h [withTest arg0 (max 2 (arg0.toNat % 8)), bound.toNat]
      let v := s.accepted ws h.twoWire
      s.accepts ws h.twoWire h.jbad.toNat → v.bistRefused (s.appliedEntry ws h.twoWire) = none →
        ∃ t, exec (.bistPdie inst h arg0 bound) s = .next t ∧ t.sys.bist = some (2, 0, h.seq.toNat, s.us)
          ∧ t.waitsFor h.seq.toNat .bist))
  ∧ (
  ∀ (s : State) (sig : Option (BitVec 64)), s.Inv →
    (∀ b seq t0, s.sys.bist = some (0, b, seq, t0) → s.mode = .hold →
      ∃ t, exec (.logicBistEnd sig) s = .next t ∧ t.sys.logic = some (seq, bistSig 0 0 sig, s.us - t0) ∧ t.sys.bist = none)
    ∧ (∀ fail m seq t0, s.sys.bist = some (1, m, seq, t0) → s.lUp = true → s.rdB (bistF Reg.bistStatPaused 0) = false → m < 80 →
      ∃ t, exec (.memoryBistEnd sig fail) s = .next t ∧ t.sys.bist = none ∧ t.rd (memF Reg.memOwnOwner m) = 0
        ∧ (∀ a, wordAddr m 0 ≤ a → a < wordAddr m (bankWords m) → t.mem.byte a = 0)
        ∧ (∀ a, (a < wordAddr m 0 ∨ wordAddr m (bankWords m) ≤ a) → t.mem.byte a = s.mem.byte a)
        ∧ t.rdB (bistF Reg.bistStatPass 0) = (fail.isNone && bistSig 1 m sig == bistExpected 1 m))
    ∧ (∀ dur, s.mode = .boot → s.sys.pdie = none →
      ∃ t, exec (.pdieBistEnd sig dur) s = .next t
        ∧ t.sys.pdie = some (bistSig 2 0 sig == bistExpected 2 0, bistSig 2 0 sig, dur.toNat)
        ∧ t.mode = if (bistSig 2 0 sig == bistExpected 2 0) && s.sys.present then .hold else .boot)
    ∧ (∀ dur b seq t0, s.mode = .bench → s.sys.bist = some (2, b, seq, t0) → s.rdB (bistF Reg.bistStatPaused 0) = false →
      ∃ t, exec (.pdieBistEnd sig dur) s = .next t ∧ t.rdB (kaiF Reg.kaiStatPdfail 0) = !(bistSig 2 0 sig == bistExpected 2 0)
        ∧ t.sys.bist = none)
    ∧ (s.mode = .boot → s.sys.present = false →
      ∀ vins, ∃ t, exec (.bootPresenceDebounceEnd vins) s = .next t ∧ t.sys.present = true
        ∧ ∀ n < 48, s.bayRole n ≠ 3 → t.rdB (bayF Reg.bayStatPresent n) = ((vget s.bay n).alt != 0)))

/-! ### Flights (chapter 12) -/

/-- FLIGHT_RUN, with ACTION CONTINUE and ABORT (R331, R349): an admitted command runs its flight on a common start 50 µs ahead, goes
on from a landing, or stops it. Shown on a flight that no other device orders or is ordered.

SLOT, LANDING, UP_DEADLINE, DOWN_DEADLINE and RETURN_WAIT_END (R330 to R337, R341). Where the rules leave a point open it
follows the model's own reading (log entries 56, 57, 68 and 117). -/
def Obligations.Flights : Prop :=
  (
  ∀ (s : State) (inst : BitVec 8) (h : CmdHdr) (bound : Word), s.Inv → inst.toNat < 8 →
    (∀ action : Word, s.accepts (cmdWords 0x800 inst.toNat h [action.toNat, bound.toNat]) h.twoWire h.jbad.toNat → bits action.toNat 0 3 < 3 →
      (s.included inst.toNat).any (s.treadBad inst.toNat) = false → s.depsBad inst.toNat = false → s.runRefused inst.toNat = false →
      s.fansOut inst.toNat = false → s.included inst.toNat ≠ [] →
      let down := if bits action.toNat 0 3 = 0 then s.effB (flF Reg.flCfgDir inst.toNat) else bits action.toNat 0 3 == 2
        ∃ t, exec (.flightRun inst h action bound) s = .next t ∧ t.flState inst.toNat = (if down then 2 else 1)
          ∧ t.rd (flF Reg.flT0Us inst.toNat) = (s.us + 50) % 2 ^ 32 ∧ t.flDown inst.toNat = down
          ∧ (t.flx inst.toNat).treads.map (·.ent) = s.included inst.toNat ∧ t.waitsFor h.seq.toNat (.flight inst.toNat))
    ∧ (s.accepts (cmdWords 0x800 inst.toNat h [3, bound.toNat]) h.twoWire h.jbad.toNat → s.flState inst.toNat = 3 → s.mode ≠ .bench →
      s.fansIn inst.toNat = false → s.fansOut inst.toNat = false → (s.flx inst.toNat).judged = false →
        ∃ t, exec (.flightContinue inst h bound) s = .next t ∧ t.flState inst.toNat = (if s.flDown inst.toNat then 2 else 1)
          ∧ t.rd (flF Reg.flT0Us inst.toNat) = (s.rd (flF Reg.flT0Us inst.toNat) + (s.us - (s.flx inst.toNat).landUs)) % 2 ^ 32
          ∧ t.waitsFor h.seq.toNat (.flight inst.toNat))
    ∧ (s.accepts (cmdWords 0x800 inst.toNat h [4, bound.toNat]) h.twoWire h.jbad.toNat → s.flState inst.toNat ≠ 0 →
      s.fansOut inst.toNat = false →
        ∃ t, exec (.flightAbort inst h bound) s = .next t ∧ t.flState inst.toNat = 0 ∧ (t.flx inst.toNat).treads = []
          ∧ t.statusOf h.seq.toNat = some (0, 0)))
  ∧ (
  ∀ (s : State) (f : BitVec 3) (late : Bool), s.Inv → s.lUp = true →
    (∀ (tm : BitVec 24) (e : Nat), s.flState f.toNat = 1 → s.flDown f.toNat = false → e < 96 → (vget s.rail e).on = false →
        ((s.flx f.toNat).treads.filter fun x => x.slot == tm.toNat && x.at_ == 0).map (·.ent) = [e] → s.remoteParents f.toNat e = [] →
      ∃ u, exec (.slot f tm false) s = .next (s.follow u) ∧ (vget u.rail e).on = true
        ∧ (u.treadAt f.toNat e = some 1 ∨ u.treadAt f.toNat e = some 2))
    ∧ (∀ tm, ∃ t, exec (.slot f tm true) s = .next t ∧ t.rd (fabF Reg.fabSeqlateCnt 0) = (s.rd (fabF Reg.fabSeqlateCnt 0) + 1) % 2 ^ 32
        ∧ t.fl = s.fl ∧ t.rail = s.rail)
    ∧ (∀ (k : BitVec 4) (mark : Nat) (stop : Bool),
        (s.flx f.toNat).lands.find? (fun p => p.1 == k.toNat) = some (k.toNat, mark, stop) →
        s.flState f.toNat = 1 ∨ s.flState f.toNat = 2 →
      ∃ t, exec (.landing f k) s = .next t ∧ t.rd (flF Reg.flStatLanding f.toNat) = k.toNat
        ∧ t.flState f.toNat = (if stop then 3 else s.flState f.toNat)
        ∧ (t.flx f.toNat).lands = (s.flx f.toNat).lands.filter (fun p => p.1 != k.toNat))
    ∧ (∀ e : BitVec 8, e.toNat < 160 → s.judging f.toNat = true → s.flDown f.toNat = false → s.treadAt f.toNat e.toNat = some 1 →
      ∃ u, exec (.upDeadline f e late) s = .next (s.follow u) ∧ u.est e.toNat = 6
        ∧ (e.toNat < 96 → (vget u.rail e.toNat).on = false))
    ∧ (∀ e : BitVec 8, e.toNat < 160 → s.judging f.toNat = true → s.flDown f.toNat = true → s.treadAt f.toNat e.toNat = some 1 →
      ∃ t, exec (.downDeadline f e late) s = .next t ∧ t.est e.toNat = 8)
    ∧ (s.flState f.toNat = 4 → (s.flx f.toNat).cond = false →
      ∃ u, exec (.returnWaitEnd f false) s = .next (s.follow u) ∧ u.flState f.toNat = 0)
    ∧ (∀ p : Nat, s.flState f.toNat = 4 → (s.flx f.toNat).cond = true → s.eff (flF Reg.flCfgPair f.toNat) = p → p < 8 →
        p ≠ f.toNat → s.fansIn p = false →
      ∃ u, exec (.returnWaitEnd f false) s = .next (s.follow u) ∧ u.rd (flF Reg.flT0Us p) = (s.us + 50) % 2 ^ 32
        ∧ u.rd (flF Reg.flStatDevstart p) = 1 ∧ u.flDown p = false))

/-- RAIL_GOOD, RAIL_GOOD_LOST, RAIL_OV and RAIL_FALLEN (R322, R324 to R326, R337): each where the rail's last sample stands at the
level that the event tells of (DEDUCED, log entry 117), and with no effect where it does not. Where the rules leave a point open
it follows the model's own reading (log entries 5, 86 and 117). -/
def Obligations.RailCommands : Prop :=
  ∀ (s : State) (n : BitVec 7) (late : Bool), s.Inv → s.railJudged n.toNat = true →
    let mon := s.sv (160 + n.toNat)
    let uv := 16 * s.eff (seq0F Reg.seqRailLvlUv n.toNat)
    let ov := 16 * s.eff (seq0F Reg.seqRailLvlOv n.toNat)
    let off := 16 * s.eff (seq0F Reg.seqRailLvl2Off n.toNat)
    ((vget s.rail n.toNat).good = false → uv < mon → mon < ov →
      ∃ t, exec (.railGood n late) s = .next t ∧ (vget t.rail n.toNat).good = true ∧ (vget t.rail n.toNat).fell = false
        ∧ t.rd (seq7F Reg.seqEstGood n.toNat) = 1)
    ∧ (mon ≤ uv ∨ ov ≤ mon → exec (.railGood n late) s = .next s)
    ∧ ((vget s.rail n.toNat).good = true → mon ≤ uv →
      ∃ t, exec (.railGoodLost n late) s = .next t ∧ (vget t.rail n.toNat).good = false ∧ t.rd (seq7F Reg.seqEstGood n.toNat) = 0)
    ∧ (uv < mon → exec (.railGoodLost n late) s = .next s)
    ∧ (s.lUp = true → ov ≤ mon → s.effB (seq0F Reg.seqEntOvoff n.toNat) = false →
      ∃ t, exec (.railOv n late) s = .next t ∧ (vget t.rail n.toNat) = (vget s.rail n.toNat)
        ∧ { src := 576 + n.toNat, kind := 5, detail := s.entDetail n.toNat % 2 ^ 32, us := s.us } ∈ t.tokenQ)
    ∧ (s.lUp = true → ov ≤ mon → s.effB (seq0F Reg.seqEntOvoff n.toNat) = true →
      ∃ u, exec (.railOv n late) s = .next (s.follow u) ∧ (vget u.rail n.toNat).on = false)
    ∧ (mon < ov → exec (.railOv n late) s = .next s)
    ∧ ((vget s.rail n.toNat).fell = false → mon < off →
      ∃ t, exec (.railFallen n) s = .next t ∧ (vget t.rail n.toNat).fell = true
        ∧ (s.lUp = true → s.est n.toNat = 5 ∨ s.est n.toNat = 8 → t.est n.toNat = 0))

/-! ### The Iddex link (chapter 13) -/

/-- SYNC_PULSE, SYNC_EDGE, SYNC_EDGE_MISSED, IDDEX_SLOT and IDDEX_FRAME_DISCARDED (R355, R357 to R359).

MASTER_FRAME, SLAVE_FRAME, ORDER_ACK_DEADLINE, PEER_LOST and PGRACE_END (R360, R365 to R369): a valid frame marks its sender
present and gives its states; a peer that is lost is shown and raises its token. Where the rules leave a point open it follows
the model's own reading (log entries 44 and 118). -/
def Obligations.Iddex : Prop :=
  (
  ∀ s : State, s.Inv → s.lUp = true →
    (s.rdB (idxF Reg.idxStatMaster 0) = true → s.us % 1000 = 0 →
      ∃ t, exec .syncPulse s = .next t ∧ t.out = s.out ++ [.iddexSync] ∧ t.idx.edge = s.us ∧ t.regs = s.regs)
    ∧ (∀ err : BitVec 16, s.rdB (idxF Reg.idxStatMaster 0) = false →
      ∃ t, exec (.syncEdge err) s = .next t ∧ t.rd (idxF Reg.idxAlignErr 0) = err.toNat ∧ t.idx.edge = s.us ∧ t.idx.misses = 0
        ∧ t.idx.hits = s.idx.hits + 1 ∧ (2 ≤ s.idx.hits → t.rdB (idxF Reg.idxStatSyncok 0) = true))
    ∧ (∀ late, s.rdB (idxF Reg.idxStatMaster 0) = false →
      ∃ t, exec (.syncEdgeMissed late) s = .next t ∧ t.idx.edge = s.idx.edge + 1000 ∧ t.idx.hits = 0
        ∧ t.rd (idxF Reg.idxNerrSyncmiss 0) = sat 16 (s.rd (idxF Reg.idxNerrSyncmiss 0) + 1) % 2 ^ 16
        ∧ (2 ≤ s.idx.misses → t.rdB (idxF Reg.idxStatSyncok 0) = false))
    ∧ (∀ wrong, s.idxUp = true → s.rdB (idxF Reg.idxStatAddrconf 0) = false →
      ∃ t, exec (.iddexSlot wrong) s = .next t ∧ .iddexFrame s.frame ∈ t.out ∧ t.idx.fcnt = (s.idx.fcnt + 1) % 256)
    ∧ (∀ (slot : BitVec 4) (frame : List Byte), s.idxUp = true →
      (idxFrameBad slot.toNat (frame.map (·.toNat)) = true → ∃ t, exec (.iddexFrameDiscarded slot frame) s = .next t
          ∧ t.rd (idxF Reg.idxNerrCrc 0) = sat 16 (s.rd (idxF Reg.idxNerrCrc 0) + 1) % 2 ^ 16 ∧ onlyRegs s t [idxF Reg.idxNerrCrc 0])
      ∧ (idxFrameBad slot.toNat (frame.map (·.toNat)) = false → exec (.iddexFrameDiscarded slot frame) s = .next s)))
  ∧ (
  ∀ s : State, s.Inv → s.idxUp = true →
    (∀ payload : List Byte, payload.length = 64 → s.rdB (idxF Reg.idxStatMaster 0) = false → s.retired 6 0 = false →
        nth (payload.map (·.toNat)) 48 = 0 →
      ∃ u, exec (.masterFrame payload) s = .next (State.remoteFollow s u) ∧ u.rd (idxF Reg.idxPeerHeard 0) = 1
        ∧ u.rd (idxF Reg.idxPeerLost 0) = 0 ∧ u.rd (idxF Reg.idxPeerAge 0) = 0
        ∧ ∀ w < 12, u.rd (idxF Reg.idxRemW w) = sumN ((List.range 4).map fun j => nth (payload.map (·.toNat)) (4 * w + j) * 256 ^ j))
    ∧ (∀ (src : BitVec 4) (payload : List Byte), payload.length = 56 → src ≠ 0 → src.toNat ≠ s.idxAddr → s.retired 6 src.toNat = false →
      ∃ u, exec (.slaveFrame src payload) s = .next (State.remoteFollow s u) ∧ u.rd (idxF Reg.idxPeerHeard src.toNat) = 1
        ∧ u.rd (idxF Reg.idxPeerLost src.toNat) = 0
        ∧ ∀ w < 12, u.rd (idxF Reg.idxRemW (12 * src.toNat + w))
            = if s.hasMaster then sumN ((List.range 4).map fun j => nth (payload.map (·.toNat)) (4 * w + j) * 256 ^ j)
              else s.rd (idxF Reg.idxRemW (12 * src.toNat + w)))
    ∧ (∀ f : BitVec 3, s.idxMaster = true → (s.flx f.toNat).own = none →
      ∃ t, exec (.orderAckDeadline f) s = .next t
        ∧ (t.flx f.toNat).slaves = (s.flx f.toNat).slaves.map (fun p => if p.2 = 0 then (p.1, 6) else p) ∧ t.regs = s.regs)
    ∧ (∀ (a : BitVec 4) (late : Bool), a.toNat ≠ s.idxAddr → s.retired 6 a.toNat = false → s.rdB (idxF Reg.idxPeerLost a.toNat) = false →
        (s.rdB (idxF Reg.idxPeerHeard a.toNat) || bitOf (s.eff (idxF Reg.idxPeersExpect 0)) a.toNat) = true →
      ∃ t, exec (.peerLost a late) s = .next t ∧ t.rd (idxF Reg.idxPeerLost a.toNat) = 1 ∧ t.rd (idxF Reg.idxPeerHeard a.toNat) = 0
        ∧ { src := 784 + a.toNat, kind := 1, detail := 0, us := s.us } ∈ t.tokenQ ∧ t.evtSet 0x098 2 = true)
    ∧ (∀ a : BitVec 4, s.hasMaster = true → s.rdB (idxF Reg.idxPeerLost a.toNat) = true →
        s.rdB (idxF Reg.idxPeerBaded a.toNat) = false →
      ∃ u, exec (.pgraceEnd a) s = .next (State.remoteFollow s u) ∧ u.rd (idxF Reg.idxPeerBaded a.toNat) = 1))

/-! ### Tie ports (chapter 11) -/

/-- DRP_TOGGLE, TS_CLASS_CHANGE, ATTACH, ACCESSORY_ATTACH, DETACH and MOISTURE_MEASUREMENT (R289 to R296, Table 11.6): the state
that a sample of the two lines leads to, the presence of the tie bay, and the end of a contract with its cable.

TIE_HARD_RESET, BREACH, BREACH_LIMIT_END and BREACH_RECOVERY (R310 to R313, R315): a hard reset ends the contract and restores
the default role in every state that signals, and opens a bay that is ON or in LIMIT for 25 ms. Where the rules leave a point
open it follows the model's own reading (log entries 45, 58 and 114). -/
def Obligations.TieDetection : Prop :=
  (
  ∀ (s : State) (n : BitVec 2) (ts1 ts2 : BitVec 10) (late : Bool), s.Inv → s.tieUp n.toNat = true → s.tieBay n.toNat < 48 →
    let a := s.tieSample n.toNat ts1.toNat ts2.toNat
    (s.tieState n.toNat = 0 → s.eff (tieF Reg.tieCfgDrp n.toNat) = 2 →
      (a.tieSeen n.toNat ≠ 0 → s.rd (tieF Reg.tieStatMoist n.toNat) ≠ 2 → ∃ t, exec (.drpToggle n ts1 ts2) s = .next t
        ∧ t.tieState n.toNat = 1 ∧ t.tieSource n.toNat = s.tieSource n.toNat)
      ∧ (a.tieSeen n.toNat = 0 ∨ s.rd (tieF Reg.tieStatMoist n.toNat) = 2 →
        ∃ t, exec (.drpToggle n ts1 ts2) s = .next t ∧ t.tieState n.toNat = 0 ∧ t.tieSource n.toNat = !s.tieSource n.toNat))
    ∧ (∃ t, exec (.tsClassChange n ts1 ts2) s = .next t ∧ t.rd (tieF Reg.tieTsvTs1 n.toNat) = ts1.toNat
        ∧ t.rd (tieF Reg.tieTsvTs2 n.toNat) = ts2.toNat
        ∧ t.tieState n.toNat = (if s.tieState n.toNat = 0 then b2n (a.tieSeen n.toNat != 0 && s.rd (tieF Reg.tieStatMoist n.toNat) != 2)
          else if s.tieState n.toNat = 1 then b2n (a.tieSeen n.toNat == s.tieSeen n.toNat) else s.tieState n.toNat))
    ∧ (s.tieState n.toNat = 1 → s.rd (tieF Reg.tieStatMoist n.toNat) ≠ 2 →
      (s.tieSeen n.toNat = 1 → a.tieSeen n.toNat = 1 →
        ∃ t, exec (.attach n ts1 ts2 late) s = .next t ∧ t.tieState n.toNat = 3 ∧ t.tieSource n.toNat = s.tieRoleNow n.toNat
          ∧ t.rd (tieF Reg.tieStatPartner n.toNat) = (if s.tieRoleNow n.toNat then 2 else 1)
          ∧ t.rdB (tieF Reg.tieStatMarked n.toNat) = (a.tp n.toNat).marked
          ∧ t.rdB (bayF Reg.bayStatPresent (s.tieBay n.toNat)) = true ∧ t.evtSet (0x088 + n.toNat) 0 = true)
      ∧ (s.tieSeen n.toNat = 2 → a.tieSeen n.toNat = 2 →
        ∃ t, exec (.accessoryAttach n ts1 ts2 late) s = .next t ∧ t.tieState n.toNat = 2 ∧ t.rd (tieF Reg.tieStatPartner n.toNat) = 3
          ∧ t.rdB (bayF Reg.bayStatPresent (s.tieBay n.toNat)) = true ∧ t.evtSet (0x088 + n.toNat) 0 = true))
    ∧ (s.tieState n.toNat ≠ 1 ∨ s.rd (tieF Reg.tieStatMoist n.toNat) = 2 →
      exec (.attach n ts1 ts2 late) s = .next s ∧ exec (.accessoryAttach n ts1 ts2 late) s = .next s)
    ∧ (s.tieState n.toNat ≠ 0 → ∃ u, exec (.detach n ts1 ts2 late) s = .next (s.follow u) ∧ u.tieState n.toNat = 0
        ∧ u.conReq n.toNat = 0 ∧ u.bayClosed (s.tieBay n.toNat) = false
        ∧ u.rdB (bayF Reg.bayStatPresent (s.tieBay n.toNat)) = false ∧ u.evtSet (0x088 + n.toNat) 0 = true)
    ∧ (∀ g1 g2 p1 p2 : BitVec 16, s.effB (tieF Reg.tieCfgMoisten n.toNat) = true →
      let res := [g1.toNat, g2.toNat, p1.toNat, p2.toNat]
      let r := moistLowest (tieOpenCode (s.tieState n.toNat)) res
      let m := moistNext (s.rd (tieF Reg.tieStatMoist n.toNat)) (s.tp n.toNat).dryN r.1
      r.1 = nth res r.2 ∧ (∀ k < 4, k < 2 → tieOpenCode (s.tieState n.toNat) = true → r.1 ≤ nth res k)
      ∧ r.1 ≤ nth res 2 ∧ r.1 ≤ nth res 3
      ∧ ∃ u, exec (.moistureMeasurement n g1 g2 p1 p2) s = .next (s.follow u)
        ∧ u.rd (tieF Reg.tieMoistRes n.toNat) = min 255 (r.1 / 10) ∧ u.rd (tieF Reg.tieMoistPath n.toNat) = r.2
        ∧ u.rd (tieF Reg.tieStatMoist n.toNat) = m.1 ∧ (u.tp n.toNat).dryN = m.2
        ∧ (m.1 = 2 → s.rd (tieF Reg.tieStatMoist n.toNat) ≠ 2 → u.tieState n.toNat = 8 ∧ u.bayClosed (s.tieBay n.toNat) = false)))
  ∧ (
  ∀ (s : State) (n : BitVec 2) (late : Bool), s.Inv → s.tieOn n.toNat = true → s.tieBay n.toNat < 48 →
    (s.islandUp = true → s.lUp = true → tieAttachedCode (s.tieState n.toNat) = true →
      ∃ u, exec (.tieHardReset n) s = .next (s.follow u) ∧ u.conReq n.toNat = 0
        ∧ u.tieSource n.toNat = (s.tp n.toNat).defSource
        ∧ (u.tieState n.toNat = if s.bayState (s.tieBay n.toNat) = 3 ∨ s.bayState (s.tieBay n.toNat) = 4 then 7 else 3)
        ∧ u.rd (tieF Reg.tieNevHrst n.toNat) = sat 8 (s.rd (tieF Reg.tieNevHrst n.toNat) + 1)
        ∧ { src := 544 + 8 * n.toNat + 7, kind := 3, detail := s.tieState n.toNat, us := s.us } ∈ u.tokenQ)
    ∧ (s.islandUp = true → s.tieState n.toNat = 7 ∨ s.tieState n.toNat = 9 →
      ∃ u, exec (.tieHardReset n) s = .next (s.follow u) ∧ u.tieState n.toNat = s.tieState n.toNat ∧ u.conReq n.toNat = 0
        ∧ u.tieSource n.toNat = (s.tp n.toNat).defSource ∧ (u.tp n.toNat).msgId = 0
        ∧ u.rd (tieF Reg.tieNevHrst n.toNat) = sat 8 (s.rd (tieF Reg.tieNevHrst n.toNat) + 1))
    ∧ (s.islandUp = true → s.lUp = false → tieAttachedCode (s.tieState n.toNat) = true →
      ∃ u, exec (.tieHardReset n) s = .next (s.follow u) ∧ u.tieState n.toNat = 3 ∧ u.conReq n.toNat = 0
        ∧ u.bayClosed (s.tieBay n.toNat) = false)
    ∧ (s.lUp = true → s.conLive n.toNat = true →
      (s.rdB (tieF Reg.tieStatLimited n.toNat) = false → s.tieOver n.toNat = true →
        ∃ t, exec (.breach n late) s = .next t ∧ t.rd (tieF Reg.tieStatLimited n.toNat) = 1
          ∧ t.tieState n.toNat = s.tieState n.toNat
          ∧ t.rd (bayF Reg.bayAlimAlim (s.tieBay n.toNat)) = limitCode
              (if reqEnds (s.conReq n.toNat) then s.eff (tieF Reg.tieCfgIdef n.toNat) else reqIreq (s.conReq n.toNat))
              (s.eff (bayF Reg.bayRshRsh (s.tieBay n.toNat))) 9
          ∧ t.evtSet (0x088 + n.toNat) 4 = true)
      ∧ (s.rdB (tieF Reg.tieStatLimited n.toNat) = true → s.tieOver n.toNat = true →
        ∃ u, exec (.breachLimitEnd n late) s = .next (s.follow u) ∧ u.tieState n.toNat = 9 ∧ u.evtSet (0x088 + n.toNat) 4 = true
          ∧ (s.bayClosed (s.tieBay n.toNat) = true →
              latchedOff s u (s.tieBay n.toNat) 7 (sx 16 (s.sv (s.tieBay n.toNat))).natAbs))
      ∧ (s.rdB (tieF Reg.tieStatLimited n.toNat) = true → s.tieOver n.toNat = false →
        ∃ t, exec (.breachRecovery n) s = .next t ∧ t.rd (tieF Reg.tieStatLimited n.toNat) = 0
          ∧ t.tieState n.toNat = s.tieState n.toNat
          ∧ t.rd (bayF Reg.bayAlimAlim (s.tieBay n.toNat)) = limitCode
              (if reqEnds (s.conReq n.toNat) then s.eff (tieF Reg.tieCfgIdef n.toNat) else reqIreq (s.conReq n.toNat))
              (s.eff (bayF Reg.bayRshRsh (s.tieBay n.toNat))) 10
          ∧ onlyRegs s t [tieF Reg.tieStatLimited n.toNat, bayF Reg.bayAlimAlim (s.tieBay n.toNat)])))

/-- FRAME_SENT, RECEIPT, RECEIPT_TIMEOUT, RESPONSE_TIMEOUT, CAPS_REPEAT, TRANSITION_TIMEOUT, TIE_FRAME_DISCARDED and
RESERVED_MESSAGE (R298 to R301, R303, R305, R310, Table 11.7): a message waits for its receipt, and the next one follows it; it
is sent again twice, and a hard reset follows a message that fails or an answer that does not come; a frame that fails its check
is counted. Where the rules leave a point open it follows the model's own reading (log entries 45 and 116). -/
def Obligations.TieFrames : Prop :=
  ∀ (s : State) (n : BitVec 2) (late : Bool), s.Inv → s.tieUp n.toNat = true → s.tieBay n.toNat < 48 →
    (∀ m : TieMsg, (s.tp n.toNat).tx = some m →
      (∃ t, exec (.frameSent n) s = .next t ∧ (t.tp n.toNat).ended = true ∧ t = { s with tie := t.tie }
        ∧ ∀ k, k ≠ n.toNat → t.tp k = s.tp k)
      ∧ (∀ id : BitVec 3, (s.tp n.toNat).ended = false ∨ m.id ≠ id.toNat → exec (.receipt n id) s = .next s)
      ∧ ((s.tp n.toNat).ended = true →
        (∀ id : BitVec 3, m.id = id.toNat → m.typ = 2 ∨ m.typ = 3 ∨ m.typ = 5 ∨ m.typ = 7 ∨ m.typ = 8 →
          ∃ u, exec (.receipt n id) s = .next (s.follow u)
            ∧ u.rd (tieF Reg.tieNmsgRx n.toNat) = sat 16 (s.rd (tieF Reg.tieNmsgRx n.toNat) + 1)
            ∧ (u.tp n.toNat).await = (if m.typ = 5 ∨ m.typ = 2 ∧ (s.tp n.toNat).capsSent = [] then (s.tp n.toNat).await else m.typ)
            ∧ ((s.tp n.toNat).queue = [] → (u.tp n.toNat).tx = none)
            ∧ ∀ (q : TieMsg) (r : List TieMsg), (s.tp n.toNat).queue = q :: r → (u.tp n.toNat).tx = some q ∧ (u.tp n.toNat).queue = r
                ∧ .tieMessage n.toNat (s.tieHdr n.toNat q) q.objs (tieBits (s.tieHdr n.toNat q) q.objs) ∈ u.out)
        ∧ (m.sent < 3 → ∃ t, exec (.receiptTimeout n late) s = .next t
            ∧ t.out = s.out ++ [.tieMessage n.toNat (s.tieHdr n.toNat m) m.objs (tieBits (s.tieHdr n.toNat m) m.objs)]
            ∧ (t.tp n.toNat).tx = some { m with sent := m.sent + 1 } ∧ (t.tp n.toNat).ended = false
            ∧ t.rd (tieF Reg.tieNerrRetry n.toNat) = sat 8 (s.rd (tieF Reg.tieNerrRetry n.toNat) + 1))
        ∧ (3 ≤ m.sent → ∃ u, exec (.receiptTimeout n late) s = .next (s.follow u)
            ∧ u.rd (tieF Reg.tieNerrTxfail n.toNat) = sat 8 (s.rd (tieF Reg.tieNerrTxfail n.toNat) + 1)
            ∧ u.evtSet (0x088 + n.toNat) 6 = true
            ∧ (tieSignals (s.tieState n.toNat) = true → .tieHardReset n.toNat ∈ u.out ∧ (u.tp n.toNat).queue = []))))
    ∧ ((s.tp n.toNat).await = 2 → ∃ t, exec (.responseTimeout n late) s = .next t ∧ (t.tp n.toNat).await = 0
        ∧ (t.tp n.toNat).capsTimer = true)
    ∧ (∀ w, (s.tp n.toNat).await = w → w ≠ 0 → w ≠ 2 → tieSignals (s.tieState n.toNat) = true →
      ∃ u, exec (.responseTimeout n late) s = .next (s.follow u) ∧ (u.tp n.toNat).await = 0 ∧ .tieHardReset n.toNat ∈ u.out
        ∧ { src := 544 + 8 * n.toNat + 7, kind := 2, detail := (s.tieState n.toNat + 16 * w) % 2 ^ 32, us := s.us } ∈ u.tokenQ)
    ∧ ((s.tp n.toNat).capsTimer = true → s.tieSource n.toNat = true →
      (50 ≤ (s.tp n.toNat).capsN → s.tieState n.toNat = 3 →
        ∃ t, exec (.capsRepeat n late) s = .next t ∧ t.tieState n.toNat = 10 ∧ (t.tp n.toNat).capsTimer = false)
      ∧ ((s.tp n.toNat).capsN < 50 ∧ s.tieState n.toNat = 3 ∨ s.tieState n.toNat = 5 ∨ s.tieState n.toNat = 10 →
        ∃ t, exec (.capsRepeat n late) s = .next t ∧ (t.tp n.toNat).capsSent = s.tieCaps n.toNat
          ∧ (t.tp n.toNat).capsN = (if s.tieState n.toNat = 10 then 1 else (s.tp n.toNat).capsN + 1)
          ∧ t.tieState n.toNat = (if s.tieState n.toNat = 10 then 3 else s.tieState n.toNat)))
    ∧ (s.tieState n.toNat = 4 ∨ s.tieState n.toNat = 6 →
      ∃ u, exec (.transitionTimeout n late) s = .next (s.follow u) ∧ .tieHardReset n.toNat ∈ u.out ∧ u.conReq n.toNat = 0
        ∧ u.tieState n.toNat = if s.bayState (s.tieBay n.toNat) = 3 ∨ s.bayState (s.tieBay n.toNat) = 4 then 7 else 3)
    ∧ (∀ (hd : BitVec 16) (objs : List Word) (crc : Word),
      let bad := objs.length ≠ bits hd.toNat 7 3 ∨ crc.toNat ≠ tieCrc hd.toNat (objs.map (·.toNat))
      (bad → ∃ t, exec (.tieFrameDiscarded n hd objs crc) s = .next t
        ∧ t.rd (tieF Reg.tieNerrCrc n.toNat) = sat 8 (s.rd (tieF Reg.tieNerrCrc n.toNat) + 1)
        ∧ onlyRegs s t [tieF Reg.tieNerrCrc n.toNat])
      ∧ (¬ bad → exec (.tieFrameDiscarded n hd objs crc) s = .next s))
    ∧ (∀ (id : BitVec 3) (typ : BitVec 4) (rev : BitVec 2), typ.toNat = 0 ∨ 9 ≤ typ.toNat ∨ rev.toNat ≠ 1 →
        tieSignals (s.tieState n.toNat) = true → (s.tp n.toNat).last ≠ some (typ.toNat, id.toNat) →
      ∃ u, exec (.reservedMessage n id typ rev) s = .next (s.follow u)
        ∧ u.rd (tieF Reg.tieNerrUnk n.toNat) = sat 8 (s.rd (tieF Reg.tieNerrUnk n.toNat) + 1)
        ∧ (let h := tieHeader 1 id.toNat 0 (s.tieSource n.toNat) (s.eff (tieF Reg.tieCfgDrp n.toNat) == 2)
           .tieReceipt n.toNat h (tieBits h []) ∈ u.out)
        ∧ u.tieState n.toNat = s.tieState n.toNat)

/-- CAPS, REQUEST, ACCEPT, REJECT, READY, SWAP, GETCAPS and COLLISION_BACKOFF_END (R299 to R306, R308, R309, R313): what a new
message does to the contract exchange and the roles; a repeat of the last message is receipted and does nothing else. What a
port sends at once is shown where no message of its own is on its way. Where the rules leave a point open it follows the model's
own reading (log entries 45, 46 and 115). -/
def Obligations.TieMessages : Prop :=
  ∀ (s : State) (n : BitVec 2) (id : BitVec 3), s.Inv → s.tieUp n.toNat = true → s.tieBay n.toNat < 48 →
    tieSignals (s.tieState n.toNat) = true →
    let rejected (u : State) (reason : Nat) : Prop := u.tieState n.toNat = s.tieState n.toNat
      ∧ ((s.tp n.toNat).tx = none → (u.tp n.toNat).tx.map (fun m => (m.typ, m.objs)) = some (5, [3 * 2 ^ 30 + reason]))
    (∀ (dual : Bool) (objs : List Word), (s.tp n.toNat).last ≠ some (2, id.toNat) →
      ∃ u, exec (.caps n id dual objs) s = .next (s.follow u) ∧ (u.tp n.toNat).last = some (2, id.toNat)
        ∧ ∀ i < 7, u.rd (tieFk Reg.tieRxcapObj n.toNat i) = nth ((objs.take 7).map (·.toNat)) i)
    ∧ (∀ obj : Word, (s.tp n.toNat).last ≠ some (3, id.toNat) →
      (s.tieState n.toNat = 9 → ∃ u, exec (.request n id obj) s = .next (s.follow u) ∧ rejected u 4)
      ∧ (s.tieSource n.toNat = true → s.tieState n.toNat ≠ 9 →
        (s.tieState n.toNat = 6 ∨ (s.tp n.toNat).swapTo ≠ none ∧ (s.tp n.toNat).backoff = false →
          ∃ u, exec (.request n id obj) s = .next (s.follow u) ∧ rejected u 2
            ∧ u.rd (tieF Reg.tieNevColl n.toNat) = sat 8 (s.rd (tieF Reg.tieNevColl n.toNat) + 1))
        ∧ (s.tieState n.toNat ≠ 6 → (s.tp n.toNat).swapTo = none →
          (s.tieEqual n.toNat obj.toNat = true ∨ s.tieRefuses n.toNat obj.toNat = none →
            ∃ u, exec (.request n id obj) s = .next (s.follow u) ∧ u.tieState n.toNat = 4
              ∧ (u.tp n.toNat).req.map (·.1) = some obj.toNat
              ∧ ((s.tp n.toNat).tx = none → (u.tp n.toNat).tx.map (·.typ) = some 4))
          ∧ ∀ r, s.tieEqual n.toNat obj.toNat = false → s.tieRefuses n.toNat obj.toNat = some r →
            ∃ u, exec (.request n id obj) s = .next (s.follow u) ∧ rejected u r)))
    ∧ ((s.tp n.toNat).last ≠ some (4, id.toNat) →
      ((s.tp n.toNat).await = 3 → s.tieState n.toNat = 3 ∨ s.tieState n.toNat = 5 →
        ∃ u, exec (.accept n id) s = .next (s.follow u) ∧ u.tieState n.toNat = 4 ∧ (u.tp n.toNat).await = 0)
      ∧ ((s.tp n.toNat).await = 7 → s.tieState n.toNat = 5 → ∃ u, exec (.accept n id) s = .next (s.follow u) ∧ u.tieState n.toNat = 6
        ∧ (s.tieSource n.toNat = true → u.bayClosed (s.tieBay n.toNat) = false))
      ∧ (s.tieState n.toNat = 9 → ∃ u, exec (.accept n id) s = .next (s.follow u) ∧ u.tieState n.toNat = 9))
    ∧ (∀ reason : Byte, (s.tp n.toNat).last ≠ some (5, id.toNat) → (s.tp n.toNat).await = 3 ∨ (s.tp n.toNat).await = 7 →
      ∃ u, exec (.reject n id reason) s = .next (s.follow u) ∧ u.rd (tieF Reg.tieStatRejrsn n.toNat) = reason.toNat
        ∧ (u.tp n.toNat).await = 0 ∧ (u.tp n.toNat).req = none ∧ u.evtSet (0x088 + n.toNat) 6 = true
        ∧ ((s.tp n.toNat).await = 7 ∧ reason.toNat = 2 → (u.tp n.toNat).backoff = true ∧ (u.tp n.toNat).swapTo = (s.tp n.toNat).swapTo)
        ∧ ((s.tp n.toNat).await = 3 ∨ reason.toNat ≠ 2 → (u.tp n.toNat).swapTo = none))
    ∧ (∀ r sup lim : Nat, (s.tp n.toNat).req = some (r, sup, lim) → (s.tp n.toNat).last ≠ some (6, id.toNat) →
        s.tieState n.toNat = 4 → s.tieSource n.toNat = false →
      (100 * supVmin sup ≤ s.svMv (48 + s.tieBay n.toNat) → s.svMv (48 + s.tieBay n.toNat) ≤ 100 * supVmax sup →
        ∃ u, exec (.ready n id) s = .next (s.follow u) ∧ u.tieState n.toNat = 5 ∧ u.conReq n.toNat = r % 2 ^ 32
          ∧ u.rd (tieF Reg.tieConsupObj n.toNat) = sup % 2 ^ 32 ∧ u.rd (tieF Reg.tieConlimObj n.toNat) = lim % 2 ^ 32)
      ∧ (s.svMv (48 + s.tieBay n.toNat) < 100 * supVmin sup ∨ 100 * supVmax sup < s.svMv (48 + s.tieBay n.toNat) →
        ∃ u, exec (.ready n id) s = .next (s.follow u) ∧ .tieHardReset n.toNat ∈ u.out ∧ u.conReq n.toNat = 0))
    ∧ ((s.tp n.toNat).last ≠ some (6, id.toNat) → s.tieState n.toNat = 6 → s.tieSource n.toNat = false →
      ∃ u, exec (.ready n id) s = .next (s.follow u) ∧ u.tieState n.toNat = 3 ∧ u.tieSource n.toNat = true
        ∧ u.conReq n.toNat = 0 ∧ u.evtSet (0x088 + n.toNat) 2 = true)
    ∧ ((s.tp n.toNat).last ≠ some (7, id.toNat) →
      (s.tieState n.toNat = 9 → ∃ u, exec (.swap n id) s = .next (s.follow u) ∧ rejected u 4)
      ∧ (s.tieState n.toNat ≠ 9 → (s.tp n.toNat).swapTo = none →
        let able := s.tieState n.toNat = 5 ∧ s.eff (tieF Reg.tieCfgDrp n.toNat) = 2 ∧ s.tieArmed n.toNat = true
          ∧ s.effB (tieF Reg.tieCfgAccswap n.toNat) = true
        (able → ∃ u, exec (.swap n id) s = .next (s.follow u) ∧ u.tieState n.toNat = 6 ∧ u.tieSource n.toNat = s.tieSource n.toNat)
        ∧ (¬ able → ∃ u, exec (.swap n id) s = .next (s.follow u) ∧ rejected u 1)))
    ∧ ((s.tp n.toNat).last ≠ some (8, id.toNat) → s.tieSource n.toNat = true →
        s.tieState n.toNat = 3 ∨ s.tieState n.toNat = 5 ∨ s.tieState n.toNat = 10 →
      ∃ u, exec (.getcaps n id) s = .next (s.follow u) ∧ (u.tp n.toNat).capsSent = s.tieCaps n.toNat)
    ∧ (∀ (late want : Bool), (s.tp n.toNat).backoff = true → (s.tp n.toNat).swapTo = some want → (s.tp n.toNat).tx = none →
      ∃ t, exec (.collisionBackoffEnd n late) s = .next t ∧ (t.tp n.toNat).backoff = false
        ∧ (want ≠ s.tieSource n.toNat → s.tieState n.toNat = 5 → (t.tp n.toNat).tx.map (·.typ) = some 7)
        ∧ (want = s.tieSource n.toNat → (t.tp n.toNat).swapTo = none ∧ (t.tp n.toNat).tx = none))
    ∧ (let head := tieHeader 1 id.toNat 0 (s.tieSource n.toNat) (s.eff (tieF Reg.tieCfgDrp n.toNat) == 2)
      let repeated (r : Res) : Prop := ∃ t, r = .next t ∧ t = { s with regs := t.regs, out := t.out }
        ∧ regsBut s t [tieF Reg.tieNmsgRx n.toNat, tieF Reg.tieNmsgTx n.toNat]
        ∧ t.out = s.out ++ [.tieReceipt n.toNat head (tieBits head [])]
      (∀ (dual : Bool) (objs : List Word), (s.tp n.toNat).last = some (2, id.toNat) → repeated (exec (.caps n id dual objs) s))
      ∧ (∀ obj : Word, (s.tp n.toNat).last = some (3, id.toNat) → repeated (exec (.request n id obj) s))
      ∧ ((s.tp n.toNat).last = some (4, id.toNat) → repeated (exec (.accept n id) s))
      ∧ (∀ reason : Byte, (s.tp n.toNat).last = some (5, id.toNat) → repeated (exec (.reject n id reason) s))
      ∧ ((s.tp n.toNat).last = some (6, id.toNat) → repeated (exec (.ready n id) s))
      ∧ ((s.tp n.toNat).last = some (7, id.toNat) → repeated (exec (.swap n id) s))
      ∧ ((s.tp n.toNat).last = some (8, id.toNat) → repeated (exec (.getcaps n id) s)))

/-- TIE_POLICY and TIE_REQUEST with its four actions (R319, R303, R308, R310). Where the rules leave a point open it follows the
model's own reading (log entries 45 and 58). -/
def Obligations.TieCommands : Prop :=
  ∀ (s : State) (inst : BitVec 8) (h : CmdHdr) (x bound : Word), s.Inv → inst.toNat < 4 →
    s.tieBay inst.toNat < 48 →
    (∀ host drp : Word, s.accepts (cmdWords 0x700 inst.toNat h [host.toNat, drp.toNat]) h.twoWire h.jbad.toNat → bits drp.toNat 0 2 ≠ 3 →
        s.retired 4 inst.toNat = false →
      ∃ t, exec (.tiePolicy inst h host drp) s = .next t
        ∧ ((s.tp inst.toNat).await = 0 → t.eff (tieF Reg.tieCfgDrp inst.toNat) = bits drp.toNat 0 2
          ∧ t.effB (tieF Reg.tieCfgHost inst.toNat) = bitOf host.toNat 0 ∧ t.statusOf h.seq.toNat = some (0, 0))
        ∧ ((s.tp inst.toNat).await ≠ 0 → (t.tp inst.toNat).policy = some (bitOf host.toNat 0, bits drp.toNat 0 2)
          ∧ t.waitsFor h.seq.toNat (.tiePolicy inst.toNat)))
    ∧ (s.accepts (cmdWords 0x701 inst.toNat h [0, x.toNat, bound.toNat]) h.twoWire h.jbad.toNat →
        s.tieRequestRefused inst.toNat 0 x.toNat = none → s.tieState inst.toNat ≠ 10 →
      ∃ t, exec (.tieRequest inst h x bound) s = .next t ∧ t.waitsFor h.seq.toNat (.tie inst.toNat)
        ∧ (∃ p, (t.tp inst.toNat).req = some (reqObj (reqPos x.toNat) (reqIreq x.toNat) (reqPreq x.toNat), p)))
    ∧ (s.accepts (cmdWords 0x701 inst.toNat h [1, x.toNat, bound.toNat]) h.twoWire h.jbad.toNat →
        s.tieRequestRefused inst.toNat 1 x.toNat = none →
      ∃ t, exec (.tieRequestSwap inst h x bound) s = .next t ∧ t.waitsFor h.seq.toNat (.tie inst.toNat)
        ∧ (t.tp inst.toNat).swapTo = some !s.tieSource inst.toNat)
    ∧ (let ws := cmdWords 0x701 inst.toNat h [2, x.toNat, bound.toNat]
      let v := s.accepted ws h.twoWire
      s.accepts ws h.twoWire h.jbad.toNat → s.tieRequestRefused inst.toNat 2 x.toNat = none →
      ∃ u, exec (.tieRequestHardreset inst h x bound) s = .next (v.follow u) ∧ .tieHardReset inst.toNat ∈ u.out ∧ u.conReq inst.toNat = 0)
    ∧ (s.accepts (cmdWords 0x701 inst.toNat h [3, x.toNat, bound.toNat]) h.twoWire h.jbad.toNat →
        s.tieRequestRefused inst.toNat 3 x.toNat = none →
      ∃ t, exec (.tieRequestCaps inst h x bound) s = .next t ∧ t.waitsFor h.seq.toNat (.tie inst.toNat)
        ∧ (s.tieSource inst.toNat = true → (t.tp inst.toNat).capsSent = s.tieCaps inst.toNat)
        ∧ (s.tieSource inst.toNat = false → (s.tp inst.toNat).tx = none → (t.tp inst.toNat).tx.map (·.typ) = some 8))

/-! ### Two-wire controller ports (chapter 14) -/

/-- TRANSACTION_END, TRANSACTION_RETRY, ARBITRATION_LOSS, STRETCH and HOST_PASS_THROUGH (R387 to R389, R398, Table 14.6): a result
goes to its issuer, a failed try is repeated whole, and the counters count.

HANG, SEGMENT_RELEASE, SKIP_RETRY, SKIPWAIT_END and LINE_JUDGEMENT_END (R390 to R397, Table 14.2). Where the rules leave a point
open it follows the model's own reading (log entries 47 and 119). -/
def Obligations.TwoWirePorts : Prop :=
  (
  ∀ (s : State) (n : BitVec 3), s.Inv → s.lUp = true →
    (∀ x : Xact, (s.twp n.toNat).run = some x → x.again = false →
      (∀ (result : BitVec 2) (data : List Byte) (bad : Bool),
        (result.toNat ≠ 0 → x.retries < s.eff (twcF Reg.twcCfgRetry n.toNat) →
          ∃ t, exec (.transactionEnd n result data bad) s = .next t ∧ t = { s with twc := t.twc }
            ∧ (t.twp n.toNat).run = some { x with again := true, retries := x.retries + 1, losses := 0 }
            ∧ ∀ m, m ≠ n.toNat → t.twp m = s.twp m)
        ∧ (result.toNat = 0 → x.cls = 3 → (s.twp n.toNat).queue = [] →
          ∃ t, exec (.transactionEnd n result data bad) s = .next t ∧ (t.twp n.toNat).run = none ∧ t.twSt n.toNat = 1
            ∧ t.rd (twcF Reg.twcNxfrCnt n.toNat) = sat 32 (s.rd (twcF Reg.twcNxfrCnt n.toNat) + 1)
            ∧ t.rd (twcF Reg.twcHstatBusy n.toNat) = 0 ∧ t.rd (twcF Reg.twcHstatDone n.toNat) = 1
            ∧ t.rd (twcF Reg.twcHstatResult n.toNat) = 0 ∧ t.rd (twcF Reg.twcHstatRlen n.toNat) = min 255 data.length)
        ∧ (result.toNat ≠ 0 → s.eff (twcF Reg.twcCfgRetry n.toNat) ≤ x.retries → x.cls = 3 → (s.twp n.toNat).queue = [] →
          ∃ t, exec (.transactionEnd n result data bad) s = .next t ∧ (t.twp n.toNat).run = none ∧ t.twSt n.toNat = 1
            ∧ t.rd (twcF Reg.twcHstatResult n.toNat) = result.toNat ∧ t.evtSet (0x0A1 + n.toNat) 0 = true))
      ∧ (x.losses < 7 → ∃ t, exec (.arbitrationLoss n) s = .next t
          ∧ t.rd (twcF Reg.twcNerrArblost n.toNat) = sat 8 (s.rd (twcF Reg.twcNerrArblost n.toNat) + 1)
          ∧ (t.twp n.toNat).run = some { x with again := true, losses := x.losses + 1 })
      ∧ (7 ≤ x.losses → x.cls = 3 → (s.twp n.toNat).queue = [] → ∃ t, exec (.arbitrationLoss n) s = .next t
          ∧ (t.twp n.toNat).run = none ∧ t.rd (twcF Reg.twcHstatResult n.toNat) = 4 ∧ t.evtSet (0x0A1 + n.toNat) 1 = true)
      ∧ (x.cls = 3 → (s.twp n.toNat).queue = [] → ∃ t, exec (.stretch n) s = .next t ∧ (t.twp n.toNat).run = none
          ∧ t.rd (twcF Reg.twcHstatResult n.toNat) = 5
          ∧ t.rd (twcF Reg.twcNerrStretch n.toNat) = sat 8 (s.rd (twcF Reg.twcNerrStretch n.toNat) + 1)))
    ∧ (∀ x : Xact, (s.twp n.toNat).run = some x → x.again = true →
      ∃ t, exec (.transactionRetry n) s = .next t ∧ t.out = s.out ++ [.pmbus n.toNat x.addr x.code (s.xactBytes n.toNat x)]
        ∧ (t.twp n.toNat).run = some { x with again := false } ∧ t.twSt n.toNat = 2)
    ∧ (∀ v : Word, s.rdB (twcF Reg.twcHstatBusy n.toNat) = false →
      (bitOf v.toNat 31 = false → ∃ t, exec (.hostPassThrough n v) s = .next t ∧ t.twc = s.twc
        ∧ t.rd (twcF Reg.twcHcmdAddr n.toNat) = bits v.toNat 0 7 ∧ t.rd (twcF Reg.twcHcmdCode n.toNat) = bits v.toNat 8 8)
      ∧ (bitOf v.toNat 31 = true → 7 < bits v.toNat 16 4 →
        ∃ t, exec (.hostPassThrough n v) s = .next t ∧ t.twc = s.twc ∧ t.rd (twcF Reg.twcHstatResult n.toNat) = 8)
      ∧ (bitOf v.toNat 31 = true → bits v.toNat 16 4 ≤ 7 → s.twSt n.toNat = 1 → (s.twp n.toNat).run = none →
          (s.twp n.toNat).queue = [] →
        ∃ t, exec (.hostPassThrough n v) s = .next t ∧ t.rd (twcF Reg.twcHstatBusy n.toNat) = 1 ∧ t.twSt n.toNat = 2
          ∧ ∃ x : Xact, (t.twp n.toNat).run = some x ∧ x.cls = 3 ∧ x.addr = bits v.toNat 0 7 ∧ x.code = bits v.toNat 8 8
              ∧ x.data = t.hostBytes n.toNat (bits v.toNat 16 4) ∧ x.write = decide (bits v.toNat 16 4 ≤ 3)
              ∧ t.out = s.out ++ [.pmbus n.toNat x.addr x.code (t.xactBytes n.toNat x)])))
  ∧ (
  ∀ (s : State) (n : BitVec 3), s.Inv → s.lUp = true →
    (∀ sda scl late : Bool, s.twSt n.toNat = 1 ∨ s.twSt n.toNat = 2 → sda ∨ scl →
      ∃ u, exec (.hang n sda scl late) s = .next (s.follow u) ∧ (u.twp n.toNat).run = none ∧ (u.twp n.toNat).queue = []
        ∧ u.rdB (twcF Reg.twcStatSdalow n.toNat) = sda ∧ u.rdB (twcF Reg.twcStatScllow n.toNat) = scl
        ∧ u.rd (twcF Reg.twcNhangHangs n.toNat) = sat 8 (s.rd (twcF Reg.twcNhangHangs n.toNat) + 1)
        ∧ (s.effB (twcF Reg.twcCfgCycle n.toNat) = false → u.twSt n.toNat = 3)
        ∧ { src := 808 + 5 * n.toNat + 2, kind := 1, detail := n.toNat, us := s.us } ∈ u.tokenQ)
    ∧ (s.twSt n.toNat = 3 ∨ s.twSt n.toNat = 4 → (s.twp n.toNat).run = none → (s.twp n.toNat).queue = [] →
      ∃ u, exec (.segmentRelease n) s = .next (s.follow u) ∧ u.twSt n.toNat = 1
        ∧ u.rd (twcF Reg.twcStatSdalow n.toNat) = 0 ∧ u.rd (twcF Reg.twcStatScllow n.toNat) = 0
        ∧ (s.twSt n.toNat = 4 → u.rd (twcF Reg.twcNhangCured n.toNat) = sat 8 (s.rd (twcF Reg.twcNhangCured n.toNat) + 1))
        ∧ ((s.twp n.toNat).cyc = none → u.rd (twcF Reg.twcStatCulprit n.toNat) = 0x3F)
        ∧ u.evtSet (0x0A1 + n.toNat) 3 = true)
    ∧ (∀ k : Nat, s.twSt n.toNat = 4 → s.cureNext n.toNat = none → (s.twp n.toNat).skipped.head? = some k →
        (∀ m < 8, (s.twp m).ask = none ∧ (s.twp m).cyc = none) → (∀ m < 8, m ≠ n.toNat → s.twSt m ≠ 4) →
        s.bayRole (s.eff (twcFk Reg.twcMapBay n.toNat k)) ≠ 1 → s.bayState (s.eff (twcFk Reg.twcMapBay n.toNat k)) = 3 →
      ∃ u, exec (.skipRetry n) s = .next (s.follow u) ∧ (u.twp n.toNat).ask = some k
        ∧ (u.twp n.toNat).again = (s.twp n.toNat).skipped)
    ∧ (s.twSt n.toNat = 4 → ∃ u, exec (.skipwaitEnd n) s = .next (s.follow u) ∧ u.twSt n.toNat = 5
        ∧ u.rd (twcF Reg.twcStatRetired n.toNat) = 1 ∧ u.retired 3 n.toNat = true ∧ u.evtSet (0x0A1 + n.toNat) 4 = true
        ∧ { src := 808 + 5 * n.toNat + 2, kind := 2, detail := n.toNat, us := s.us } ∈ u.tokenQ)
    ∧ (∀ sda scl : Bool, (s.twp n.toNat).judge = true → (s.twp n.toNat).run = none → (s.twp n.toNat).queue = [] →
      (sda ∨ scl → ∃ u, exec (.lineJudgementEnd n sda scl) s = .next (s.follow u) ∧ (u.twp n.toNat).judge = false
        ∧ u.rd (twcF Reg.twcNhangHangs n.toNat) = sat 8 (s.rd (twcF Reg.twcNhangHangs n.toNat) + 1))
      ∧ (sda = false → scl = false → ∃ t, exec (.lineJudgementEnd n sda scl) s = .next t ∧ t.twSt n.toNat = 1
        ∧ (t.twp n.toNat).judge = false ∧ t.rd (twcF Reg.twcStatRetired n.toNat) = 0
        ∧ onlyRegs { s with twc := t.twc } t [twcF Reg.twcStatRetired n.toNat, twcF Reg.twcStatSdalow n.toNat,
            twcF Reg.twcStatScllow n.toNat, twcF Reg.twcStatState n.toNat])))

/-! ### Capture memory and streaming (chapter 15) -/

/-- BANK_OWNER_REQUEST, OWNERSHIP_GRANT, FRAME_START and TRANSPARENT_TEST_REGION (R405 to R407, R409 to R413): a request and its
grant, the two rings at a frame boundary, and the background test, which leaves memory as it is. Where the rules leave a point
open it follows the model's own reading (log entries 35 and 37). -/
def Obligations.CaptureBanks : Prop :=
  ∀ (s : State) (m : BitVec 7), s.Inv → s.lUp = true →
    (∀ req : BitVec 3, m.toNat < 80 → s.retired 5 m.toNat = false →
      ((ownerAllowed m.toNat).contains req.toNat = true → ∃ t, exec (.bankOwnerRequest m req) s = .next t
        ∧ t.rd (memF Reg.memOwnReq m.toNat) = req.toNat ∧ t.rd (memF Reg.memOwnPending m.toNat) = 1
        ∧ t.rd (memF Reg.memOwnOwner m.toNat) = s.rd (memF Reg.memOwnOwner m.toNat) ∧ t.mem = s.mem)
      ∧ ((ownerAllowed m.toNat).contains req.toNat = false → ∃ t, exec (.bankOwnerRequest m req) s = .next t
        ∧ t.rd (memF Reg.memOwnReq m.toNat) = s.rd (memF Reg.memOwnReq m.toNat) ∧ t.evtSet 0x0D0 5 = true ∧ t.mem = s.mem))
    ∧ (m.toNat < 80 → s.grantable m.toNat = true → ∃ t, exec (.ownershipGrant m) s = .next t
        ∧ t.rd (memF Reg.memOwnOwner m.toNat) = s.rd (memF Reg.memOwnReq m.toNat) ∧ t.rd (memF Reg.memOwnPending m.toNat) = 0
        ∧ t.evtSet 0x0D0 0 = true ∧ t.mem = s.mem)
    ∧ (∀ sv ll, s.us % 64 = 0 → s.cap.began ≠ some s.us →
      ∃ t, exec (.frameStart sv ll) s = .next t ∧ t.cap.began = some s.us ∧ t.cap.trig = false
        ∧ (s.cap.began = none → t.mem = s.mem ∧ t.cap.ring.fseq = s.cap.ring.fseq)
        ∧ ∀ b, s.cap.began = some b →
            (s.effB (cap0F Reg.capCfgEn 0) = false → t.cap.ring.fseq = s.cap.ring.fseq)
            ∧ (s.effB (cap0F Reg.capCfgEn 0) = true → s.capBanks ≠ [] →
                t.cap.ring.fseq = (s.cap.ring.fseq + (if s.cap.ring.due ∨ b % 1024 = 0 then 2 else 1)) % 2 ^ 32))
    ∧ (∀ (fail : Bool) (w : BitVec 17), s.mode = .run → m.toNat < 80 → s.rdB (Reg.memTcfgTen.at 0x0D0 0) = true →
        s.owner m.toNat ≠ 7 → s.retired 5 m.toNat = false →
      ∃ t, exec (.transparentTestRegion m fail w) s = .next t ∧ t.mem = s.mem ∧ t.memBad = s.memBad
        ∧ t.rd (memF Reg.memTestRegion m.toNat) = (if s.rd (memF Reg.memTestRegion m.toNat) + 1
            = (if m.toNat < 64 then 256 else 16) then 0 else (s.rd (memF Reg.memTestRegion m.toNat) + 1) % 2 ^ 8)
        ∧ (fail = false → onlyRegs s t [memF Reg.memTestRegion m.toNat, memF Reg.memTestPasses m.toNat])
        ∧ (fail = true → t.rd (memF Reg.memErradrWord m.toNat) = w.toNat ∧ t.rd (memF Reg.memErradrKind m.toNat) = 3
            ∧ t.evtSet 0x0D0 4 = true
            ∧ { src := 900, kind := 3, detail := (m.toNat + 128 * w.toNat) % 2 ^ 32, us := s.us } ∈ t.tokenQ))

/-- COMPARATOR_TRIGGER, SWTRIG, REL, HOLDT_EXPIRY and VAULT_WRITE_END (R416 to R421): a trigger opens a window or merges into the
open one; a window is released once its snapshot has ended and its release is asked for. Where the rules leave a point open it
follows the model's own reading (log entry 37). -/
def Obligations.CaptureWindows : Prop :=
  ∀ (s : State), s.Inv → s.lUp = true →
    (
      let trigger (r : Res) (src : Nat) : Prop := ∃ t, r = .next t ∧ t.cap.trig = true ∧ t.evtSet 0x0E0 0 = true
        ∧ t.rd (cap0F Reg.capNtrigTrigs 0) = sat 16 (s.rd (cap0F Reg.capNtrigTrigs 0) + 1)
        ∧ (s.winSt 0 = 1 → t.winSt 0 = 1
            ∧ t.rd (cap1F Reg.capWinStatNmerge 0) = sat 8 (s.rd (cap1F Reg.capWinStatNmerge 0) + 1)
            ∧ t.rd (cap0F Reg.capNtrigMerged 0) = sat 8 (s.rd (cap0F Reg.capNtrigMerged 0) + 1))
        ∧ (∀ pre, s.preEff = some pre → s.winSt 0 = 0 → s.winSt 1 ≠ 1 → t.winSt 0 = 1
            ∧ t.rd (cap1F Reg.capWinStatSrc 0) = src ∧ t.rd (cap1F Reg.capWinTUs 0) = s.us32
            ∧ (t.winx 0).t = s.us ∧ (t.winx 0).pre = pre)
        ∧ (s.winSt 0 = 2 → s.winSt 1 = 2 → t.rd (cap0F Reg.capNtrigMissed 0) = sat 8 (s.rd (cap0F Reg.capNtrigMissed 0) + 1)
            ∧ t.evtSet 0x0E0 2 = true)
      s.effB (cap0F Reg.capCfgEn 0) = true →
        (bitOf (s.eff (cap0F Reg.capTrigSrcen 0)) 3 = true → trigger (exec .swtrig s) 3)
        ∧ ∀ (k : BitVec 4) (codes : List (BitVec 16)), bitOf (s.eff (cap0F Reg.capTrigSrcen 0)) 2 = true →
            s.effB (cap2F Reg.capCmpEn k.toNat) = true → s.eff (cap2F Reg.capCmpCh k.toNat) < 384 →
            svReserved (s.eff (cap2F Reg.capCmpCh k.toNat)) = false → s.retired 2 (s.eff (cap2F Reg.capCmpCh k.toNat)) = false →
            s.eff (cap2F Reg.capCmpDeb k.toNat) + 1 ≤ codes.length → (∀ v ∈ codes, s.cmpHolds k.toNat v.toNat = true) →
          trigger (exec (.comparatorTrigger k codes) s) 2)
    ∧ (∀ k : BitVec 1, s.winSt k.toNat = 2 →
      let released (r : Res) : Prop := ∃ t, r = .next t
        ∧ ((s.winx k.toNat).ended = true → t.winSt k.toNat = 0)
        ∧ ((s.winx k.toNat).ended = false → t.winSt k.toNat = 2 ∧ (t.winx k.toNat).rel = true)
      released (exec (.rel k) s) ∧ released (exec (.holdtExpiry k) s))
    ∧ (∀ (k : BitVec 1) (ok0 ok1 : Bool) (unc corr : List (BitVec 7 × BitVec 17)), s.winSt k.toNat = 2 →
        (s.winx k.toNat).ended = false → s.rd (cap1F Reg.capWinStatSlot k.toNat) < 16 →
      let good := s.nvcDevs.filter fun d => if d = 0 then ok0 else ok1
      ∃ t, exec (.vaultWriteEnd k ok0 ok1 unc corr) s = .next t
        ∧ t.winSt k.toNat = (if (s.winx k.toNat).rel then 0 else 2)
        ∧ (good ≠ [] → t.rd (cap1F Reg.capWinStatVaulted k.toNat) = 1 ∧ t.evtSet 0x0E0 3 = true
            ∧ t.rd (cap3F Reg.capVslotValid (s.rd (cap1F Reg.capWinStatSlot k.toNat))) = 1
            ∧ t.rdB (cap3F Reg.capVslotMirror1 (s.rd (cap1F Reg.capWinStatSlot k.toNat))) = (good.length == 1)
            ∧ t.rd (cap3F Reg.capVslotTUs (s.rd (cap1F Reg.capWinStatSlot k.toNat))) = s.rd (cap1F Reg.capWinTUs k.toNat))
        ∧ (good = [] → t.rd (cap1F Reg.capWinStatVfail k.toNat) = 1 ∧ t.evtSet 0x0E0 4 = true
            ∧ t.cap.vault = s.cap.vault))

/-- STEP_INSTANT, STREAM_READ, BUFFER_FLUSH, STR_DTAIL_WRITE, STR_CHEAD_WRITE and STREAM_ENABLE (R422 to R427, R432). Where the
rules leave a point open it follows the model's own reading (log entries 35 and 36). -/
def Obligations.StreamCommands : Prop :=
  ∀ s : State, s.Inv → s.lUp = true →
    (s.us % 1000 = 0 → s.rdB (str0F Reg.strCfgEn 0) = true → s.str.lossy = false →
      ∃ t, exec .stepInstant s = .next t ∧ t.str.fill = s.strFill
        ∧ (((s.rd (str0F Reg.strCfgHiwat 0) : Nat) : ℚ) / 100 ≤ s.strFill → s.str.fill ≤ s.strFill →
            (∃ i < 400, s.canLower i = true ∧ s.prio i ≤ 2) → t.str.stepUs = s.us ∧ t.evtSet 0x0E4 0 = true)
        ∧ (s.strFill < ((s.rd (str0F Reg.strCfgHiwat 0) : Nat) : ℚ) / 100 → s.str.lowered = [] → t.str.lowered = []))
    ∧ (∀ (f : FrameR) (rest : List FrameR), s.str.ring.frames = f :: rest → ∀ b : BufS, s.str.buf = some b →
        s.strStopped = false → s.str.rest = [] → s.str.lost = none → s.memBad = [] → 0 < f.size → b.used + f.size < b.room →
      ∃ t, exec (.streamRead [] []) s = .next t ∧ t.out = s.out ++ [.hostWrite (b.addr + 8 * b.used) (s.frameRead f [])]
        ∧ t.str.ring.frames = rest
        ∧ t.str.buf = some { b with used := b.used + f.size, first := some (b.first.getD (8 * b.used)) })
    ∧ (∀ q k : Nat, s.str.lost = some (q, k) → ∀ f : FrameR, s.str.ring.frames.head? = some f → ∀ b : BufS, s.str.buf = some b →
        ∀ unc corr, s.strStopped = false → s.str.rest = [] → f.typ = 3 → b.used + 3 < b.room →
      ∃ (t : State) (w : Nat), exec (.streamRead unc corr) s = .next t ∧ t.str.lost = none ∧ t.evtSet 0x0E4 3 = true
        ∧ .hostWrite (b.addr + 8 * b.used) [w, q % 2 ^ 32 + 2 ^ 32, k % 2 ^ 32] ∈ t.out ∧ w % 256 = 2
        ∧ t.str.ring.frames = s.str.ring.frames)
    ∧ (∀ b : BufS, s.str.buf = some b → s.strStopped = false → s.str.rest = [] → s.str.ring.frames = [] → b.used ≠ 0 →
      ∃ t, exec .bufferFlush s = .next t ∧ t.str.buf = none ∧ t.evtSet 0x0E4 4 = true
        ∧ t.str.ring = s.str.ring ∧ t.mem = s.mem)
    ∧ (∀ (idx : BitVec 12) (descs : List (BitVec 12 × BitVec 128)),
      ∃ t, exec (.strDtailWrite idx descs) s = .next t ∧ t.rd (str0F Reg.strDtailIdx 0) = idx.toNat
        ∧ t.rd (str0F Reg.strDheadIdx 0) = s.rd (str0F Reg.strDheadIdx 0) ∧ t.mem = s.mem)
    ∧ (∀ idx : BitVec 12, ∃ t, exec (.strCheadWrite idx) s = .next t ∧ t.rd (str0F Reg.strCheadIdx 0) = idx.toNat
        ∧ t.rd (str0F Reg.strCtailIdx 0) = s.rd (str0F Reg.strCtailIdx 0) ∧ t.mem = s.mem)
    ∧ (∀ v : Word, s.rdB (str0F Reg.strCfgEn 0) = false →
      (s.strBanks ≠ [] → ∃ t, exec (.streamEnable v) s = .next t ∧ t.rd (str0F Reg.strCfgEn 0) = 1
        ∧ t.rd (str0F Reg.strDheadIdx 0) = 0 ∧ t.rd (str0F Reg.strCtailIdx 0) = 0 ∧ t.rd (str0F Reg.strCtailPhase 0) = 1
        ∧ t.rd (str0F Reg.strCfgMode 0) = bits v.toNat 1 1)
      ∧ (s.strBanks = [] → ∃ t, exec (.streamEnable v) s = .next t ∧ t.rd (str0F Reg.strCfgEn 0) = 0
        ∧ t.rd (str0F Reg.strStatNomem 0) = 1))

/-! ### Gallery (chapter 17) -/

/-- RECORD_OFFER, FLUSH, MERGE_DONE, FREEZE_TIMEOUT and OPH_STEP (R455 to R463, R466 to R468): an accepted record takes the next SEQ
at the end of the tail, a refused one is counted; a flushed page leaves the tail; the spill moves into the tail.

GAL_CUR, GAL_TCUR, GALLERY_WINDOW_ADVANCE and WINREADY (R464): whole records from a cursor on, in SEQ order, readable once the
load is complete; a read of the gallery changes none of its records. Where the rules leave a point open it follows the model's
own reading (log entry 38). -/
def Obligations.Gallery : Prop :=
  (
  ∀ s : State, s.Inv → s.lUp = true →
    (∀ (o : Offer) (r : List Offer), s.offers = o :: r → ∀ bad : BitVec 3, s.macroBad bad.toNat = [] → s.gal.refS + s.gal.refL = 0 →
      (s.toSpill = false → o.words ≤ s.galFree → ∃ (t : State) (rs : List Rec), exec (.recordOffer none bad) s = .next t ∧ t.gal.tail = s.gal.tail ++ rs
        ∧ r <+: t.offers ∧ rs.map (·.payload) = o.payloads.map (List.map (· % 2 ^ 32))
        ∧ (∀ x ∈ rs, x.typ = o.typ ∧ x.src = o.src ∧ x.pcc = s.gal.pcc)
        ∧ (o.payloads ≠ [] → t.gal.next = (s.gal.next + o.payloads.length) % 2 ^ 32) ∧ t.gal.spill = s.gal.spill)
      ∧ (s.toSpill = true → o.words ≤ s.galFree → ∃ (t : State) (rs : List Rec), exec (.recordOffer none bad) s = .next t
        ∧ t.gal.tail = s.gal.tail ∧ s.gal.spill ++ rs <+: t.gal.spill ∧ rs.map (·.payload) = o.payloads.map (List.map (· % 2 ^ 32))
        ∧ (∀ x ∈ rs, x.typ = o.typ ∧ x.src = o.src ∧ x.spilled = true))
      ∧ (s.galFree < o.words → ∃ t, exec (.recordOffer none bad) s = .next t ∧ t.gal.tail = s.gal.tail
        ∧ t.gal.next = s.gal.next ∧ 0 < t.gal.refS ∧ t.evtSet 0x0F8 3 = true))
    ∧ ((∀ e ∈ s.jnl, e.wait ≠ .clear) → s.rdB (hdr Reg.pgCbusy 0x0F9) = false → s.fstate ≠ 1 → s.flushDue = true → s.logDevs ≠ [] →
      (∃ t, exec (.flush false false) s = .next t ∧ t.gal.pages = s.gal.pages + 1
        ∧ t.gal.tail = s.gal.tail.drop (fitRecs 1023 s.gal.tail).length ∧ t.gal.next = s.gal.next)
      ∧ ∃ t, exec (.flush true true) s = .next t ∧ t.gal.tail = s.gal.tail ∧ t.gal.nvm = s.gal.nvm ∧ t.gal.pages = s.gal.pages
        ∧ ∀ d ∈ s.logDevs, { src := 981, kind := 1, us := s.us, dev := d } ∈ t.tokenQ)
    ∧ ((∀ e ∈ s.jnl, e.wait ≠ .clear) → s.fstate = 2 → s.rebuilding = false →
      let m := fitRecs (65536 - recsWords s.gal.tail) s.gal.spill
      ∃ t, exec .mergeDone s = .next t ∧ t.gal.tail = s.gal.tail ++ m ∧ t.gal.spill = s.gal.spill.drop m.length
        ∧ (t.gal.spill = [] → t.fstate = 0 ∧ t.evtSet 0x0F8 1 = true) ∧ (t.gal.spill ≠ [] → t.fstate = 2))
    ∧ (∀ late : Bool, s.fstate = 1 → ∃ t, exec (.freezeTimeout late) s = .next t ∧ t.fstate = 2
        ∧ t.rd (gal0F Reg.galStatFreezebroken 0) = 1 ∧ t.evtSet 0x0F8 2 = true ∧ t.gal.tail = s.gal.tail
        ∧ ∃ x, t.gal.spill = s.gal.spill ++ [x] ∧ x.typ = 0x21 ∧ x.payload = [1])
    ∧ (ophStep s.us = true → ∃ t, exec .ophStep s = .next t ∧ t.rd (gal0F Reg.galOphOph 0) = s.oph s.us
        ∧ t.rd (gal0F Reg.galSubSub 0) = 0
        ∧ onlyRegs { s with gal := t.gal } t [gal0F Reg.galOphOph 0, gal0F Reg.galSubSub 0]
        ∧ t.gal = { s.gal with ophNvm := t.gal.ophNvm }))
  ∧ (
  ∀ s : State, s.Inv → s.lUp = true →
    (∀ cur : Word, ∃ t, exec (.galCur cur) s = .next t ∧ t.rd (gal0F Reg.galCurSeq 0) = cur.toNat
        ∧ t.rd (gal0F Reg.galWinReady 0) = 0
        ∧ t.gal.win = (fitRecs 8192 (s.readable.filter fun r => cur.toNat ≤ r.seq)).flatMap Rec.words
        ∧ t.gal.tail = s.gal.tail ∧ t.gal.nvm = s.gal.nvm ∧ t.gal.spill = s.gal.spill ∧ t.gal.clr = s.gal.clr)
    ∧ (∀ cur : Word, ∃ t, exec (.galTcur cur) s = .next t ∧ t.rd (gal0F Reg.galTcurSeq 0) = cur.toNat
        ∧ t.rd (gal0F Reg.galTwinWofs 0) = 0 ∧ t.rd (gal0F Reg.galTwinReady 0) = 0
        ∧ t.gal.twin = ((s.readable.filter fun r => cur.toNat ≤ r.seq).flatMap Rec.words).take 32
        ∧ t.gal.tail = s.gal.tail ∧ t.gal.nvm = s.gal.nvm ∧ t.gal.spill = s.gal.spill ∧ t.gal.clr = s.gal.clr)
    ∧ (∃ t, exec .galleryWindowAdvance s = .next t
        ∧ t.rd (gal0F Reg.galTwinWofs 0) = (s.rd (gal0F Reg.galTwinWofs 0) + 32) % 2 ^ 16 ∧ t.rd (gal0F Reg.galTwinReady 0) = 0
        ∧ t = { s with regs := t.regs, gal := { s.gal with twin := t.gal.twin, tload := true } })
    ∧ (s.gal.tload = true → ∃ t, exec (.winready true) s = .next t ∧ t.rd (gal0F Reg.galTwinReady 0) = 1
        ∧ onlyRegs { s with gal := { s.gal with tload := false } } t [gal0F Reg.galTwinReady 0])
    ∧ (s.gal.load = true → ∃ t, exec (.winready false) s = .next t ∧ t.rd (gal0F Reg.galWinReady 0) = 1
        ∧ t.evtSet 0x0F8 7 = true ∧ t.gal.load = false ∧ t.gal.win = s.gal.win ∧ t.gal.tail = s.gal.tail)
    ∧ (s.gal.tload = false → exec (.winready true) s = .next s) ∧ (s.gal.load = false → exec (.winready false) s = .next s))

/-- GAL_FREEZE, its thaw, GAL_CLEAR and KEY_LOAD (R465, R466, R471 to R473): a clear takes effect only with the nonce and the MAC
under the key; any other try is refused with reason 0x05 and leaves every record readable. Where the rules leave a point open it
follows the model's own reading (log entries 21 and 39). -/
def Obligations.GalleryCommands : Prop :=
  ∀ (s : State) (inst : BitVec 8) (h : CmdHdr), s.Inv →
    (s.accepts (cmdWords 0xB00 inst.toNat h [1]) h.twoWire h.jbad.toNat → s.fstate = 0 → recsWords s.gal.tail ≤ 32768 →
        s.spillRetired = false → s.gal.refS + s.gal.refL = 0 →
      ∃ t, exec (.galFreeze inst h) s = .next t ∧ t.fstate = 1 ∧ t.statusOf h.seq.toNat = some (0, 0) ∧ t.evtSet 0x0F8 0 = true
        ∧ ∃ x, t.gal.tail = s.gal.tail ++ [x] ∧ x.typ = 0x20 ∧ x.payload = [h.seq.toNat])
    ∧ (s.accepts (cmdWords 0xB00 inst.toNat h [0]) h.twoWire h.jbad.toNat → s.fstate = 1 →
      ∃ t, exec (.galThaw inst h) s = .next t ∧ t.fstate = 2 ∧ t.statusOf h.seq.toNat = some (0, 0) ∧ t.evtSet 0x0F8 1 = true
        ∧ ∃ x, t.gal.spill = s.gal.spill ++ [x] ∧ x.typ = 0x21 ∧ x.payload = [0])
    ∧ (∀ rekey nonce m0 m1 m2 m3 m4 m5 : Word,
      let ws := cmdWords 0xB01 inst.toNat h
        [rekey.toNat, nonce.toNat, m0.toNat, m1.toNat, m2.toNat, m3.toNat, m4.toNat, m5.toNat]
      s.accepts ws h.twoWire h.jbad.toNat →
      (∀ r ∈ s.readable ++ s.gal.spill, r.typ = 0x22 → nth r.payload 0 ≠ h.seq.toNat) →
      (nonce.toNat ≠ s.rd (gal0F Reg.galNonceNonce 0) ∨ s.macOk (s.appliedEntry ws h.twoWire) = false →
        ∃ t, exec (.galClear inst h rekey nonce m0 m1 m2 m3 m4 m5) s = .next t ∧ t.statusOf h.seq.toNat = some (2, 5)
          ∧ t.gal.tail = s.gal.tail ∧ t.gal.nvm = s.gal.nvm ∧ t.gal.clr = s.gal.clr ∧ t.gal.key = s.gal.key
          ∧ t.gal.nonce = s.gal.nonce + 1 ∧ t.evtSet 0x0F8 6 = true)
      ∧ (nonce.toNat = s.rd (gal0F Reg.galNonceNonce 0) → s.macOk (s.appliedEntry ws h.twoWire) = true → s.fstate = 0 →
          recsWords s.gal.tail ≤ 32768 → s.gal.refS + s.gal.refL = 0 →
        ∃ t, exec (.galClear inst h rekey nonce m0 m1 m2 m3 m4 m5) s = .next t ∧ t.statusOf h.seq.toNat = some (0, 0)
          ∧ t.gal.clr = s.gal.next ∧ (bitOf rekey.toNat 0 = true → t.gal.key = none) ∧ t.gal.nonce = s.gal.nonce + 1
          ∧ t.evtSet 0x0F8 5 = true)
      ∧ (nonce.toNat = s.rd (gal0F Reg.galNonceNonce 0) → s.macOk (s.appliedEntry ws h.twoWire) = true → s.fstate ≠ 0 →
        ∃ t, exec (.galClear inst h rekey nonce m0 m1 m2 m3 m4 m5) s = .next t ∧ t.statusOf h.seq.toNat = some (2, 4)
          ∧ t.gal.tail = s.gal.tail ∧ t.gal.nvm = s.gal.nvm ∧ t.gal.clr = s.gal.clr ∧ t.gal.key = s.gal.key))
    ∧ (s.lUp = true →
      (s.rdB (gal0F Reg.galStatKeyset 0) = true → ∃ t, exec .keyLoad s = .next t ∧ t.gal.key = s.gal.key)
      ∧ (s.rdB (gal0F Reg.galStatKeyset 0) = false → ∃ t, exec .keyLoad s = .next t ∧ t.rd (gal0F Reg.galStatKeyset 0) = 1
        ∧ t.gal.key = some ((List.range 8).map fun k => s.rd (gal0F Reg.galKeyKey k))))

/-! ### Fault collector (chapter 16) -/

/-- TOKEN, BUCKET_LEAK, FLT_ACK, FLT_ACKALL, FAULT_PAIR_SWAP and PNFAIL (R436 to R442, R446, R447, R449 to R451). Where the rules
leave a point open it follows the model's own reading (log entry 42). -/
def Obligations.FaultCommands : Prop :=
  ∀ s : State, s.Inv →
    (s.lUp = true → ∀ (k : Tok) (r : List Tok), s.tokenQ = k :: r →
      ∃ t, exec (.token none) s = .next t ∧ r <+: t.tokenQ
        ∧ t.rd (flt0F Reg.fltNtokTokens 0) = sat 16 (s.rd (flt0F Reg.fltNtokTokens 0) + 1)
        ∧ ((s.classify k.src k.kind).1 = 0 →
            t.rd (flt0F Reg.fltNtokIgnored 0) = sat 16 (s.rd (flt0F Reg.fltNtokIgnored 0) + 1) ∧ t.flt = s.flt)
        ∧ ((s.classify k.src k.kind).1 = 2 → (∃ j < 128, s.openValid j = false) →
            ∃ j < 128, t.openValid j = true ∧ t.openKey j = k.lo % 65536 ∧ 2 ≤ t.rd (flt2F Reg.fltOpenInfoClass j))
        ∧ ((s.classify k.src k.kind).1 = 4 → ∀ p ∈ tokenChannels k.src k.detail, t.retired p.1 p.2 = true))
    ∧ (∀ (src : BitVec 10) (chan : BitVec 9) (u : BktUnit) (r : List BktUnit),
        s.bucket src.toNat chan.toNat = u :: r → s.islandUp = true → u.us + 1000000 * u.w ≤ s.us + 10000 →
        s.unitAwaited u = false →
      ∃ t, exec (.bucketLeak src chan) s = .next t ∧ t.bucket src.toNat chan.toNat = r
        ∧ t = { s with regs := t.regs, flt := { s.flt with units := s.flt.units.erase u } })
    ∧ (s.lUp = true → ∀ (e : BitVec 7) (g : Byte), ∃ t, exec (.fltAck e g) s = .next t
        ∧ t.openValid e.toNat = (s.openValid e.toNat && s.rd (flt2F Reg.fltOpenInfoGen e.toNat) != g.toNat)
        ∧ ∀ j < 128, j ≠ e.toNat → t.openValid j = s.openValid j)
    ∧ (s.lUp = true → ∃ t, exec .fltAckall s = .next t ∧ (∀ j < 128, t.openValid j = false) ∧ t.flt.ovf = false)
    ∧ (s.islandUp = true → s.us % 1000 = 0 → s.effB (flt0F Reg.fltCfgHben 0) = true →
      (s.pairOk = true → ∃ t, exec .faultPairSwap s = .next t ∧ t.out = s.out ++ [.pairMarker] ∧ t.flt.swapped = (!s.flt.swapped)
        ∧ t.pairLevels = (s.pairLevels.2, s.pairLevels.1))
      ∧ (s.pairOk = false → ∃ t, exec .faultPairSwap s = .next t ∧ t.flt.swapped = false
        ∧ t = { s with flt := { s.flt with swapped := false } }))
    ∧ (s.islandUp = true → s.flt.pairFail = false →
      ∃ t, exec .pnfail s = .next t ∧ t.flt.pairFail = true ∧ t.rd (flt0F Reg.fltStatPnfail 0) = 1 ∧ t.pairLevels = (false, false))

/-! ### Policy cores and images (chapter 21) -/

/-- IMG_SELECT, NVC_TRANSFER, NVC_TRANSFER_DONE, NVC_VERIFY and VERIFY_DONE (R513, R516, R517, R519, R520). Where the rules leave a
point open it follows the model's own reading (log entries 12, 15, 16, 17 and 65). -/
def Obligations.ImageCommands : Prop :=
  ∀ s : State, s.Inv →
    (∀ (inst : BitVec 8) (h : CmdHdr) (target rbadv : Word),
      let slot := bits target.toNat 1 2
      let k := selSlot (bits target.toNat 0 1) slot
      s.accepts (cmdWords 0xC02 inst.toNat h [target.toNat, rbadv.toNat]) h.twoWire h.jbad.toNat → slot < 3 →
      (bits target.toNat 0 1 = 0 → slot < 2) → s.verifyFailed k = false → s.xferTo k = false →
      (bitOf rbadv.toNat 0 = true → bits target.toNat 0 1 = 0 ∧ bitOf target.toNat 8 = false
        ∧ s.rdB (pol0F Reg.polFwselNofw 0) = false ∧ s.rd (pol0F Reg.polFwselActive 0) = slot) →
      ∃ t, exec (.imgSelect inst h target rbadv) s = .next t ∧ t.statusOf h.seq.toNat = some (0, 0)
        ∧ (bits target.toNat 0 1 = 0 → t.sys.fwPend = some (slot, bitOf target.toNat 8) ∧ t.sys.imgPend = s.sys.imgPend)
        ∧ (bits target.toNat 0 1 = 1 → t.sys.imgPend = some (slot, bitOf target.toNat 8) ∧ t.sys.fwPend = s.sys.fwPend)
        ∧ t.rd (pol0F Reg.polRbcntCnt 0) = (if bitOf rbadv.toNat 0 = true then
            max (s.rd (pol0F Reg.polRbcntCnt 0)) (s.fwIndex k) % 2 ^ 32 else s.rd (pol0F Reg.polRbcntCnt 0)))
    ∧ (s.lUp = true → s.rdB (nvcF Reg.nvcStatBusy 0) = false →
      let m := s.rd (nvcF Reg.nvcXsrcBank 0)
      let k := s.rd (nvcF Reg.nvcXdstSlot 0)
      let ofs := s.rd (nvcF Reg.nvcXdstOfs 0)
      let len := s.rd (nvcF Reg.nvcXlenLen 0)
      (s.xferRefused m k ofs len = true → ∃ t, exec .nvcTransfer s = .next t ∧ t.rd (nvcF Reg.nvcStatResult 0) = 1
        ∧ t.rd (nvcF Reg.nvcStatBusy 0) = 0 ∧ t.evtSet 0x118 1 = true ∧ t.sys.xfer = s.sys.xfer)
      ∧ (s.xferRefused m k ofs len = false → ∃ t, exec .nvcTransfer s = .next t ∧ t.rd (nvcF Reg.nvcStatBusy 0) = 1
        ∧ t.sys.xfer = some (m, k, 16384 * ofs, 1024 * len) ∧ t.sys.slots = s.sys.slots)
      ∧ (k ≤ 4 → s.coreUp 3 = true → ∃ t, exec .nvcVerify s = .next t ∧ t.rd (nvcF Reg.nvcStatBusy 0) = 1 ∧ t.sys.verify = some k)
      ∧ (k ≤ 4 → s.coreUp 3 = false → ∃ t, exec .nvcVerify s = .next t ∧ t.rd (nvcF Reg.nvcStatResult 0) = 4
        ∧ t.sys.verify = s.sys.verify))
    ∧ (∀ (m k lo n : Nat) (fail0 fail1 bad : Bool), s.lUp = true → s.sys.xfer = some (m, k, lo, n) →
      let lost := (∀ d ∈ s.nvcDevs, (if d = 0 then fail0 else fail1) = true)
      ∃ t, exec (.nvcTransferDone fail0 fail1 bad) s = .next t ∧ t.sys.xfer = none ∧ t.rd (nvcF Reg.nvcStatBusy 0) = 0
        ∧ (lost → t.rd (nvcF Reg.nvcStatResult 0) = 2 ∧ t.sys.slots = s.sys.slots ∧ t.evtSet 0x118 1 = true)
        ∧ (¬ lost → bad = true → t.rd (nvcF Reg.nvcStatResult 0) = 3 ∧ t.evtSet 0x118 1 = true)
        ∧ (¬ lost → bad = false → t.rd (nvcF Reg.nvcStatResult 0) = 0 ∧ t.evtSet 0x118 0 = true
            ∧ t.sys.slots = s.sys.slots.span (slotLo k + lo) (s.bankRead m (n / 2))))
    ∧ (∀ k : Nat, s.sys.verify = some k → s.lUp = true →
      let ok := if k < 2 then s.fwOk k else (s.imgValid k).isSome
      ∃ t, exec .verifyDone s = .next t ∧ t.sys.verify = none ∧ t.verifyFailed k = !ok ∧ t.rd (nvcF Reg.nvcStatBusy 0) = 0
        ∧ t.rd (nvcF Reg.nvcStatResult 0) = (if ok then 0 else 3) ∧ (k < 4 → t.rdB (nvcF Reg.nvcSlotValid k) = ok))

/-- CORE_HEARTBEAT_TIMEOUT, RESTART_WINDOW_EXPIRY and the mailbox rows (R508, R509, R511, R512, Table 21.2): a core that hangs is
restarted up to three times in 600 s; an exchange ends with its response and a status. Where the rules leave a point open it
follows the model's own reading (log entries 18, 19 and 90). -/
def Obligations.CoreCommands : Prop :=
  ∀ (s : State) (c : BitVec 2) (late : Bool), s.Inv → s.lUp = true →
    let n := c.toNat
    let recent := (s.sys.restarts.filter fun p => p.1 == n && decide (s.us < p.2 + 600000000)).length
    (s.coreUp n = true → ∃ t, exec (.coreHeartbeatTimeout c late) s = .next t ∧ t.mbxOpen n = none
        ∧ t.rd (polF Reg.polMbctlBusy n) = 0 ∧ { src := 992 + n, kind := 1, detail := 0, us := s.us } ∈ t.tokenQ
        ∧ (recent < 3 → t.rd (polF Reg.polStatRunning n) = 1 ∧ t.rd (polF Reg.polStatRestarts n) = recent + 1)
        ∧ (3 ≤ recent → t.rd (polF Reg.polStatRunning n) = 0 ∧ t.rd (polF Reg.polStatStopped n) = 1))
    ∧ (∃ t, exec (.restartWindowExpiry c) s = .next t ∧ t.rd (polF Reg.polStatRestarts n) = sat 4 recent
        ∧ t.restartsOf n = recent)
    ∧ (∀ q, s.mbxAsked n 0x0001 = some q → ∃ t, exec (.mailboxVersion c) s = .next t ∧ t.rd (polFk Reg.polRspD n 0) = 1
        ∧ t.rd (polFk Reg.polRspD n 1) = s.slotWord (s.rd (pol0F Reg.polFwselActive 0)) 4 % 2 ^ 32
        ∧ t.rd (polFk Reg.polRspD n 2) = s.fwIndex (s.rd (pol0F Reg.polFwselActive 0)) % 2 ^ 32
        ∧ t.rd (polF Reg.polMbctlDone n) = 1 ∧ t.rd (polF Reg.polMbctlBusy n) = 0 ∧ t.evtSet (0x110 + n) 1 = true
        ∧ exec (.mailboxAnswer c) s = .next t)
    ∧ (∀ q, s.mbxAsked 1 0x0101 = some q → 3 ≤ bits (nth q 0) 16 8 → nth q 1 < 8 → nth q 2 < 2 ^ 24 → nth q 3 < 2 ^ 24 →
      (s.effB (pol0F Reg.polHpmBat 0) = true → ∃ t, exec .mailboxGroupRequests s = .next t
        ∧ t.rd (abc0F Reg.abcGdisDis (nth q 1)) = nth q 2 ∧ t.rd (abc0F Reg.abcGchgChg (nth q 1)) = nth q 3
        ∧ t.rd (polFk Reg.polRspD 1 0) = 0x0101 ∧ t.rd (polF Reg.polMbctlDone 1) = 1)
      ∧ (s.effB (pol0F Reg.polHpmBat 0) = false → ∃ t, exec .mailboxGroupRequests s = .next t
        ∧ t.rd (polFk Reg.polRspD 1 0) = 0x0101 + 3 * 2 ^ 24
        ∧ (∀ g < 8, t.rd (abc0F Reg.abcGdisDis g) = s.rd (abc0F Reg.abcGdisDis g))))
    ∧ (∀ q, s.mbxAsked 1 0x0102 = some q → 1 ≤ bits (nth q 0) 16 8 → nth q 1 < 8 →
      ∃ t, exec .mailboxGroupEnergy s = .next t ∧ t.rd (polFk Reg.polRspD 1 0) = 0x0102
        ∧ t.rd (polFk Reg.polRspD 1 1) = sat 32 (sumN ((s.inService.filter fun m => s.batGroup m == nth q 1).map fun m =>
            s.rd (batF Reg.batEuseE m))))
    ∧ (∀ q, s.mbxAsked 2 0x0201 = some q →
      ∃ t, exec .mailboxFeedWeights s = .next t ∧ t.rd (polFk Reg.polRspD 2 0) = 0x0201 ∧ t.rd (polF Reg.polMbctlDone 2) = 1
        ∧ ∀ i < 16, bits (t.rd (polFk Reg.polRspD 2 (1 + i / 4))) (8 * (i % 4)) 8
            = ((rods.filter fun r => s.rodKind r == 1).map s.rodWeight).getD i 0 % 256)
    ∧ (∀ q, s.mbxOpen n = some q → s.mbxUp n = true → 0x0201 < mbxMsg q →
      ∃ t, exec (.mailboxAnswer c) s = .next t ∧ t.rd (polFk Reg.polRspD n 0) = mbxMsg q + 2 ^ 24 ∧ t.mbxOpen n = none)
    ∧ (∀ q, s.mbxOpen n = some q → ∃ t, exec (.mailboxTimeout c late) s = .next t
        ∧ t.rd (polFk Reg.polRspD n 0) = mbxMsg q + 4 * 2 ^ 24 ∧ t.rd (polF Reg.polMbctlDone n) = 1
        ∧ t.rd (polF Reg.polMbctlBusy n) = 0 ∧ t.mbxOpen n = none)

/-! ### Loop analyzer and impedance engine (chapter 19) -/

/-- LAN_RUN, its abort, DEV_ABORT, IMPEDANCE_POINT_START and ANALYZER_POINT_END (R488 to R495, Tables 19.1 and 19.2). Where the
rules leave a point open it follows the model's own reading (log entries 23, 24 and 48). -/
def Obligations.AnalyzerCommands : Prop :=
  ∀ s : State, s.Inv →
    (∀ (inst : BitVec 8) (h : CmdHdr) (point fstart fstop shape amp bound : Word),
      let n := inst.toNat
      let pt := bits point.toNat 0 2
      let args (b : Nat) := [b, fstart.toNat, fstop.toNat, shape.toNat, amp.toNat, bound.toNat]
      (s.accepts (cmdWords 0xC01 n h (args (clrBit point.toNat 8))) h.twoWire h.jbad.toNat → n < 16 → pt ≠ 3 →
          bits fstart.toNat 0 18 ≤ bits fstop.toNat 0 18 → 1 ≤ bits shape.toNat 0 7 → bits shape.toNat 0 7 ≤ 64 →
          bits shape.toNat 8 8 ≠ 0 → bits shape.toNat 16 8 ≠ 0 → bits amp.toNat 0 16 ≠ 0 →
          s.lanLimits n pt (bits fstart.toNat 0 18) (bits fstop.toNat 0 18) = false → s.loopSt n = 3 →
          s.rdB (loopF Reg.loopStatPgood n) = true → (pt = 2 → s.loopBidirCur n = true) → s.holdup = false →
          s.lan.seq = none → s.mode = .run →
        ∃ t, exec (.lanRun inst h point fstart fstop shape amp bound) s = .next t ∧ t.lanSt = (if pt = 2 then 2 else 1)
          ∧ t.lanLoop = n ∧ t.lan.seq = some h.seq.toNat ∧ t.lan.npts = bits shape.toNat 0 7
          ∧ t.rd (lanF Reg.lanStatDonepts 0) = 0 ∧ t.rd (lanF Reg.lanStatMarginok 0) = 0 ∧ t.waitsFor h.seq.toNat .lan)
      ∧ (s.accepts (cmdWords 0xC01 n h (args (setBit point.toNat 8))) h.twoWire h.jbad.toNat → n < 16 → s.lanSt ≠ 0 →
        ∃ t, exec (.lanAbort inst h point fstart fstop shape amp bound) s = .next t ∧ t.lanSt = 0 ∧ t.lan.seq = none
          ∧ t.rd (lanF Reg.lanStatAbort 0) = 1 ∧ t.statusOf h.seq.toNat = some (0, 0)))
    ∧ (s.lUp = true → s.lanSt = 1 → ∃ t, exec .devAbort s = .next t ∧ t.lanSt = 0 ∧ t.rd (lanF Reg.lanStatAbort 0) = 2
        ∧ t.evtSet 0x100 1 = true ∧ t.lan.seq = none)
    ∧ (∀ g : BitVec 3, s.inRun = true → s.coreUp 1 = true → s.effB (lanF Reg.lanZcfgZauto 0) = true → s.lanSt = 0 →
        s.lan.seq = none → s.holdup = false → s.effB (abc3F Reg.abcMapgrpEn g.toNat) = true →
        s.loopCur (s.grpLoop g.toNat) = true → s.loopSt (s.grpLoop g.toNat) = 3 →
        s.rdB (loopF Reg.loopStatPgood (s.grpLoop g.toNat)) = true →
        (∃ m ∈ s.groupStrings g.toNat, (s.zQualifies m).isSome = true) →
      ∃ t, exec (.impedancePointStart g) s = .next t ∧ t.lanSt = 2 ∧ t.lanLoop = s.grpLoop g.toNat ∧ t.lan.seq = none
        ∧ t.lan.group = g.toNat ∧ t.lan.npts = 1)
    ∧ (∀ (d : Demod) (rest : List Demod) (q : Nat), s.lUp = true → s.lanSt ≠ 0 → s.lan.seq = some q →
        s.rd (lanF Reg.lanStatDonepts 0) < 64 →
      let k := s.rd (lanF Reg.lanStatDonepts 0)
      ∃ t, exec (.analyzerPointEnd (d :: rest)) s = .next t ∧ t.rd (lanF Reg.lanStatDonepts 0) = k + 1
        ∧ t.rd (Reg.lanPtFValid.at 0x100 k) = 1 ∧ t.rd (Reg.lanPtFF.at 0x100 k) = s.lanFreq % 2 ^ 18
        ∧ t.rdB (Reg.lanPtFLowsnr.at 0x100 k) = s.lowSnr d
        ∧ t.rd (Reg.lanPtTGain.at 0x100 k) = tw 16 (ssat 16 (demodRatio d).1)
        ∧ (k + 1 < s.lan.npts → t.lanSt = s.lanSt ∧ t.lan.seq = some q)
        ∧ (s.lan.npts ≤ k + 1 → t.lanSt = 0 ∧ t.lan.seq = none ∧ t.evtSet 0x100 0 = true
            ∧ t.rd (lanF Reg.lanNrunSweeps 0) = sat 16 (s.rd (lanF Reg.lanNrunSweeps 0) + 1)))
    ∧ (∀ res : List Demod, s.lUp = true → s.lanSt ≠ 0 → s.lan.seq = none →
      ∃ t, exec (.analyzerPointEnd res) s = .next t ∧ t.lanSt = 0)
end

