-- ==== Sys2Proof/Laws/Store.lean ====
section
/-!
SUPPORT. What every operation over a register store and over memory does: reads after writes, and the canonical forms that
each of them keeps.
-/

namespace Sys2Proof.Machine

/-! ### Stores -/

/-- Every key of the store is above `k`. -/
def Store.above (k : Nat) (m : Store) : Prop := ∀ p ∈ m, k < p.1

theorem Store.sorted_cons {k v : Nat} {m : Store} : Store.sorted ((k, v) :: m) = true ↔ Store.above k m ∧ Store.sorted m = true := by
  induction m generalizing k v with
  | nil => simp [Store.sorted, Store.above]
  | cons p m ih =>
    obtain ⟨a, x⟩ := p
    constructor
    · intro h
      simp only [Store.sorted, Bool.and_eq_true, decide_eq_true_eq] at h
      refine ⟨?_, h.2⟩
      intro q hq
      rcases List.mem_cons.mp hq with rfl | hq
      · exact h.1
      · exact lt_trans h.1 ((ih.mp h.2).1 q hq)
    · rintro ⟨h, hs⟩
      simp only [Store.sorted, Bool.and_eq_true, decide_eq_true_eq]
      exact ⟨h (a, x) (List.mem_cons_self ..), hs⟩

theorem Store.get_above {k d : Nat} {m : Store} (h : Store.above k m) : m.get k d = d := by
  induction m with
  | nil => rfl
  | cons p m ih =>
    obtain ⟨a, x⟩ := p
    have ha : a ≠ k := by
      have := h (a, x) (List.mem_cons_self ..)
      simp only at this
      omega
    simp only [Store.get, ha, if_false]
    exact ih fun q hq => h q (List.mem_cons_of_mem _ hq)

theorem Store.above_lt {j k : Nat} {m : Store} (h : j ≤ k) (hm : Store.above k m) : Store.above j m :=
  fun p hp => lt_of_le_of_lt h (hm p hp)

theorem Store.above_put {j k d v : Nat} {m : Store} (hj : j < k) (hm : Store.above j m) : Store.above j (m.put k d v) := by
  induction m with
  | nil =>
    unfold Store.put
    split
    · intro p hp; cases hp
    · intro p hp
      rw [List.mem_singleton] at hp
      rw [hp]; exact hj
  | cons p m ih =>
    obtain ⟨a, x⟩ := p
    have ha : j < a := hm (a, x) (List.mem_cons_self ..)
    have hm' : Store.above j m := fun q hq => hm q (List.mem_cons_of_mem _ hq)
    unfold Store.put
    split
    · split
      · exact hm
      · intro q hq
        rcases List.mem_cons.mp hq with rfl | hq
        · exact hj
        · exact hm q hq
    · split
      · split
        · exact hm'
        · intro q hq
          rcases List.mem_cons.mp hq with rfl | hq
          · exact hj
          · exact hm' q hq
      · intro q hq
        rcases List.mem_cons.mp hq with rfl | hq
        · exact ha
        · exact ih hm' q hq

/-- A write keeps the keys strictly rising. -/
theorem Store.sorted_put {k d v : Nat} {m : Store} (h : m.sorted = true) : (m.put k d v).sorted = true := by
  induction m with
  | nil => unfold Store.put; split <;> rfl
  | cons p m ih =>
    obtain ⟨a, x⟩ := p
    have hs := Store.sorted_cons.mp h
    unfold Store.put
    split
    · rename_i hk
      split
      · exact h
      · refine Store.sorted_cons.mpr ⟨?_, h⟩
        intro q hq
        rcases List.mem_cons.mp hq with rfl | hq
        · exact hk
        · exact lt_trans hk (hs.1 q hq)
    · split
      · rename_i hk
        split
        · exact hs.2
        · subst hk; exact Store.sorted_cons.mpr hs
      · exact Store.sorted_cons.mpr ⟨Store.above_put (by omega) hs.1, ih hs.2⟩

theorem Store.above_ins {j k v : Nat} {m : Store} (hj : j < k) (hm : Store.above j m) : Store.above j (m.ins k v) := by
  induction m with
  | nil =>
    intro p hp
    simp only [Store.ins, List.mem_singleton] at hp
    rw [hp]; exact hj
  | cons p m ih =>
    obtain ⟨a, x⟩ := p
    have ha : j < a := hm (a, x) (List.mem_cons_self ..)
    have hm' : Store.above j m := fun q hq => hm q (List.mem_cons_of_mem _ hq)
    unfold Store.ins
    split
    · intro q hq
      rcases List.mem_cons.mp hq with rfl | hq
      · exact hj
      · exact hm q hq
    · split
      · intro q hq
        rcases List.mem_cons.mp hq with rfl | hq
        · exact hj
        · exact hm' q hq
      · intro q hq
        rcases List.mem_cons.mp hq with rfl | hq
        · exact ha
        · exact ih hm' q hq

theorem Store.sorted_ins {k v : Nat} {m : Store} (h : m.sorted = true) : (m.ins k v).sorted = true := by
  induction m with
  | nil => rfl
  | cons p m ih =>
    obtain ⟨a, x⟩ := p
    have hs := Store.sorted_cons.mp h
    unfold Store.ins
    split
    · rename_i hk
      refine Store.sorted_cons.mpr ⟨?_, h⟩
      intro q hq
      rcases List.mem_cons.mp hq with rfl | hq
      · exact hk
      · exact lt_trans hk (hs.1 q hq)
    · split
      · rename_i hk
        subst hk; exact Store.sorted_cons.mpr hs
      · exact Store.sorted_cons.mpr ⟨Store.above_ins (by omega) hs.1, ih hs.2⟩

theorem Store.sorted_filter {f : Nat × Nat → Bool} {m : Store} (h : m.sorted = true) : Store.sorted (m.filter f) = true := by
  induction m with
  | nil => rfl
  | cons p m ih =>
    obtain ⟨a, x⟩ := p
    have hs := Store.sorted_cons.mp h
    rw [List.filter_cons]
    split
    · exact Store.sorted_cons.mpr ⟨fun q hq => hs.1 q (List.mem_of_mem_filter hq), ih hs.2⟩
    · exact ih hs.2

/-- A copy between stores keeps the keys of its target strictly rising. -/
theorem Store.sorted_copy {sel : Nat → Bool} {lo hi : Nat} {src dst : Store} (h : dst.sorted = true) :
    (Store.copy sel lo hi src dst).sorted = true := by
  unfold Store.copy
  generalize (src.filter _) = l
  have h0 := Store.sorted_filter (f := fun p => !(decide (lo ≤ p.1) && decide (p.1 < hi) && sel p.1)) h
  induction l with
  | nil => exact h0
  | cons p l ih => exact Store.sorted_ins ih

theorem Store.sorted_clear {lo hi : Nat} {m : Store} (h : m.sorted = true) : (m.clear lo hi).sorted = true := Store.sorted_filter h

/-- What was written is read. -/
theorem Store.get_put_self {k d v : Nat} {m : Store} (h : m.sorted = true) : (m.put k d v).get k d = v := by
  induction m with
  | nil =>
    unfold Store.put
    split
    · rename_i hv; rw [hv]; rfl
    · simp [Store.get]
  | cons p m ih =>
    obtain ⟨a, x⟩ := p
    have hs := Store.sorted_cons.mp h
    unfold Store.put
    split
    · rename_i hk
      split
      · rename_i hv
        rw [hv]
        refine Store.get_above ?_
        intro q hq
        rcases List.mem_cons.mp hq with rfl | hq
        · exact hk
        · exact lt_trans hk (hs.1 q hq)
      · simp [Store.get]
    · split
      · rename_i hk
        subst hk
        split
        · rename_i hv
          rw [hv]
          exact Store.get_above hs.1
        · simp [Store.get]
      · rename_i hk
        have : a ≠ k := fun e => hk e.symm
        simp only [Store.get, this, if_false]
        exact ih hs.2

/-- A write leaves every other key alone. -/
theorem Store.get_put_ne {j k d e v : Nat} {m : Store} (hj : j ≠ k) : (m.put k e v).get j d = m.get j d := by
  have hk : ¬ k = j := fun h => hj h.symm
  induction m with
  | nil =>
    unfold Store.put
    split
    · rfl
    · simp [Store.get, hk]
  | cons p m ih =>
    obtain ⟨a, x⟩ := p
    unfold Store.put
    split
    · split
      · rfl
      · simp [Store.get, hk]
    · split
      · rename_i h
        subst h
        split
        · simp [Store.get, hk]
        · simp [Store.get, hk]
      · simp only [Store.get]
        rw [ih]

/-! ### Memory -/

/-- Every address of the memory is above `k`. -/
def Memory.above (k : Nat) (m : Memory) : Prop := ∀ p ∈ m, k < p.1

theorem Memory.wf_cons {k : Nat} {v : Byte} {m : Memory} :
    Memory.wf ((k, v) :: m) = true ↔ v ≠ 0#8 ∧ Memory.above k m ∧ Memory.wf m = true := by
  induction m generalizing k v with
  | nil => simp [Memory.wf, Memory.above]
  | cons p m ih =>
    obtain ⟨a, x⟩ := p
    constructor
    · intro h
      simp only [Memory.wf, Bool.and_eq_true, decide_eq_true_eq, bne_iff_ne] at h
      refine ⟨h.1.1, ?_, h.2⟩
      intro q hq
      rcases List.mem_cons.mp hq with rfl | hq
      · exact h.1.2
      · exact lt_trans h.1.2 ((ih.mp h.2).2.1 q hq)
    · rintro ⟨hv, h, hs⟩
      simp only [Memory.wf, Bool.and_eq_true, decide_eq_true_eq, bne_iff_ne]
      exact ⟨⟨hv, h (a, x) (List.mem_cons_self ..)⟩, hs⟩

theorem Memory.above_put {j k : Nat} {v : Byte} {m : Memory} (hj : j < k) (hm : Memory.above j m) : Memory.above j (m.put k v) := by
  induction m with
  | nil =>
    unfold Memory.put
    split
    · intro p hp; cases hp
    · intro p hp
      rw [List.mem_singleton] at hp
      rw [hp]; exact hj
  | cons p m ih =>
    obtain ⟨a, x⟩ := p
    have ha : j < a := hm (a, x) (List.mem_cons_self ..)
    have hm' : Memory.above j m := fun q hq => hm q (List.mem_cons_of_mem _ hq)
    unfold Memory.put
    split
    · split
      · exact hm
      · intro q hq
        rcases List.mem_cons.mp hq with rfl | hq
        · exact hj
        · exact hm q hq
    · split
      · split
        · exact hm'
        · intro q hq
          rcases List.mem_cons.mp hq with rfl | hq
          · exact hj
          · exact hm' q hq
      · intro q hq
        rcases List.mem_cons.mp hq with rfl | hq
        · exact ha
        · exact ih hm' q hq

/-- A byte written keeps the canonical form. -/
theorem Memory.wf_put {k : Nat} {v : Byte} {m : Memory} (h : m.wf = true) : (m.put k v).wf = true := by
  induction m with
  | nil =>
    unfold Memory.put
    split
    · rfl
    · rename_i hv; simp [Memory.wf, hv]
  | cons p m ih =>
    obtain ⟨a, x⟩ := p
    have hs := Memory.wf_cons.mp h
    unfold Memory.put
    split
    · rename_i hk
      split
      · exact h
      · rename_i hv
        refine Memory.wf_cons.mpr ⟨hv, ?_, h⟩
        intro q hq
        rcases List.mem_cons.mp hq with rfl | hq
        · exact hk
        · exact lt_trans hk (hs.2.1 q hq)
    · split
      · rename_i hk
        split
        · exact hs.2.2
        · rename_i hv
          subst hk; exact Memory.wf_cons.mpr ⟨hv, hs.2⟩
      · exact Memory.wf_cons.mpr ⟨hs.1, Memory.above_put (by omega) hs.2.1, ih hs.2.2⟩

/-- A run of bytes written keeps the canonical form. -/
theorem Memory.wf_putRun {a : Nat} {l : List Byte} {m : Memory} (h : m.wf = true) : (m.putRun a l).wf = true := by
  induction l generalizing a m with
  | nil => exact h
  | cons v l ih => exact ih (Memory.wf_put h)

/-- Words written keep the canonical form. -/
theorem Memory.wf_putWords {a : Nat} {ws : List Nat} {m : Memory} (h : m.wf = true) : (m.putWords a ws).wf = true :=
  Memory.wf_putRun h

/-- Bytes that lose their contents keep the canonical form. -/
theorem Memory.wf_wipe {a b : Nat} {m : Memory} (h : m.wf = true) : (m.wipe a b).wf = true := by
  unfold Memory.wipe
  induction m with
  | nil => rfl
  | cons p m ih =>
    obtain ⟨c, x⟩ := p
    have hs := Memory.wf_cons.mp h
    rw [List.filter_cons]
    split
    · exact Memory.wf_cons.mpr ⟨hs.1, fun q hq => hs.2.1 q (List.mem_of_mem_filter hq), ih hs.2.2⟩
    · exact ih hs.2.2

theorem Memory.byte_above {k : Nat} {m : Memory} (h : Memory.above k m) : m.byte k = 0#8 := by
  induction m with
  | nil => rfl
  | cons p m ih =>
    obtain ⟨a, x⟩ := p
    have ha : a ≠ k := by
      have := h (a, x) (List.mem_cons_self ..)
      simp only at this
      omega
    simp only [Memory.byte, ha, if_false]
    exact ih fun q hq => h q (List.mem_cons_of_mem _ hq)

/-- The byte written is read. -/
theorem Memory.byte_put_self {k : Nat} {v : Byte} {m : Memory} (h : m.wf = true) : (m.put k v).byte k = v := by
  induction m with
  | nil =>
    unfold Memory.put
    split
    · rename_i hv; rw [hv]; rfl
    · simp [Memory.byte]
  | cons p m ih =>
    obtain ⟨a, x⟩ := p
    have hs := Memory.wf_cons.mp h
    unfold Memory.put
    split
    · rename_i hk
      split
      · rename_i hv
        rw [hv]
        refine Memory.byte_above ?_
        intro q hq
        rcases List.mem_cons.mp hq with rfl | hq
        · exact hk
        · exact lt_trans hk (hs.2.1 q hq)
      · simp [Memory.byte]
    · split
      · rename_i hk
        subst hk
        split
        · rename_i hv
          rw [hv]
          exact Memory.byte_above hs.2.1
        · simp [Memory.byte]
      · rename_i hk
        have : a ≠ k := fun e => hk e.symm
        simp only [Memory.byte, this, if_false]
        exact ih hs.2.2

/-- A byte written leaves every other byte alone. -/
theorem Memory.byte_put_ne {j k : Nat} {v : Byte} {m : Memory} (hj : j ≠ k) : (m.put k v).byte j = m.byte j := by
  have hk : ¬ k = j := fun h => hj h.symm
  induction m with
  | nil =>
    unfold Memory.put
    split
    · rfl
    · simp [Memory.byte, hk]
  | cons p m ih =>
    obtain ⟨a, x⟩ := p
    unfold Memory.put
    split
    · split
      · rfl
      · simp [Memory.byte, hk]
    · split
      · rename_i h
        subst h
        split
        · simp [Memory.byte, hk]
        · simp [Memory.byte, hk]
      · simp only [Memory.byte]
        rw [ih]

/-- A run of bytes leaves every byte outside it alone. -/
theorem Memory.byte_putRun_out {a j : Nat} {l : List Byte} {m : Memory} (h : j < a ∨ a + l.length ≤ j) :
    (m.putRun a l).byte j = m.byte j := by
  induction l generalizing a m with
  | nil => rfl
  | cons v l ih =>
    simp only [List.length_cons] at h
    unfold Memory.putRun
    rw [ih (by omega), Memory.byte_put_ne (by omega)]

end Sys2Proof.Machine
end

