-- ==== Sys2Proof/Laws/State.lean ====
section
/-!
SUPPORT. What each plain update of State leaves alone, one lemma per field per update; and reads of register fields after
writes.
-/

namespace Sys2Proof.Machine

/-! ### wr: changes regs -/

@[simp] theorem State.wr_pending (s : State) (f : Fld) (v : Nat) : (s.wr f v).pending = s.pending := rfl
@[simp] theorem State.wr_mode (s : State) (f : Fld) (v : Nat) : (s.wr f v).mode = s.mode := rfl
@[simp] theorem State.wr_us (s : State) (f : Fld) (v : Nat) : (s.wr f v).us = s.us := rfl
@[simp] theorem State.wr_act (s : State) (f : Fld) (v : Nat) : (s.wr f v).act = s.act := rfl
@[simp] theorem State.wr_snap (s : State) (f : Fld) (v : Nat) : (s.wr f v).snap = s.snap := rfl
@[simp] theorem State.wr_snapUs (s : State) (f : Fld) (v : Nat) : (s.wr f v).snapUs = s.snapUs := rfl
@[simp] theorem State.wr_partsDone (s : State) (f : Fld) (v : Nat) : (s.wr f v).partsDone = s.partsDone := rfl
@[simp] theorem State.wr_out (s : State) (f : Fld) (v : Nat) : (s.wr f v).out = s.out := rfl
@[simp] theorem State.wr_rdata (s : State) (f : Fld) (v : Nat) : (s.wr f v).rdata = s.rdata := rfl
@[simp] theorem State.wr_svN (s : State) (f : Fld) (v : Nat) : (s.wr f v).svN = s.svN := rfl
@[simp] theorem State.wr_holdUs (s : State) (f : Fld) (v : Nat) : (s.wr f v).holdUs = s.holdUs := rfl
@[simp] theorem State.wr_draws (s : State) (f : Fld) (v : Nat) : (s.wr f v).draws = s.draws := rfl
@[simp] theorem State.wr_evPend (s : State) (f : Fld) (v : Nat) : (s.wr f v).evPend = s.evPend := rfl
@[simp] theorem State.wr_evq (s : State) (f : Fld) (v : Nat) : (s.wr f v).evq = s.evq := rfl
@[simp] theorem State.wr_evqOvf (s : State) (f : Fld) (v : Nat) : (s.wr f v).evqOvf = s.evqOvf := rfl
@[simp] theorem State.wr_vec (s : State) (f : Fld) (v : Nat) : (s.wr f v).vec = s.vec := rfl
@[simp] theorem State.wr_msix (s : State) (f : Fld) (v : Nat) : (s.wr f v).msix = s.msix := rfl
@[simp] theorem State.wr_jrejDetail (s : State) (f : Fld) (v : Nat) : (s.wr f v).jrejDetail = s.jrejDetail := rfl
@[simp] theorem State.wr_lockrejDetail (s : State) (f : Fld) (v : Nat) : (s.wr f v).lockrejDetail = s.lockrejDetail := rfl
@[simp] theorem State.wr_tokenQ (s : State) (f : Fld) (v : Nat) : (s.wr f v).tokenQ = s.tokenQ := rfl
@[simp] theorem State.wr_islBuf (s : State) (f : Fld) (v : Nat) : (s.wr f v).islBuf = s.islBuf := rfl
@[simp] theorem State.wr_islOvf (s : State) (f : Fld) (v : Nat) : (s.wr f v).islOvf = s.islOvf := rfl
@[simp] theorem State.wr_offers (s : State) (f : Fld) (v : Nat) : (s.wr f v).offers = s.offers := rfl
@[simp] theorem State.wr_jnl (s : State) (f : Fld) (v : Nat) : (s.wr f v).jnl = s.jnl := rfl
@[simp] theorem State.wr_jHeld (s : State) (f : Fld) (v : Nat) : (s.wr f v).jHeld = s.jHeld := rfl
@[simp] theorem State.wr_jInject (s : State) (f : Fld) (v : Nat) : (s.wr f v).jInject = s.jInject := rfl
@[simp] theorem State.wr_hostRing (s : State) (f : Fld) (v : Nat) : (s.wr f v).hostRing = s.hostRing := rfl
@[simp] theorem State.wr_repHeld (s : State) (f : Fld) (v : Nat) : (s.wr f v).repHeld = s.repHeld := rfl
@[simp] theorem State.wr_rptFull (s : State) (f : Fld) (v : Nat) : (s.wr f v).rptFull = s.rptFull := rfl
@[simp] theorem State.wr_redirect (s : State) (f : Fld) (v : Nat) : (s.wr f v).redirect = s.redirect := rfl
@[simp] theorem State.wr_aerFatal (s : State) (f : Fld) (v : Nat) : (s.wr f v).aerFatal = s.aerFatal := rfl
@[simp] theorem State.wr_twq (s : State) (f : Fld) (v : Nat) : (s.wr f v).twq = s.twq := rfl
@[simp] theorem State.wr_twHeld (s : State) (f : Fld) (v : Nat) : (s.wr f v).twHeld = s.twHeld := rfl
@[simp] theorem State.wr_twStage (s : State) (f : Fld) (v : Nat) : (s.wr f v).twStage = s.twStage := rfl
@[simp] theorem State.wr_twWaiting (s : State) (f : Fld) (v : Nat) : (s.wr f v).twWaiting = s.twWaiting := rfl
@[simp] theorem State.wr_pfwOn (s : State) (f : Fld) (v : Nat) : (s.wr f v).pfwOn = s.pfwOn := rfl
@[simp] theorem State.wr_warmArmed (s : State) (f : Fld) (v : Nat) : (s.wr f v).warmArmed = s.warmArmed := rfl
@[simp] theorem State.wr_bay (s : State) (f : Fld) (v : Nat) : (s.wr f v).bay = s.bay := rfl
@[simp] theorem State.wr_loop (s : State) (f : Fld) (v : Nat) : (s.wr f v).loop = s.loop := rfl
@[simp] theorem State.wr_ph (s : State) (f : Fld) (v : Nat) : (s.wr f v).ph = s.ph := rfl
@[simp] theorem State.wr_rail (s : State) (f : Fld) (v : Nat) : (s.wr f v).rail = s.rail := rfl
@[simp] theorem State.wr_fl (s : State) (f : Fld) (v : Nat) : (s.wr f v).fl = s.fl := rfl
@[simp] theorem State.wr_idx (s : State) (f : Fld) (v : Nat) : (s.wr f v).idx = s.idx := rfl
@[simp] theorem State.wr_tie (s : State) (f : Fld) (v : Nat) : (s.wr f v).tie = s.tie := rfl
@[simp] theorem State.wr_abc (s : State) (f : Fld) (v : Nat) : (s.wr f v).abc = s.abc := rfl
@[simp] theorem State.wr_hld (s : State) (f : Fld) (v : Nat) : (s.wr f v).hld = s.hld := rfl
@[simp] theorem State.wr_bal (s : State) (f : Fld) (v : Nat) : (s.wr f v).bal = s.bal := rfl
@[simp] theorem State.wr_bat (s : State) (f : Fld) (v : Nat) : (s.wr f v).bat = s.bat := rfl
@[simp] theorem State.wr_recs (s : State) (f : Fld) (v : Nat) : (s.wr f v).recs = s.recs := rfl
@[simp] theorem State.wr_recsNvm (s : State) (f : Fld) (v : Nat) : (s.wr f v).recsNvm = s.recsNvm := rfl
@[simp] theorem State.wr_recDue (s : State) (f : Fld) (v : Nat) : (s.wr f v).recDue = s.recDue := rfl
@[simp] theorem State.wr_recUs (s : State) (f : Fld) (v : Nat) : (s.wr f v).recUs = s.recUs := rfl
@[simp] theorem State.wr_twc (s : State) (f : Fld) (v : Nat) : (s.wr f v).twc = s.twc := rfl
@[simp] theorem State.wr_twPtr (s : State) (f : Fld) (v : Nat) : (s.wr f v).twPtr = s.twPtr := rfl
@[simp] theorem State.wr_twFast (s : State) (f : Fld) (v : Nat) : (s.wr f v).twFast = s.twFast := rfl
@[simp] theorem State.wr_rbytes (s : State) (f : Fld) (v : Nat) : (s.wr f v).rbytes = s.rbytes := rfl
@[simp] theorem State.wr_lan (s : State) (f : Fld) (v : Nat) : (s.wr f v).lan = s.lan := rfl
@[simp] theorem State.wr_mem (s : State) (f : Fld) (v : Nat) : (s.wr f v).mem = s.mem := rfl
@[simp] theorem State.wr_cap (s : State) (f : Fld) (v : Nat) : (s.wr f v).cap = s.cap := rfl
@[simp] theorem State.wr_str (s : State) (f : Fld) (v : Nat) : (s.wr f v).str = s.str := rfl
@[simp] theorem State.wr_memBad (s : State) (f : Fld) (v : Nat) : (s.wr f v).memBad = s.memBad := rfl
@[simp] theorem State.wr_gal (s : State) (f : Fld) (v : Nat) : (s.wr f v).gal = s.gal := rfl
@[simp] theorem State.wr_flt (s : State) (f : Fld) (v : Nat) : (s.wr f v).flt = s.flt := rfl
@[simp] theorem State.wr_sys (s : State) (f : Fld) (v : Nat) : (s.wr f v).sys = s.sys := rfl

/-! ### wrB: changes regs -/

@[simp] theorem State.wrB_pending (s : State) (f : Fld) (b : Bool) : (s.wrB f b).pending = s.pending := rfl
@[simp] theorem State.wrB_mode (s : State) (f : Fld) (b : Bool) : (s.wrB f b).mode = s.mode := rfl
@[simp] theorem State.wrB_us (s : State) (f : Fld) (b : Bool) : (s.wrB f b).us = s.us := rfl
@[simp] theorem State.wrB_act (s : State) (f : Fld) (b : Bool) : (s.wrB f b).act = s.act := rfl
@[simp] theorem State.wrB_snap (s : State) (f : Fld) (b : Bool) : (s.wrB f b).snap = s.snap := rfl
@[simp] theorem State.wrB_snapUs (s : State) (f : Fld) (b : Bool) : (s.wrB f b).snapUs = s.snapUs := rfl
@[simp] theorem State.wrB_partsDone (s : State) (f : Fld) (b : Bool) : (s.wrB f b).partsDone = s.partsDone := rfl
@[simp] theorem State.wrB_out (s : State) (f : Fld) (b : Bool) : (s.wrB f b).out = s.out := rfl
@[simp] theorem State.wrB_rdata (s : State) (f : Fld) (b : Bool) : (s.wrB f b).rdata = s.rdata := rfl
@[simp] theorem State.wrB_svN (s : State) (f : Fld) (b : Bool) : (s.wrB f b).svN = s.svN := rfl
@[simp] theorem State.wrB_holdUs (s : State) (f : Fld) (b : Bool) : (s.wrB f b).holdUs = s.holdUs := rfl
@[simp] theorem State.wrB_draws (s : State) (f : Fld) (b : Bool) : (s.wrB f b).draws = s.draws := rfl
@[simp] theorem State.wrB_evPend (s : State) (f : Fld) (b : Bool) : (s.wrB f b).evPend = s.evPend := rfl
@[simp] theorem State.wrB_evq (s : State) (f : Fld) (b : Bool) : (s.wrB f b).evq = s.evq := rfl
@[simp] theorem State.wrB_evqOvf (s : State) (f : Fld) (b : Bool) : (s.wrB f b).evqOvf = s.evqOvf := rfl
@[simp] theorem State.wrB_vec (s : State) (f : Fld) (b : Bool) : (s.wrB f b).vec = s.vec := rfl
@[simp] theorem State.wrB_msix (s : State) (f : Fld) (b : Bool) : (s.wrB f b).msix = s.msix := rfl
@[simp] theorem State.wrB_jrejDetail (s : State) (f : Fld) (b : Bool) : (s.wrB f b).jrejDetail = s.jrejDetail := rfl
@[simp] theorem State.wrB_lockrejDetail (s : State) (f : Fld) (b : Bool) : (s.wrB f b).lockrejDetail = s.lockrejDetail := rfl
@[simp] theorem State.wrB_tokenQ (s : State) (f : Fld) (b : Bool) : (s.wrB f b).tokenQ = s.tokenQ := rfl
@[simp] theorem State.wrB_islBuf (s : State) (f : Fld) (b : Bool) : (s.wrB f b).islBuf = s.islBuf := rfl
@[simp] theorem State.wrB_islOvf (s : State) (f : Fld) (b : Bool) : (s.wrB f b).islOvf = s.islOvf := rfl
@[simp] theorem State.wrB_offers (s : State) (f : Fld) (b : Bool) : (s.wrB f b).offers = s.offers := rfl
@[simp] theorem State.wrB_jnl (s : State) (f : Fld) (b : Bool) : (s.wrB f b).jnl = s.jnl := rfl
@[simp] theorem State.wrB_jHeld (s : State) (f : Fld) (b : Bool) : (s.wrB f b).jHeld = s.jHeld := rfl
@[simp] theorem State.wrB_jInject (s : State) (f : Fld) (b : Bool) : (s.wrB f b).jInject = s.jInject := rfl
@[simp] theorem State.wrB_hostRing (s : State) (f : Fld) (b : Bool) : (s.wrB f b).hostRing = s.hostRing := rfl
@[simp] theorem State.wrB_repHeld (s : State) (f : Fld) (b : Bool) : (s.wrB f b).repHeld = s.repHeld := rfl
@[simp] theorem State.wrB_rptFull (s : State) (f : Fld) (b : Bool) : (s.wrB f b).rptFull = s.rptFull := rfl
@[simp] theorem State.wrB_redirect (s : State) (f : Fld) (b : Bool) : (s.wrB f b).redirect = s.redirect := rfl
@[simp] theorem State.wrB_aerFatal (s : State) (f : Fld) (b : Bool) : (s.wrB f b).aerFatal = s.aerFatal := rfl
@[simp] theorem State.wrB_twq (s : State) (f : Fld) (b : Bool) : (s.wrB f b).twq = s.twq := rfl
@[simp] theorem State.wrB_twHeld (s : State) (f : Fld) (b : Bool) : (s.wrB f b).twHeld = s.twHeld := rfl
@[simp] theorem State.wrB_twStage (s : State) (f : Fld) (b : Bool) : (s.wrB f b).twStage = s.twStage := rfl
@[simp] theorem State.wrB_twWaiting (s : State) (f : Fld) (b : Bool) : (s.wrB f b).twWaiting = s.twWaiting := rfl
@[simp] theorem State.wrB_pfwOn (s : State) (f : Fld) (b : Bool) : (s.wrB f b).pfwOn = s.pfwOn := rfl
@[simp] theorem State.wrB_warmArmed (s : State) (f : Fld) (b : Bool) : (s.wrB f b).warmArmed = s.warmArmed := rfl
@[simp] theorem State.wrB_bay (s : State) (f : Fld) (b : Bool) : (s.wrB f b).bay = s.bay := rfl
@[simp] theorem State.wrB_loop (s : State) (f : Fld) (b : Bool) : (s.wrB f b).loop = s.loop := rfl
@[simp] theorem State.wrB_ph (s : State) (f : Fld) (b : Bool) : (s.wrB f b).ph = s.ph := rfl
@[simp] theorem State.wrB_rail (s : State) (f : Fld) (b : Bool) : (s.wrB f b).rail = s.rail := rfl
@[simp] theorem State.wrB_fl (s : State) (f : Fld) (b : Bool) : (s.wrB f b).fl = s.fl := rfl
@[simp] theorem State.wrB_idx (s : State) (f : Fld) (b : Bool) : (s.wrB f b).idx = s.idx := rfl
@[simp] theorem State.wrB_tie (s : State) (f : Fld) (b : Bool) : (s.wrB f b).tie = s.tie := rfl
@[simp] theorem State.wrB_abc (s : State) (f : Fld) (b : Bool) : (s.wrB f b).abc = s.abc := rfl
@[simp] theorem State.wrB_hld (s : State) (f : Fld) (b : Bool) : (s.wrB f b).hld = s.hld := rfl
@[simp] theorem State.wrB_bal (s : State) (f : Fld) (b : Bool) : (s.wrB f b).bal = s.bal := rfl
@[simp] theorem State.wrB_bat (s : State) (f : Fld) (b : Bool) : (s.wrB f b).bat = s.bat := rfl
@[simp] theorem State.wrB_recs (s : State) (f : Fld) (b : Bool) : (s.wrB f b).recs = s.recs := rfl
@[simp] theorem State.wrB_recsNvm (s : State) (f : Fld) (b : Bool) : (s.wrB f b).recsNvm = s.recsNvm := rfl
@[simp] theorem State.wrB_recDue (s : State) (f : Fld) (b : Bool) : (s.wrB f b).recDue = s.recDue := rfl
@[simp] theorem State.wrB_recUs (s : State) (f : Fld) (b : Bool) : (s.wrB f b).recUs = s.recUs := rfl
@[simp] theorem State.wrB_twc (s : State) (f : Fld) (b : Bool) : (s.wrB f b).twc = s.twc := rfl
@[simp] theorem State.wrB_twPtr (s : State) (f : Fld) (b : Bool) : (s.wrB f b).twPtr = s.twPtr := rfl
@[simp] theorem State.wrB_twFast (s : State) (f : Fld) (b : Bool) : (s.wrB f b).twFast = s.twFast := rfl
@[simp] theorem State.wrB_rbytes (s : State) (f : Fld) (b : Bool) : (s.wrB f b).rbytes = s.rbytes := rfl
@[simp] theorem State.wrB_lan (s : State) (f : Fld) (b : Bool) : (s.wrB f b).lan = s.lan := rfl
@[simp] theorem State.wrB_mem (s : State) (f : Fld) (b : Bool) : (s.wrB f b).mem = s.mem := rfl
@[simp] theorem State.wrB_cap (s : State) (f : Fld) (b : Bool) : (s.wrB f b).cap = s.cap := rfl
@[simp] theorem State.wrB_str (s : State) (f : Fld) (b : Bool) : (s.wrB f b).str = s.str := rfl
@[simp] theorem State.wrB_memBad (s : State) (f : Fld) (b : Bool) : (s.wrB f b).memBad = s.memBad := rfl
@[simp] theorem State.wrB_gal (s : State) (f : Fld) (b : Bool) : (s.wrB f b).gal = s.gal := rfl
@[simp] theorem State.wrB_flt (s : State) (f : Fld) (b : Bool) : (s.wrB f b).flt = s.flt := rfl
@[simp] theorem State.wrB_sys (s : State) (f : Fld) (b : Bool) : (s.wrB f b).sys = s.sys := rfl

/-! ### wrA: changes act -/

@[simp] theorem State.wrA_pending (s : State) (f : Fld) (v : Nat) : (s.wrA f v).pending = s.pending := rfl
@[simp] theorem State.wrA_mode (s : State) (f : Fld) (v : Nat) : (s.wrA f v).mode = s.mode := rfl
@[simp] theorem State.wrA_us (s : State) (f : Fld) (v : Nat) : (s.wrA f v).us = s.us := rfl
@[simp] theorem State.wrA_regs (s : State) (f : Fld) (v : Nat) : (s.wrA f v).regs = s.regs := rfl
@[simp] theorem State.wrA_snap (s : State) (f : Fld) (v : Nat) : (s.wrA f v).snap = s.snap := rfl
@[simp] theorem State.wrA_snapUs (s : State) (f : Fld) (v : Nat) : (s.wrA f v).snapUs = s.snapUs := rfl
@[simp] theorem State.wrA_partsDone (s : State) (f : Fld) (v : Nat) : (s.wrA f v).partsDone = s.partsDone := rfl
@[simp] theorem State.wrA_out (s : State) (f : Fld) (v : Nat) : (s.wrA f v).out = s.out := rfl
@[simp] theorem State.wrA_rdata (s : State) (f : Fld) (v : Nat) : (s.wrA f v).rdata = s.rdata := rfl
@[simp] theorem State.wrA_svN (s : State) (f : Fld) (v : Nat) : (s.wrA f v).svN = s.svN := rfl
@[simp] theorem State.wrA_holdUs (s : State) (f : Fld) (v : Nat) : (s.wrA f v).holdUs = s.holdUs := rfl
@[simp] theorem State.wrA_draws (s : State) (f : Fld) (v : Nat) : (s.wrA f v).draws = s.draws := rfl
@[simp] theorem State.wrA_evPend (s : State) (f : Fld) (v : Nat) : (s.wrA f v).evPend = s.evPend := rfl
@[simp] theorem State.wrA_evq (s : State) (f : Fld) (v : Nat) : (s.wrA f v).evq = s.evq := rfl
@[simp] theorem State.wrA_evqOvf (s : State) (f : Fld) (v : Nat) : (s.wrA f v).evqOvf = s.evqOvf := rfl
@[simp] theorem State.wrA_vec (s : State) (f : Fld) (v : Nat) : (s.wrA f v).vec = s.vec := rfl
@[simp] theorem State.wrA_msix (s : State) (f : Fld) (v : Nat) : (s.wrA f v).msix = s.msix := rfl
@[simp] theorem State.wrA_jrejDetail (s : State) (f : Fld) (v : Nat) : (s.wrA f v).jrejDetail = s.jrejDetail := rfl
@[simp] theorem State.wrA_lockrejDetail (s : State) (f : Fld) (v : Nat) : (s.wrA f v).lockrejDetail = s.lockrejDetail := rfl
@[simp] theorem State.wrA_tokenQ (s : State) (f : Fld) (v : Nat) : (s.wrA f v).tokenQ = s.tokenQ := rfl
@[simp] theorem State.wrA_islBuf (s : State) (f : Fld) (v : Nat) : (s.wrA f v).islBuf = s.islBuf := rfl
@[simp] theorem State.wrA_islOvf (s : State) (f : Fld) (v : Nat) : (s.wrA f v).islOvf = s.islOvf := rfl
@[simp] theorem State.wrA_offers (s : State) (f : Fld) (v : Nat) : (s.wrA f v).offers = s.offers := rfl
@[simp] theorem State.wrA_jnl (s : State) (f : Fld) (v : Nat) : (s.wrA f v).jnl = s.jnl := rfl
@[simp] theorem State.wrA_jHeld (s : State) (f : Fld) (v : Nat) : (s.wrA f v).jHeld = s.jHeld := rfl
@[simp] theorem State.wrA_jInject (s : State) (f : Fld) (v : Nat) : (s.wrA f v).jInject = s.jInject := rfl
@[simp] theorem State.wrA_hostRing (s : State) (f : Fld) (v : Nat) : (s.wrA f v).hostRing = s.hostRing := rfl
@[simp] theorem State.wrA_repHeld (s : State) (f : Fld) (v : Nat) : (s.wrA f v).repHeld = s.repHeld := rfl
@[simp] theorem State.wrA_rptFull (s : State) (f : Fld) (v : Nat) : (s.wrA f v).rptFull = s.rptFull := rfl
@[simp] theorem State.wrA_redirect (s : State) (f : Fld) (v : Nat) : (s.wrA f v).redirect = s.redirect := rfl
@[simp] theorem State.wrA_aerFatal (s : State) (f : Fld) (v : Nat) : (s.wrA f v).aerFatal = s.aerFatal := rfl
@[simp] theorem State.wrA_twq (s : State) (f : Fld) (v : Nat) : (s.wrA f v).twq = s.twq := rfl
@[simp] theorem State.wrA_twHeld (s : State) (f : Fld) (v : Nat) : (s.wrA f v).twHeld = s.twHeld := rfl
@[simp] theorem State.wrA_twStage (s : State) (f : Fld) (v : Nat) : (s.wrA f v).twStage = s.twStage := rfl
@[simp] theorem State.wrA_twWaiting (s : State) (f : Fld) (v : Nat) : (s.wrA f v).twWaiting = s.twWaiting := rfl
@[simp] theorem State.wrA_pfwOn (s : State) (f : Fld) (v : Nat) : (s.wrA f v).pfwOn = s.pfwOn := rfl
@[simp] theorem State.wrA_warmArmed (s : State) (f : Fld) (v : Nat) : (s.wrA f v).warmArmed = s.warmArmed := rfl
@[simp] theorem State.wrA_bay (s : State) (f : Fld) (v : Nat) : (s.wrA f v).bay = s.bay := rfl
@[simp] theorem State.wrA_loop (s : State) (f : Fld) (v : Nat) : (s.wrA f v).loop = s.loop := rfl
@[simp] theorem State.wrA_ph (s : State) (f : Fld) (v : Nat) : (s.wrA f v).ph = s.ph := rfl
@[simp] theorem State.wrA_rail (s : State) (f : Fld) (v : Nat) : (s.wrA f v).rail = s.rail := rfl
@[simp] theorem State.wrA_fl (s : State) (f : Fld) (v : Nat) : (s.wrA f v).fl = s.fl := rfl
@[simp] theorem State.wrA_idx (s : State) (f : Fld) (v : Nat) : (s.wrA f v).idx = s.idx := rfl
@[simp] theorem State.wrA_tie (s : State) (f : Fld) (v : Nat) : (s.wrA f v).tie = s.tie := rfl
@[simp] theorem State.wrA_abc (s : State) (f : Fld) (v : Nat) : (s.wrA f v).abc = s.abc := rfl
@[simp] theorem State.wrA_hld (s : State) (f : Fld) (v : Nat) : (s.wrA f v).hld = s.hld := rfl
@[simp] theorem State.wrA_bal (s : State) (f : Fld) (v : Nat) : (s.wrA f v).bal = s.bal := rfl
@[simp] theorem State.wrA_bat (s : State) (f : Fld) (v : Nat) : (s.wrA f v).bat = s.bat := rfl
@[simp] theorem State.wrA_recs (s : State) (f : Fld) (v : Nat) : (s.wrA f v).recs = s.recs := rfl
@[simp] theorem State.wrA_recsNvm (s : State) (f : Fld) (v : Nat) : (s.wrA f v).recsNvm = s.recsNvm := rfl
@[simp] theorem State.wrA_recDue (s : State) (f : Fld) (v : Nat) : (s.wrA f v).recDue = s.recDue := rfl
@[simp] theorem State.wrA_recUs (s : State) (f : Fld) (v : Nat) : (s.wrA f v).recUs = s.recUs := rfl
@[simp] theorem State.wrA_twc (s : State) (f : Fld) (v : Nat) : (s.wrA f v).twc = s.twc := rfl
@[simp] theorem State.wrA_twPtr (s : State) (f : Fld) (v : Nat) : (s.wrA f v).twPtr = s.twPtr := rfl
@[simp] theorem State.wrA_twFast (s : State) (f : Fld) (v : Nat) : (s.wrA f v).twFast = s.twFast := rfl
@[simp] theorem State.wrA_rbytes (s : State) (f : Fld) (v : Nat) : (s.wrA f v).rbytes = s.rbytes := rfl
@[simp] theorem State.wrA_lan (s : State) (f : Fld) (v : Nat) : (s.wrA f v).lan = s.lan := rfl
@[simp] theorem State.wrA_mem (s : State) (f : Fld) (v : Nat) : (s.wrA f v).mem = s.mem := rfl
@[simp] theorem State.wrA_cap (s : State) (f : Fld) (v : Nat) : (s.wrA f v).cap = s.cap := rfl
@[simp] theorem State.wrA_str (s : State) (f : Fld) (v : Nat) : (s.wrA f v).str = s.str := rfl
@[simp] theorem State.wrA_memBad (s : State) (f : Fld) (v : Nat) : (s.wrA f v).memBad = s.memBad := rfl
@[simp] theorem State.wrA_gal (s : State) (f : Fld) (v : Nat) : (s.wrA f v).gal = s.gal := rfl
@[simp] theorem State.wrA_flt (s : State) (f : Fld) (v : Nat) : (s.wrA f v).flt = s.flt := rfl
@[simp] theorem State.wrA_sys (s : State) (f : Fld) (v : Nat) : (s.wrA f v).sys = s.sys := rfl

/-! ### inc: changes regs -/

@[simp] theorem State.inc_pending (s : State) (f : Fld) (n : Nat) : (s.inc f n).pending = s.pending := rfl
@[simp] theorem State.inc_mode (s : State) (f : Fld) (n : Nat) : (s.inc f n).mode = s.mode := rfl
@[simp] theorem State.inc_us (s : State) (f : Fld) (n : Nat) : (s.inc f n).us = s.us := rfl
@[simp] theorem State.inc_act (s : State) (f : Fld) (n : Nat) : (s.inc f n).act = s.act := rfl
@[simp] theorem State.inc_snap (s : State) (f : Fld) (n : Nat) : (s.inc f n).snap = s.snap := rfl
@[simp] theorem State.inc_snapUs (s : State) (f : Fld) (n : Nat) : (s.inc f n).snapUs = s.snapUs := rfl
@[simp] theorem State.inc_partsDone (s : State) (f : Fld) (n : Nat) : (s.inc f n).partsDone = s.partsDone := rfl
@[simp] theorem State.inc_out (s : State) (f : Fld) (n : Nat) : (s.inc f n).out = s.out := rfl
@[simp] theorem State.inc_rdata (s : State) (f : Fld) (n : Nat) : (s.inc f n).rdata = s.rdata := rfl
@[simp] theorem State.inc_svN (s : State) (f : Fld) (n : Nat) : (s.inc f n).svN = s.svN := rfl
@[simp] theorem State.inc_holdUs (s : State) (f : Fld) (n : Nat) : (s.inc f n).holdUs = s.holdUs := rfl
@[simp] theorem State.inc_draws (s : State) (f : Fld) (n : Nat) : (s.inc f n).draws = s.draws := rfl
@[simp] theorem State.inc_evPend (s : State) (f : Fld) (n : Nat) : (s.inc f n).evPend = s.evPend := rfl
@[simp] theorem State.inc_evq (s : State) (f : Fld) (n : Nat) : (s.inc f n).evq = s.evq := rfl
@[simp] theorem State.inc_evqOvf (s : State) (f : Fld) (n : Nat) : (s.inc f n).evqOvf = s.evqOvf := rfl
@[simp] theorem State.inc_vec (s : State) (f : Fld) (n : Nat) : (s.inc f n).vec = s.vec := rfl
@[simp] theorem State.inc_msix (s : State) (f : Fld) (n : Nat) : (s.inc f n).msix = s.msix := rfl
@[simp] theorem State.inc_jrejDetail (s : State) (f : Fld) (n : Nat) : (s.inc f n).jrejDetail = s.jrejDetail := rfl
@[simp] theorem State.inc_lockrejDetail (s : State) (f : Fld) (n : Nat) : (s.inc f n).lockrejDetail = s.lockrejDetail := rfl
@[simp] theorem State.inc_tokenQ (s : State) (f : Fld) (n : Nat) : (s.inc f n).tokenQ = s.tokenQ := rfl
@[simp] theorem State.inc_islBuf (s : State) (f : Fld) (n : Nat) : (s.inc f n).islBuf = s.islBuf := rfl
@[simp] theorem State.inc_islOvf (s : State) (f : Fld) (n : Nat) : (s.inc f n).islOvf = s.islOvf := rfl
@[simp] theorem State.inc_offers (s : State) (f : Fld) (n : Nat) : (s.inc f n).offers = s.offers := rfl
@[simp] theorem State.inc_jnl (s : State) (f : Fld) (n : Nat) : (s.inc f n).jnl = s.jnl := rfl
@[simp] theorem State.inc_jHeld (s : State) (f : Fld) (n : Nat) : (s.inc f n).jHeld = s.jHeld := rfl
@[simp] theorem State.inc_jInject (s : State) (f : Fld) (n : Nat) : (s.inc f n).jInject = s.jInject := rfl
@[simp] theorem State.inc_hostRing (s : State) (f : Fld) (n : Nat) : (s.inc f n).hostRing = s.hostRing := rfl
@[simp] theorem State.inc_repHeld (s : State) (f : Fld) (n : Nat) : (s.inc f n).repHeld = s.repHeld := rfl
@[simp] theorem State.inc_rptFull (s : State) (f : Fld) (n : Nat) : (s.inc f n).rptFull = s.rptFull := rfl
@[simp] theorem State.inc_redirect (s : State) (f : Fld) (n : Nat) : (s.inc f n).redirect = s.redirect := rfl
@[simp] theorem State.inc_aerFatal (s : State) (f : Fld) (n : Nat) : (s.inc f n).aerFatal = s.aerFatal := rfl
@[simp] theorem State.inc_twq (s : State) (f : Fld) (n : Nat) : (s.inc f n).twq = s.twq := rfl
@[simp] theorem State.inc_twHeld (s : State) (f : Fld) (n : Nat) : (s.inc f n).twHeld = s.twHeld := rfl
@[simp] theorem State.inc_twStage (s : State) (f : Fld) (n : Nat) : (s.inc f n).twStage = s.twStage := rfl
@[simp] theorem State.inc_twWaiting (s : State) (f : Fld) (n : Nat) : (s.inc f n).twWaiting = s.twWaiting := rfl
@[simp] theorem State.inc_pfwOn (s : State) (f : Fld) (n : Nat) : (s.inc f n).pfwOn = s.pfwOn := rfl
@[simp] theorem State.inc_warmArmed (s : State) (f : Fld) (n : Nat) : (s.inc f n).warmArmed = s.warmArmed := rfl
@[simp] theorem State.inc_bay (s : State) (f : Fld) (n : Nat) : (s.inc f n).bay = s.bay := rfl
@[simp] theorem State.inc_loop (s : State) (f : Fld) (n : Nat) : (s.inc f n).loop = s.loop := rfl
@[simp] theorem State.inc_ph (s : State) (f : Fld) (n : Nat) : (s.inc f n).ph = s.ph := rfl
@[simp] theorem State.inc_rail (s : State) (f : Fld) (n : Nat) : (s.inc f n).rail = s.rail := rfl
@[simp] theorem State.inc_fl (s : State) (f : Fld) (n : Nat) : (s.inc f n).fl = s.fl := rfl
@[simp] theorem State.inc_idx (s : State) (f : Fld) (n : Nat) : (s.inc f n).idx = s.idx := rfl
@[simp] theorem State.inc_tie (s : State) (f : Fld) (n : Nat) : (s.inc f n).tie = s.tie := rfl
@[simp] theorem State.inc_abc (s : State) (f : Fld) (n : Nat) : (s.inc f n).abc = s.abc := rfl
@[simp] theorem State.inc_hld (s : State) (f : Fld) (n : Nat) : (s.inc f n).hld = s.hld := rfl
@[simp] theorem State.inc_bal (s : State) (f : Fld) (n : Nat) : (s.inc f n).bal = s.bal := rfl
@[simp] theorem State.inc_bat (s : State) (f : Fld) (n : Nat) : (s.inc f n).bat = s.bat := rfl
@[simp] theorem State.inc_recs (s : State) (f : Fld) (n : Nat) : (s.inc f n).recs = s.recs := rfl
@[simp] theorem State.inc_recsNvm (s : State) (f : Fld) (n : Nat) : (s.inc f n).recsNvm = s.recsNvm := rfl
@[simp] theorem State.inc_recDue (s : State) (f : Fld) (n : Nat) : (s.inc f n).recDue = s.recDue := rfl
@[simp] theorem State.inc_recUs (s : State) (f : Fld) (n : Nat) : (s.inc f n).recUs = s.recUs := rfl
@[simp] theorem State.inc_twc (s : State) (f : Fld) (n : Nat) : (s.inc f n).twc = s.twc := rfl
@[simp] theorem State.inc_twPtr (s : State) (f : Fld) (n : Nat) : (s.inc f n).twPtr = s.twPtr := rfl
@[simp] theorem State.inc_twFast (s : State) (f : Fld) (n : Nat) : (s.inc f n).twFast = s.twFast := rfl
@[simp] theorem State.inc_rbytes (s : State) (f : Fld) (n : Nat) : (s.inc f n).rbytes = s.rbytes := rfl
@[simp] theorem State.inc_lan (s : State) (f : Fld) (n : Nat) : (s.inc f n).lan = s.lan := rfl
@[simp] theorem State.inc_mem (s : State) (f : Fld) (n : Nat) : (s.inc f n).mem = s.mem := rfl
@[simp] theorem State.inc_cap (s : State) (f : Fld) (n : Nat) : (s.inc f n).cap = s.cap := rfl
@[simp] theorem State.inc_str (s : State) (f : Fld) (n : Nat) : (s.inc f n).str = s.str := rfl
@[simp] theorem State.inc_memBad (s : State) (f : Fld) (n : Nat) : (s.inc f n).memBad = s.memBad := rfl
@[simp] theorem State.inc_gal (s : State) (f : Fld) (n : Nat) : (s.inc f n).gal = s.gal := rfl
@[simp] theorem State.inc_flt (s : State) (f : Fld) (n : Nat) : (s.inc f n).flt = s.flt := rfl
@[simp] theorem State.inc_sys (s : State) (f : Fld) (n : Nat) : (s.inc f n).sys = s.sys := rfl

/-! ### incWrap: changes regs -/

@[simp] theorem State.incWrap_pending (s : State) (f : Fld) (n : Nat) : (s.incWrap f n).pending = s.pending := rfl
@[simp] theorem State.incWrap_mode (s : State) (f : Fld) (n : Nat) : (s.incWrap f n).mode = s.mode := rfl
@[simp] theorem State.incWrap_us (s : State) (f : Fld) (n : Nat) : (s.incWrap f n).us = s.us := rfl
@[simp] theorem State.incWrap_act (s : State) (f : Fld) (n : Nat) : (s.incWrap f n).act = s.act := rfl
@[simp] theorem State.incWrap_snap (s : State) (f : Fld) (n : Nat) : (s.incWrap f n).snap = s.snap := rfl
@[simp] theorem State.incWrap_snapUs (s : State) (f : Fld) (n : Nat) : (s.incWrap f n).snapUs = s.snapUs := rfl
@[simp] theorem State.incWrap_partsDone (s : State) (f : Fld) (n : Nat) : (s.incWrap f n).partsDone = s.partsDone := rfl
@[simp] theorem State.incWrap_out (s : State) (f : Fld) (n : Nat) : (s.incWrap f n).out = s.out := rfl
@[simp] theorem State.incWrap_rdata (s : State) (f : Fld) (n : Nat) : (s.incWrap f n).rdata = s.rdata := rfl
@[simp] theorem State.incWrap_svN (s : State) (f : Fld) (n : Nat) : (s.incWrap f n).svN = s.svN := rfl
@[simp] theorem State.incWrap_holdUs (s : State) (f : Fld) (n : Nat) : (s.incWrap f n).holdUs = s.holdUs := rfl
@[simp] theorem State.incWrap_draws (s : State) (f : Fld) (n : Nat) : (s.incWrap f n).draws = s.draws := rfl
@[simp] theorem State.incWrap_evPend (s : State) (f : Fld) (n : Nat) : (s.incWrap f n).evPend = s.evPend := rfl
@[simp] theorem State.incWrap_evq (s : State) (f : Fld) (n : Nat) : (s.incWrap f n).evq = s.evq := rfl
@[simp] theorem State.incWrap_evqOvf (s : State) (f : Fld) (n : Nat) : (s.incWrap f n).evqOvf = s.evqOvf := rfl
@[simp] theorem State.incWrap_vec (s : State) (f : Fld) (n : Nat) : (s.incWrap f n).vec = s.vec := rfl
@[simp] theorem State.incWrap_msix (s : State) (f : Fld) (n : Nat) : (s.incWrap f n).msix = s.msix := rfl
@[simp] theorem State.incWrap_jrejDetail (s : State) (f : Fld) (n : Nat) : (s.incWrap f n).jrejDetail = s.jrejDetail := rfl
@[simp] theorem State.incWrap_lockrejDetail (s : State) (f : Fld) (n : Nat) : (s.incWrap f n).lockrejDetail = s.lockrejDetail := rfl
@[simp] theorem State.incWrap_tokenQ (s : State) (f : Fld) (n : Nat) : (s.incWrap f n).tokenQ = s.tokenQ := rfl
@[simp] theorem State.incWrap_islBuf (s : State) (f : Fld) (n : Nat) : (s.incWrap f n).islBuf = s.islBuf := rfl
@[simp] theorem State.incWrap_islOvf (s : State) (f : Fld) (n : Nat) : (s.incWrap f n).islOvf = s.islOvf := rfl
@[simp] theorem State.incWrap_offers (s : State) (f : Fld) (n : Nat) : (s.incWrap f n).offers = s.offers := rfl
@[simp] theorem State.incWrap_jnl (s : State) (f : Fld) (n : Nat) : (s.incWrap f n).jnl = s.jnl := rfl
@[simp] theorem State.incWrap_jHeld (s : State) (f : Fld) (n : Nat) : (s.incWrap f n).jHeld = s.jHeld := rfl
@[simp] theorem State.incWrap_jInject (s : State) (f : Fld) (n : Nat) : (s.incWrap f n).jInject = s.jInject := rfl
@[simp] theorem State.incWrap_hostRing (s : State) (f : Fld) (n : Nat) : (s.incWrap f n).hostRing = s.hostRing := rfl
@[simp] theorem State.incWrap_repHeld (s : State) (f : Fld) (n : Nat) : (s.incWrap f n).repHeld = s.repHeld := rfl
@[simp] theorem State.incWrap_rptFull (s : State) (f : Fld) (n : Nat) : (s.incWrap f n).rptFull = s.rptFull := rfl
@[simp] theorem State.incWrap_redirect (s : State) (f : Fld) (n : Nat) : (s.incWrap f n).redirect = s.redirect := rfl
@[simp] theorem State.incWrap_aerFatal (s : State) (f : Fld) (n : Nat) : (s.incWrap f n).aerFatal = s.aerFatal := rfl
@[simp] theorem State.incWrap_twq (s : State) (f : Fld) (n : Nat) : (s.incWrap f n).twq = s.twq := rfl
@[simp] theorem State.incWrap_twHeld (s : State) (f : Fld) (n : Nat) : (s.incWrap f n).twHeld = s.twHeld := rfl
@[simp] theorem State.incWrap_twStage (s : State) (f : Fld) (n : Nat) : (s.incWrap f n).twStage = s.twStage := rfl
@[simp] theorem State.incWrap_twWaiting (s : State) (f : Fld) (n : Nat) : (s.incWrap f n).twWaiting = s.twWaiting := rfl
@[simp] theorem State.incWrap_pfwOn (s : State) (f : Fld) (n : Nat) : (s.incWrap f n).pfwOn = s.pfwOn := rfl
@[simp] theorem State.incWrap_warmArmed (s : State) (f : Fld) (n : Nat) : (s.incWrap f n).warmArmed = s.warmArmed := rfl
@[simp] theorem State.incWrap_bay (s : State) (f : Fld) (n : Nat) : (s.incWrap f n).bay = s.bay := rfl
@[simp] theorem State.incWrap_loop (s : State) (f : Fld) (n : Nat) : (s.incWrap f n).loop = s.loop := rfl
@[simp] theorem State.incWrap_ph (s : State) (f : Fld) (n : Nat) : (s.incWrap f n).ph = s.ph := rfl
@[simp] theorem State.incWrap_rail (s : State) (f : Fld) (n : Nat) : (s.incWrap f n).rail = s.rail := rfl
@[simp] theorem State.incWrap_fl (s : State) (f : Fld) (n : Nat) : (s.incWrap f n).fl = s.fl := rfl
@[simp] theorem State.incWrap_idx (s : State) (f : Fld) (n : Nat) : (s.incWrap f n).idx = s.idx := rfl
@[simp] theorem State.incWrap_tie (s : State) (f : Fld) (n : Nat) : (s.incWrap f n).tie = s.tie := rfl
@[simp] theorem State.incWrap_abc (s : State) (f : Fld) (n : Nat) : (s.incWrap f n).abc = s.abc := rfl
@[simp] theorem State.incWrap_hld (s : State) (f : Fld) (n : Nat) : (s.incWrap f n).hld = s.hld := rfl
@[simp] theorem State.incWrap_bal (s : State) (f : Fld) (n : Nat) : (s.incWrap f n).bal = s.bal := rfl
@[simp] theorem State.incWrap_bat (s : State) (f : Fld) (n : Nat) : (s.incWrap f n).bat = s.bat := rfl
@[simp] theorem State.incWrap_recs (s : State) (f : Fld) (n : Nat) : (s.incWrap f n).recs = s.recs := rfl
@[simp] theorem State.incWrap_recsNvm (s : State) (f : Fld) (n : Nat) : (s.incWrap f n).recsNvm = s.recsNvm := rfl
@[simp] theorem State.incWrap_recDue (s : State) (f : Fld) (n : Nat) : (s.incWrap f n).recDue = s.recDue := rfl
@[simp] theorem State.incWrap_recUs (s : State) (f : Fld) (n : Nat) : (s.incWrap f n).recUs = s.recUs := rfl
@[simp] theorem State.incWrap_twc (s : State) (f : Fld) (n : Nat) : (s.incWrap f n).twc = s.twc := rfl
@[simp] theorem State.incWrap_twPtr (s : State) (f : Fld) (n : Nat) : (s.incWrap f n).twPtr = s.twPtr := rfl
@[simp] theorem State.incWrap_twFast (s : State) (f : Fld) (n : Nat) : (s.incWrap f n).twFast = s.twFast := rfl
@[simp] theorem State.incWrap_rbytes (s : State) (f : Fld) (n : Nat) : (s.incWrap f n).rbytes = s.rbytes := rfl
@[simp] theorem State.incWrap_lan (s : State) (f : Fld) (n : Nat) : (s.incWrap f n).lan = s.lan := rfl
@[simp] theorem State.incWrap_mem (s : State) (f : Fld) (n : Nat) : (s.incWrap f n).mem = s.mem := rfl
@[simp] theorem State.incWrap_cap (s : State) (f : Fld) (n : Nat) : (s.incWrap f n).cap = s.cap := rfl
@[simp] theorem State.incWrap_str (s : State) (f : Fld) (n : Nat) : (s.incWrap f n).str = s.str := rfl
@[simp] theorem State.incWrap_memBad (s : State) (f : Fld) (n : Nat) : (s.incWrap f n).memBad = s.memBad := rfl
@[simp] theorem State.incWrap_gal (s : State) (f : Fld) (n : Nat) : (s.incWrap f n).gal = s.gal := rfl
@[simp] theorem State.incWrap_flt (s : State) (f : Fld) (n : Nat) : (s.incWrap f n).flt = s.flt := rfl
@[simp] theorem State.incWrap_sys (s : State) (f : Fld) (n : Nat) : (s.incWrap f n).sys = s.sys := rfl

/-! ### wrBit: changes regs -/

@[simp] theorem State.wrBit_pending (s : State) (f : Fld) (b : Nat) (x : Bool) : (s.wrBit f b x).pending = s.pending := rfl
@[simp] theorem State.wrBit_mode (s : State) (f : Fld) (b : Nat) (x : Bool) : (s.wrBit f b x).mode = s.mode := rfl
@[simp] theorem State.wrBit_us (s : State) (f : Fld) (b : Nat) (x : Bool) : (s.wrBit f b x).us = s.us := rfl
@[simp] theorem State.wrBit_act (s : State) (f : Fld) (b : Nat) (x : Bool) : (s.wrBit f b x).act = s.act := rfl
@[simp] theorem State.wrBit_snap (s : State) (f : Fld) (b : Nat) (x : Bool) : (s.wrBit f b x).snap = s.snap := rfl
@[simp] theorem State.wrBit_snapUs (s : State) (f : Fld) (b : Nat) (x : Bool) : (s.wrBit f b x).snapUs = s.snapUs := rfl
@[simp] theorem State.wrBit_partsDone (s : State) (f : Fld) (b : Nat) (x : Bool) : (s.wrBit f b x).partsDone = s.partsDone := rfl
@[simp] theorem State.wrBit_out (s : State) (f : Fld) (b : Nat) (x : Bool) : (s.wrBit f b x).out = s.out := rfl
@[simp] theorem State.wrBit_rdata (s : State) (f : Fld) (b : Nat) (x : Bool) : (s.wrBit f b x).rdata = s.rdata := rfl
@[simp] theorem State.wrBit_svN (s : State) (f : Fld) (b : Nat) (x : Bool) : (s.wrBit f b x).svN = s.svN := rfl
@[simp] theorem State.wrBit_holdUs (s : State) (f : Fld) (b : Nat) (x : Bool) : (s.wrBit f b x).holdUs = s.holdUs := rfl
@[simp] theorem State.wrBit_draws (s : State) (f : Fld) (b : Nat) (x : Bool) : (s.wrBit f b x).draws = s.draws := rfl
@[simp] theorem State.wrBit_evPend (s : State) (f : Fld) (b : Nat) (x : Bool) : (s.wrBit f b x).evPend = s.evPend := rfl
@[simp] theorem State.wrBit_evq (s : State) (f : Fld) (b : Nat) (x : Bool) : (s.wrBit f b x).evq = s.evq := rfl
@[simp] theorem State.wrBit_evqOvf (s : State) (f : Fld) (b : Nat) (x : Bool) : (s.wrBit f b x).evqOvf = s.evqOvf := rfl
@[simp] theorem State.wrBit_vec (s : State) (f : Fld) (b : Nat) (x : Bool) : (s.wrBit f b x).vec = s.vec := rfl
@[simp] theorem State.wrBit_msix (s : State) (f : Fld) (b : Nat) (x : Bool) : (s.wrBit f b x).msix = s.msix := rfl
@[simp] theorem State.wrBit_jrejDetail (s : State) (f : Fld) (b : Nat) (x : Bool) : (s.wrBit f b x).jrejDetail = s.jrejDetail := rfl
@[simp] theorem State.wrBit_lockrejDetail (s : State) (f : Fld) (b : Nat) (x : Bool) : (s.wrBit f b x).lockrejDetail = s.lockrejDetail := rfl
@[simp] theorem State.wrBit_tokenQ (s : State) (f : Fld) (b : Nat) (x : Bool) : (s.wrBit f b x).tokenQ = s.tokenQ := rfl
@[simp] theorem State.wrBit_islBuf (s : State) (f : Fld) (b : Nat) (x : Bool) : (s.wrBit f b x).islBuf = s.islBuf := rfl
@[simp] theorem State.wrBit_islOvf (s : State) (f : Fld) (b : Nat) (x : Bool) : (s.wrBit f b x).islOvf = s.islOvf := rfl
@[simp] theorem State.wrBit_offers (s : State) (f : Fld) (b : Nat) (x : Bool) : (s.wrBit f b x).offers = s.offers := rfl
@[simp] theorem State.wrBit_jnl (s : State) (f : Fld) (b : Nat) (x : Bool) : (s.wrBit f b x).jnl = s.jnl := rfl
@[simp] theorem State.wrBit_jHeld (s : State) (f : Fld) (b : Nat) (x : Bool) : (s.wrBit f b x).jHeld = s.jHeld := rfl
@[simp] theorem State.wrBit_jInject (s : State) (f : Fld) (b : Nat) (x : Bool) : (s.wrBit f b x).jInject = s.jInject := rfl
@[simp] theorem State.wrBit_hostRing (s : State) (f : Fld) (b : Nat) (x : Bool) : (s.wrBit f b x).hostRing = s.hostRing := rfl
@[simp] theorem State.wrBit_repHeld (s : State) (f : Fld) (b : Nat) (x : Bool) : (s.wrBit f b x).repHeld = s.repHeld := rfl
@[simp] theorem State.wrBit_rptFull (s : State) (f : Fld) (b : Nat) (x : Bool) : (s.wrBit f b x).rptFull = s.rptFull := rfl
@[simp] theorem State.wrBit_redirect (s : State) (f : Fld) (b : Nat) (x : Bool) : (s.wrBit f b x).redirect = s.redirect := rfl
@[simp] theorem State.wrBit_aerFatal (s : State) (f : Fld) (b : Nat) (x : Bool) : (s.wrBit f b x).aerFatal = s.aerFatal := rfl
@[simp] theorem State.wrBit_twq (s : State) (f : Fld) (b : Nat) (x : Bool) : (s.wrBit f b x).twq = s.twq := rfl
@[simp] theorem State.wrBit_twHeld (s : State) (f : Fld) (b : Nat) (x : Bool) : (s.wrBit f b x).twHeld = s.twHeld := rfl
@[simp] theorem State.wrBit_twStage (s : State) (f : Fld) (b : Nat) (x : Bool) : (s.wrBit f b x).twStage = s.twStage := rfl
@[simp] theorem State.wrBit_twWaiting (s : State) (f : Fld) (b : Nat) (x : Bool) : (s.wrBit f b x).twWaiting = s.twWaiting := rfl
@[simp] theorem State.wrBit_pfwOn (s : State) (f : Fld) (b : Nat) (x : Bool) : (s.wrBit f b x).pfwOn = s.pfwOn := rfl
@[simp] theorem State.wrBit_warmArmed (s : State) (f : Fld) (b : Nat) (x : Bool) : (s.wrBit f b x).warmArmed = s.warmArmed := rfl
@[simp] theorem State.wrBit_bay (s : State) (f : Fld) (b : Nat) (x : Bool) : (s.wrBit f b x).bay = s.bay := rfl
@[simp] theorem State.wrBit_loop (s : State) (f : Fld) (b : Nat) (x : Bool) : (s.wrBit f b x).loop = s.loop := rfl
@[simp] theorem State.wrBit_ph (s : State) (f : Fld) (b : Nat) (x : Bool) : (s.wrBit f b x).ph = s.ph := rfl
@[simp] theorem State.wrBit_rail (s : State) (f : Fld) (b : Nat) (x : Bool) : (s.wrBit f b x).rail = s.rail := rfl
@[simp] theorem State.wrBit_fl (s : State) (f : Fld) (b : Nat) (x : Bool) : (s.wrBit f b x).fl = s.fl := rfl
@[simp] theorem State.wrBit_idx (s : State) (f : Fld) (b : Nat) (x : Bool) : (s.wrBit f b x).idx = s.idx := rfl
@[simp] theorem State.wrBit_tie (s : State) (f : Fld) (b : Nat) (x : Bool) : (s.wrBit f b x).tie = s.tie := rfl
@[simp] theorem State.wrBit_abc (s : State) (f : Fld) (b : Nat) (x : Bool) : (s.wrBit f b x).abc = s.abc := rfl
@[simp] theorem State.wrBit_hld (s : State) (f : Fld) (b : Nat) (x : Bool) : (s.wrBit f b x).hld = s.hld := rfl
@[simp] theorem State.wrBit_bal (s : State) (f : Fld) (b : Nat) (x : Bool) : (s.wrBit f b x).bal = s.bal := rfl
@[simp] theorem State.wrBit_bat (s : State) (f : Fld) (b : Nat) (x : Bool) : (s.wrBit f b x).bat = s.bat := rfl
@[simp] theorem State.wrBit_recs (s : State) (f : Fld) (b : Nat) (x : Bool) : (s.wrBit f b x).recs = s.recs := rfl
@[simp] theorem State.wrBit_recsNvm (s : State) (f : Fld) (b : Nat) (x : Bool) : (s.wrBit f b x).recsNvm = s.recsNvm := rfl
@[simp] theorem State.wrBit_recDue (s : State) (f : Fld) (b : Nat) (x : Bool) : (s.wrBit f b x).recDue = s.recDue := rfl
@[simp] theorem State.wrBit_recUs (s : State) (f : Fld) (b : Nat) (x : Bool) : (s.wrBit f b x).recUs = s.recUs := rfl
@[simp] theorem State.wrBit_twc (s : State) (f : Fld) (b : Nat) (x : Bool) : (s.wrBit f b x).twc = s.twc := rfl
@[simp] theorem State.wrBit_twPtr (s : State) (f : Fld) (b : Nat) (x : Bool) : (s.wrBit f b x).twPtr = s.twPtr := rfl
@[simp] theorem State.wrBit_twFast (s : State) (f : Fld) (b : Nat) (x : Bool) : (s.wrBit f b x).twFast = s.twFast := rfl
@[simp] theorem State.wrBit_rbytes (s : State) (f : Fld) (b : Nat) (x : Bool) : (s.wrBit f b x).rbytes = s.rbytes := rfl
@[simp] theorem State.wrBit_lan (s : State) (f : Fld) (b : Nat) (x : Bool) : (s.wrBit f b x).lan = s.lan := rfl
@[simp] theorem State.wrBit_mem (s : State) (f : Fld) (b : Nat) (x : Bool) : (s.wrBit f b x).mem = s.mem := rfl
@[simp] theorem State.wrBit_cap (s : State) (f : Fld) (b : Nat) (x : Bool) : (s.wrBit f b x).cap = s.cap := rfl
@[simp] theorem State.wrBit_str (s : State) (f : Fld) (b : Nat) (x : Bool) : (s.wrBit f b x).str = s.str := rfl
@[simp] theorem State.wrBit_memBad (s : State) (f : Fld) (b : Nat) (x : Bool) : (s.wrBit f b x).memBad = s.memBad := rfl
@[simp] theorem State.wrBit_gal (s : State) (f : Fld) (b : Nat) (x : Bool) : (s.wrBit f b x).gal = s.gal := rfl
@[simp] theorem State.wrBit_flt (s : State) (f : Fld) (b : Nat) (x : Bool) : (s.wrBit f b x).flt = s.flt := rfl
@[simp] theorem State.wrBit_sys (s : State) (f : Fld) (b : Nat) (x : Bool) : (s.wrBit f b x).sys = s.sys := rfl

/-! ### emit: changes out -/

@[simp] theorem State.emit_pending (s : State) (o : Out) : (s.emit o).pending = s.pending := rfl
@[simp] theorem State.emit_mode (s : State) (o : Out) : (s.emit o).mode = s.mode := rfl
@[simp] theorem State.emit_us (s : State) (o : Out) : (s.emit o).us = s.us := rfl
@[simp] theorem State.emit_regs (s : State) (o : Out) : (s.emit o).regs = s.regs := rfl
@[simp] theorem State.emit_act (s : State) (o : Out) : (s.emit o).act = s.act := rfl
@[simp] theorem State.emit_snap (s : State) (o : Out) : (s.emit o).snap = s.snap := rfl
@[simp] theorem State.emit_snapUs (s : State) (o : Out) : (s.emit o).snapUs = s.snapUs := rfl
@[simp] theorem State.emit_partsDone (s : State) (o : Out) : (s.emit o).partsDone = s.partsDone := rfl
@[simp] theorem State.emit_rdata (s : State) (o : Out) : (s.emit o).rdata = s.rdata := rfl
@[simp] theorem State.emit_svN (s : State) (o : Out) : (s.emit o).svN = s.svN := rfl
@[simp] theorem State.emit_holdUs (s : State) (o : Out) : (s.emit o).holdUs = s.holdUs := rfl
@[simp] theorem State.emit_draws (s : State) (o : Out) : (s.emit o).draws = s.draws := rfl
@[simp] theorem State.emit_evPend (s : State) (o : Out) : (s.emit o).evPend = s.evPend := rfl
@[simp] theorem State.emit_evq (s : State) (o : Out) : (s.emit o).evq = s.evq := rfl
@[simp] theorem State.emit_evqOvf (s : State) (o : Out) : (s.emit o).evqOvf = s.evqOvf := rfl
@[simp] theorem State.emit_vec (s : State) (o : Out) : (s.emit o).vec = s.vec := rfl
@[simp] theorem State.emit_msix (s : State) (o : Out) : (s.emit o).msix = s.msix := rfl
@[simp] theorem State.emit_jrejDetail (s : State) (o : Out) : (s.emit o).jrejDetail = s.jrejDetail := rfl
@[simp] theorem State.emit_lockrejDetail (s : State) (o : Out) : (s.emit o).lockrejDetail = s.lockrejDetail := rfl
@[simp] theorem State.emit_tokenQ (s : State) (o : Out) : (s.emit o).tokenQ = s.tokenQ := rfl
@[simp] theorem State.emit_islBuf (s : State) (o : Out) : (s.emit o).islBuf = s.islBuf := rfl
@[simp] theorem State.emit_islOvf (s : State) (o : Out) : (s.emit o).islOvf = s.islOvf := rfl
@[simp] theorem State.emit_offers (s : State) (o : Out) : (s.emit o).offers = s.offers := rfl
@[simp] theorem State.emit_jnl (s : State) (o : Out) : (s.emit o).jnl = s.jnl := rfl
@[simp] theorem State.emit_jHeld (s : State) (o : Out) : (s.emit o).jHeld = s.jHeld := rfl
@[simp] theorem State.emit_jInject (s : State) (o : Out) : (s.emit o).jInject = s.jInject := rfl
@[simp] theorem State.emit_hostRing (s : State) (o : Out) : (s.emit o).hostRing = s.hostRing := rfl
@[simp] theorem State.emit_repHeld (s : State) (o : Out) : (s.emit o).repHeld = s.repHeld := rfl
@[simp] theorem State.emit_rptFull (s : State) (o : Out) : (s.emit o).rptFull = s.rptFull := rfl
@[simp] theorem State.emit_redirect (s : State) (o : Out) : (s.emit o).redirect = s.redirect := rfl
@[simp] theorem State.emit_aerFatal (s : State) (o : Out) : (s.emit o).aerFatal = s.aerFatal := rfl
@[simp] theorem State.emit_twq (s : State) (o : Out) : (s.emit o).twq = s.twq := rfl
@[simp] theorem State.emit_twHeld (s : State) (o : Out) : (s.emit o).twHeld = s.twHeld := rfl
@[simp] theorem State.emit_twStage (s : State) (o : Out) : (s.emit o).twStage = s.twStage := rfl
@[simp] theorem State.emit_twWaiting (s : State) (o : Out) : (s.emit o).twWaiting = s.twWaiting := rfl
@[simp] theorem State.emit_pfwOn (s : State) (o : Out) : (s.emit o).pfwOn = s.pfwOn := rfl
@[simp] theorem State.emit_warmArmed (s : State) (o : Out) : (s.emit o).warmArmed = s.warmArmed := rfl
@[simp] theorem State.emit_bay (s : State) (o : Out) : (s.emit o).bay = s.bay := rfl
@[simp] theorem State.emit_loop (s : State) (o : Out) : (s.emit o).loop = s.loop := rfl
@[simp] theorem State.emit_ph (s : State) (o : Out) : (s.emit o).ph = s.ph := rfl
@[simp] theorem State.emit_rail (s : State) (o : Out) : (s.emit o).rail = s.rail := rfl
@[simp] theorem State.emit_fl (s : State) (o : Out) : (s.emit o).fl = s.fl := rfl
@[simp] theorem State.emit_idx (s : State) (o : Out) : (s.emit o).idx = s.idx := rfl
@[simp] theorem State.emit_tie (s : State) (o : Out) : (s.emit o).tie = s.tie := rfl
@[simp] theorem State.emit_abc (s : State) (o : Out) : (s.emit o).abc = s.abc := rfl
@[simp] theorem State.emit_hld (s : State) (o : Out) : (s.emit o).hld = s.hld := rfl
@[simp] theorem State.emit_bal (s : State) (o : Out) : (s.emit o).bal = s.bal := rfl
@[simp] theorem State.emit_bat (s : State) (o : Out) : (s.emit o).bat = s.bat := rfl
@[simp] theorem State.emit_recs (s : State) (o : Out) : (s.emit o).recs = s.recs := rfl
@[simp] theorem State.emit_recsNvm (s : State) (o : Out) : (s.emit o).recsNvm = s.recsNvm := rfl
@[simp] theorem State.emit_recDue (s : State) (o : Out) : (s.emit o).recDue = s.recDue := rfl
@[simp] theorem State.emit_recUs (s : State) (o : Out) : (s.emit o).recUs = s.recUs := rfl
@[simp] theorem State.emit_twc (s : State) (o : Out) : (s.emit o).twc = s.twc := rfl
@[simp] theorem State.emit_twPtr (s : State) (o : Out) : (s.emit o).twPtr = s.twPtr := rfl
@[simp] theorem State.emit_twFast (s : State) (o : Out) : (s.emit o).twFast = s.twFast := rfl
@[simp] theorem State.emit_rbytes (s : State) (o : Out) : (s.emit o).rbytes = s.rbytes := rfl
@[simp] theorem State.emit_lan (s : State) (o : Out) : (s.emit o).lan = s.lan := rfl
@[simp] theorem State.emit_mem (s : State) (o : Out) : (s.emit o).mem = s.mem := rfl
@[simp] theorem State.emit_cap (s : State) (o : Out) : (s.emit o).cap = s.cap := rfl
@[simp] theorem State.emit_str (s : State) (o : Out) : (s.emit o).str = s.str := rfl
@[simp] theorem State.emit_memBad (s : State) (o : Out) : (s.emit o).memBad = s.memBad := rfl
@[simp] theorem State.emit_gal (s : State) (o : Out) : (s.emit o).gal = s.gal := rfl
@[simp] theorem State.emit_flt (s : State) (o : Out) : (s.emit o).flt = s.flt := rfl
@[simp] theorem State.emit_sys (s : State) (o : Out) : (s.emit o).sys = s.sys := rfl

/-! ### answer: changes rdata -/

@[simp] theorem State.answer_pending (s : State) (v : Nat) : (s.answer v).pending = s.pending := rfl
@[simp] theorem State.answer_mode (s : State) (v : Nat) : (s.answer v).mode = s.mode := rfl
@[simp] theorem State.answer_us (s : State) (v : Nat) : (s.answer v).us = s.us := rfl
@[simp] theorem State.answer_regs (s : State) (v : Nat) : (s.answer v).regs = s.regs := rfl
@[simp] theorem State.answer_act (s : State) (v : Nat) : (s.answer v).act = s.act := rfl
@[simp] theorem State.answer_snap (s : State) (v : Nat) : (s.answer v).snap = s.snap := rfl
@[simp] theorem State.answer_snapUs (s : State) (v : Nat) : (s.answer v).snapUs = s.snapUs := rfl
@[simp] theorem State.answer_partsDone (s : State) (v : Nat) : (s.answer v).partsDone = s.partsDone := rfl
@[simp] theorem State.answer_out (s : State) (v : Nat) : (s.answer v).out = s.out := rfl
@[simp] theorem State.answer_svN (s : State) (v : Nat) : (s.answer v).svN = s.svN := rfl
@[simp] theorem State.answer_holdUs (s : State) (v : Nat) : (s.answer v).holdUs = s.holdUs := rfl
@[simp] theorem State.answer_draws (s : State) (v : Nat) : (s.answer v).draws = s.draws := rfl
@[simp] theorem State.answer_evPend (s : State) (v : Nat) : (s.answer v).evPend = s.evPend := rfl
@[simp] theorem State.answer_evq (s : State) (v : Nat) : (s.answer v).evq = s.evq := rfl
@[simp] theorem State.answer_evqOvf (s : State) (v : Nat) : (s.answer v).evqOvf = s.evqOvf := rfl
@[simp] theorem State.answer_vec (s : State) (v : Nat) : (s.answer v).vec = s.vec := rfl
@[simp] theorem State.answer_msix (s : State) (v : Nat) : (s.answer v).msix = s.msix := rfl
@[simp] theorem State.answer_jrejDetail (s : State) (v : Nat) : (s.answer v).jrejDetail = s.jrejDetail := rfl
@[simp] theorem State.answer_lockrejDetail (s : State) (v : Nat) : (s.answer v).lockrejDetail = s.lockrejDetail := rfl
@[simp] theorem State.answer_tokenQ (s : State) (v : Nat) : (s.answer v).tokenQ = s.tokenQ := rfl
@[simp] theorem State.answer_islBuf (s : State) (v : Nat) : (s.answer v).islBuf = s.islBuf := rfl
@[simp] theorem State.answer_islOvf (s : State) (v : Nat) : (s.answer v).islOvf = s.islOvf := rfl
@[simp] theorem State.answer_offers (s : State) (v : Nat) : (s.answer v).offers = s.offers := rfl
@[simp] theorem State.answer_jnl (s : State) (v : Nat) : (s.answer v).jnl = s.jnl := rfl
@[simp] theorem State.answer_jHeld (s : State) (v : Nat) : (s.answer v).jHeld = s.jHeld := rfl
@[simp] theorem State.answer_jInject (s : State) (v : Nat) : (s.answer v).jInject = s.jInject := rfl
@[simp] theorem State.answer_hostRing (s : State) (v : Nat) : (s.answer v).hostRing = s.hostRing := rfl
@[simp] theorem State.answer_repHeld (s : State) (v : Nat) : (s.answer v).repHeld = s.repHeld := rfl
@[simp] theorem State.answer_rptFull (s : State) (v : Nat) : (s.answer v).rptFull = s.rptFull := rfl
@[simp] theorem State.answer_redirect (s : State) (v : Nat) : (s.answer v).redirect = s.redirect := rfl
@[simp] theorem State.answer_aerFatal (s : State) (v : Nat) : (s.answer v).aerFatal = s.aerFatal := rfl
@[simp] theorem State.answer_twq (s : State) (v : Nat) : (s.answer v).twq = s.twq := rfl
@[simp] theorem State.answer_twHeld (s : State) (v : Nat) : (s.answer v).twHeld = s.twHeld := rfl
@[simp] theorem State.answer_twStage (s : State) (v : Nat) : (s.answer v).twStage = s.twStage := rfl
@[simp] theorem State.answer_twWaiting (s : State) (v : Nat) : (s.answer v).twWaiting = s.twWaiting := rfl
@[simp] theorem State.answer_pfwOn (s : State) (v : Nat) : (s.answer v).pfwOn = s.pfwOn := rfl
@[simp] theorem State.answer_warmArmed (s : State) (v : Nat) : (s.answer v).warmArmed = s.warmArmed := rfl
@[simp] theorem State.answer_bay (s : State) (v : Nat) : (s.answer v).bay = s.bay := rfl
@[simp] theorem State.answer_loop (s : State) (v : Nat) : (s.answer v).loop = s.loop := rfl
@[simp] theorem State.answer_ph (s : State) (v : Nat) : (s.answer v).ph = s.ph := rfl
@[simp] theorem State.answer_rail (s : State) (v : Nat) : (s.answer v).rail = s.rail := rfl
@[simp] theorem State.answer_fl (s : State) (v : Nat) : (s.answer v).fl = s.fl := rfl
@[simp] theorem State.answer_idx (s : State) (v : Nat) : (s.answer v).idx = s.idx := rfl
@[simp] theorem State.answer_tie (s : State) (v : Nat) : (s.answer v).tie = s.tie := rfl
@[simp] theorem State.answer_abc (s : State) (v : Nat) : (s.answer v).abc = s.abc := rfl
@[simp] theorem State.answer_hld (s : State) (v : Nat) : (s.answer v).hld = s.hld := rfl
@[simp] theorem State.answer_bal (s : State) (v : Nat) : (s.answer v).bal = s.bal := rfl
@[simp] theorem State.answer_bat (s : State) (v : Nat) : (s.answer v).bat = s.bat := rfl
@[simp] theorem State.answer_recs (s : State) (v : Nat) : (s.answer v).recs = s.recs := rfl
@[simp] theorem State.answer_recsNvm (s : State) (v : Nat) : (s.answer v).recsNvm = s.recsNvm := rfl
@[simp] theorem State.answer_recDue (s : State) (v : Nat) : (s.answer v).recDue = s.recDue := rfl
@[simp] theorem State.answer_recUs (s : State) (v : Nat) : (s.answer v).recUs = s.recUs := rfl
@[simp] theorem State.answer_twc (s : State) (v : Nat) : (s.answer v).twc = s.twc := rfl
@[simp] theorem State.answer_twPtr (s : State) (v : Nat) : (s.answer v).twPtr = s.twPtr := rfl
@[simp] theorem State.answer_twFast (s : State) (v : Nat) : (s.answer v).twFast = s.twFast := rfl
@[simp] theorem State.answer_rbytes (s : State) (v : Nat) : (s.answer v).rbytes = s.rbytes := rfl
@[simp] theorem State.answer_lan (s : State) (v : Nat) : (s.answer v).lan = s.lan := rfl
@[simp] theorem State.answer_mem (s : State) (v : Nat) : (s.answer v).mem = s.mem := rfl
@[simp] theorem State.answer_cap (s : State) (v : Nat) : (s.answer v).cap = s.cap := rfl
@[simp] theorem State.answer_str (s : State) (v : Nat) : (s.answer v).str = s.str := rfl
@[simp] theorem State.answer_memBad (s : State) (v : Nat) : (s.answer v).memBad = s.memBad := rfl
@[simp] theorem State.answer_gal (s : State) (v : Nat) : (s.answer v).gal = s.gal := rfl
@[simp] theorem State.answer_flt (s : State) (v : Nat) : (s.answer v).flt = s.flt := rfl
@[simp] theorem State.answer_sys (s : State) (v : Nat) : (s.answer v).sys = s.sys := rfl

/-! ### bayMod: changes bay -/

@[simp] theorem State.bayMod_pending (s : State) (n : Nat) (g : BayS → BayS) : (s.bayMod n g).pending = s.pending := rfl
@[simp] theorem State.bayMod_mode (s : State) (n : Nat) (g : BayS → BayS) : (s.bayMod n g).mode = s.mode := rfl
@[simp] theorem State.bayMod_us (s : State) (n : Nat) (g : BayS → BayS) : (s.bayMod n g).us = s.us := rfl
@[simp] theorem State.bayMod_regs (s : State) (n : Nat) (g : BayS → BayS) : (s.bayMod n g).regs = s.regs := rfl
@[simp] theorem State.bayMod_act (s : State) (n : Nat) (g : BayS → BayS) : (s.bayMod n g).act = s.act := rfl
@[simp] theorem State.bayMod_snap (s : State) (n : Nat) (g : BayS → BayS) : (s.bayMod n g).snap = s.snap := rfl
@[simp] theorem State.bayMod_snapUs (s : State) (n : Nat) (g : BayS → BayS) : (s.bayMod n g).snapUs = s.snapUs := rfl
@[simp] theorem State.bayMod_partsDone (s : State) (n : Nat) (g : BayS → BayS) : (s.bayMod n g).partsDone = s.partsDone := rfl
@[simp] theorem State.bayMod_out (s : State) (n : Nat) (g : BayS → BayS) : (s.bayMod n g).out = s.out := rfl
@[simp] theorem State.bayMod_rdata (s : State) (n : Nat) (g : BayS → BayS) : (s.bayMod n g).rdata = s.rdata := rfl
@[simp] theorem State.bayMod_svN (s : State) (n : Nat) (g : BayS → BayS) : (s.bayMod n g).svN = s.svN := rfl
@[simp] theorem State.bayMod_holdUs (s : State) (n : Nat) (g : BayS → BayS) : (s.bayMod n g).holdUs = s.holdUs := rfl
@[simp] theorem State.bayMod_draws (s : State) (n : Nat) (g : BayS → BayS) : (s.bayMod n g).draws = s.draws := rfl
@[simp] theorem State.bayMod_evPend (s : State) (n : Nat) (g : BayS → BayS) : (s.bayMod n g).evPend = s.evPend := rfl
@[simp] theorem State.bayMod_evq (s : State) (n : Nat) (g : BayS → BayS) : (s.bayMod n g).evq = s.evq := rfl
@[simp] theorem State.bayMod_evqOvf (s : State) (n : Nat) (g : BayS → BayS) : (s.bayMod n g).evqOvf = s.evqOvf := rfl
@[simp] theorem State.bayMod_vec (s : State) (n : Nat) (g : BayS → BayS) : (s.bayMod n g).vec = s.vec := rfl
@[simp] theorem State.bayMod_msix (s : State) (n : Nat) (g : BayS → BayS) : (s.bayMod n g).msix = s.msix := rfl
@[simp] theorem State.bayMod_jrejDetail (s : State) (n : Nat) (g : BayS → BayS) : (s.bayMod n g).jrejDetail = s.jrejDetail := rfl
@[simp] theorem State.bayMod_lockrejDetail (s : State) (n : Nat) (g : BayS → BayS) : (s.bayMod n g).lockrejDetail = s.lockrejDetail := rfl
@[simp] theorem State.bayMod_tokenQ (s : State) (n : Nat) (g : BayS → BayS) : (s.bayMod n g).tokenQ = s.tokenQ := rfl
@[simp] theorem State.bayMod_islBuf (s : State) (n : Nat) (g : BayS → BayS) : (s.bayMod n g).islBuf = s.islBuf := rfl
@[simp] theorem State.bayMod_islOvf (s : State) (n : Nat) (g : BayS → BayS) : (s.bayMod n g).islOvf = s.islOvf := rfl
@[simp] theorem State.bayMod_offers (s : State) (n : Nat) (g : BayS → BayS) : (s.bayMod n g).offers = s.offers := rfl
@[simp] theorem State.bayMod_jnl (s : State) (n : Nat) (g : BayS → BayS) : (s.bayMod n g).jnl = s.jnl := rfl
@[simp] theorem State.bayMod_jHeld (s : State) (n : Nat) (g : BayS → BayS) : (s.bayMod n g).jHeld = s.jHeld := rfl
@[simp] theorem State.bayMod_jInject (s : State) (n : Nat) (g : BayS → BayS) : (s.bayMod n g).jInject = s.jInject := rfl
@[simp] theorem State.bayMod_hostRing (s : State) (n : Nat) (g : BayS → BayS) : (s.bayMod n g).hostRing = s.hostRing := rfl
@[simp] theorem State.bayMod_repHeld (s : State) (n : Nat) (g : BayS → BayS) : (s.bayMod n g).repHeld = s.repHeld := rfl
@[simp] theorem State.bayMod_rptFull (s : State) (n : Nat) (g : BayS → BayS) : (s.bayMod n g).rptFull = s.rptFull := rfl
@[simp] theorem State.bayMod_redirect (s : State) (n : Nat) (g : BayS → BayS) : (s.bayMod n g).redirect = s.redirect := rfl
@[simp] theorem State.bayMod_aerFatal (s : State) (n : Nat) (g : BayS → BayS) : (s.bayMod n g).aerFatal = s.aerFatal := rfl
@[simp] theorem State.bayMod_twq (s : State) (n : Nat) (g : BayS → BayS) : (s.bayMod n g).twq = s.twq := rfl
@[simp] theorem State.bayMod_twHeld (s : State) (n : Nat) (g : BayS → BayS) : (s.bayMod n g).twHeld = s.twHeld := rfl
@[simp] theorem State.bayMod_twStage (s : State) (n : Nat) (g : BayS → BayS) : (s.bayMod n g).twStage = s.twStage := rfl
@[simp] theorem State.bayMod_twWaiting (s : State) (n : Nat) (g : BayS → BayS) : (s.bayMod n g).twWaiting = s.twWaiting := rfl
@[simp] theorem State.bayMod_pfwOn (s : State) (n : Nat) (g : BayS → BayS) : (s.bayMod n g).pfwOn = s.pfwOn := rfl
@[simp] theorem State.bayMod_warmArmed (s : State) (n : Nat) (g : BayS → BayS) : (s.bayMod n g).warmArmed = s.warmArmed := rfl
@[simp] theorem State.bayMod_loop (s : State) (n : Nat) (g : BayS → BayS) : (s.bayMod n g).loop = s.loop := rfl
@[simp] theorem State.bayMod_ph (s : State) (n : Nat) (g : BayS → BayS) : (s.bayMod n g).ph = s.ph := rfl
@[simp] theorem State.bayMod_rail (s : State) (n : Nat) (g : BayS → BayS) : (s.bayMod n g).rail = s.rail := rfl
@[simp] theorem State.bayMod_fl (s : State) (n : Nat) (g : BayS → BayS) : (s.bayMod n g).fl = s.fl := rfl
@[simp] theorem State.bayMod_idx (s : State) (n : Nat) (g : BayS → BayS) : (s.bayMod n g).idx = s.idx := rfl
@[simp] theorem State.bayMod_tie (s : State) (n : Nat) (g : BayS → BayS) : (s.bayMod n g).tie = s.tie := rfl
@[simp] theorem State.bayMod_abc (s : State) (n : Nat) (g : BayS → BayS) : (s.bayMod n g).abc = s.abc := rfl
@[simp] theorem State.bayMod_hld (s : State) (n : Nat) (g : BayS → BayS) : (s.bayMod n g).hld = s.hld := rfl
@[simp] theorem State.bayMod_bal (s : State) (n : Nat) (g : BayS → BayS) : (s.bayMod n g).bal = s.bal := rfl
@[simp] theorem State.bayMod_bat (s : State) (n : Nat) (g : BayS → BayS) : (s.bayMod n g).bat = s.bat := rfl
@[simp] theorem State.bayMod_recs (s : State) (n : Nat) (g : BayS → BayS) : (s.bayMod n g).recs = s.recs := rfl
@[simp] theorem State.bayMod_recsNvm (s : State) (n : Nat) (g : BayS → BayS) : (s.bayMod n g).recsNvm = s.recsNvm := rfl
@[simp] theorem State.bayMod_recDue (s : State) (n : Nat) (g : BayS → BayS) : (s.bayMod n g).recDue = s.recDue := rfl
@[simp] theorem State.bayMod_recUs (s : State) (n : Nat) (g : BayS → BayS) : (s.bayMod n g).recUs = s.recUs := rfl
@[simp] theorem State.bayMod_twc (s : State) (n : Nat) (g : BayS → BayS) : (s.bayMod n g).twc = s.twc := rfl
@[simp] theorem State.bayMod_twPtr (s : State) (n : Nat) (g : BayS → BayS) : (s.bayMod n g).twPtr = s.twPtr := rfl
@[simp] theorem State.bayMod_twFast (s : State) (n : Nat) (g : BayS → BayS) : (s.bayMod n g).twFast = s.twFast := rfl
@[simp] theorem State.bayMod_rbytes (s : State) (n : Nat) (g : BayS → BayS) : (s.bayMod n g).rbytes = s.rbytes := rfl
@[simp] theorem State.bayMod_lan (s : State) (n : Nat) (g : BayS → BayS) : (s.bayMod n g).lan = s.lan := rfl
@[simp] theorem State.bayMod_mem (s : State) (n : Nat) (g : BayS → BayS) : (s.bayMod n g).mem = s.mem := rfl
@[simp] theorem State.bayMod_cap (s : State) (n : Nat) (g : BayS → BayS) : (s.bayMod n g).cap = s.cap := rfl
@[simp] theorem State.bayMod_str (s : State) (n : Nat) (g : BayS → BayS) : (s.bayMod n g).str = s.str := rfl
@[simp] theorem State.bayMod_memBad (s : State) (n : Nat) (g : BayS → BayS) : (s.bayMod n g).memBad = s.memBad := rfl
@[simp] theorem State.bayMod_gal (s : State) (n : Nat) (g : BayS → BayS) : (s.bayMod n g).gal = s.gal := rfl
@[simp] theorem State.bayMod_flt (s : State) (n : Nat) (g : BayS → BayS) : (s.bayMod n g).flt = s.flt := rfl
@[simp] theorem State.bayMod_sys (s : State) (n : Nat) (g : BayS → BayS) : (s.bayMod n g).sys = s.sys := rfl

/-! ### loopMod: changes loop -/

@[simp] theorem State.loopMod_pending (s : State) (n : Nat) (g : LoopS → LoopS) : (s.loopMod n g).pending = s.pending := rfl
@[simp] theorem State.loopMod_mode (s : State) (n : Nat) (g : LoopS → LoopS) : (s.loopMod n g).mode = s.mode := rfl
@[simp] theorem State.loopMod_us (s : State) (n : Nat) (g : LoopS → LoopS) : (s.loopMod n g).us = s.us := rfl
@[simp] theorem State.loopMod_regs (s : State) (n : Nat) (g : LoopS → LoopS) : (s.loopMod n g).regs = s.regs := rfl
@[simp] theorem State.loopMod_act (s : State) (n : Nat) (g : LoopS → LoopS) : (s.loopMod n g).act = s.act := rfl
@[simp] theorem State.loopMod_snap (s : State) (n : Nat) (g : LoopS → LoopS) : (s.loopMod n g).snap = s.snap := rfl
@[simp] theorem State.loopMod_snapUs (s : State) (n : Nat) (g : LoopS → LoopS) : (s.loopMod n g).snapUs = s.snapUs := rfl
@[simp] theorem State.loopMod_partsDone (s : State) (n : Nat) (g : LoopS → LoopS) : (s.loopMod n g).partsDone = s.partsDone := rfl
@[simp] theorem State.loopMod_out (s : State) (n : Nat) (g : LoopS → LoopS) : (s.loopMod n g).out = s.out := rfl
@[simp] theorem State.loopMod_rdata (s : State) (n : Nat) (g : LoopS → LoopS) : (s.loopMod n g).rdata = s.rdata := rfl
@[simp] theorem State.loopMod_svN (s : State) (n : Nat) (g : LoopS → LoopS) : (s.loopMod n g).svN = s.svN := rfl
@[simp] theorem State.loopMod_holdUs (s : State) (n : Nat) (g : LoopS → LoopS) : (s.loopMod n g).holdUs = s.holdUs := rfl
@[simp] theorem State.loopMod_draws (s : State) (n : Nat) (g : LoopS → LoopS) : (s.loopMod n g).draws = s.draws := rfl
@[simp] theorem State.loopMod_evPend (s : State) (n : Nat) (g : LoopS → LoopS) : (s.loopMod n g).evPend = s.evPend := rfl
@[simp] theorem State.loopMod_evq (s : State) (n : Nat) (g : LoopS → LoopS) : (s.loopMod n g).evq = s.evq := rfl
@[simp] theorem State.loopMod_evqOvf (s : State) (n : Nat) (g : LoopS → LoopS) : (s.loopMod n g).evqOvf = s.evqOvf := rfl
@[simp] theorem State.loopMod_vec (s : State) (n : Nat) (g : LoopS → LoopS) : (s.loopMod n g).vec = s.vec := rfl
@[simp] theorem State.loopMod_msix (s : State) (n : Nat) (g : LoopS → LoopS) : (s.loopMod n g).msix = s.msix := rfl
@[simp] theorem State.loopMod_jrejDetail (s : State) (n : Nat) (g : LoopS → LoopS) : (s.loopMod n g).jrejDetail = s.jrejDetail := rfl
@[simp] theorem State.loopMod_lockrejDetail (s : State) (n : Nat) (g : LoopS → LoopS) : (s.loopMod n g).lockrejDetail = s.lockrejDetail := rfl
@[simp] theorem State.loopMod_tokenQ (s : State) (n : Nat) (g : LoopS → LoopS) : (s.loopMod n g).tokenQ = s.tokenQ := rfl
@[simp] theorem State.loopMod_islBuf (s : State) (n : Nat) (g : LoopS → LoopS) : (s.loopMod n g).islBuf = s.islBuf := rfl
@[simp] theorem State.loopMod_islOvf (s : State) (n : Nat) (g : LoopS → LoopS) : (s.loopMod n g).islOvf = s.islOvf := rfl
@[simp] theorem State.loopMod_offers (s : State) (n : Nat) (g : LoopS → LoopS) : (s.loopMod n g).offers = s.offers := rfl
@[simp] theorem State.loopMod_jnl (s : State) (n : Nat) (g : LoopS → LoopS) : (s.loopMod n g).jnl = s.jnl := rfl
@[simp] theorem State.loopMod_jHeld (s : State) (n : Nat) (g : LoopS → LoopS) : (s.loopMod n g).jHeld = s.jHeld := rfl
@[simp] theorem State.loopMod_jInject (s : State) (n : Nat) (g : LoopS → LoopS) : (s.loopMod n g).jInject = s.jInject := rfl
@[simp] theorem State.loopMod_hostRing (s : State) (n : Nat) (g : LoopS → LoopS) : (s.loopMod n g).hostRing = s.hostRing := rfl
@[simp] theorem State.loopMod_repHeld (s : State) (n : Nat) (g : LoopS → LoopS) : (s.loopMod n g).repHeld = s.repHeld := rfl
@[simp] theorem State.loopMod_rptFull (s : State) (n : Nat) (g : LoopS → LoopS) : (s.loopMod n g).rptFull = s.rptFull := rfl
@[simp] theorem State.loopMod_redirect (s : State) (n : Nat) (g : LoopS → LoopS) : (s.loopMod n g).redirect = s.redirect := rfl
@[simp] theorem State.loopMod_aerFatal (s : State) (n : Nat) (g : LoopS → LoopS) : (s.loopMod n g).aerFatal = s.aerFatal := rfl
@[simp] theorem State.loopMod_twq (s : State) (n : Nat) (g : LoopS → LoopS) : (s.loopMod n g).twq = s.twq := rfl
@[simp] theorem State.loopMod_twHeld (s : State) (n : Nat) (g : LoopS → LoopS) : (s.loopMod n g).twHeld = s.twHeld := rfl
@[simp] theorem State.loopMod_twStage (s : State) (n : Nat) (g : LoopS → LoopS) : (s.loopMod n g).twStage = s.twStage := rfl
@[simp] theorem State.loopMod_twWaiting (s : State) (n : Nat) (g : LoopS → LoopS) : (s.loopMod n g).twWaiting = s.twWaiting := rfl
@[simp] theorem State.loopMod_pfwOn (s : State) (n : Nat) (g : LoopS → LoopS) : (s.loopMod n g).pfwOn = s.pfwOn := rfl
@[simp] theorem State.loopMod_warmArmed (s : State) (n : Nat) (g : LoopS → LoopS) : (s.loopMod n g).warmArmed = s.warmArmed := rfl
@[simp] theorem State.loopMod_bay (s : State) (n : Nat) (g : LoopS → LoopS) : (s.loopMod n g).bay = s.bay := rfl
@[simp] theorem State.loopMod_ph (s : State) (n : Nat) (g : LoopS → LoopS) : (s.loopMod n g).ph = s.ph := rfl
@[simp] theorem State.loopMod_rail (s : State) (n : Nat) (g : LoopS → LoopS) : (s.loopMod n g).rail = s.rail := rfl
@[simp] theorem State.loopMod_fl (s : State) (n : Nat) (g : LoopS → LoopS) : (s.loopMod n g).fl = s.fl := rfl
@[simp] theorem State.loopMod_idx (s : State) (n : Nat) (g : LoopS → LoopS) : (s.loopMod n g).idx = s.idx := rfl
@[simp] theorem State.loopMod_tie (s : State) (n : Nat) (g : LoopS → LoopS) : (s.loopMod n g).tie = s.tie := rfl
@[simp] theorem State.loopMod_abc (s : State) (n : Nat) (g : LoopS → LoopS) : (s.loopMod n g).abc = s.abc := rfl
@[simp] theorem State.loopMod_hld (s : State) (n : Nat) (g : LoopS → LoopS) : (s.loopMod n g).hld = s.hld := rfl
@[simp] theorem State.loopMod_bal (s : State) (n : Nat) (g : LoopS → LoopS) : (s.loopMod n g).bal = s.bal := rfl
@[simp] theorem State.loopMod_bat (s : State) (n : Nat) (g : LoopS → LoopS) : (s.loopMod n g).bat = s.bat := rfl
@[simp] theorem State.loopMod_recs (s : State) (n : Nat) (g : LoopS → LoopS) : (s.loopMod n g).recs = s.recs := rfl
@[simp] theorem State.loopMod_recsNvm (s : State) (n : Nat) (g : LoopS → LoopS) : (s.loopMod n g).recsNvm = s.recsNvm := rfl
@[simp] theorem State.loopMod_recDue (s : State) (n : Nat) (g : LoopS → LoopS) : (s.loopMod n g).recDue = s.recDue := rfl
@[simp] theorem State.loopMod_recUs (s : State) (n : Nat) (g : LoopS → LoopS) : (s.loopMod n g).recUs = s.recUs := rfl
@[simp] theorem State.loopMod_twc (s : State) (n : Nat) (g : LoopS → LoopS) : (s.loopMod n g).twc = s.twc := rfl
@[simp] theorem State.loopMod_twPtr (s : State) (n : Nat) (g : LoopS → LoopS) : (s.loopMod n g).twPtr = s.twPtr := rfl
@[simp] theorem State.loopMod_twFast (s : State) (n : Nat) (g : LoopS → LoopS) : (s.loopMod n g).twFast = s.twFast := rfl
@[simp] theorem State.loopMod_rbytes (s : State) (n : Nat) (g : LoopS → LoopS) : (s.loopMod n g).rbytes = s.rbytes := rfl
@[simp] theorem State.loopMod_lan (s : State) (n : Nat) (g : LoopS → LoopS) : (s.loopMod n g).lan = s.lan := rfl
@[simp] theorem State.loopMod_mem (s : State) (n : Nat) (g : LoopS → LoopS) : (s.loopMod n g).mem = s.mem := rfl
@[simp] theorem State.loopMod_cap (s : State) (n : Nat) (g : LoopS → LoopS) : (s.loopMod n g).cap = s.cap := rfl
@[simp] theorem State.loopMod_str (s : State) (n : Nat) (g : LoopS → LoopS) : (s.loopMod n g).str = s.str := rfl
@[simp] theorem State.loopMod_memBad (s : State) (n : Nat) (g : LoopS → LoopS) : (s.loopMod n g).memBad = s.memBad := rfl
@[simp] theorem State.loopMod_gal (s : State) (n : Nat) (g : LoopS → LoopS) : (s.loopMod n g).gal = s.gal := rfl
@[simp] theorem State.loopMod_flt (s : State) (n : Nat) (g : LoopS → LoopS) : (s.loopMod n g).flt = s.flt := rfl
@[simp] theorem State.loopMod_sys (s : State) (n : Nat) (g : LoopS → LoopS) : (s.loopMod n g).sys = s.sys := rfl

/-! ### phMod: changes ph -/

@[simp] theorem State.phMod_pending (s : State) (n : Nat) (g : PhS → PhS) : (s.phMod n g).pending = s.pending := rfl
@[simp] theorem State.phMod_mode (s : State) (n : Nat) (g : PhS → PhS) : (s.phMod n g).mode = s.mode := rfl
@[simp] theorem State.phMod_us (s : State) (n : Nat) (g : PhS → PhS) : (s.phMod n g).us = s.us := rfl
@[simp] theorem State.phMod_regs (s : State) (n : Nat) (g : PhS → PhS) : (s.phMod n g).regs = s.regs := rfl
@[simp] theorem State.phMod_act (s : State) (n : Nat) (g : PhS → PhS) : (s.phMod n g).act = s.act := rfl
@[simp] theorem State.phMod_snap (s : State) (n : Nat) (g : PhS → PhS) : (s.phMod n g).snap = s.snap := rfl
@[simp] theorem State.phMod_snapUs (s : State) (n : Nat) (g : PhS → PhS) : (s.phMod n g).snapUs = s.snapUs := rfl
@[simp] theorem State.phMod_partsDone (s : State) (n : Nat) (g : PhS → PhS) : (s.phMod n g).partsDone = s.partsDone := rfl
@[simp] theorem State.phMod_out (s : State) (n : Nat) (g : PhS → PhS) : (s.phMod n g).out = s.out := rfl
@[simp] theorem State.phMod_rdata (s : State) (n : Nat) (g : PhS → PhS) : (s.phMod n g).rdata = s.rdata := rfl
@[simp] theorem State.phMod_svN (s : State) (n : Nat) (g : PhS → PhS) : (s.phMod n g).svN = s.svN := rfl
@[simp] theorem State.phMod_holdUs (s : State) (n : Nat) (g : PhS → PhS) : (s.phMod n g).holdUs = s.holdUs := rfl
@[simp] theorem State.phMod_draws (s : State) (n : Nat) (g : PhS → PhS) : (s.phMod n g).draws = s.draws := rfl
@[simp] theorem State.phMod_evPend (s : State) (n : Nat) (g : PhS → PhS) : (s.phMod n g).evPend = s.evPend := rfl
@[simp] theorem State.phMod_evq (s : State) (n : Nat) (g : PhS → PhS) : (s.phMod n g).evq = s.evq := rfl
@[simp] theorem State.phMod_evqOvf (s : State) (n : Nat) (g : PhS → PhS) : (s.phMod n g).evqOvf = s.evqOvf := rfl
@[simp] theorem State.phMod_vec (s : State) (n : Nat) (g : PhS → PhS) : (s.phMod n g).vec = s.vec := rfl
@[simp] theorem State.phMod_msix (s : State) (n : Nat) (g : PhS → PhS) : (s.phMod n g).msix = s.msix := rfl
@[simp] theorem State.phMod_jrejDetail (s : State) (n : Nat) (g : PhS → PhS) : (s.phMod n g).jrejDetail = s.jrejDetail := rfl
@[simp] theorem State.phMod_lockrejDetail (s : State) (n : Nat) (g : PhS → PhS) : (s.phMod n g).lockrejDetail = s.lockrejDetail := rfl
@[simp] theorem State.phMod_tokenQ (s : State) (n : Nat) (g : PhS → PhS) : (s.phMod n g).tokenQ = s.tokenQ := rfl
@[simp] theorem State.phMod_islBuf (s : State) (n : Nat) (g : PhS → PhS) : (s.phMod n g).islBuf = s.islBuf := rfl
@[simp] theorem State.phMod_islOvf (s : State) (n : Nat) (g : PhS → PhS) : (s.phMod n g).islOvf = s.islOvf := rfl
@[simp] theorem State.phMod_offers (s : State) (n : Nat) (g : PhS → PhS) : (s.phMod n g).offers = s.offers := rfl
@[simp] theorem State.phMod_jnl (s : State) (n : Nat) (g : PhS → PhS) : (s.phMod n g).jnl = s.jnl := rfl
@[simp] theorem State.phMod_jHeld (s : State) (n : Nat) (g : PhS → PhS) : (s.phMod n g).jHeld = s.jHeld := rfl
@[simp] theorem State.phMod_jInject (s : State) (n : Nat) (g : PhS → PhS) : (s.phMod n g).jInject = s.jInject := rfl
@[simp] theorem State.phMod_hostRing (s : State) (n : Nat) (g : PhS → PhS) : (s.phMod n g).hostRing = s.hostRing := rfl
@[simp] theorem State.phMod_repHeld (s : State) (n : Nat) (g : PhS → PhS) : (s.phMod n g).repHeld = s.repHeld := rfl
@[simp] theorem State.phMod_rptFull (s : State) (n : Nat) (g : PhS → PhS) : (s.phMod n g).rptFull = s.rptFull := rfl
@[simp] theorem State.phMod_redirect (s : State) (n : Nat) (g : PhS → PhS) : (s.phMod n g).redirect = s.redirect := rfl
@[simp] theorem State.phMod_aerFatal (s : State) (n : Nat) (g : PhS → PhS) : (s.phMod n g).aerFatal = s.aerFatal := rfl
@[simp] theorem State.phMod_twq (s : State) (n : Nat) (g : PhS → PhS) : (s.phMod n g).twq = s.twq := rfl
@[simp] theorem State.phMod_twHeld (s : State) (n : Nat) (g : PhS → PhS) : (s.phMod n g).twHeld = s.twHeld := rfl
@[simp] theorem State.phMod_twStage (s : State) (n : Nat) (g : PhS → PhS) : (s.phMod n g).twStage = s.twStage := rfl
@[simp] theorem State.phMod_twWaiting (s : State) (n : Nat) (g : PhS → PhS) : (s.phMod n g).twWaiting = s.twWaiting := rfl
@[simp] theorem State.phMod_pfwOn (s : State) (n : Nat) (g : PhS → PhS) : (s.phMod n g).pfwOn = s.pfwOn := rfl
@[simp] theorem State.phMod_warmArmed (s : State) (n : Nat) (g : PhS → PhS) : (s.phMod n g).warmArmed = s.warmArmed := rfl
@[simp] theorem State.phMod_bay (s : State) (n : Nat) (g : PhS → PhS) : (s.phMod n g).bay = s.bay := rfl
@[simp] theorem State.phMod_loop (s : State) (n : Nat) (g : PhS → PhS) : (s.phMod n g).loop = s.loop := rfl
@[simp] theorem State.phMod_rail (s : State) (n : Nat) (g : PhS → PhS) : (s.phMod n g).rail = s.rail := rfl
@[simp] theorem State.phMod_fl (s : State) (n : Nat) (g : PhS → PhS) : (s.phMod n g).fl = s.fl := rfl
@[simp] theorem State.phMod_idx (s : State) (n : Nat) (g : PhS → PhS) : (s.phMod n g).idx = s.idx := rfl
@[simp] theorem State.phMod_tie (s : State) (n : Nat) (g : PhS → PhS) : (s.phMod n g).tie = s.tie := rfl
@[simp] theorem State.phMod_abc (s : State) (n : Nat) (g : PhS → PhS) : (s.phMod n g).abc = s.abc := rfl
@[simp] theorem State.phMod_hld (s : State) (n : Nat) (g : PhS → PhS) : (s.phMod n g).hld = s.hld := rfl
@[simp] theorem State.phMod_bal (s : State) (n : Nat) (g : PhS → PhS) : (s.phMod n g).bal = s.bal := rfl
@[simp] theorem State.phMod_bat (s : State) (n : Nat) (g : PhS → PhS) : (s.phMod n g).bat = s.bat := rfl
@[simp] theorem State.phMod_recs (s : State) (n : Nat) (g : PhS → PhS) : (s.phMod n g).recs = s.recs := rfl
@[simp] theorem State.phMod_recsNvm (s : State) (n : Nat) (g : PhS → PhS) : (s.phMod n g).recsNvm = s.recsNvm := rfl
@[simp] theorem State.phMod_recDue (s : State) (n : Nat) (g : PhS → PhS) : (s.phMod n g).recDue = s.recDue := rfl
@[simp] theorem State.phMod_recUs (s : State) (n : Nat) (g : PhS → PhS) : (s.phMod n g).recUs = s.recUs := rfl
@[simp] theorem State.phMod_twc (s : State) (n : Nat) (g : PhS → PhS) : (s.phMod n g).twc = s.twc := rfl
@[simp] theorem State.phMod_twPtr (s : State) (n : Nat) (g : PhS → PhS) : (s.phMod n g).twPtr = s.twPtr := rfl
@[simp] theorem State.phMod_twFast (s : State) (n : Nat) (g : PhS → PhS) : (s.phMod n g).twFast = s.twFast := rfl
@[simp] theorem State.phMod_rbytes (s : State) (n : Nat) (g : PhS → PhS) : (s.phMod n g).rbytes = s.rbytes := rfl
@[simp] theorem State.phMod_lan (s : State) (n : Nat) (g : PhS → PhS) : (s.phMod n g).lan = s.lan := rfl
@[simp] theorem State.phMod_mem (s : State) (n : Nat) (g : PhS → PhS) : (s.phMod n g).mem = s.mem := rfl
@[simp] theorem State.phMod_cap (s : State) (n : Nat) (g : PhS → PhS) : (s.phMod n g).cap = s.cap := rfl
@[simp] theorem State.phMod_str (s : State) (n : Nat) (g : PhS → PhS) : (s.phMod n g).str = s.str := rfl
@[simp] theorem State.phMod_memBad (s : State) (n : Nat) (g : PhS → PhS) : (s.phMod n g).memBad = s.memBad := rfl
@[simp] theorem State.phMod_gal (s : State) (n : Nat) (g : PhS → PhS) : (s.phMod n g).gal = s.gal := rfl
@[simp] theorem State.phMod_flt (s : State) (n : Nat) (g : PhS → PhS) : (s.phMod n g).flt = s.flt := rfl
@[simp] theorem State.phMod_sys (s : State) (n : Nat) (g : PhS → PhS) : (s.phMod n g).sys = s.sys := rfl

/-! ### railMod: changes rail -/

@[simp] theorem State.railMod_pending (s : State) (n : Nat) (g : RailS → RailS) : (s.railMod n g).pending = s.pending := rfl
@[simp] theorem State.railMod_mode (s : State) (n : Nat) (g : RailS → RailS) : (s.railMod n g).mode = s.mode := rfl
@[simp] theorem State.railMod_us (s : State) (n : Nat) (g : RailS → RailS) : (s.railMod n g).us = s.us := rfl
@[simp] theorem State.railMod_regs (s : State) (n : Nat) (g : RailS → RailS) : (s.railMod n g).regs = s.regs := rfl
@[simp] theorem State.railMod_act (s : State) (n : Nat) (g : RailS → RailS) : (s.railMod n g).act = s.act := rfl
@[simp] theorem State.railMod_snap (s : State) (n : Nat) (g : RailS → RailS) : (s.railMod n g).snap = s.snap := rfl
@[simp] theorem State.railMod_snapUs (s : State) (n : Nat) (g : RailS → RailS) : (s.railMod n g).snapUs = s.snapUs := rfl
@[simp] theorem State.railMod_partsDone (s : State) (n : Nat) (g : RailS → RailS) : (s.railMod n g).partsDone = s.partsDone := rfl
@[simp] theorem State.railMod_out (s : State) (n : Nat) (g : RailS → RailS) : (s.railMod n g).out = s.out := rfl
@[simp] theorem State.railMod_rdata (s : State) (n : Nat) (g : RailS → RailS) : (s.railMod n g).rdata = s.rdata := rfl
@[simp] theorem State.railMod_svN (s : State) (n : Nat) (g : RailS → RailS) : (s.railMod n g).svN = s.svN := rfl
@[simp] theorem State.railMod_holdUs (s : State) (n : Nat) (g : RailS → RailS) : (s.railMod n g).holdUs = s.holdUs := rfl
@[simp] theorem State.railMod_draws (s : State) (n : Nat) (g : RailS → RailS) : (s.railMod n g).draws = s.draws := rfl
@[simp] theorem State.railMod_evPend (s : State) (n : Nat) (g : RailS → RailS) : (s.railMod n g).evPend = s.evPend := rfl
@[simp] theorem State.railMod_evq (s : State) (n : Nat) (g : RailS → RailS) : (s.railMod n g).evq = s.evq := rfl
@[simp] theorem State.railMod_evqOvf (s : State) (n : Nat) (g : RailS → RailS) : (s.railMod n g).evqOvf = s.evqOvf := rfl
@[simp] theorem State.railMod_vec (s : State) (n : Nat) (g : RailS → RailS) : (s.railMod n g).vec = s.vec := rfl
@[simp] theorem State.railMod_msix (s : State) (n : Nat) (g : RailS → RailS) : (s.railMod n g).msix = s.msix := rfl
@[simp] theorem State.railMod_jrejDetail (s : State) (n : Nat) (g : RailS → RailS) : (s.railMod n g).jrejDetail = s.jrejDetail := rfl
@[simp] theorem State.railMod_lockrejDetail (s : State) (n : Nat) (g : RailS → RailS) : (s.railMod n g).lockrejDetail = s.lockrejDetail := rfl
@[simp] theorem State.railMod_tokenQ (s : State) (n : Nat) (g : RailS → RailS) : (s.railMod n g).tokenQ = s.tokenQ := rfl
@[simp] theorem State.railMod_islBuf (s : State) (n : Nat) (g : RailS → RailS) : (s.railMod n g).islBuf = s.islBuf := rfl
@[simp] theorem State.railMod_islOvf (s : State) (n : Nat) (g : RailS → RailS) : (s.railMod n g).islOvf = s.islOvf := rfl
@[simp] theorem State.railMod_offers (s : State) (n : Nat) (g : RailS → RailS) : (s.railMod n g).offers = s.offers := rfl
@[simp] theorem State.railMod_jnl (s : State) (n : Nat) (g : RailS → RailS) : (s.railMod n g).jnl = s.jnl := rfl
@[simp] theorem State.railMod_jHeld (s : State) (n : Nat) (g : RailS → RailS) : (s.railMod n g).jHeld = s.jHeld := rfl
@[simp] theorem State.railMod_jInject (s : State) (n : Nat) (g : RailS → RailS) : (s.railMod n g).jInject = s.jInject := rfl
@[simp] theorem State.railMod_hostRing (s : State) (n : Nat) (g : RailS → RailS) : (s.railMod n g).hostRing = s.hostRing := rfl
@[simp] theorem State.railMod_repHeld (s : State) (n : Nat) (g : RailS → RailS) : (s.railMod n g).repHeld = s.repHeld := rfl
@[simp] theorem State.railMod_rptFull (s : State) (n : Nat) (g : RailS → RailS) : (s.railMod n g).rptFull = s.rptFull := rfl
@[simp] theorem State.railMod_redirect (s : State) (n : Nat) (g : RailS → RailS) : (s.railMod n g).redirect = s.redirect := rfl
@[simp] theorem State.railMod_aerFatal (s : State) (n : Nat) (g : RailS → RailS) : (s.railMod n g).aerFatal = s.aerFatal := rfl
@[simp] theorem State.railMod_twq (s : State) (n : Nat) (g : RailS → RailS) : (s.railMod n g).twq = s.twq := rfl
@[simp] theorem State.railMod_twHeld (s : State) (n : Nat) (g : RailS → RailS) : (s.railMod n g).twHeld = s.twHeld := rfl
@[simp] theorem State.railMod_twStage (s : State) (n : Nat) (g : RailS → RailS) : (s.railMod n g).twStage = s.twStage := rfl
@[simp] theorem State.railMod_twWaiting (s : State) (n : Nat) (g : RailS → RailS) : (s.railMod n g).twWaiting = s.twWaiting := rfl
@[simp] theorem State.railMod_pfwOn (s : State) (n : Nat) (g : RailS → RailS) : (s.railMod n g).pfwOn = s.pfwOn := rfl
@[simp] theorem State.railMod_warmArmed (s : State) (n : Nat) (g : RailS → RailS) : (s.railMod n g).warmArmed = s.warmArmed := rfl
@[simp] theorem State.railMod_bay (s : State) (n : Nat) (g : RailS → RailS) : (s.railMod n g).bay = s.bay := rfl
@[simp] theorem State.railMod_loop (s : State) (n : Nat) (g : RailS → RailS) : (s.railMod n g).loop = s.loop := rfl
@[simp] theorem State.railMod_ph (s : State) (n : Nat) (g : RailS → RailS) : (s.railMod n g).ph = s.ph := rfl
@[simp] theorem State.railMod_fl (s : State) (n : Nat) (g : RailS → RailS) : (s.railMod n g).fl = s.fl := rfl
@[simp] theorem State.railMod_idx (s : State) (n : Nat) (g : RailS → RailS) : (s.railMod n g).idx = s.idx := rfl
@[simp] theorem State.railMod_tie (s : State) (n : Nat) (g : RailS → RailS) : (s.railMod n g).tie = s.tie := rfl
@[simp] theorem State.railMod_abc (s : State) (n : Nat) (g : RailS → RailS) : (s.railMod n g).abc = s.abc := rfl
@[simp] theorem State.railMod_hld (s : State) (n : Nat) (g : RailS → RailS) : (s.railMod n g).hld = s.hld := rfl
@[simp] theorem State.railMod_bal (s : State) (n : Nat) (g : RailS → RailS) : (s.railMod n g).bal = s.bal := rfl
@[simp] theorem State.railMod_bat (s : State) (n : Nat) (g : RailS → RailS) : (s.railMod n g).bat = s.bat := rfl
@[simp] theorem State.railMod_recs (s : State) (n : Nat) (g : RailS → RailS) : (s.railMod n g).recs = s.recs := rfl
@[simp] theorem State.railMod_recsNvm (s : State) (n : Nat) (g : RailS → RailS) : (s.railMod n g).recsNvm = s.recsNvm := rfl
@[simp] theorem State.railMod_recDue (s : State) (n : Nat) (g : RailS → RailS) : (s.railMod n g).recDue = s.recDue := rfl
@[simp] theorem State.railMod_recUs (s : State) (n : Nat) (g : RailS → RailS) : (s.railMod n g).recUs = s.recUs := rfl
@[simp] theorem State.railMod_twc (s : State) (n : Nat) (g : RailS → RailS) : (s.railMod n g).twc = s.twc := rfl
@[simp] theorem State.railMod_twPtr (s : State) (n : Nat) (g : RailS → RailS) : (s.railMod n g).twPtr = s.twPtr := rfl
@[simp] theorem State.railMod_twFast (s : State) (n : Nat) (g : RailS → RailS) : (s.railMod n g).twFast = s.twFast := rfl
@[simp] theorem State.railMod_rbytes (s : State) (n : Nat) (g : RailS → RailS) : (s.railMod n g).rbytes = s.rbytes := rfl
@[simp] theorem State.railMod_lan (s : State) (n : Nat) (g : RailS → RailS) : (s.railMod n g).lan = s.lan := rfl
@[simp] theorem State.railMod_mem (s : State) (n : Nat) (g : RailS → RailS) : (s.railMod n g).mem = s.mem := rfl
@[simp] theorem State.railMod_cap (s : State) (n : Nat) (g : RailS → RailS) : (s.railMod n g).cap = s.cap := rfl
@[simp] theorem State.railMod_str (s : State) (n : Nat) (g : RailS → RailS) : (s.railMod n g).str = s.str := rfl
@[simp] theorem State.railMod_memBad (s : State) (n : Nat) (g : RailS → RailS) : (s.railMod n g).memBad = s.memBad := rfl
@[simp] theorem State.railMod_gal (s : State) (n : Nat) (g : RailS → RailS) : (s.railMod n g).gal = s.gal := rfl
@[simp] theorem State.railMod_flt (s : State) (n : Nat) (g : RailS → RailS) : (s.railMod n g).flt = s.flt := rfl
@[simp] theorem State.railMod_sys (s : State) (n : Nat) (g : RailS → RailS) : (s.railMod n g).sys = s.sys := rfl

/-! ### flMod: changes fl -/

@[simp] theorem State.flMod_pending (s : State) (n : Nat) (g : FlightS → FlightS) : (s.flMod n g).pending = s.pending := rfl
@[simp] theorem State.flMod_mode (s : State) (n : Nat) (g : FlightS → FlightS) : (s.flMod n g).mode = s.mode := rfl
@[simp] theorem State.flMod_us (s : State) (n : Nat) (g : FlightS → FlightS) : (s.flMod n g).us = s.us := rfl
@[simp] theorem State.flMod_regs (s : State) (n : Nat) (g : FlightS → FlightS) : (s.flMod n g).regs = s.regs := rfl
@[simp] theorem State.flMod_act (s : State) (n : Nat) (g : FlightS → FlightS) : (s.flMod n g).act = s.act := rfl
@[simp] theorem State.flMod_snap (s : State) (n : Nat) (g : FlightS → FlightS) : (s.flMod n g).snap = s.snap := rfl
@[simp] theorem State.flMod_snapUs (s : State) (n : Nat) (g : FlightS → FlightS) : (s.flMod n g).snapUs = s.snapUs := rfl
@[simp] theorem State.flMod_partsDone (s : State) (n : Nat) (g : FlightS → FlightS) : (s.flMod n g).partsDone = s.partsDone := rfl
@[simp] theorem State.flMod_out (s : State) (n : Nat) (g : FlightS → FlightS) : (s.flMod n g).out = s.out := rfl
@[simp] theorem State.flMod_rdata (s : State) (n : Nat) (g : FlightS → FlightS) : (s.flMod n g).rdata = s.rdata := rfl
@[simp] theorem State.flMod_svN (s : State) (n : Nat) (g : FlightS → FlightS) : (s.flMod n g).svN = s.svN := rfl
@[simp] theorem State.flMod_holdUs (s : State) (n : Nat) (g : FlightS → FlightS) : (s.flMod n g).holdUs = s.holdUs := rfl
@[simp] theorem State.flMod_draws (s : State) (n : Nat) (g : FlightS → FlightS) : (s.flMod n g).draws = s.draws := rfl
@[simp] theorem State.flMod_evPend (s : State) (n : Nat) (g : FlightS → FlightS) : (s.flMod n g).evPend = s.evPend := rfl
@[simp] theorem State.flMod_evq (s : State) (n : Nat) (g : FlightS → FlightS) : (s.flMod n g).evq = s.evq := rfl
@[simp] theorem State.flMod_evqOvf (s : State) (n : Nat) (g : FlightS → FlightS) : (s.flMod n g).evqOvf = s.evqOvf := rfl
@[simp] theorem State.flMod_vec (s : State) (n : Nat) (g : FlightS → FlightS) : (s.flMod n g).vec = s.vec := rfl
@[simp] theorem State.flMod_msix (s : State) (n : Nat) (g : FlightS → FlightS) : (s.flMod n g).msix = s.msix := rfl
@[simp] theorem State.flMod_jrejDetail (s : State) (n : Nat) (g : FlightS → FlightS) : (s.flMod n g).jrejDetail = s.jrejDetail := rfl
@[simp] theorem State.flMod_lockrejDetail (s : State) (n : Nat) (g : FlightS → FlightS) : (s.flMod n g).lockrejDetail = s.lockrejDetail := rfl
@[simp] theorem State.flMod_tokenQ (s : State) (n : Nat) (g : FlightS → FlightS) : (s.flMod n g).tokenQ = s.tokenQ := rfl
@[simp] theorem State.flMod_islBuf (s : State) (n : Nat) (g : FlightS → FlightS) : (s.flMod n g).islBuf = s.islBuf := rfl
@[simp] theorem State.flMod_islOvf (s : State) (n : Nat) (g : FlightS → FlightS) : (s.flMod n g).islOvf = s.islOvf := rfl
@[simp] theorem State.flMod_offers (s : State) (n : Nat) (g : FlightS → FlightS) : (s.flMod n g).offers = s.offers := rfl
@[simp] theorem State.flMod_jnl (s : State) (n : Nat) (g : FlightS → FlightS) : (s.flMod n g).jnl = s.jnl := rfl
@[simp] theorem State.flMod_jHeld (s : State) (n : Nat) (g : FlightS → FlightS) : (s.flMod n g).jHeld = s.jHeld := rfl
@[simp] theorem State.flMod_jInject (s : State) (n : Nat) (g : FlightS → FlightS) : (s.flMod n g).jInject = s.jInject := rfl
@[simp] theorem State.flMod_hostRing (s : State) (n : Nat) (g : FlightS → FlightS) : (s.flMod n g).hostRing = s.hostRing := rfl
@[simp] theorem State.flMod_repHeld (s : State) (n : Nat) (g : FlightS → FlightS) : (s.flMod n g).repHeld = s.repHeld := rfl
@[simp] theorem State.flMod_rptFull (s : State) (n : Nat) (g : FlightS → FlightS) : (s.flMod n g).rptFull = s.rptFull := rfl
@[simp] theorem State.flMod_redirect (s : State) (n : Nat) (g : FlightS → FlightS) : (s.flMod n g).redirect = s.redirect := rfl
@[simp] theorem State.flMod_aerFatal (s : State) (n : Nat) (g : FlightS → FlightS) : (s.flMod n g).aerFatal = s.aerFatal := rfl
@[simp] theorem State.flMod_twq (s : State) (n : Nat) (g : FlightS → FlightS) : (s.flMod n g).twq = s.twq := rfl
@[simp] theorem State.flMod_twHeld (s : State) (n : Nat) (g : FlightS → FlightS) : (s.flMod n g).twHeld = s.twHeld := rfl
@[simp] theorem State.flMod_twStage (s : State) (n : Nat) (g : FlightS → FlightS) : (s.flMod n g).twStage = s.twStage := rfl
@[simp] theorem State.flMod_twWaiting (s : State) (n : Nat) (g : FlightS → FlightS) : (s.flMod n g).twWaiting = s.twWaiting := rfl
@[simp] theorem State.flMod_pfwOn (s : State) (n : Nat) (g : FlightS → FlightS) : (s.flMod n g).pfwOn = s.pfwOn := rfl
@[simp] theorem State.flMod_warmArmed (s : State) (n : Nat) (g : FlightS → FlightS) : (s.flMod n g).warmArmed = s.warmArmed := rfl
@[simp] theorem State.flMod_bay (s : State) (n : Nat) (g : FlightS → FlightS) : (s.flMod n g).bay = s.bay := rfl
@[simp] theorem State.flMod_loop (s : State) (n : Nat) (g : FlightS → FlightS) : (s.flMod n g).loop = s.loop := rfl
@[simp] theorem State.flMod_ph (s : State) (n : Nat) (g : FlightS → FlightS) : (s.flMod n g).ph = s.ph := rfl
@[simp] theorem State.flMod_rail (s : State) (n : Nat) (g : FlightS → FlightS) : (s.flMod n g).rail = s.rail := rfl
@[simp] theorem State.flMod_idx (s : State) (n : Nat) (g : FlightS → FlightS) : (s.flMod n g).idx = s.idx := rfl
@[simp] theorem State.flMod_tie (s : State) (n : Nat) (g : FlightS → FlightS) : (s.flMod n g).tie = s.tie := rfl
@[simp] theorem State.flMod_abc (s : State) (n : Nat) (g : FlightS → FlightS) : (s.flMod n g).abc = s.abc := rfl
@[simp] theorem State.flMod_hld (s : State) (n : Nat) (g : FlightS → FlightS) : (s.flMod n g).hld = s.hld := rfl
@[simp] theorem State.flMod_bal (s : State) (n : Nat) (g : FlightS → FlightS) : (s.flMod n g).bal = s.bal := rfl
@[simp] theorem State.flMod_bat (s : State) (n : Nat) (g : FlightS → FlightS) : (s.flMod n g).bat = s.bat := rfl
@[simp] theorem State.flMod_recs (s : State) (n : Nat) (g : FlightS → FlightS) : (s.flMod n g).recs = s.recs := rfl
@[simp] theorem State.flMod_recsNvm (s : State) (n : Nat) (g : FlightS → FlightS) : (s.flMod n g).recsNvm = s.recsNvm := rfl
@[simp] theorem State.flMod_recDue (s : State) (n : Nat) (g : FlightS → FlightS) : (s.flMod n g).recDue = s.recDue := rfl
@[simp] theorem State.flMod_recUs (s : State) (n : Nat) (g : FlightS → FlightS) : (s.flMod n g).recUs = s.recUs := rfl
@[simp] theorem State.flMod_twc (s : State) (n : Nat) (g : FlightS → FlightS) : (s.flMod n g).twc = s.twc := rfl
@[simp] theorem State.flMod_twPtr (s : State) (n : Nat) (g : FlightS → FlightS) : (s.flMod n g).twPtr = s.twPtr := rfl
@[simp] theorem State.flMod_twFast (s : State) (n : Nat) (g : FlightS → FlightS) : (s.flMod n g).twFast = s.twFast := rfl
@[simp] theorem State.flMod_rbytes (s : State) (n : Nat) (g : FlightS → FlightS) : (s.flMod n g).rbytes = s.rbytes := rfl
@[simp] theorem State.flMod_lan (s : State) (n : Nat) (g : FlightS → FlightS) : (s.flMod n g).lan = s.lan := rfl
@[simp] theorem State.flMod_mem (s : State) (n : Nat) (g : FlightS → FlightS) : (s.flMod n g).mem = s.mem := rfl
@[simp] theorem State.flMod_cap (s : State) (n : Nat) (g : FlightS → FlightS) : (s.flMod n g).cap = s.cap := rfl
@[simp] theorem State.flMod_str (s : State) (n : Nat) (g : FlightS → FlightS) : (s.flMod n g).str = s.str := rfl
@[simp] theorem State.flMod_memBad (s : State) (n : Nat) (g : FlightS → FlightS) : (s.flMod n g).memBad = s.memBad := rfl
@[simp] theorem State.flMod_gal (s : State) (n : Nat) (g : FlightS → FlightS) : (s.flMod n g).gal = s.gal := rfl
@[simp] theorem State.flMod_flt (s : State) (n : Nat) (g : FlightS → FlightS) : (s.flMod n g).flt = s.flt := rfl
@[simp] theorem State.flMod_sys (s : State) (n : Nat) (g : FlightS → FlightS) : (s.flMod n g).sys = s.sys := rfl

/-! ### idxMod: changes idx -/

@[simp] theorem State.idxMod_pending (s : State) (g : IdxS → IdxS) : (s.idxMod g).pending = s.pending := rfl
@[simp] theorem State.idxMod_mode (s : State) (g : IdxS → IdxS) : (s.idxMod g).mode = s.mode := rfl
@[simp] theorem State.idxMod_us (s : State) (g : IdxS → IdxS) : (s.idxMod g).us = s.us := rfl
@[simp] theorem State.idxMod_regs (s : State) (g : IdxS → IdxS) : (s.idxMod g).regs = s.regs := rfl
@[simp] theorem State.idxMod_act (s : State) (g : IdxS → IdxS) : (s.idxMod g).act = s.act := rfl
@[simp] theorem State.idxMod_snap (s : State) (g : IdxS → IdxS) : (s.idxMod g).snap = s.snap := rfl
@[simp] theorem State.idxMod_snapUs (s : State) (g : IdxS → IdxS) : (s.idxMod g).snapUs = s.snapUs := rfl
@[simp] theorem State.idxMod_partsDone (s : State) (g : IdxS → IdxS) : (s.idxMod g).partsDone = s.partsDone := rfl
@[simp] theorem State.idxMod_out (s : State) (g : IdxS → IdxS) : (s.idxMod g).out = s.out := rfl
@[simp] theorem State.idxMod_rdata (s : State) (g : IdxS → IdxS) : (s.idxMod g).rdata = s.rdata := rfl
@[simp] theorem State.idxMod_svN (s : State) (g : IdxS → IdxS) : (s.idxMod g).svN = s.svN := rfl
@[simp] theorem State.idxMod_holdUs (s : State) (g : IdxS → IdxS) : (s.idxMod g).holdUs = s.holdUs := rfl
@[simp] theorem State.idxMod_draws (s : State) (g : IdxS → IdxS) : (s.idxMod g).draws = s.draws := rfl
@[simp] theorem State.idxMod_evPend (s : State) (g : IdxS → IdxS) : (s.idxMod g).evPend = s.evPend := rfl
@[simp] theorem State.idxMod_evq (s : State) (g : IdxS → IdxS) : (s.idxMod g).evq = s.evq := rfl
@[simp] theorem State.idxMod_evqOvf (s : State) (g : IdxS → IdxS) : (s.idxMod g).evqOvf = s.evqOvf := rfl
@[simp] theorem State.idxMod_vec (s : State) (g : IdxS → IdxS) : (s.idxMod g).vec = s.vec := rfl
@[simp] theorem State.idxMod_msix (s : State) (g : IdxS → IdxS) : (s.idxMod g).msix = s.msix := rfl
@[simp] theorem State.idxMod_jrejDetail (s : State) (g : IdxS → IdxS) : (s.idxMod g).jrejDetail = s.jrejDetail := rfl
@[simp] theorem State.idxMod_lockrejDetail (s : State) (g : IdxS → IdxS) : (s.idxMod g).lockrejDetail = s.lockrejDetail := rfl
@[simp] theorem State.idxMod_tokenQ (s : State) (g : IdxS → IdxS) : (s.idxMod g).tokenQ = s.tokenQ := rfl
@[simp] theorem State.idxMod_islBuf (s : State) (g : IdxS → IdxS) : (s.idxMod g).islBuf = s.islBuf := rfl
@[simp] theorem State.idxMod_islOvf (s : State) (g : IdxS → IdxS) : (s.idxMod g).islOvf = s.islOvf := rfl
@[simp] theorem State.idxMod_offers (s : State) (g : IdxS → IdxS) : (s.idxMod g).offers = s.offers := rfl
@[simp] theorem State.idxMod_jnl (s : State) (g : IdxS → IdxS) : (s.idxMod g).jnl = s.jnl := rfl
@[simp] theorem State.idxMod_jHeld (s : State) (g : IdxS → IdxS) : (s.idxMod g).jHeld = s.jHeld := rfl
@[simp] theorem State.idxMod_jInject (s : State) (g : IdxS → IdxS) : (s.idxMod g).jInject = s.jInject := rfl
@[simp] theorem State.idxMod_hostRing (s : State) (g : IdxS → IdxS) : (s.idxMod g).hostRing = s.hostRing := rfl
@[simp] theorem State.idxMod_repHeld (s : State) (g : IdxS → IdxS) : (s.idxMod g).repHeld = s.repHeld := rfl
@[simp] theorem State.idxMod_rptFull (s : State) (g : IdxS → IdxS) : (s.idxMod g).rptFull = s.rptFull := rfl
@[simp] theorem State.idxMod_redirect (s : State) (g : IdxS → IdxS) : (s.idxMod g).redirect = s.redirect := rfl
@[simp] theorem State.idxMod_aerFatal (s : State) (g : IdxS → IdxS) : (s.idxMod g).aerFatal = s.aerFatal := rfl
@[simp] theorem State.idxMod_twq (s : State) (g : IdxS → IdxS) : (s.idxMod g).twq = s.twq := rfl
@[simp] theorem State.idxMod_twHeld (s : State) (g : IdxS → IdxS) : (s.idxMod g).twHeld = s.twHeld := rfl
@[simp] theorem State.idxMod_twStage (s : State) (g : IdxS → IdxS) : (s.idxMod g).twStage = s.twStage := rfl
@[simp] theorem State.idxMod_twWaiting (s : State) (g : IdxS → IdxS) : (s.idxMod g).twWaiting = s.twWaiting := rfl
@[simp] theorem State.idxMod_pfwOn (s : State) (g : IdxS → IdxS) : (s.idxMod g).pfwOn = s.pfwOn := rfl
@[simp] theorem State.idxMod_warmArmed (s : State) (g : IdxS → IdxS) : (s.idxMod g).warmArmed = s.warmArmed := rfl
@[simp] theorem State.idxMod_bay (s : State) (g : IdxS → IdxS) : (s.idxMod g).bay = s.bay := rfl
@[simp] theorem State.idxMod_loop (s : State) (g : IdxS → IdxS) : (s.idxMod g).loop = s.loop := rfl
@[simp] theorem State.idxMod_ph (s : State) (g : IdxS → IdxS) : (s.idxMod g).ph = s.ph := rfl
@[simp] theorem State.idxMod_rail (s : State) (g : IdxS → IdxS) : (s.idxMod g).rail = s.rail := rfl
@[simp] theorem State.idxMod_fl (s : State) (g : IdxS → IdxS) : (s.idxMod g).fl = s.fl := rfl
@[simp] theorem State.idxMod_tie (s : State) (g : IdxS → IdxS) : (s.idxMod g).tie = s.tie := rfl
@[simp] theorem State.idxMod_abc (s : State) (g : IdxS → IdxS) : (s.idxMod g).abc = s.abc := rfl
@[simp] theorem State.idxMod_hld (s : State) (g : IdxS → IdxS) : (s.idxMod g).hld = s.hld := rfl
@[simp] theorem State.idxMod_bal (s : State) (g : IdxS → IdxS) : (s.idxMod g).bal = s.bal := rfl
@[simp] theorem State.idxMod_bat (s : State) (g : IdxS → IdxS) : (s.idxMod g).bat = s.bat := rfl
@[simp] theorem State.idxMod_recs (s : State) (g : IdxS → IdxS) : (s.idxMod g).recs = s.recs := rfl
@[simp] theorem State.idxMod_recsNvm (s : State) (g : IdxS → IdxS) : (s.idxMod g).recsNvm = s.recsNvm := rfl
@[simp] theorem State.idxMod_recDue (s : State) (g : IdxS → IdxS) : (s.idxMod g).recDue = s.recDue := rfl
@[simp] theorem State.idxMod_recUs (s : State) (g : IdxS → IdxS) : (s.idxMod g).recUs = s.recUs := rfl
@[simp] theorem State.idxMod_twc (s : State) (g : IdxS → IdxS) : (s.idxMod g).twc = s.twc := rfl
@[simp] theorem State.idxMod_twPtr (s : State) (g : IdxS → IdxS) : (s.idxMod g).twPtr = s.twPtr := rfl
@[simp] theorem State.idxMod_twFast (s : State) (g : IdxS → IdxS) : (s.idxMod g).twFast = s.twFast := rfl
@[simp] theorem State.idxMod_rbytes (s : State) (g : IdxS → IdxS) : (s.idxMod g).rbytes = s.rbytes := rfl
@[simp] theorem State.idxMod_lan (s : State) (g : IdxS → IdxS) : (s.idxMod g).lan = s.lan := rfl
@[simp] theorem State.idxMod_mem (s : State) (g : IdxS → IdxS) : (s.idxMod g).mem = s.mem := rfl
@[simp] theorem State.idxMod_cap (s : State) (g : IdxS → IdxS) : (s.idxMod g).cap = s.cap := rfl
@[simp] theorem State.idxMod_str (s : State) (g : IdxS → IdxS) : (s.idxMod g).str = s.str := rfl
@[simp] theorem State.idxMod_memBad (s : State) (g : IdxS → IdxS) : (s.idxMod g).memBad = s.memBad := rfl
@[simp] theorem State.idxMod_gal (s : State) (g : IdxS → IdxS) : (s.idxMod g).gal = s.gal := rfl
@[simp] theorem State.idxMod_flt (s : State) (g : IdxS → IdxS) : (s.idxMod g).flt = s.flt := rfl
@[simp] theorem State.idxMod_sys (s : State) (g : IdxS → IdxS) : (s.idxMod g).sys = s.sys := rfl

/-! ### tieMod: changes tie -/

@[simp] theorem State.tieMod_pending (s : State) (n : Nat) (g : TieS → TieS) : (s.tieMod n g).pending = s.pending := rfl
@[simp] theorem State.tieMod_mode (s : State) (n : Nat) (g : TieS → TieS) : (s.tieMod n g).mode = s.mode := rfl
@[simp] theorem State.tieMod_us (s : State) (n : Nat) (g : TieS → TieS) : (s.tieMod n g).us = s.us := rfl
@[simp] theorem State.tieMod_regs (s : State) (n : Nat) (g : TieS → TieS) : (s.tieMod n g).regs = s.regs := rfl
@[simp] theorem State.tieMod_act (s : State) (n : Nat) (g : TieS → TieS) : (s.tieMod n g).act = s.act := rfl
@[simp] theorem State.tieMod_snap (s : State) (n : Nat) (g : TieS → TieS) : (s.tieMod n g).snap = s.snap := rfl
@[simp] theorem State.tieMod_snapUs (s : State) (n : Nat) (g : TieS → TieS) : (s.tieMod n g).snapUs = s.snapUs := rfl
@[simp] theorem State.tieMod_partsDone (s : State) (n : Nat) (g : TieS → TieS) : (s.tieMod n g).partsDone = s.partsDone := rfl
@[simp] theorem State.tieMod_out (s : State) (n : Nat) (g : TieS → TieS) : (s.tieMod n g).out = s.out := rfl
@[simp] theorem State.tieMod_rdata (s : State) (n : Nat) (g : TieS → TieS) : (s.tieMod n g).rdata = s.rdata := rfl
@[simp] theorem State.tieMod_svN (s : State) (n : Nat) (g : TieS → TieS) : (s.tieMod n g).svN = s.svN := rfl
@[simp] theorem State.tieMod_holdUs (s : State) (n : Nat) (g : TieS → TieS) : (s.tieMod n g).holdUs = s.holdUs := rfl
@[simp] theorem State.tieMod_draws (s : State) (n : Nat) (g : TieS → TieS) : (s.tieMod n g).draws = s.draws := rfl
@[simp] theorem State.tieMod_evPend (s : State) (n : Nat) (g : TieS → TieS) : (s.tieMod n g).evPend = s.evPend := rfl
@[simp] theorem State.tieMod_evq (s : State) (n : Nat) (g : TieS → TieS) : (s.tieMod n g).evq = s.evq := rfl
@[simp] theorem State.tieMod_evqOvf (s : State) (n : Nat) (g : TieS → TieS) : (s.tieMod n g).evqOvf = s.evqOvf := rfl
@[simp] theorem State.tieMod_vec (s : State) (n : Nat) (g : TieS → TieS) : (s.tieMod n g).vec = s.vec := rfl
@[simp] theorem State.tieMod_msix (s : State) (n : Nat) (g : TieS → TieS) : (s.tieMod n g).msix = s.msix := rfl
@[simp] theorem State.tieMod_jrejDetail (s : State) (n : Nat) (g : TieS → TieS) : (s.tieMod n g).jrejDetail = s.jrejDetail := rfl
@[simp] theorem State.tieMod_lockrejDetail (s : State) (n : Nat) (g : TieS → TieS) : (s.tieMod n g).lockrejDetail = s.lockrejDetail := rfl
@[simp] theorem State.tieMod_tokenQ (s : State) (n : Nat) (g : TieS → TieS) : (s.tieMod n g).tokenQ = s.tokenQ := rfl
@[simp] theorem State.tieMod_islBuf (s : State) (n : Nat) (g : TieS → TieS) : (s.tieMod n g).islBuf = s.islBuf := rfl
@[simp] theorem State.tieMod_islOvf (s : State) (n : Nat) (g : TieS → TieS) : (s.tieMod n g).islOvf = s.islOvf := rfl
@[simp] theorem State.tieMod_offers (s : State) (n : Nat) (g : TieS → TieS) : (s.tieMod n g).offers = s.offers := rfl
@[simp] theorem State.tieMod_jnl (s : State) (n : Nat) (g : TieS → TieS) : (s.tieMod n g).jnl = s.jnl := rfl
@[simp] theorem State.tieMod_jHeld (s : State) (n : Nat) (g : TieS → TieS) : (s.tieMod n g).jHeld = s.jHeld := rfl
@[simp] theorem State.tieMod_jInject (s : State) (n : Nat) (g : TieS → TieS) : (s.tieMod n g).jInject = s.jInject := rfl
@[simp] theorem State.tieMod_hostRing (s : State) (n : Nat) (g : TieS → TieS) : (s.tieMod n g).hostRing = s.hostRing := rfl
@[simp] theorem State.tieMod_repHeld (s : State) (n : Nat) (g : TieS → TieS) : (s.tieMod n g).repHeld = s.repHeld := rfl
@[simp] theorem State.tieMod_rptFull (s : State) (n : Nat) (g : TieS → TieS) : (s.tieMod n g).rptFull = s.rptFull := rfl
@[simp] theorem State.tieMod_redirect (s : State) (n : Nat) (g : TieS → TieS) : (s.tieMod n g).redirect = s.redirect := rfl
@[simp] theorem State.tieMod_aerFatal (s : State) (n : Nat) (g : TieS → TieS) : (s.tieMod n g).aerFatal = s.aerFatal := rfl
@[simp] theorem State.tieMod_twq (s : State) (n : Nat) (g : TieS → TieS) : (s.tieMod n g).twq = s.twq := rfl
@[simp] theorem State.tieMod_twHeld (s : State) (n : Nat) (g : TieS → TieS) : (s.tieMod n g).twHeld = s.twHeld := rfl
@[simp] theorem State.tieMod_twStage (s : State) (n : Nat) (g : TieS → TieS) : (s.tieMod n g).twStage = s.twStage := rfl
@[simp] theorem State.tieMod_twWaiting (s : State) (n : Nat) (g : TieS → TieS) : (s.tieMod n g).twWaiting = s.twWaiting := rfl
@[simp] theorem State.tieMod_pfwOn (s : State) (n : Nat) (g : TieS → TieS) : (s.tieMod n g).pfwOn = s.pfwOn := rfl
@[simp] theorem State.tieMod_warmArmed (s : State) (n : Nat) (g : TieS → TieS) : (s.tieMod n g).warmArmed = s.warmArmed := rfl
@[simp] theorem State.tieMod_bay (s : State) (n : Nat) (g : TieS → TieS) : (s.tieMod n g).bay = s.bay := rfl
@[simp] theorem State.tieMod_loop (s : State) (n : Nat) (g : TieS → TieS) : (s.tieMod n g).loop = s.loop := rfl
@[simp] theorem State.tieMod_ph (s : State) (n : Nat) (g : TieS → TieS) : (s.tieMod n g).ph = s.ph := rfl
@[simp] theorem State.tieMod_rail (s : State) (n : Nat) (g : TieS → TieS) : (s.tieMod n g).rail = s.rail := rfl
@[simp] theorem State.tieMod_fl (s : State) (n : Nat) (g : TieS → TieS) : (s.tieMod n g).fl = s.fl := rfl
@[simp] theorem State.tieMod_idx (s : State) (n : Nat) (g : TieS → TieS) : (s.tieMod n g).idx = s.idx := rfl
@[simp] theorem State.tieMod_abc (s : State) (n : Nat) (g : TieS → TieS) : (s.tieMod n g).abc = s.abc := rfl
@[simp] theorem State.tieMod_hld (s : State) (n : Nat) (g : TieS → TieS) : (s.tieMod n g).hld = s.hld := rfl
@[simp] theorem State.tieMod_bal (s : State) (n : Nat) (g : TieS → TieS) : (s.tieMod n g).bal = s.bal := rfl
@[simp] theorem State.tieMod_bat (s : State) (n : Nat) (g : TieS → TieS) : (s.tieMod n g).bat = s.bat := rfl
@[simp] theorem State.tieMod_recs (s : State) (n : Nat) (g : TieS → TieS) : (s.tieMod n g).recs = s.recs := rfl
@[simp] theorem State.tieMod_recsNvm (s : State) (n : Nat) (g : TieS → TieS) : (s.tieMod n g).recsNvm = s.recsNvm := rfl
@[simp] theorem State.tieMod_recDue (s : State) (n : Nat) (g : TieS → TieS) : (s.tieMod n g).recDue = s.recDue := rfl
@[simp] theorem State.tieMod_recUs (s : State) (n : Nat) (g : TieS → TieS) : (s.tieMod n g).recUs = s.recUs := rfl
@[simp] theorem State.tieMod_twc (s : State) (n : Nat) (g : TieS → TieS) : (s.tieMod n g).twc = s.twc := rfl
@[simp] theorem State.tieMod_twPtr (s : State) (n : Nat) (g : TieS → TieS) : (s.tieMod n g).twPtr = s.twPtr := rfl
@[simp] theorem State.tieMod_twFast (s : State) (n : Nat) (g : TieS → TieS) : (s.tieMod n g).twFast = s.twFast := rfl
@[simp] theorem State.tieMod_rbytes (s : State) (n : Nat) (g : TieS → TieS) : (s.tieMod n g).rbytes = s.rbytes := rfl
@[simp] theorem State.tieMod_lan (s : State) (n : Nat) (g : TieS → TieS) : (s.tieMod n g).lan = s.lan := rfl
@[simp] theorem State.tieMod_mem (s : State) (n : Nat) (g : TieS → TieS) : (s.tieMod n g).mem = s.mem := rfl
@[simp] theorem State.tieMod_cap (s : State) (n : Nat) (g : TieS → TieS) : (s.tieMod n g).cap = s.cap := rfl
@[simp] theorem State.tieMod_str (s : State) (n : Nat) (g : TieS → TieS) : (s.tieMod n g).str = s.str := rfl
@[simp] theorem State.tieMod_memBad (s : State) (n : Nat) (g : TieS → TieS) : (s.tieMod n g).memBad = s.memBad := rfl
@[simp] theorem State.tieMod_gal (s : State) (n : Nat) (g : TieS → TieS) : (s.tieMod n g).gal = s.gal := rfl
@[simp] theorem State.tieMod_flt (s : State) (n : Nat) (g : TieS → TieS) : (s.tieMod n g).flt = s.flt := rfl
@[simp] theorem State.tieMod_sys (s : State) (n : Nat) (g : TieS → TieS) : (s.tieMod n g).sys = s.sys := rfl

/-! ### batMod: changes bat -/

@[simp] theorem State.batMod_pending (s : State) (n : Nat) (g : BatS → BatS) : (s.batMod n g).pending = s.pending := rfl
@[simp] theorem State.batMod_mode (s : State) (n : Nat) (g : BatS → BatS) : (s.batMod n g).mode = s.mode := rfl
@[simp] theorem State.batMod_us (s : State) (n : Nat) (g : BatS → BatS) : (s.batMod n g).us = s.us := rfl
@[simp] theorem State.batMod_regs (s : State) (n : Nat) (g : BatS → BatS) : (s.batMod n g).regs = s.regs := rfl
@[simp] theorem State.batMod_act (s : State) (n : Nat) (g : BatS → BatS) : (s.batMod n g).act = s.act := rfl
@[simp] theorem State.batMod_snap (s : State) (n : Nat) (g : BatS → BatS) : (s.batMod n g).snap = s.snap := rfl
@[simp] theorem State.batMod_snapUs (s : State) (n : Nat) (g : BatS → BatS) : (s.batMod n g).snapUs = s.snapUs := rfl
@[simp] theorem State.batMod_partsDone (s : State) (n : Nat) (g : BatS → BatS) : (s.batMod n g).partsDone = s.partsDone := rfl
@[simp] theorem State.batMod_out (s : State) (n : Nat) (g : BatS → BatS) : (s.batMod n g).out = s.out := rfl
@[simp] theorem State.batMod_rdata (s : State) (n : Nat) (g : BatS → BatS) : (s.batMod n g).rdata = s.rdata := rfl
@[simp] theorem State.batMod_svN (s : State) (n : Nat) (g : BatS → BatS) : (s.batMod n g).svN = s.svN := rfl
@[simp] theorem State.batMod_holdUs (s : State) (n : Nat) (g : BatS → BatS) : (s.batMod n g).holdUs = s.holdUs := rfl
@[simp] theorem State.batMod_draws (s : State) (n : Nat) (g : BatS → BatS) : (s.batMod n g).draws = s.draws := rfl
@[simp] theorem State.batMod_evPend (s : State) (n : Nat) (g : BatS → BatS) : (s.batMod n g).evPend = s.evPend := rfl
@[simp] theorem State.batMod_evq (s : State) (n : Nat) (g : BatS → BatS) : (s.batMod n g).evq = s.evq := rfl
@[simp] theorem State.batMod_evqOvf (s : State) (n : Nat) (g : BatS → BatS) : (s.batMod n g).evqOvf = s.evqOvf := rfl
@[simp] theorem State.batMod_vec (s : State) (n : Nat) (g : BatS → BatS) : (s.batMod n g).vec = s.vec := rfl
@[simp] theorem State.batMod_msix (s : State) (n : Nat) (g : BatS → BatS) : (s.batMod n g).msix = s.msix := rfl
@[simp] theorem State.batMod_jrejDetail (s : State) (n : Nat) (g : BatS → BatS) : (s.batMod n g).jrejDetail = s.jrejDetail := rfl
@[simp] theorem State.batMod_lockrejDetail (s : State) (n : Nat) (g : BatS → BatS) : (s.batMod n g).lockrejDetail = s.lockrejDetail := rfl
@[simp] theorem State.batMod_tokenQ (s : State) (n : Nat) (g : BatS → BatS) : (s.batMod n g).tokenQ = s.tokenQ := rfl
@[simp] theorem State.batMod_islBuf (s : State) (n : Nat) (g : BatS → BatS) : (s.batMod n g).islBuf = s.islBuf := rfl
@[simp] theorem State.batMod_islOvf (s : State) (n : Nat) (g : BatS → BatS) : (s.batMod n g).islOvf = s.islOvf := rfl
@[simp] theorem State.batMod_offers (s : State) (n : Nat) (g : BatS → BatS) : (s.batMod n g).offers = s.offers := rfl
@[simp] theorem State.batMod_jnl (s : State) (n : Nat) (g : BatS → BatS) : (s.batMod n g).jnl = s.jnl := rfl
@[simp] theorem State.batMod_jHeld (s : State) (n : Nat) (g : BatS → BatS) : (s.batMod n g).jHeld = s.jHeld := rfl
@[simp] theorem State.batMod_jInject (s : State) (n : Nat) (g : BatS → BatS) : (s.batMod n g).jInject = s.jInject := rfl
@[simp] theorem State.batMod_hostRing (s : State) (n : Nat) (g : BatS → BatS) : (s.batMod n g).hostRing = s.hostRing := rfl
@[simp] theorem State.batMod_repHeld (s : State) (n : Nat) (g : BatS → BatS) : (s.batMod n g).repHeld = s.repHeld := rfl
@[simp] theorem State.batMod_rptFull (s : State) (n : Nat) (g : BatS → BatS) : (s.batMod n g).rptFull = s.rptFull := rfl
@[simp] theorem State.batMod_redirect (s : State) (n : Nat) (g : BatS → BatS) : (s.batMod n g).redirect = s.redirect := rfl
@[simp] theorem State.batMod_aerFatal (s : State) (n : Nat) (g : BatS → BatS) : (s.batMod n g).aerFatal = s.aerFatal := rfl
@[simp] theorem State.batMod_twq (s : State) (n : Nat) (g : BatS → BatS) : (s.batMod n g).twq = s.twq := rfl
@[simp] theorem State.batMod_twHeld (s : State) (n : Nat) (g : BatS → BatS) : (s.batMod n g).twHeld = s.twHeld := rfl
@[simp] theorem State.batMod_twStage (s : State) (n : Nat) (g : BatS → BatS) : (s.batMod n g).twStage = s.twStage := rfl
@[simp] theorem State.batMod_twWaiting (s : State) (n : Nat) (g : BatS → BatS) : (s.batMod n g).twWaiting = s.twWaiting := rfl
@[simp] theorem State.batMod_pfwOn (s : State) (n : Nat) (g : BatS → BatS) : (s.batMod n g).pfwOn = s.pfwOn := rfl
@[simp] theorem State.batMod_warmArmed (s : State) (n : Nat) (g : BatS → BatS) : (s.batMod n g).warmArmed = s.warmArmed := rfl
@[simp] theorem State.batMod_bay (s : State) (n : Nat) (g : BatS → BatS) : (s.batMod n g).bay = s.bay := rfl
@[simp] theorem State.batMod_loop (s : State) (n : Nat) (g : BatS → BatS) : (s.batMod n g).loop = s.loop := rfl
@[simp] theorem State.batMod_ph (s : State) (n : Nat) (g : BatS → BatS) : (s.batMod n g).ph = s.ph := rfl
@[simp] theorem State.batMod_rail (s : State) (n : Nat) (g : BatS → BatS) : (s.batMod n g).rail = s.rail := rfl
@[simp] theorem State.batMod_fl (s : State) (n : Nat) (g : BatS → BatS) : (s.batMod n g).fl = s.fl := rfl
@[simp] theorem State.batMod_idx (s : State) (n : Nat) (g : BatS → BatS) : (s.batMod n g).idx = s.idx := rfl
@[simp] theorem State.batMod_tie (s : State) (n : Nat) (g : BatS → BatS) : (s.batMod n g).tie = s.tie := rfl
@[simp] theorem State.batMod_abc (s : State) (n : Nat) (g : BatS → BatS) : (s.batMod n g).abc = s.abc := rfl
@[simp] theorem State.batMod_hld (s : State) (n : Nat) (g : BatS → BatS) : (s.batMod n g).hld = s.hld := rfl
@[simp] theorem State.batMod_bal (s : State) (n : Nat) (g : BatS → BatS) : (s.batMod n g).bal = s.bal := rfl
@[simp] theorem State.batMod_recs (s : State) (n : Nat) (g : BatS → BatS) : (s.batMod n g).recs = s.recs := rfl
@[simp] theorem State.batMod_recsNvm (s : State) (n : Nat) (g : BatS → BatS) : (s.batMod n g).recsNvm = s.recsNvm := rfl
@[simp] theorem State.batMod_recDue (s : State) (n : Nat) (g : BatS → BatS) : (s.batMod n g).recDue = s.recDue := rfl
@[simp] theorem State.batMod_recUs (s : State) (n : Nat) (g : BatS → BatS) : (s.batMod n g).recUs = s.recUs := rfl
@[simp] theorem State.batMod_twc (s : State) (n : Nat) (g : BatS → BatS) : (s.batMod n g).twc = s.twc := rfl
@[simp] theorem State.batMod_twPtr (s : State) (n : Nat) (g : BatS → BatS) : (s.batMod n g).twPtr = s.twPtr := rfl
@[simp] theorem State.batMod_twFast (s : State) (n : Nat) (g : BatS → BatS) : (s.batMod n g).twFast = s.twFast := rfl
@[simp] theorem State.batMod_rbytes (s : State) (n : Nat) (g : BatS → BatS) : (s.batMod n g).rbytes = s.rbytes := rfl
@[simp] theorem State.batMod_lan (s : State) (n : Nat) (g : BatS → BatS) : (s.batMod n g).lan = s.lan := rfl
@[simp] theorem State.batMod_mem (s : State) (n : Nat) (g : BatS → BatS) : (s.batMod n g).mem = s.mem := rfl
@[simp] theorem State.batMod_cap (s : State) (n : Nat) (g : BatS → BatS) : (s.batMod n g).cap = s.cap := rfl
@[simp] theorem State.batMod_str (s : State) (n : Nat) (g : BatS → BatS) : (s.batMod n g).str = s.str := rfl
@[simp] theorem State.batMod_memBad (s : State) (n : Nat) (g : BatS → BatS) : (s.batMod n g).memBad = s.memBad := rfl
@[simp] theorem State.batMod_gal (s : State) (n : Nat) (g : BatS → BatS) : (s.batMod n g).gal = s.gal := rfl
@[simp] theorem State.batMod_flt (s : State) (n : Nat) (g : BatS → BatS) : (s.batMod n g).flt = s.flt := rfl
@[simp] theorem State.batMod_sys (s : State) (n : Nat) (g : BatS → BatS) : (s.batMod n g).sys = s.sys := rfl

/-! ### twMod: changes twc -/

@[simp] theorem State.twMod_pending (s : State) (n : Nat) (g : TwcS → TwcS) : (s.twMod n g).pending = s.pending := rfl
@[simp] theorem State.twMod_mode (s : State) (n : Nat) (g : TwcS → TwcS) : (s.twMod n g).mode = s.mode := rfl
@[simp] theorem State.twMod_us (s : State) (n : Nat) (g : TwcS → TwcS) : (s.twMod n g).us = s.us := rfl
@[simp] theorem State.twMod_regs (s : State) (n : Nat) (g : TwcS → TwcS) : (s.twMod n g).regs = s.regs := rfl
@[simp] theorem State.twMod_act (s : State) (n : Nat) (g : TwcS → TwcS) : (s.twMod n g).act = s.act := rfl
@[simp] theorem State.twMod_snap (s : State) (n : Nat) (g : TwcS → TwcS) : (s.twMod n g).snap = s.snap := rfl
@[simp] theorem State.twMod_snapUs (s : State) (n : Nat) (g : TwcS → TwcS) : (s.twMod n g).snapUs = s.snapUs := rfl
@[simp] theorem State.twMod_partsDone (s : State) (n : Nat) (g : TwcS → TwcS) : (s.twMod n g).partsDone = s.partsDone := rfl
@[simp] theorem State.twMod_out (s : State) (n : Nat) (g : TwcS → TwcS) : (s.twMod n g).out = s.out := rfl
@[simp] theorem State.twMod_rdata (s : State) (n : Nat) (g : TwcS → TwcS) : (s.twMod n g).rdata = s.rdata := rfl
@[simp] theorem State.twMod_svN (s : State) (n : Nat) (g : TwcS → TwcS) : (s.twMod n g).svN = s.svN := rfl
@[simp] theorem State.twMod_holdUs (s : State) (n : Nat) (g : TwcS → TwcS) : (s.twMod n g).holdUs = s.holdUs := rfl
@[simp] theorem State.twMod_draws (s : State) (n : Nat) (g : TwcS → TwcS) : (s.twMod n g).draws = s.draws := rfl
@[simp] theorem State.twMod_evPend (s : State) (n : Nat) (g : TwcS → TwcS) : (s.twMod n g).evPend = s.evPend := rfl
@[simp] theorem State.twMod_evq (s : State) (n : Nat) (g : TwcS → TwcS) : (s.twMod n g).evq = s.evq := rfl
@[simp] theorem State.twMod_evqOvf (s : State) (n : Nat) (g : TwcS → TwcS) : (s.twMod n g).evqOvf = s.evqOvf := rfl
@[simp] theorem State.twMod_vec (s : State) (n : Nat) (g : TwcS → TwcS) : (s.twMod n g).vec = s.vec := rfl
@[simp] theorem State.twMod_msix (s : State) (n : Nat) (g : TwcS → TwcS) : (s.twMod n g).msix = s.msix := rfl
@[simp] theorem State.twMod_jrejDetail (s : State) (n : Nat) (g : TwcS → TwcS) : (s.twMod n g).jrejDetail = s.jrejDetail := rfl
@[simp] theorem State.twMod_lockrejDetail (s : State) (n : Nat) (g : TwcS → TwcS) : (s.twMod n g).lockrejDetail = s.lockrejDetail := rfl
@[simp] theorem State.twMod_tokenQ (s : State) (n : Nat) (g : TwcS → TwcS) : (s.twMod n g).tokenQ = s.tokenQ := rfl
@[simp] theorem State.twMod_islBuf (s : State) (n : Nat) (g : TwcS → TwcS) : (s.twMod n g).islBuf = s.islBuf := rfl
@[simp] theorem State.twMod_islOvf (s : State) (n : Nat) (g : TwcS → TwcS) : (s.twMod n g).islOvf = s.islOvf := rfl
@[simp] theorem State.twMod_offers (s : State) (n : Nat) (g : TwcS → TwcS) : (s.twMod n g).offers = s.offers := rfl
@[simp] theorem State.twMod_jnl (s : State) (n : Nat) (g : TwcS → TwcS) : (s.twMod n g).jnl = s.jnl := rfl
@[simp] theorem State.twMod_jHeld (s : State) (n : Nat) (g : TwcS → TwcS) : (s.twMod n g).jHeld = s.jHeld := rfl
@[simp] theorem State.twMod_jInject (s : State) (n : Nat) (g : TwcS → TwcS) : (s.twMod n g).jInject = s.jInject := rfl
@[simp] theorem State.twMod_hostRing (s : State) (n : Nat) (g : TwcS → TwcS) : (s.twMod n g).hostRing = s.hostRing := rfl
@[simp] theorem State.twMod_repHeld (s : State) (n : Nat) (g : TwcS → TwcS) : (s.twMod n g).repHeld = s.repHeld := rfl
@[simp] theorem State.twMod_rptFull (s : State) (n : Nat) (g : TwcS → TwcS) : (s.twMod n g).rptFull = s.rptFull := rfl
@[simp] theorem State.twMod_redirect (s : State) (n : Nat) (g : TwcS → TwcS) : (s.twMod n g).redirect = s.redirect := rfl
@[simp] theorem State.twMod_aerFatal (s : State) (n : Nat) (g : TwcS → TwcS) : (s.twMod n g).aerFatal = s.aerFatal := rfl
@[simp] theorem State.twMod_twq (s : State) (n : Nat) (g : TwcS → TwcS) : (s.twMod n g).twq = s.twq := rfl
@[simp] theorem State.twMod_twHeld (s : State) (n : Nat) (g : TwcS → TwcS) : (s.twMod n g).twHeld = s.twHeld := rfl
@[simp] theorem State.twMod_twStage (s : State) (n : Nat) (g : TwcS → TwcS) : (s.twMod n g).twStage = s.twStage := rfl
@[simp] theorem State.twMod_twWaiting (s : State) (n : Nat) (g : TwcS → TwcS) : (s.twMod n g).twWaiting = s.twWaiting := rfl
@[simp] theorem State.twMod_pfwOn (s : State) (n : Nat) (g : TwcS → TwcS) : (s.twMod n g).pfwOn = s.pfwOn := rfl
@[simp] theorem State.twMod_warmArmed (s : State) (n : Nat) (g : TwcS → TwcS) : (s.twMod n g).warmArmed = s.warmArmed := rfl
@[simp] theorem State.twMod_bay (s : State) (n : Nat) (g : TwcS → TwcS) : (s.twMod n g).bay = s.bay := rfl
@[simp] theorem State.twMod_loop (s : State) (n : Nat) (g : TwcS → TwcS) : (s.twMod n g).loop = s.loop := rfl
@[simp] theorem State.twMod_ph (s : State) (n : Nat) (g : TwcS → TwcS) : (s.twMod n g).ph = s.ph := rfl
@[simp] theorem State.twMod_rail (s : State) (n : Nat) (g : TwcS → TwcS) : (s.twMod n g).rail = s.rail := rfl
@[simp] theorem State.twMod_fl (s : State) (n : Nat) (g : TwcS → TwcS) : (s.twMod n g).fl = s.fl := rfl
@[simp] theorem State.twMod_idx (s : State) (n : Nat) (g : TwcS → TwcS) : (s.twMod n g).idx = s.idx := rfl
@[simp] theorem State.twMod_tie (s : State) (n : Nat) (g : TwcS → TwcS) : (s.twMod n g).tie = s.tie := rfl
@[simp] theorem State.twMod_abc (s : State) (n : Nat) (g : TwcS → TwcS) : (s.twMod n g).abc = s.abc := rfl
@[simp] theorem State.twMod_hld (s : State) (n : Nat) (g : TwcS → TwcS) : (s.twMod n g).hld = s.hld := rfl
@[simp] theorem State.twMod_bal (s : State) (n : Nat) (g : TwcS → TwcS) : (s.twMod n g).bal = s.bal := rfl
@[simp] theorem State.twMod_bat (s : State) (n : Nat) (g : TwcS → TwcS) : (s.twMod n g).bat = s.bat := rfl
@[simp] theorem State.twMod_recs (s : State) (n : Nat) (g : TwcS → TwcS) : (s.twMod n g).recs = s.recs := rfl
@[simp] theorem State.twMod_recsNvm (s : State) (n : Nat) (g : TwcS → TwcS) : (s.twMod n g).recsNvm = s.recsNvm := rfl
@[simp] theorem State.twMod_recDue (s : State) (n : Nat) (g : TwcS → TwcS) : (s.twMod n g).recDue = s.recDue := rfl
@[simp] theorem State.twMod_recUs (s : State) (n : Nat) (g : TwcS → TwcS) : (s.twMod n g).recUs = s.recUs := rfl
@[simp] theorem State.twMod_twPtr (s : State) (n : Nat) (g : TwcS → TwcS) : (s.twMod n g).twPtr = s.twPtr := rfl
@[simp] theorem State.twMod_twFast (s : State) (n : Nat) (g : TwcS → TwcS) : (s.twMod n g).twFast = s.twFast := rfl
@[simp] theorem State.twMod_rbytes (s : State) (n : Nat) (g : TwcS → TwcS) : (s.twMod n g).rbytes = s.rbytes := rfl
@[simp] theorem State.twMod_lan (s : State) (n : Nat) (g : TwcS → TwcS) : (s.twMod n g).lan = s.lan := rfl
@[simp] theorem State.twMod_mem (s : State) (n : Nat) (g : TwcS → TwcS) : (s.twMod n g).mem = s.mem := rfl
@[simp] theorem State.twMod_cap (s : State) (n : Nat) (g : TwcS → TwcS) : (s.twMod n g).cap = s.cap := rfl
@[simp] theorem State.twMod_str (s : State) (n : Nat) (g : TwcS → TwcS) : (s.twMod n g).str = s.str := rfl
@[simp] theorem State.twMod_memBad (s : State) (n : Nat) (g : TwcS → TwcS) : (s.twMod n g).memBad = s.memBad := rfl
@[simp] theorem State.twMod_gal (s : State) (n : Nat) (g : TwcS → TwcS) : (s.twMod n g).gal = s.gal := rfl
@[simp] theorem State.twMod_flt (s : State) (n : Nat) (g : TwcS → TwcS) : (s.twMod n g).flt = s.flt := rfl
@[simp] theorem State.twMod_sys (s : State) (n : Nat) (g : TwcS → TwcS) : (s.twMod n g).sys = s.sys := rfl

/-! ### lanMod: changes lan -/

@[simp] theorem State.lanMod_pending (s : State) (g : LanS → LanS) : (s.lanMod g).pending = s.pending := rfl
@[simp] theorem State.lanMod_mode (s : State) (g : LanS → LanS) : (s.lanMod g).mode = s.mode := rfl
@[simp] theorem State.lanMod_us (s : State) (g : LanS → LanS) : (s.lanMod g).us = s.us := rfl
@[simp] theorem State.lanMod_regs (s : State) (g : LanS → LanS) : (s.lanMod g).regs = s.regs := rfl
@[simp] theorem State.lanMod_act (s : State) (g : LanS → LanS) : (s.lanMod g).act = s.act := rfl
@[simp] theorem State.lanMod_snap (s : State) (g : LanS → LanS) : (s.lanMod g).snap = s.snap := rfl
@[simp] theorem State.lanMod_snapUs (s : State) (g : LanS → LanS) : (s.lanMod g).snapUs = s.snapUs := rfl
@[simp] theorem State.lanMod_partsDone (s : State) (g : LanS → LanS) : (s.lanMod g).partsDone = s.partsDone := rfl
@[simp] theorem State.lanMod_out (s : State) (g : LanS → LanS) : (s.lanMod g).out = s.out := rfl
@[simp] theorem State.lanMod_rdata (s : State) (g : LanS → LanS) : (s.lanMod g).rdata = s.rdata := rfl
@[simp] theorem State.lanMod_svN (s : State) (g : LanS → LanS) : (s.lanMod g).svN = s.svN := rfl
@[simp] theorem State.lanMod_holdUs (s : State) (g : LanS → LanS) : (s.lanMod g).holdUs = s.holdUs := rfl
@[simp] theorem State.lanMod_draws (s : State) (g : LanS → LanS) : (s.lanMod g).draws = s.draws := rfl
@[simp] theorem State.lanMod_evPend (s : State) (g : LanS → LanS) : (s.lanMod g).evPend = s.evPend := rfl
@[simp] theorem State.lanMod_evq (s : State) (g : LanS → LanS) : (s.lanMod g).evq = s.evq := rfl
@[simp] theorem State.lanMod_evqOvf (s : State) (g : LanS → LanS) : (s.lanMod g).evqOvf = s.evqOvf := rfl
@[simp] theorem State.lanMod_vec (s : State) (g : LanS → LanS) : (s.lanMod g).vec = s.vec := rfl
@[simp] theorem State.lanMod_msix (s : State) (g : LanS → LanS) : (s.lanMod g).msix = s.msix := rfl
@[simp] theorem State.lanMod_jrejDetail (s : State) (g : LanS → LanS) : (s.lanMod g).jrejDetail = s.jrejDetail := rfl
@[simp] theorem State.lanMod_lockrejDetail (s : State) (g : LanS → LanS) : (s.lanMod g).lockrejDetail = s.lockrejDetail := rfl
@[simp] theorem State.lanMod_tokenQ (s : State) (g : LanS → LanS) : (s.lanMod g).tokenQ = s.tokenQ := rfl
@[simp] theorem State.lanMod_islBuf (s : State) (g : LanS → LanS) : (s.lanMod g).islBuf = s.islBuf := rfl
@[simp] theorem State.lanMod_islOvf (s : State) (g : LanS → LanS) : (s.lanMod g).islOvf = s.islOvf := rfl
@[simp] theorem State.lanMod_offers (s : State) (g : LanS → LanS) : (s.lanMod g).offers = s.offers := rfl
@[simp] theorem State.lanMod_jnl (s : State) (g : LanS → LanS) : (s.lanMod g).jnl = s.jnl := rfl
@[simp] theorem State.lanMod_jHeld (s : State) (g : LanS → LanS) : (s.lanMod g).jHeld = s.jHeld := rfl
@[simp] theorem State.lanMod_jInject (s : State) (g : LanS → LanS) : (s.lanMod g).jInject = s.jInject := rfl
@[simp] theorem State.lanMod_hostRing (s : State) (g : LanS → LanS) : (s.lanMod g).hostRing = s.hostRing := rfl
@[simp] theorem State.lanMod_repHeld (s : State) (g : LanS → LanS) : (s.lanMod g).repHeld = s.repHeld := rfl
@[simp] theorem State.lanMod_rptFull (s : State) (g : LanS → LanS) : (s.lanMod g).rptFull = s.rptFull := rfl
@[simp] theorem State.lanMod_redirect (s : State) (g : LanS → LanS) : (s.lanMod g).redirect = s.redirect := rfl
@[simp] theorem State.lanMod_aerFatal (s : State) (g : LanS → LanS) : (s.lanMod g).aerFatal = s.aerFatal := rfl
@[simp] theorem State.lanMod_twq (s : State) (g : LanS → LanS) : (s.lanMod g).twq = s.twq := rfl
@[simp] theorem State.lanMod_twHeld (s : State) (g : LanS → LanS) : (s.lanMod g).twHeld = s.twHeld := rfl
@[simp] theorem State.lanMod_twStage (s : State) (g : LanS → LanS) : (s.lanMod g).twStage = s.twStage := rfl
@[simp] theorem State.lanMod_twWaiting (s : State) (g : LanS → LanS) : (s.lanMod g).twWaiting = s.twWaiting := rfl
@[simp] theorem State.lanMod_pfwOn (s : State) (g : LanS → LanS) : (s.lanMod g).pfwOn = s.pfwOn := rfl
@[simp] theorem State.lanMod_warmArmed (s : State) (g : LanS → LanS) : (s.lanMod g).warmArmed = s.warmArmed := rfl
@[simp] theorem State.lanMod_bay (s : State) (g : LanS → LanS) : (s.lanMod g).bay = s.bay := rfl
@[simp] theorem State.lanMod_loop (s : State) (g : LanS → LanS) : (s.lanMod g).loop = s.loop := rfl
@[simp] theorem State.lanMod_ph (s : State) (g : LanS → LanS) : (s.lanMod g).ph = s.ph := rfl
@[simp] theorem State.lanMod_rail (s : State) (g : LanS → LanS) : (s.lanMod g).rail = s.rail := rfl
@[simp] theorem State.lanMod_fl (s : State) (g : LanS → LanS) : (s.lanMod g).fl = s.fl := rfl
@[simp] theorem State.lanMod_idx (s : State) (g : LanS → LanS) : (s.lanMod g).idx = s.idx := rfl
@[simp] theorem State.lanMod_tie (s : State) (g : LanS → LanS) : (s.lanMod g).tie = s.tie := rfl
@[simp] theorem State.lanMod_abc (s : State) (g : LanS → LanS) : (s.lanMod g).abc = s.abc := rfl
@[simp] theorem State.lanMod_hld (s : State) (g : LanS → LanS) : (s.lanMod g).hld = s.hld := rfl
@[simp] theorem State.lanMod_bal (s : State) (g : LanS → LanS) : (s.lanMod g).bal = s.bal := rfl
@[simp] theorem State.lanMod_bat (s : State) (g : LanS → LanS) : (s.lanMod g).bat = s.bat := rfl
@[simp] theorem State.lanMod_recs (s : State) (g : LanS → LanS) : (s.lanMod g).recs = s.recs := rfl
@[simp] theorem State.lanMod_recsNvm (s : State) (g : LanS → LanS) : (s.lanMod g).recsNvm = s.recsNvm := rfl
@[simp] theorem State.lanMod_recDue (s : State) (g : LanS → LanS) : (s.lanMod g).recDue = s.recDue := rfl
@[simp] theorem State.lanMod_recUs (s : State) (g : LanS → LanS) : (s.lanMod g).recUs = s.recUs := rfl
@[simp] theorem State.lanMod_twc (s : State) (g : LanS → LanS) : (s.lanMod g).twc = s.twc := rfl
@[simp] theorem State.lanMod_twPtr (s : State) (g : LanS → LanS) : (s.lanMod g).twPtr = s.twPtr := rfl
@[simp] theorem State.lanMod_twFast (s : State) (g : LanS → LanS) : (s.lanMod g).twFast = s.twFast := rfl
@[simp] theorem State.lanMod_rbytes (s : State) (g : LanS → LanS) : (s.lanMod g).rbytes = s.rbytes := rfl
@[simp] theorem State.lanMod_mem (s : State) (g : LanS → LanS) : (s.lanMod g).mem = s.mem := rfl
@[simp] theorem State.lanMod_cap (s : State) (g : LanS → LanS) : (s.lanMod g).cap = s.cap := rfl
@[simp] theorem State.lanMod_str (s : State) (g : LanS → LanS) : (s.lanMod g).str = s.str := rfl
@[simp] theorem State.lanMod_memBad (s : State) (g : LanS → LanS) : (s.lanMod g).memBad = s.memBad := rfl
@[simp] theorem State.lanMod_gal (s : State) (g : LanS → LanS) : (s.lanMod g).gal = s.gal := rfl
@[simp] theorem State.lanMod_flt (s : State) (g : LanS → LanS) : (s.lanMod g).flt = s.flt := rfl
@[simp] theorem State.lanMod_sys (s : State) (g : LanS → LanS) : (s.lanMod g).sys = s.sys := rfl

/-! ### capMod: changes cap -/

@[simp] theorem State.capMod_pending (s : State) (g : CapS → CapS) : (s.capMod g).pending = s.pending := rfl
@[simp] theorem State.capMod_mode (s : State) (g : CapS → CapS) : (s.capMod g).mode = s.mode := rfl
@[simp] theorem State.capMod_us (s : State) (g : CapS → CapS) : (s.capMod g).us = s.us := rfl
@[simp] theorem State.capMod_regs (s : State) (g : CapS → CapS) : (s.capMod g).regs = s.regs := rfl
@[simp] theorem State.capMod_act (s : State) (g : CapS → CapS) : (s.capMod g).act = s.act := rfl
@[simp] theorem State.capMod_snap (s : State) (g : CapS → CapS) : (s.capMod g).snap = s.snap := rfl
@[simp] theorem State.capMod_snapUs (s : State) (g : CapS → CapS) : (s.capMod g).snapUs = s.snapUs := rfl
@[simp] theorem State.capMod_partsDone (s : State) (g : CapS → CapS) : (s.capMod g).partsDone = s.partsDone := rfl
@[simp] theorem State.capMod_out (s : State) (g : CapS → CapS) : (s.capMod g).out = s.out := rfl
@[simp] theorem State.capMod_rdata (s : State) (g : CapS → CapS) : (s.capMod g).rdata = s.rdata := rfl
@[simp] theorem State.capMod_svN (s : State) (g : CapS → CapS) : (s.capMod g).svN = s.svN := rfl
@[simp] theorem State.capMod_holdUs (s : State) (g : CapS → CapS) : (s.capMod g).holdUs = s.holdUs := rfl
@[simp] theorem State.capMod_draws (s : State) (g : CapS → CapS) : (s.capMod g).draws = s.draws := rfl
@[simp] theorem State.capMod_evPend (s : State) (g : CapS → CapS) : (s.capMod g).evPend = s.evPend := rfl
@[simp] theorem State.capMod_evq (s : State) (g : CapS → CapS) : (s.capMod g).evq = s.evq := rfl
@[simp] theorem State.capMod_evqOvf (s : State) (g : CapS → CapS) : (s.capMod g).evqOvf = s.evqOvf := rfl
@[simp] theorem State.capMod_vec (s : State) (g : CapS → CapS) : (s.capMod g).vec = s.vec := rfl
@[simp] theorem State.capMod_msix (s : State) (g : CapS → CapS) : (s.capMod g).msix = s.msix := rfl
@[simp] theorem State.capMod_jrejDetail (s : State) (g : CapS → CapS) : (s.capMod g).jrejDetail = s.jrejDetail := rfl
@[simp] theorem State.capMod_lockrejDetail (s : State) (g : CapS → CapS) : (s.capMod g).lockrejDetail = s.lockrejDetail := rfl
@[simp] theorem State.capMod_tokenQ (s : State) (g : CapS → CapS) : (s.capMod g).tokenQ = s.tokenQ := rfl
@[simp] theorem State.capMod_islBuf (s : State) (g : CapS → CapS) : (s.capMod g).islBuf = s.islBuf := rfl
@[simp] theorem State.capMod_islOvf (s : State) (g : CapS → CapS) : (s.capMod g).islOvf = s.islOvf := rfl
@[simp] theorem State.capMod_offers (s : State) (g : CapS → CapS) : (s.capMod g).offers = s.offers := rfl
@[simp] theorem State.capMod_jnl (s : State) (g : CapS → CapS) : (s.capMod g).jnl = s.jnl := rfl
@[simp] theorem State.capMod_jHeld (s : State) (g : CapS → CapS) : (s.capMod g).jHeld = s.jHeld := rfl
@[simp] theorem State.capMod_jInject (s : State) (g : CapS → CapS) : (s.capMod g).jInject = s.jInject := rfl
@[simp] theorem State.capMod_hostRing (s : State) (g : CapS → CapS) : (s.capMod g).hostRing = s.hostRing := rfl
@[simp] theorem State.capMod_repHeld (s : State) (g : CapS → CapS) : (s.capMod g).repHeld = s.repHeld := rfl
@[simp] theorem State.capMod_rptFull (s : State) (g : CapS → CapS) : (s.capMod g).rptFull = s.rptFull := rfl
@[simp] theorem State.capMod_redirect (s : State) (g : CapS → CapS) : (s.capMod g).redirect = s.redirect := rfl
@[simp] theorem State.capMod_aerFatal (s : State) (g : CapS → CapS) : (s.capMod g).aerFatal = s.aerFatal := rfl
@[simp] theorem State.capMod_twq (s : State) (g : CapS → CapS) : (s.capMod g).twq = s.twq := rfl
@[simp] theorem State.capMod_twHeld (s : State) (g : CapS → CapS) : (s.capMod g).twHeld = s.twHeld := rfl
@[simp] theorem State.capMod_twStage (s : State) (g : CapS → CapS) : (s.capMod g).twStage = s.twStage := rfl
@[simp] theorem State.capMod_twWaiting (s : State) (g : CapS → CapS) : (s.capMod g).twWaiting = s.twWaiting := rfl
@[simp] theorem State.capMod_pfwOn (s : State) (g : CapS → CapS) : (s.capMod g).pfwOn = s.pfwOn := rfl
@[simp] theorem State.capMod_warmArmed (s : State) (g : CapS → CapS) : (s.capMod g).warmArmed = s.warmArmed := rfl
@[simp] theorem State.capMod_bay (s : State) (g : CapS → CapS) : (s.capMod g).bay = s.bay := rfl
@[simp] theorem State.capMod_loop (s : State) (g : CapS → CapS) : (s.capMod g).loop = s.loop := rfl
@[simp] theorem State.capMod_ph (s : State) (g : CapS → CapS) : (s.capMod g).ph = s.ph := rfl
@[simp] theorem State.capMod_rail (s : State) (g : CapS → CapS) : (s.capMod g).rail = s.rail := rfl
@[simp] theorem State.capMod_fl (s : State) (g : CapS → CapS) : (s.capMod g).fl = s.fl := rfl
@[simp] theorem State.capMod_idx (s : State) (g : CapS → CapS) : (s.capMod g).idx = s.idx := rfl
@[simp] theorem State.capMod_tie (s : State) (g : CapS → CapS) : (s.capMod g).tie = s.tie := rfl
@[simp] theorem State.capMod_abc (s : State) (g : CapS → CapS) : (s.capMod g).abc = s.abc := rfl
@[simp] theorem State.capMod_hld (s : State) (g : CapS → CapS) : (s.capMod g).hld = s.hld := rfl
@[simp] theorem State.capMod_bal (s : State) (g : CapS → CapS) : (s.capMod g).bal = s.bal := rfl
@[simp] theorem State.capMod_bat (s : State) (g : CapS → CapS) : (s.capMod g).bat = s.bat := rfl
@[simp] theorem State.capMod_recs (s : State) (g : CapS → CapS) : (s.capMod g).recs = s.recs := rfl
@[simp] theorem State.capMod_recsNvm (s : State) (g : CapS → CapS) : (s.capMod g).recsNvm = s.recsNvm := rfl
@[simp] theorem State.capMod_recDue (s : State) (g : CapS → CapS) : (s.capMod g).recDue = s.recDue := rfl
@[simp] theorem State.capMod_recUs (s : State) (g : CapS → CapS) : (s.capMod g).recUs = s.recUs := rfl
@[simp] theorem State.capMod_twc (s : State) (g : CapS → CapS) : (s.capMod g).twc = s.twc := rfl
@[simp] theorem State.capMod_twPtr (s : State) (g : CapS → CapS) : (s.capMod g).twPtr = s.twPtr := rfl
@[simp] theorem State.capMod_twFast (s : State) (g : CapS → CapS) : (s.capMod g).twFast = s.twFast := rfl
@[simp] theorem State.capMod_rbytes (s : State) (g : CapS → CapS) : (s.capMod g).rbytes = s.rbytes := rfl
@[simp] theorem State.capMod_lan (s : State) (g : CapS → CapS) : (s.capMod g).lan = s.lan := rfl
@[simp] theorem State.capMod_mem (s : State) (g : CapS → CapS) : (s.capMod g).mem = s.mem := rfl
@[simp] theorem State.capMod_str (s : State) (g : CapS → CapS) : (s.capMod g).str = s.str := rfl
@[simp] theorem State.capMod_memBad (s : State) (g : CapS → CapS) : (s.capMod g).memBad = s.memBad := rfl
@[simp] theorem State.capMod_gal (s : State) (g : CapS → CapS) : (s.capMod g).gal = s.gal := rfl
@[simp] theorem State.capMod_flt (s : State) (g : CapS → CapS) : (s.capMod g).flt = s.flt := rfl
@[simp] theorem State.capMod_sys (s : State) (g : CapS → CapS) : (s.capMod g).sys = s.sys := rfl

/-! ### strMod: changes str -/

@[simp] theorem State.strMod_pending (s : State) (g : StrS → StrS) : (s.strMod g).pending = s.pending := rfl
@[simp] theorem State.strMod_mode (s : State) (g : StrS → StrS) : (s.strMod g).mode = s.mode := rfl
@[simp] theorem State.strMod_us (s : State) (g : StrS → StrS) : (s.strMod g).us = s.us := rfl
@[simp] theorem State.strMod_regs (s : State) (g : StrS → StrS) : (s.strMod g).regs = s.regs := rfl
@[simp] theorem State.strMod_act (s : State) (g : StrS → StrS) : (s.strMod g).act = s.act := rfl
@[simp] theorem State.strMod_snap (s : State) (g : StrS → StrS) : (s.strMod g).snap = s.snap := rfl
@[simp] theorem State.strMod_snapUs (s : State) (g : StrS → StrS) : (s.strMod g).snapUs = s.snapUs := rfl
@[simp] theorem State.strMod_partsDone (s : State) (g : StrS → StrS) : (s.strMod g).partsDone = s.partsDone := rfl
@[simp] theorem State.strMod_out (s : State) (g : StrS → StrS) : (s.strMod g).out = s.out := rfl
@[simp] theorem State.strMod_rdata (s : State) (g : StrS → StrS) : (s.strMod g).rdata = s.rdata := rfl
@[simp] theorem State.strMod_svN (s : State) (g : StrS → StrS) : (s.strMod g).svN = s.svN := rfl
@[simp] theorem State.strMod_holdUs (s : State) (g : StrS → StrS) : (s.strMod g).holdUs = s.holdUs := rfl
@[simp] theorem State.strMod_draws (s : State) (g : StrS → StrS) : (s.strMod g).draws = s.draws := rfl
@[simp] theorem State.strMod_evPend (s : State) (g : StrS → StrS) : (s.strMod g).evPend = s.evPend := rfl
@[simp] theorem State.strMod_evq (s : State) (g : StrS → StrS) : (s.strMod g).evq = s.evq := rfl
@[simp] theorem State.strMod_evqOvf (s : State) (g : StrS → StrS) : (s.strMod g).evqOvf = s.evqOvf := rfl
@[simp] theorem State.strMod_vec (s : State) (g : StrS → StrS) : (s.strMod g).vec = s.vec := rfl
@[simp] theorem State.strMod_msix (s : State) (g : StrS → StrS) : (s.strMod g).msix = s.msix := rfl
@[simp] theorem State.strMod_jrejDetail (s : State) (g : StrS → StrS) : (s.strMod g).jrejDetail = s.jrejDetail := rfl
@[simp] theorem State.strMod_lockrejDetail (s : State) (g : StrS → StrS) : (s.strMod g).lockrejDetail = s.lockrejDetail := rfl
@[simp] theorem State.strMod_tokenQ (s : State) (g : StrS → StrS) : (s.strMod g).tokenQ = s.tokenQ := rfl
@[simp] theorem State.strMod_islBuf (s : State) (g : StrS → StrS) : (s.strMod g).islBuf = s.islBuf := rfl
@[simp] theorem State.strMod_islOvf (s : State) (g : StrS → StrS) : (s.strMod g).islOvf = s.islOvf := rfl
@[simp] theorem State.strMod_offers (s : State) (g : StrS → StrS) : (s.strMod g).offers = s.offers := rfl
@[simp] theorem State.strMod_jnl (s : State) (g : StrS → StrS) : (s.strMod g).jnl = s.jnl := rfl
@[simp] theorem State.strMod_jHeld (s : State) (g : StrS → StrS) : (s.strMod g).jHeld = s.jHeld := rfl
@[simp] theorem State.strMod_jInject (s : State) (g : StrS → StrS) : (s.strMod g).jInject = s.jInject := rfl
@[simp] theorem State.strMod_hostRing (s : State) (g : StrS → StrS) : (s.strMod g).hostRing = s.hostRing := rfl
@[simp] theorem State.strMod_repHeld (s : State) (g : StrS → StrS) : (s.strMod g).repHeld = s.repHeld := rfl
@[simp] theorem State.strMod_rptFull (s : State) (g : StrS → StrS) : (s.strMod g).rptFull = s.rptFull := rfl
@[simp] theorem State.strMod_redirect (s : State) (g : StrS → StrS) : (s.strMod g).redirect = s.redirect := rfl
@[simp] theorem State.strMod_aerFatal (s : State) (g : StrS → StrS) : (s.strMod g).aerFatal = s.aerFatal := rfl
@[simp] theorem State.strMod_twq (s : State) (g : StrS → StrS) : (s.strMod g).twq = s.twq := rfl
@[simp] theorem State.strMod_twHeld (s : State) (g : StrS → StrS) : (s.strMod g).twHeld = s.twHeld := rfl
@[simp] theorem State.strMod_twStage (s : State) (g : StrS → StrS) : (s.strMod g).twStage = s.twStage := rfl
@[simp] theorem State.strMod_twWaiting (s : State) (g : StrS → StrS) : (s.strMod g).twWaiting = s.twWaiting := rfl
@[simp] theorem State.strMod_pfwOn (s : State) (g : StrS → StrS) : (s.strMod g).pfwOn = s.pfwOn := rfl
@[simp] theorem State.strMod_warmArmed (s : State) (g : StrS → StrS) : (s.strMod g).warmArmed = s.warmArmed := rfl
@[simp] theorem State.strMod_bay (s : State) (g : StrS → StrS) : (s.strMod g).bay = s.bay := rfl
@[simp] theorem State.strMod_loop (s : State) (g : StrS → StrS) : (s.strMod g).loop = s.loop := rfl
@[simp] theorem State.strMod_ph (s : State) (g : StrS → StrS) : (s.strMod g).ph = s.ph := rfl
@[simp] theorem State.strMod_rail (s : State) (g : StrS → StrS) : (s.strMod g).rail = s.rail := rfl
@[simp] theorem State.strMod_fl (s : State) (g : StrS → StrS) : (s.strMod g).fl = s.fl := rfl
@[simp] theorem State.strMod_idx (s : State) (g : StrS → StrS) : (s.strMod g).idx = s.idx := rfl
@[simp] theorem State.strMod_tie (s : State) (g : StrS → StrS) : (s.strMod g).tie = s.tie := rfl
@[simp] theorem State.strMod_abc (s : State) (g : StrS → StrS) : (s.strMod g).abc = s.abc := rfl
@[simp] theorem State.strMod_hld (s : State) (g : StrS → StrS) : (s.strMod g).hld = s.hld := rfl
@[simp] theorem State.strMod_bal (s : State) (g : StrS → StrS) : (s.strMod g).bal = s.bal := rfl
@[simp] theorem State.strMod_bat (s : State) (g : StrS → StrS) : (s.strMod g).bat = s.bat := rfl
@[simp] theorem State.strMod_recs (s : State) (g : StrS → StrS) : (s.strMod g).recs = s.recs := rfl
@[simp] theorem State.strMod_recsNvm (s : State) (g : StrS → StrS) : (s.strMod g).recsNvm = s.recsNvm := rfl
@[simp] theorem State.strMod_recDue (s : State) (g : StrS → StrS) : (s.strMod g).recDue = s.recDue := rfl
@[simp] theorem State.strMod_recUs (s : State) (g : StrS → StrS) : (s.strMod g).recUs = s.recUs := rfl
@[simp] theorem State.strMod_twc (s : State) (g : StrS → StrS) : (s.strMod g).twc = s.twc := rfl
@[simp] theorem State.strMod_twPtr (s : State) (g : StrS → StrS) : (s.strMod g).twPtr = s.twPtr := rfl
@[simp] theorem State.strMod_twFast (s : State) (g : StrS → StrS) : (s.strMod g).twFast = s.twFast := rfl
@[simp] theorem State.strMod_rbytes (s : State) (g : StrS → StrS) : (s.strMod g).rbytes = s.rbytes := rfl
@[simp] theorem State.strMod_lan (s : State) (g : StrS → StrS) : (s.strMod g).lan = s.lan := rfl
@[simp] theorem State.strMod_mem (s : State) (g : StrS → StrS) : (s.strMod g).mem = s.mem := rfl
@[simp] theorem State.strMod_cap (s : State) (g : StrS → StrS) : (s.strMod g).cap = s.cap := rfl
@[simp] theorem State.strMod_memBad (s : State) (g : StrS → StrS) : (s.strMod g).memBad = s.memBad := rfl
@[simp] theorem State.strMod_gal (s : State) (g : StrS → StrS) : (s.strMod g).gal = s.gal := rfl
@[simp] theorem State.strMod_flt (s : State) (g : StrS → StrS) : (s.strMod g).flt = s.flt := rfl
@[simp] theorem State.strMod_sys (s : State) (g : StrS → StrS) : (s.strMod g).sys = s.sys := rfl

/-! ### galMod: changes gal -/

@[simp] theorem State.galMod_pending (s : State) (g : GalS → GalS) : (s.galMod g).pending = s.pending := rfl
@[simp] theorem State.galMod_mode (s : State) (g : GalS → GalS) : (s.galMod g).mode = s.mode := rfl
@[simp] theorem State.galMod_us (s : State) (g : GalS → GalS) : (s.galMod g).us = s.us := rfl
@[simp] theorem State.galMod_regs (s : State) (g : GalS → GalS) : (s.galMod g).regs = s.regs := rfl
@[simp] theorem State.galMod_act (s : State) (g : GalS → GalS) : (s.galMod g).act = s.act := rfl
@[simp] theorem State.galMod_snap (s : State) (g : GalS → GalS) : (s.galMod g).snap = s.snap := rfl
@[simp] theorem State.galMod_snapUs (s : State) (g : GalS → GalS) : (s.galMod g).snapUs = s.snapUs := rfl
@[simp] theorem State.galMod_partsDone (s : State) (g : GalS → GalS) : (s.galMod g).partsDone = s.partsDone := rfl
@[simp] theorem State.galMod_out (s : State) (g : GalS → GalS) : (s.galMod g).out = s.out := rfl
@[simp] theorem State.galMod_rdata (s : State) (g : GalS → GalS) : (s.galMod g).rdata = s.rdata := rfl
@[simp] theorem State.galMod_svN (s : State) (g : GalS → GalS) : (s.galMod g).svN = s.svN := rfl
@[simp] theorem State.galMod_holdUs (s : State) (g : GalS → GalS) : (s.galMod g).holdUs = s.holdUs := rfl
@[simp] theorem State.galMod_draws (s : State) (g : GalS → GalS) : (s.galMod g).draws = s.draws := rfl
@[simp] theorem State.galMod_evPend (s : State) (g : GalS → GalS) : (s.galMod g).evPend = s.evPend := rfl
@[simp] theorem State.galMod_evq (s : State) (g : GalS → GalS) : (s.galMod g).evq = s.evq := rfl
@[simp] theorem State.galMod_evqOvf (s : State) (g : GalS → GalS) : (s.galMod g).evqOvf = s.evqOvf := rfl
@[simp] theorem State.galMod_vec (s : State) (g : GalS → GalS) : (s.galMod g).vec = s.vec := rfl
@[simp] theorem State.galMod_msix (s : State) (g : GalS → GalS) : (s.galMod g).msix = s.msix := rfl
@[simp] theorem State.galMod_jrejDetail (s : State) (g : GalS → GalS) : (s.galMod g).jrejDetail = s.jrejDetail := rfl
@[simp] theorem State.galMod_lockrejDetail (s : State) (g : GalS → GalS) : (s.galMod g).lockrejDetail = s.lockrejDetail := rfl
@[simp] theorem State.galMod_tokenQ (s : State) (g : GalS → GalS) : (s.galMod g).tokenQ = s.tokenQ := rfl
@[simp] theorem State.galMod_islBuf (s : State) (g : GalS → GalS) : (s.galMod g).islBuf = s.islBuf := rfl
@[simp] theorem State.galMod_islOvf (s : State) (g : GalS → GalS) : (s.galMod g).islOvf = s.islOvf := rfl
@[simp] theorem State.galMod_offers (s : State) (g : GalS → GalS) : (s.galMod g).offers = s.offers := rfl
@[simp] theorem State.galMod_jnl (s : State) (g : GalS → GalS) : (s.galMod g).jnl = s.jnl := rfl
@[simp] theorem State.galMod_jHeld (s : State) (g : GalS → GalS) : (s.galMod g).jHeld = s.jHeld := rfl
@[simp] theorem State.galMod_jInject (s : State) (g : GalS → GalS) : (s.galMod g).jInject = s.jInject := rfl
@[simp] theorem State.galMod_hostRing (s : State) (g : GalS → GalS) : (s.galMod g).hostRing = s.hostRing := rfl
@[simp] theorem State.galMod_repHeld (s : State) (g : GalS → GalS) : (s.galMod g).repHeld = s.repHeld := rfl
@[simp] theorem State.galMod_rptFull (s : State) (g : GalS → GalS) : (s.galMod g).rptFull = s.rptFull := rfl
@[simp] theorem State.galMod_redirect (s : State) (g : GalS → GalS) : (s.galMod g).redirect = s.redirect := rfl
@[simp] theorem State.galMod_aerFatal (s : State) (g : GalS → GalS) : (s.galMod g).aerFatal = s.aerFatal := rfl
@[simp] theorem State.galMod_twq (s : State) (g : GalS → GalS) : (s.galMod g).twq = s.twq := rfl
@[simp] theorem State.galMod_twHeld (s : State) (g : GalS → GalS) : (s.galMod g).twHeld = s.twHeld := rfl
@[simp] theorem State.galMod_twStage (s : State) (g : GalS → GalS) : (s.galMod g).twStage = s.twStage := rfl
@[simp] theorem State.galMod_twWaiting (s : State) (g : GalS → GalS) : (s.galMod g).twWaiting = s.twWaiting := rfl
@[simp] theorem State.galMod_pfwOn (s : State) (g : GalS → GalS) : (s.galMod g).pfwOn = s.pfwOn := rfl
@[simp] theorem State.galMod_warmArmed (s : State) (g : GalS → GalS) : (s.galMod g).warmArmed = s.warmArmed := rfl
@[simp] theorem State.galMod_bay (s : State) (g : GalS → GalS) : (s.galMod g).bay = s.bay := rfl
@[simp] theorem State.galMod_loop (s : State) (g : GalS → GalS) : (s.galMod g).loop = s.loop := rfl
@[simp] theorem State.galMod_ph (s : State) (g : GalS → GalS) : (s.galMod g).ph = s.ph := rfl
@[simp] theorem State.galMod_rail (s : State) (g : GalS → GalS) : (s.galMod g).rail = s.rail := rfl
@[simp] theorem State.galMod_fl (s : State) (g : GalS → GalS) : (s.galMod g).fl = s.fl := rfl
@[simp] theorem State.galMod_idx (s : State) (g : GalS → GalS) : (s.galMod g).idx = s.idx := rfl
@[simp] theorem State.galMod_tie (s : State) (g : GalS → GalS) : (s.galMod g).tie = s.tie := rfl
@[simp] theorem State.galMod_abc (s : State) (g : GalS → GalS) : (s.galMod g).abc = s.abc := rfl
@[simp] theorem State.galMod_hld (s : State) (g : GalS → GalS) : (s.galMod g).hld = s.hld := rfl
@[simp] theorem State.galMod_bal (s : State) (g : GalS → GalS) : (s.galMod g).bal = s.bal := rfl
@[simp] theorem State.galMod_bat (s : State) (g : GalS → GalS) : (s.galMod g).bat = s.bat := rfl
@[simp] theorem State.galMod_recs (s : State) (g : GalS → GalS) : (s.galMod g).recs = s.recs := rfl
@[simp] theorem State.galMod_recsNvm (s : State) (g : GalS → GalS) : (s.galMod g).recsNvm = s.recsNvm := rfl
@[simp] theorem State.galMod_recDue (s : State) (g : GalS → GalS) : (s.galMod g).recDue = s.recDue := rfl
@[simp] theorem State.galMod_recUs (s : State) (g : GalS → GalS) : (s.galMod g).recUs = s.recUs := rfl
@[simp] theorem State.galMod_twc (s : State) (g : GalS → GalS) : (s.galMod g).twc = s.twc := rfl
@[simp] theorem State.galMod_twPtr (s : State) (g : GalS → GalS) : (s.galMod g).twPtr = s.twPtr := rfl
@[simp] theorem State.galMod_twFast (s : State) (g : GalS → GalS) : (s.galMod g).twFast = s.twFast := rfl
@[simp] theorem State.galMod_rbytes (s : State) (g : GalS → GalS) : (s.galMod g).rbytes = s.rbytes := rfl
@[simp] theorem State.galMod_lan (s : State) (g : GalS → GalS) : (s.galMod g).lan = s.lan := rfl
@[simp] theorem State.galMod_mem (s : State) (g : GalS → GalS) : (s.galMod g).mem = s.mem := rfl
@[simp] theorem State.galMod_cap (s : State) (g : GalS → GalS) : (s.galMod g).cap = s.cap := rfl
@[simp] theorem State.galMod_str (s : State) (g : GalS → GalS) : (s.galMod g).str = s.str := rfl
@[simp] theorem State.galMod_memBad (s : State) (g : GalS → GalS) : (s.galMod g).memBad = s.memBad := rfl
@[simp] theorem State.galMod_flt (s : State) (g : GalS → GalS) : (s.galMod g).flt = s.flt := rfl
@[simp] theorem State.galMod_sys (s : State) (g : GalS → GalS) : (s.galMod g).sys = s.sys := rfl

/-! ### fltMod: changes flt -/

@[simp] theorem State.fltMod_pending (s : State) (g : FltS → FltS) : (s.fltMod g).pending = s.pending := rfl
@[simp] theorem State.fltMod_mode (s : State) (g : FltS → FltS) : (s.fltMod g).mode = s.mode := rfl
@[simp] theorem State.fltMod_us (s : State) (g : FltS → FltS) : (s.fltMod g).us = s.us := rfl
@[simp] theorem State.fltMod_regs (s : State) (g : FltS → FltS) : (s.fltMod g).regs = s.regs := rfl
@[simp] theorem State.fltMod_act (s : State) (g : FltS → FltS) : (s.fltMod g).act = s.act := rfl
@[simp] theorem State.fltMod_snap (s : State) (g : FltS → FltS) : (s.fltMod g).snap = s.snap := rfl
@[simp] theorem State.fltMod_snapUs (s : State) (g : FltS → FltS) : (s.fltMod g).snapUs = s.snapUs := rfl
@[simp] theorem State.fltMod_partsDone (s : State) (g : FltS → FltS) : (s.fltMod g).partsDone = s.partsDone := rfl
@[simp] theorem State.fltMod_out (s : State) (g : FltS → FltS) : (s.fltMod g).out = s.out := rfl
@[simp] theorem State.fltMod_rdata (s : State) (g : FltS → FltS) : (s.fltMod g).rdata = s.rdata := rfl
@[simp] theorem State.fltMod_svN (s : State) (g : FltS → FltS) : (s.fltMod g).svN = s.svN := rfl
@[simp] theorem State.fltMod_holdUs (s : State) (g : FltS → FltS) : (s.fltMod g).holdUs = s.holdUs := rfl
@[simp] theorem State.fltMod_draws (s : State) (g : FltS → FltS) : (s.fltMod g).draws = s.draws := rfl
@[simp] theorem State.fltMod_evPend (s : State) (g : FltS → FltS) : (s.fltMod g).evPend = s.evPend := rfl
@[simp] theorem State.fltMod_evq (s : State) (g : FltS → FltS) : (s.fltMod g).evq = s.evq := rfl
@[simp] theorem State.fltMod_evqOvf (s : State) (g : FltS → FltS) : (s.fltMod g).evqOvf = s.evqOvf := rfl
@[simp] theorem State.fltMod_vec (s : State) (g : FltS → FltS) : (s.fltMod g).vec = s.vec := rfl
@[simp] theorem State.fltMod_msix (s : State) (g : FltS → FltS) : (s.fltMod g).msix = s.msix := rfl
@[simp] theorem State.fltMod_jrejDetail (s : State) (g : FltS → FltS) : (s.fltMod g).jrejDetail = s.jrejDetail := rfl
@[simp] theorem State.fltMod_lockrejDetail (s : State) (g : FltS → FltS) : (s.fltMod g).lockrejDetail = s.lockrejDetail := rfl
@[simp] theorem State.fltMod_tokenQ (s : State) (g : FltS → FltS) : (s.fltMod g).tokenQ = s.tokenQ := rfl
@[simp] theorem State.fltMod_islBuf (s : State) (g : FltS → FltS) : (s.fltMod g).islBuf = s.islBuf := rfl
@[simp] theorem State.fltMod_islOvf (s : State) (g : FltS → FltS) : (s.fltMod g).islOvf = s.islOvf := rfl
@[simp] theorem State.fltMod_offers (s : State) (g : FltS → FltS) : (s.fltMod g).offers = s.offers := rfl
@[simp] theorem State.fltMod_jnl (s : State) (g : FltS → FltS) : (s.fltMod g).jnl = s.jnl := rfl
@[simp] theorem State.fltMod_jHeld (s : State) (g : FltS → FltS) : (s.fltMod g).jHeld = s.jHeld := rfl
@[simp] theorem State.fltMod_jInject (s : State) (g : FltS → FltS) : (s.fltMod g).jInject = s.jInject := rfl
@[simp] theorem State.fltMod_hostRing (s : State) (g : FltS → FltS) : (s.fltMod g).hostRing = s.hostRing := rfl
@[simp] theorem State.fltMod_repHeld (s : State) (g : FltS → FltS) : (s.fltMod g).repHeld = s.repHeld := rfl
@[simp] theorem State.fltMod_rptFull (s : State) (g : FltS → FltS) : (s.fltMod g).rptFull = s.rptFull := rfl
@[simp] theorem State.fltMod_redirect (s : State) (g : FltS → FltS) : (s.fltMod g).redirect = s.redirect := rfl
@[simp] theorem State.fltMod_aerFatal (s : State) (g : FltS → FltS) : (s.fltMod g).aerFatal = s.aerFatal := rfl
@[simp] theorem State.fltMod_twq (s : State) (g : FltS → FltS) : (s.fltMod g).twq = s.twq := rfl
@[simp] theorem State.fltMod_twHeld (s : State) (g : FltS → FltS) : (s.fltMod g).twHeld = s.twHeld := rfl
@[simp] theorem State.fltMod_twStage (s : State) (g : FltS → FltS) : (s.fltMod g).twStage = s.twStage := rfl
@[simp] theorem State.fltMod_twWaiting (s : State) (g : FltS → FltS) : (s.fltMod g).twWaiting = s.twWaiting := rfl
@[simp] theorem State.fltMod_pfwOn (s : State) (g : FltS → FltS) : (s.fltMod g).pfwOn = s.pfwOn := rfl
@[simp] theorem State.fltMod_warmArmed (s : State) (g : FltS → FltS) : (s.fltMod g).warmArmed = s.warmArmed := rfl
@[simp] theorem State.fltMod_bay (s : State) (g : FltS → FltS) : (s.fltMod g).bay = s.bay := rfl
@[simp] theorem State.fltMod_loop (s : State) (g : FltS → FltS) : (s.fltMod g).loop = s.loop := rfl
@[simp] theorem State.fltMod_ph (s : State) (g : FltS → FltS) : (s.fltMod g).ph = s.ph := rfl
@[simp] theorem State.fltMod_rail (s : State) (g : FltS → FltS) : (s.fltMod g).rail = s.rail := rfl
@[simp] theorem State.fltMod_fl (s : State) (g : FltS → FltS) : (s.fltMod g).fl = s.fl := rfl
@[simp] theorem State.fltMod_idx (s : State) (g : FltS → FltS) : (s.fltMod g).idx = s.idx := rfl
@[simp] theorem State.fltMod_tie (s : State) (g : FltS → FltS) : (s.fltMod g).tie = s.tie := rfl
@[simp] theorem State.fltMod_abc (s : State) (g : FltS → FltS) : (s.fltMod g).abc = s.abc := rfl
@[simp] theorem State.fltMod_hld (s : State) (g : FltS → FltS) : (s.fltMod g).hld = s.hld := rfl
@[simp] theorem State.fltMod_bal (s : State) (g : FltS → FltS) : (s.fltMod g).bal = s.bal := rfl
@[simp] theorem State.fltMod_bat (s : State) (g : FltS → FltS) : (s.fltMod g).bat = s.bat := rfl
@[simp] theorem State.fltMod_recs (s : State) (g : FltS → FltS) : (s.fltMod g).recs = s.recs := rfl
@[simp] theorem State.fltMod_recsNvm (s : State) (g : FltS → FltS) : (s.fltMod g).recsNvm = s.recsNvm := rfl
@[simp] theorem State.fltMod_recDue (s : State) (g : FltS → FltS) : (s.fltMod g).recDue = s.recDue := rfl
@[simp] theorem State.fltMod_recUs (s : State) (g : FltS → FltS) : (s.fltMod g).recUs = s.recUs := rfl
@[simp] theorem State.fltMod_twc (s : State) (g : FltS → FltS) : (s.fltMod g).twc = s.twc := rfl
@[simp] theorem State.fltMod_twPtr (s : State) (g : FltS → FltS) : (s.fltMod g).twPtr = s.twPtr := rfl
@[simp] theorem State.fltMod_twFast (s : State) (g : FltS → FltS) : (s.fltMod g).twFast = s.twFast := rfl
@[simp] theorem State.fltMod_rbytes (s : State) (g : FltS → FltS) : (s.fltMod g).rbytes = s.rbytes := rfl
@[simp] theorem State.fltMod_lan (s : State) (g : FltS → FltS) : (s.fltMod g).lan = s.lan := rfl
@[simp] theorem State.fltMod_mem (s : State) (g : FltS → FltS) : (s.fltMod g).mem = s.mem := rfl
@[simp] theorem State.fltMod_cap (s : State) (g : FltS → FltS) : (s.fltMod g).cap = s.cap := rfl
@[simp] theorem State.fltMod_str (s : State) (g : FltS → FltS) : (s.fltMod g).str = s.str := rfl
@[simp] theorem State.fltMod_memBad (s : State) (g : FltS → FltS) : (s.fltMod g).memBad = s.memBad := rfl
@[simp] theorem State.fltMod_gal (s : State) (g : FltS → FltS) : (s.fltMod g).gal = s.gal := rfl
@[simp] theorem State.fltMod_sys (s : State) (g : FltS → FltS) : (s.fltMod g).sys = s.sys := rfl

/-! ### sysMod: changes sys -/

@[simp] theorem State.sysMod_pending (s : State) (g : SysS → SysS) : (s.sysMod g).pending = s.pending := rfl
@[simp] theorem State.sysMod_mode (s : State) (g : SysS → SysS) : (s.sysMod g).mode = s.mode := rfl
@[simp] theorem State.sysMod_us (s : State) (g : SysS → SysS) : (s.sysMod g).us = s.us := rfl
@[simp] theorem State.sysMod_regs (s : State) (g : SysS → SysS) : (s.sysMod g).regs = s.regs := rfl
@[simp] theorem State.sysMod_act (s : State) (g : SysS → SysS) : (s.sysMod g).act = s.act := rfl
@[simp] theorem State.sysMod_snap (s : State) (g : SysS → SysS) : (s.sysMod g).snap = s.snap := rfl
@[simp] theorem State.sysMod_snapUs (s : State) (g : SysS → SysS) : (s.sysMod g).snapUs = s.snapUs := rfl
@[simp] theorem State.sysMod_partsDone (s : State) (g : SysS → SysS) : (s.sysMod g).partsDone = s.partsDone := rfl
@[simp] theorem State.sysMod_out (s : State) (g : SysS → SysS) : (s.sysMod g).out = s.out := rfl
@[simp] theorem State.sysMod_rdata (s : State) (g : SysS → SysS) : (s.sysMod g).rdata = s.rdata := rfl
@[simp] theorem State.sysMod_svN (s : State) (g : SysS → SysS) : (s.sysMod g).svN = s.svN := rfl
@[simp] theorem State.sysMod_holdUs (s : State) (g : SysS → SysS) : (s.sysMod g).holdUs = s.holdUs := rfl
@[simp] theorem State.sysMod_draws (s : State) (g : SysS → SysS) : (s.sysMod g).draws = s.draws := rfl
@[simp] theorem State.sysMod_evPend (s : State) (g : SysS → SysS) : (s.sysMod g).evPend = s.evPend := rfl
@[simp] theorem State.sysMod_evq (s : State) (g : SysS → SysS) : (s.sysMod g).evq = s.evq := rfl
@[simp] theorem State.sysMod_evqOvf (s : State) (g : SysS → SysS) : (s.sysMod g).evqOvf = s.evqOvf := rfl
@[simp] theorem State.sysMod_vec (s : State) (g : SysS → SysS) : (s.sysMod g).vec = s.vec := rfl
@[simp] theorem State.sysMod_msix (s : State) (g : SysS → SysS) : (s.sysMod g).msix = s.msix := rfl
@[simp] theorem State.sysMod_jrejDetail (s : State) (g : SysS → SysS) : (s.sysMod g).jrejDetail = s.jrejDetail := rfl
@[simp] theorem State.sysMod_lockrejDetail (s : State) (g : SysS → SysS) : (s.sysMod g).lockrejDetail = s.lockrejDetail := rfl
@[simp] theorem State.sysMod_tokenQ (s : State) (g : SysS → SysS) : (s.sysMod g).tokenQ = s.tokenQ := rfl
@[simp] theorem State.sysMod_islBuf (s : State) (g : SysS → SysS) : (s.sysMod g).islBuf = s.islBuf := rfl
@[simp] theorem State.sysMod_islOvf (s : State) (g : SysS → SysS) : (s.sysMod g).islOvf = s.islOvf := rfl
@[simp] theorem State.sysMod_offers (s : State) (g : SysS → SysS) : (s.sysMod g).offers = s.offers := rfl
@[simp] theorem State.sysMod_jnl (s : State) (g : SysS → SysS) : (s.sysMod g).jnl = s.jnl := rfl
@[simp] theorem State.sysMod_jHeld (s : State) (g : SysS → SysS) : (s.sysMod g).jHeld = s.jHeld := rfl
@[simp] theorem State.sysMod_jInject (s : State) (g : SysS → SysS) : (s.sysMod g).jInject = s.jInject := rfl
@[simp] theorem State.sysMod_hostRing (s : State) (g : SysS → SysS) : (s.sysMod g).hostRing = s.hostRing := rfl
@[simp] theorem State.sysMod_repHeld (s : State) (g : SysS → SysS) : (s.sysMod g).repHeld = s.repHeld := rfl
@[simp] theorem State.sysMod_rptFull (s : State) (g : SysS → SysS) : (s.sysMod g).rptFull = s.rptFull := rfl
@[simp] theorem State.sysMod_redirect (s : State) (g : SysS → SysS) : (s.sysMod g).redirect = s.redirect := rfl
@[simp] theorem State.sysMod_aerFatal (s : State) (g : SysS → SysS) : (s.sysMod g).aerFatal = s.aerFatal := rfl
@[simp] theorem State.sysMod_twq (s : State) (g : SysS → SysS) : (s.sysMod g).twq = s.twq := rfl
@[simp] theorem State.sysMod_twHeld (s : State) (g : SysS → SysS) : (s.sysMod g).twHeld = s.twHeld := rfl
@[simp] theorem State.sysMod_twStage (s : State) (g : SysS → SysS) : (s.sysMod g).twStage = s.twStage := rfl
@[simp] theorem State.sysMod_twWaiting (s : State) (g : SysS → SysS) : (s.sysMod g).twWaiting = s.twWaiting := rfl
@[simp] theorem State.sysMod_pfwOn (s : State) (g : SysS → SysS) : (s.sysMod g).pfwOn = s.pfwOn := rfl
@[simp] theorem State.sysMod_warmArmed (s : State) (g : SysS → SysS) : (s.sysMod g).warmArmed = s.warmArmed := rfl
@[simp] theorem State.sysMod_bay (s : State) (g : SysS → SysS) : (s.sysMod g).bay = s.bay := rfl
@[simp] theorem State.sysMod_loop (s : State) (g : SysS → SysS) : (s.sysMod g).loop = s.loop := rfl
@[simp] theorem State.sysMod_ph (s : State) (g : SysS → SysS) : (s.sysMod g).ph = s.ph := rfl
@[simp] theorem State.sysMod_rail (s : State) (g : SysS → SysS) : (s.sysMod g).rail = s.rail := rfl
@[simp] theorem State.sysMod_fl (s : State) (g : SysS → SysS) : (s.sysMod g).fl = s.fl := rfl
@[simp] theorem State.sysMod_idx (s : State) (g : SysS → SysS) : (s.sysMod g).idx = s.idx := rfl
@[simp] theorem State.sysMod_tie (s : State) (g : SysS → SysS) : (s.sysMod g).tie = s.tie := rfl
@[simp] theorem State.sysMod_abc (s : State) (g : SysS → SysS) : (s.sysMod g).abc = s.abc := rfl
@[simp] theorem State.sysMod_hld (s : State) (g : SysS → SysS) : (s.sysMod g).hld = s.hld := rfl
@[simp] theorem State.sysMod_bal (s : State) (g : SysS → SysS) : (s.sysMod g).bal = s.bal := rfl
@[simp] theorem State.sysMod_bat (s : State) (g : SysS → SysS) : (s.sysMod g).bat = s.bat := rfl
@[simp] theorem State.sysMod_recs (s : State) (g : SysS → SysS) : (s.sysMod g).recs = s.recs := rfl
@[simp] theorem State.sysMod_recsNvm (s : State) (g : SysS → SysS) : (s.sysMod g).recsNvm = s.recsNvm := rfl
@[simp] theorem State.sysMod_recDue (s : State) (g : SysS → SysS) : (s.sysMod g).recDue = s.recDue := rfl
@[simp] theorem State.sysMod_recUs (s : State) (g : SysS → SysS) : (s.sysMod g).recUs = s.recUs := rfl
@[simp] theorem State.sysMod_twc (s : State) (g : SysS → SysS) : (s.sysMod g).twc = s.twc := rfl
@[simp] theorem State.sysMod_twPtr (s : State) (g : SysS → SysS) : (s.sysMod g).twPtr = s.twPtr := rfl
@[simp] theorem State.sysMod_twFast (s : State) (g : SysS → SysS) : (s.sysMod g).twFast = s.twFast := rfl
@[simp] theorem State.sysMod_rbytes (s : State) (g : SysS → SysS) : (s.sysMod g).rbytes = s.rbytes := rfl
@[simp] theorem State.sysMod_lan (s : State) (g : SysS → SysS) : (s.sysMod g).lan = s.lan := rfl
@[simp] theorem State.sysMod_mem (s : State) (g : SysS → SysS) : (s.sysMod g).mem = s.mem := rfl
@[simp] theorem State.sysMod_cap (s : State) (g : SysS → SysS) : (s.sysMod g).cap = s.cap := rfl
@[simp] theorem State.sysMod_str (s : State) (g : SysS → SysS) : (s.sysMod g).str = s.str := rfl
@[simp] theorem State.sysMod_memBad (s : State) (g : SysS → SysS) : (s.sysMod g).memBad = s.memBad := rfl
@[simp] theorem State.sysMod_gal (s : State) (g : SysS → SysS) : (s.sysMod g).gal = s.gal := rfl
@[simp] theorem State.sysMod_flt (s : State) (g : SysS → SysS) : (s.sysMod g).flt = s.flt := rfl

/-! ### Register fields -/

theorem State.rd_wr_self {s : State} (h : s.regs.sorted = true) (f : Fld) (v : Nat) : (s.wr f v).rd f = v % 2 ^ f.width := by
  simp only [State.rd, State.wr, Store.get_put_self h, Nat.mod_mod]

theorem State.rd_wr_ne {s : State} {f g : Fld} (h : g.key ≠ f.key) (v : Nat) : (s.wr f v).rd g = s.rd g := by
  simp only [State.rd, State.wr, Store.get_put_ne h]

theorem State.wr_sorted {s : State} (h : s.regs.sorted = true) (f : Fld) (v : Nat) : (s.wr f v).regs.sorted = true :=
  Store.sorted_put h

theorem State.wrA_sorted {s : State} (h : s.act.sorted = true) (f : Fld) (v : Nat) : (s.wrA f v).act.sorted = true :=
  Store.sorted_put h

/-- Two fields with the same key lie at the same place. -/
theorem Fld.key_place {f g : Fld} (hf : f.off < 4096 ∧ f.lo < 32) (hg : g.off < 4096 ∧ g.lo < 32) (h : f.key = g.key) :
    f.page = g.page ∧ f.off = g.off ∧ f.lo = g.lo := by
  unfold Fld.key at h
  omega

@[simp] theorem State.emit_rd (s : State) (o : Out) (q : Fld) : (s.emit o).rd q = s.rd q := rfl
@[simp] theorem State.emit_eff (s : State) (o : Out) (q : Fld) : (s.emit o).eff q = s.eff q := rfl
@[simp] theorem State.answer_rd (s : State) (v : Nat) (q : Fld) : (s.answer v).rd q = s.rd q := rfl
@[simp] theorem State.answer_eff (s : State) (v : Nat) (q : Fld) : (s.answer v).eff q = s.eff q := rfl
@[simp] theorem State.bayMod_rd (s : State) (n : Nat) (g : BayS → BayS) (q : Fld) : (s.bayMod n g).rd q = s.rd q := rfl
@[simp] theorem State.bayMod_eff (s : State) (n : Nat) (g : BayS → BayS) (q : Fld) : (s.bayMod n g).eff q = s.eff q := rfl
@[simp] theorem State.loopMod_rd (s : State) (n : Nat) (g : LoopS → LoopS) (q : Fld) : (s.loopMod n g).rd q = s.rd q := rfl
@[simp] theorem State.loopMod_eff (s : State) (n : Nat) (g : LoopS → LoopS) (q : Fld) : (s.loopMod n g).eff q = s.eff q := rfl
@[simp] theorem State.phMod_rd (s : State) (n : Nat) (g : PhS → PhS) (q : Fld) : (s.phMod n g).rd q = s.rd q := rfl
@[simp] theorem State.phMod_eff (s : State) (n : Nat) (g : PhS → PhS) (q : Fld) : (s.phMod n g).eff q = s.eff q := rfl
@[simp] theorem State.railMod_rd (s : State) (n : Nat) (g : RailS → RailS) (q : Fld) : (s.railMod n g).rd q = s.rd q := rfl
@[simp] theorem State.railMod_eff (s : State) (n : Nat) (g : RailS → RailS) (q : Fld) : (s.railMod n g).eff q = s.eff q := rfl
@[simp] theorem State.flMod_rd (s : State) (n : Nat) (g : FlightS → FlightS) (q : Fld) : (s.flMod n g).rd q = s.rd q := rfl
@[simp] theorem State.flMod_eff (s : State) (n : Nat) (g : FlightS → FlightS) (q : Fld) : (s.flMod n g).eff q = s.eff q := rfl
@[simp] theorem State.idxMod_rd (s : State) (g : IdxS → IdxS) (q : Fld) : (s.idxMod g).rd q = s.rd q := rfl
@[simp] theorem State.idxMod_eff (s : State) (g : IdxS → IdxS) (q : Fld) : (s.idxMod g).eff q = s.eff q := rfl
@[simp] theorem State.tieMod_rd (s : State) (n : Nat) (g : TieS → TieS) (q : Fld) : (s.tieMod n g).rd q = s.rd q := rfl
@[simp] theorem State.tieMod_eff (s : State) (n : Nat) (g : TieS → TieS) (q : Fld) : (s.tieMod n g).eff q = s.eff q := rfl
@[simp] theorem State.batMod_rd (s : State) (n : Nat) (g : BatS → BatS) (q : Fld) : (s.batMod n g).rd q = s.rd q := rfl
@[simp] theorem State.batMod_eff (s : State) (n : Nat) (g : BatS → BatS) (q : Fld) : (s.batMod n g).eff q = s.eff q := rfl
@[simp] theorem State.twMod_rd (s : State) (n : Nat) (g : TwcS → TwcS) (q : Fld) : (s.twMod n g).rd q = s.rd q := rfl
@[simp] theorem State.twMod_eff (s : State) (n : Nat) (g : TwcS → TwcS) (q : Fld) : (s.twMod n g).eff q = s.eff q := rfl
@[simp] theorem State.lanMod_rd (s : State) (g : LanS → LanS) (q : Fld) : (s.lanMod g).rd q = s.rd q := rfl
@[simp] theorem State.lanMod_eff (s : State) (g : LanS → LanS) (q : Fld) : (s.lanMod g).eff q = s.eff q := rfl
@[simp] theorem State.capMod_rd (s : State) (g : CapS → CapS) (q : Fld) : (s.capMod g).rd q = s.rd q := rfl
@[simp] theorem State.capMod_eff (s : State) (g : CapS → CapS) (q : Fld) : (s.capMod g).eff q = s.eff q := rfl
@[simp] theorem State.strMod_rd (s : State) (g : StrS → StrS) (q : Fld) : (s.strMod g).rd q = s.rd q := rfl
@[simp] theorem State.strMod_eff (s : State) (g : StrS → StrS) (q : Fld) : (s.strMod g).eff q = s.eff q := rfl
@[simp] theorem State.galMod_rd (s : State) (g : GalS → GalS) (q : Fld) : (s.galMod g).rd q = s.rd q := rfl
@[simp] theorem State.galMod_eff (s : State) (g : GalS → GalS) (q : Fld) : (s.galMod g).eff q = s.eff q := rfl
@[simp] theorem State.fltMod_rd (s : State) (g : FltS → FltS) (q : Fld) : (s.fltMod g).rd q = s.rd q := rfl
@[simp] theorem State.fltMod_eff (s : State) (g : FltS → FltS) (q : Fld) : (s.fltMod g).eff q = s.eff q := rfl
@[simp] theorem State.sysMod_rd (s : State) (g : SysS → SysS) (q : Fld) : (s.sysMod g).rd q = s.rd q := rfl
@[simp] theorem State.sysMod_eff (s : State) (g : SysS → SysS) (q : Fld) : (s.sysMod g).eff q = s.eff q := rfl
@[simp] theorem State.wrA_rd (s : State) (f : Fld) (v : Nat) (q : Fld) : (s.wrA f v).rd q = s.rd q := rfl
@[simp] theorem State.bayMod_bay (s : State) (n : Nat) (g : BayS → BayS) : (s.bayMod n g).bay = vmod s.bay n g := rfl
@[simp] theorem State.loopMod_loop (s : State) (n : Nat) (g : LoopS → LoopS) : (s.loopMod n g).loop = vmod s.loop n g := rfl
@[simp] theorem State.phMod_ph (s : State) (n : Nat) (g : PhS → PhS) : (s.phMod n g).ph = vmod s.ph n g := rfl
@[simp] theorem State.railMod_rail (s : State) (n : Nat) (g : RailS → RailS) : (s.railMod n g).rail = vmod s.rail n g := rfl
@[simp] theorem State.flMod_fl (s : State) (n : Nat) (g : FlightS → FlightS) : (s.flMod n g).fl = vmod s.fl n g := rfl
@[simp] theorem State.idxMod_idx (s : State) (g : IdxS → IdxS) : (s.idxMod g).idx = g s.idx := rfl
@[simp] theorem State.tieMod_tie (s : State) (n : Nat) (g : TieS → TieS) : (s.tieMod n g).tie = vmod s.tie n g := rfl
@[simp] theorem State.batMod_bat (s : State) (n : Nat) (g : BatS → BatS) : (s.batMod n g).bat = vmod s.bat n g := rfl
@[simp] theorem State.twMod_twc (s : State) (n : Nat) (g : TwcS → TwcS) : (s.twMod n g).twc = vmod s.twc n g := rfl
@[simp] theorem State.lanMod_lan (s : State) (g : LanS → LanS) : (s.lanMod g).lan = g s.lan := rfl
@[simp] theorem State.capMod_cap (s : State) (g : CapS → CapS) : (s.capMod g).cap = g s.cap := rfl
@[simp] theorem State.strMod_str (s : State) (g : StrS → StrS) : (s.strMod g).str = g s.str := rfl
@[simp] theorem State.galMod_gal (s : State) (g : GalS → GalS) : (s.galMod g).gal = g s.gal := rfl
@[simp] theorem State.fltMod_flt (s : State) (g : FltS → FltS) : (s.fltMod g).flt = g s.flt := rfl
@[simp] theorem State.sysMod_sys (s : State) (g : SysS → SysS) : (s.sysMod g).sys = g s.sys := rfl

/-- The instance that was changed. -/
theorem vget_vmod_self {α : Type} [Inhabited α] {n : Nat} (v : Vector α n) (i : Nat) (f : α → α) (h : i < n) :
    vget (vmod v i f) i = f (vget v i) := by
  simp [vget, vmod, List.getD_eq_getElem?_getD, h]

/-- The other instances. -/
theorem vget_vmod_ne {α : Type} [Inhabited α] {n : Nat} (v : Vector α n) (i j : Nat) (f : α → α) (h : i ≠ j) :
    vget (vmod v i f) j = vget v j := by
  simp [vget, vmod, List.getD_eq_getElem?_getD, List.getElem?_set_ne h]

end Sys2Proof.Machine
end

