-- ==== Sys2Proof/Laws/Ops.lean ====
section
/-!
SUPPORT. What the shared operations can do, said once: raising events, sending tokens and offering records change nothing but
the signals, and they and the writes of register fields keep the invariant.
-/

namespace Sys2Proof.Machine

/-! ### Only the signals -/

theorem onlySignals_refl (s : State) (ks : List Fld) : onlySignals s s ks := ⟨rfl, fun _ _ _ => rfl⟩

theorem onlySignals_trans {s t u : State} {ks : List Fld} (h : onlySignals s t ks) (k : onlySignals t u ks) : onlySignals s u ks := by
  obtain ⟨h1, h2⟩ := h
  obtain ⟨k1, k2⟩ := k
  refine ⟨?_, fun f he hf => (k2 f he hf).trans (h2 f he hf)⟩
  rw [h1] at k1
  exact k1

/-- Writing one of the listed fields. -/
theorem onlySignals_wr {s : State} {ks : List Fld} {f : Fld} (h : evtKey f.key ∨ ∃ g ∈ signalFields ++ ks, f.key = g.key) (v : Nat) :
    onlySignals s (s.wr f v) ks := by
  refine ⟨rfl, fun q he hq => State.rd_wr_ne (fun e => ?_) v⟩
  rcases h with h | ⟨g, hg, hk⟩
  · exact he (by rw [e]; exact h)
  · exact hq g hg (e.trans hk)

theorem evtKey_pgEvt (pg : Nat) : evtKey (hdr Reg.pgEvt pg).key := by
  simp only [evtKey, hdr, Row.at, Fld.key, Reg.pgEvt]
  omega

theorem sendMsg_signals (s : State) (v : Nat) (ks : List Fld) : onlySignals s (s.sendMsg v) ks := ⟨rfl, fun _ _ _ => rfl⟩

theorem due_signals (s : State) (v : Nat) (ks : List Fld) : onlySignals s (s.due v) ks := by
  unfold State.due
  split
  · exact sendMsg_signals s v ks
  · exact ⟨rfl, fun _ _ _ => rfl⟩

theorem release_signals (s : State) (v : Nat) (ks : List Fld) : onlySignals s (s.release v) ks := by
  unfold State.release
  split
  · split
    · exact sendMsg_signals s v ks
    · exact ⟨rfl, fun _ _ _ => rfl⟩
  · exact onlySignals_refl s ks

theorem queueEv_signals (s : State) (n us : Nat) (ks : List Fld) : onlySignals s (s.queueEv n us) ks := by
  unfold State.queueEv
  split <;> exact ⟨rfl, fun _ _ _ => rfl⟩

theorem pend_signals (s : State) (n us : Nat) (ks : List Fld) : onlySignals s (s.pend n us) ks := by
  unfold State.pend
  split
  · exact onlySignals_refl s ks
  · have h : onlySignals s { s.queueEv n us with evPend := s.evPend ++ [n] } ks :=
      onlySignals_trans (queueEv_signals s n us ks) (⟨rfl, fun _ _ _ => rfl⟩)
    dsimp only
    split
    · exact onlySignals_trans h (due_signals _ _ ks)
    · exact h

theorem setEvt_signals (s : State) (pg b n us : Nat) (ks : List Fld) : onlySignals s (s.setEvt pg b n us) ks := by
  have h : onlySignals s (s.wrBit (hdr Reg.pgEvt pg) b true) ks := onlySignals_wr (.inl (evtKey_pgEvt pg)) _
  unfold State.setEvt
  dsimp only
  split
  · exact onlySignals_trans h (pend_signals _ n us ks)
  · exact h

theorem refused_signals (s : State) (len : Bool) (ks : List Fld) : onlySignals s (s.refused len) ks := by
  unfold State.refused State.inc
  split
  · exact onlySignals_trans (onlySignals_wr (.inr ⟨gal0F Reg.galNrefLen 0, by simp [signalFields], rfl⟩) _) (⟨rfl, fun _ _ _ => rfl⟩)
  · exact onlySignals_trans (onlySignals_wr (.inr ⟨gal0F Reg.galNrefSpace 0, by simp [signalFields], rfl⟩) _) (⟨rfl, fun _ _ _ => rfl⟩)

theorem refuse_signals (s : State) (len : Bool) (ks : List Fld) : onlySignals s (s.refuse len) ks := by
  have h := onlySignals_trans (refused_signals s len ks) (setEvt_signals (s.refused len) 0x0F8 3 979 s.us ks)
  unfold State.refuse
  dsimp only
  split
  · exact onlySignals_trans h (refused_signals _ false ks)
  · exact h

/-- Offering a record changes only the signals. -/
theorem offer_signals (s : State) (o : Offer) (ks : List Fld) : onlySignals s (s.offer o) ks := by
  unfold State.offer
  repeat' split
  · exact onlySignals_refl s ks
  · exact refuse_signals s true ks
  · exact ⟨rfl, fun _ _ _ => rfl⟩
  · exact refuse_signals s false ks

theorem islPush_signals (s : State) (t : Tok) (ks : List Fld) : onlySignals s (s.islPush t) ks := by
  unfold State.islPush
  split <;> exact ⟨rfl, fun _ _ _ => rfl⟩

/-- Raising an event bit changes only the signals. -/
theorem raiseBit_signals (s : State) (pg b n : Nat) (ks : List Fld) : onlySignals s (s.raiseBit pg b n) ks := by
  unfold State.raiseBit
  split
  · dsimp only
    split
    · exact onlySignals_trans (setEvt_signals s pg b n s.us ks) (offer_signals _ _ ks)
    · exact setEvt_signals s pg b n s.us ks
  · split
    · exact islPush_signals s _ ks
    · exact onlySignals_refl s ks

/-- Raising an event changes only the signals. -/
theorem raise_signals (s : State) (n : Nat) (ks : List Fld) : onlySignals s (s.raise n) ks := by
  unfold State.raise
  split
  · exact raiseBit_signals s _ _ n ks
  · exact onlySignals_refl s ks

/-- Sending a token changes only the signals. -/
theorem token_signals (s : State) (src kind detail : Nat) (ks : List Fld) : onlySignals s (s.token src kind detail) ks := by
  unfold State.token
  dsimp only
  split
  · exact ⟨rfl, fun _ _ _ => rfl⟩
  · split
    · exact islPush_signals s _ ks
    · exact onlySignals_refl s ks

/-- A token with its event changes only the signals. -/
theorem tokenEv_signals (s : State) (src kind detail : Nat) (ks : List Fld) : onlySignals s (s.tokenEv src kind detail) ks := by
  unfold State.tokenEv
  split
  · exact onlySignals_trans (raise_signals s src ks) (token_signals _ src kind detail ks)
  · exact token_signals s src kind detail ks

/-! ### The invariant -/

theorem wr_inv {s : State} (h : s.Inv) (f : Fld) (v : Nat) : (s.wr f v).Inv :=
  ⟨Store.sorted_put h.regs, h.act, h.mem, h.evq, h.twq, h.offers, h.islBuf⟩

theorem wrA_inv {s : State} (h : s.Inv) (f : Fld) (v : Nat) : (s.wrA f v).Inv :=
  ⟨h.regs, Store.sorted_put h.act, h.mem, h.evq, h.twq, h.offers, h.islBuf⟩

theorem load_inv {s : State} (h : s.Inv) (f : Fld) (v : Nat) : (s.load f v).Inv := wrA_inv (wr_inv h f v) f v

theorem emit_inv {s : State} (h : s.Inv) (o : Out) : (s.emit o).Inv := ⟨h.regs, h.act, h.mem, h.evq, h.twq, h.offers, h.islBuf⟩

theorem sendMsg_inv {s : State} (h : s.Inv) (v : Nat) : (s.sendMsg v).Inv := ⟨h.regs, h.act, h.mem, h.evq, h.twq, h.offers, h.islBuf⟩

theorem due_inv {s : State} (h : s.Inv) (v : Nat) : (s.due v).Inv := by
  unfold State.due
  split
  · exact sendMsg_inv h v
  · exact ⟨h.regs, h.act, h.mem, h.evq, h.twq, h.offers, h.islBuf⟩

theorem release_inv {s : State} (h : s.Inv) (v : Nat) : (s.release v).Inv := by
  unfold State.release
  split
  · split
    · exact sendMsg_inv h v
    · exact ⟨h.regs, h.act, h.mem, h.evq, h.twq, h.offers, h.islBuf⟩
  · exact h

theorem queueEv_inv {s : State} (h : s.Inv) (n us : Nat) : (s.queueEv n us).Inv := by
  unfold State.queueEv
  split
  · refine ⟨h.regs, h.act, h.mem, ?_, h.twq, h.offers, h.islBuf⟩
    simp only [List.length_append, List.length_singleton]
    omega
  · exact ⟨h.regs, h.act, h.mem, h.evq, h.twq, h.offers, h.islBuf⟩

theorem pend_inv {s : State} (h : s.Inv) (n us : Nat) : (s.pend n us).Inv := by
  unfold State.pend
  split
  · exact h
  · have q := queueEv_inv h n us
    have h' : ({ s.queueEv n us with evPend := s.evPend ++ [n] } : State).Inv :=
      ⟨q.regs, q.act, q.mem, q.evq, q.twq, q.offers, q.islBuf⟩
    dsimp only
    split
    · exact due_inv h' _
    · exact h'

theorem setEvt_inv {s : State} (h : s.Inv) (pg b n us : Nat) : (s.setEvt pg b n us).Inv := by
  unfold State.setEvt
  dsimp only
  split
  · exact pend_inv (wr_inv h _ _) n us
  · exact wr_inv h _ _

theorem refused_inv {s : State} (h : s.Inv) (len : Bool) : (s.refused len).Inv := by
  unfold State.refused State.inc
  split <;> exact ⟨Store.sorted_put h.regs, h.act, h.mem, h.evq, h.twq, h.offers, h.islBuf⟩

theorem refuse_inv {s : State} (h : s.Inv) (len : Bool) : (s.refuse len).Inv := by
  have k := setEvt_inv (refused_inv h len) 0x0F8 3 979 s.us
  unfold State.refuse
  dsimp only
  split
  · exact refused_inv k false
  · exact k

theorem offer_inv {s : State} (h : s.Inv) (o : Offer) : (s.offer o).Inv := by
  unfold State.offer
  split
  · exact h
  · split
    · exact refuse_inv h true
    · split
      · refine ⟨h.regs, h.act, h.mem, h.evq, h.twq, ?_, h.islBuf⟩
        simp only [List.length_append, List.length_singleton]
        omega
      · exact refuse_inv h false

theorem islPush_inv {s : State} (h : s.Inv) (t : Tok) : (s.islPush t).Inv := by
  unfold State.islPush
  split
  · refine ⟨h.regs, h.act, h.mem, h.evq, h.twq, h.offers, ?_⟩
    simp only [List.length_append, List.length_singleton]
    omega
  · exact ⟨h.regs, h.act, h.mem, h.evq, h.twq, h.offers, h.islBuf⟩

/-- Raising an event bit keeps the invariant. -/
theorem raiseBit_inv {s : State} (h : s.Inv) (pg b n : Nat) : (s.raiseBit pg b n).Inv := by
  unfold State.raiseBit
  split
  · dsimp only
    split
    · exact offer_inv (setEvt_inv h pg b n s.us) _
    · exact setEvt_inv h pg b n s.us
  · split
    · exact islPush_inv h _
    · exact h

/-- Raising an event keeps the invariant. -/
theorem raise_inv {s : State} (h : s.Inv) (n : Nat) : (s.raise n).Inv := by
  unfold State.raise
  split
  · exact raiseBit_inv h _ _ n
  · exact h

/-- Sending a token keeps the invariant. -/
theorem token_inv {s : State} (h : s.Inv) (src kind detail : Nat) : (s.token src kind detail).Inv := by
  unfold State.token
  dsimp only
  split
  · exact ⟨h.regs, h.act, h.mem, h.evq, h.twq, h.offers, h.islBuf⟩
  · split
    · exact islPush_inv h _
    · exact h

/-- A token with its event keeps the invariant. -/
theorem tokenEv_inv {s : State} (h : s.Inv) (src kind detail : Nat) : (s.tokenEv src kind detail).Inv := by
  unfold State.tokenEv
  split
  · exact token_inv (raise_inv h src) src kind detail
  · exact token_inv h src kind detail

end Sys2Proof.Machine
end

