-- ==== Sys2Proof/Machine/Pins.lean ====
section
/-!
DEFINITION. The balls of the package that no other file gives a level (Table 23.6), and the boundary-scan TAP (R553). No row
of the table of commands drives the TAP, so its operations stand here for who does (log entry 120).
-/

namespace Sys2Proof.Machine

/-! ### Balls (R547) -/

/-- The L-die is out of reset: it runs, or its boot is under way. -/
def State.ldieOut (s : State) : Bool := s.lUp || s.sys.boot.isSome

/-- XSn_RESET_N (R547): low while the L-die is held in reset, high from the start of its boot. -/
def State.xsReset (s : State) : Level := if s.ldieOut then .high else .low

/-- PE_CLKREQ_N (R547): driven low while the L-die is out of reset, released otherwise. -/
def State.clkreq (s : State) : Level := if s.ldieOut then .low else .tri

/-! ### The TAP (R553) -/

/-- The IDCODE: version, part, manufacturer identity, 1. -/
def idcode : Nat := 0x1 * 2 ^ 28 + 0x9648 * 2 ^ 12 + 2 * Config.manufacturer.toNat + 1

/-- An instruction enters the register while the TAP is not in reset, which it shares with the L-die. -/
def State.tapLoad (s : State) (i : TapInstr) : State :=
  if s.ldieOut then s.sysMod fun x => { x with tap := { x.tap with ir := i } } else s

/-- The instruction in force: EXTEST and CLAMP are accepted in BENCH only, and act as BYPASS in every other state. -/
def State.tapInstr (s : State) : TapInstr :=
  match s.sys.tap.ir with
  | .extest => if s.mode = .bench then .extest else .bypass
  | .clamp => if s.mode = .bench then .clamp else .bypass
  | i => i

/-- The balls that the boundary register covers: the 3.3 V and 1.8 V balls of Table 23.6, none of the VHV domain, the analog
balls, PCIe and the crystal, and no ball of the TAP itself. The order is the table's (DESIGN CHOICE, log entry 120). -/
def boundaryBalls : List String :=
  (List.range 48).map (fun n => "BAY" ++ toString n ++ "_ALT") ++ (List.range 64).map (fun n => "PH" ++ toString n ++ "_PWM")
  ++ (List.range 96).map (fun n => "RAIL" ++ toString n ++ "_EN")
  ++ ["TWT_SCL", "TWT_SDA", "TWT_ADDR0", "TWT_ADDR1"]
  ++ (List.range 8).flatMap (fun n => ["TWC" ++ toString n ++ "_SCL", "TWC" ++ toString n ++ "_SDA"])
  ++ ["IDX_TX", "IDX_DE", "IDX_RX", "IDX_SYNC"] ++ (List.range 4).map (fun n => "IDX_ADDR" ++ toString n)
  ++ ["PE_PERST_N", "PE_CLKREQ_N"]
  ++ (List.range 2).flatMap (fun n => ["_CS_N", "_SCK", "_DQS", "_DQ0", "_DQ1", "_DQ2", "_DQ3", "_DQ4", "_DQ5", "_DQ6", "_DQ7", "_RESET_N"].map
      fun x => "XS" ++ toString n ++ x)
  ++ ["RESET_N", "AUX_PFW_N", "FLT_P", "FLT_N", "TEST_MODE"]

/-- SAMPLE/PRELOAD and EXTEST load the boundary register from TDI. -/
def State.tapPreload (s : State) (x : List Bool) : State :=
  if s.tapInstr = .samplePreload ∨ s.tapInstr = .extest then
    s.sysMod fun y => { y with tap := { y.tap with boundary := x.take boundaryBalls.length } }
  else s

/-- The levels that the boundary register drives on its balls: under EXTEST and CLAMP; none of them otherwise. -/
def State.tapDrives (s : State) : Option (List Bool) :=
  if s.tapInstr = .extest ∨ s.tapInstr = .clamp then some s.sys.tap.boundary else none

/-- The bits between TDI and TDO, first bit out first: the IDCODE, the boundary register, or the one bit of BYPASS, which CLAMP
selects as well. -/
def State.tapChain (s : State) : List Bool :=
  match s.tapInstr with
  | .idcode => (List.range 32).map (bitOf idcode)
  | .samplePreload => s.sys.tap.boundary
  | .extest => s.sys.tap.boundary
  | .bypass => [false]
  | .clamp => [false]

end Sys2Proof.Machine
end

