-- ==== Sys2Proof/Tests/Slice0.lean ====
section
/-!
SUPPORT. Tests: the checks of WellFormed refuse an ill-formed term each, the machine does what worked examples and tables of the
manual say, and for every statement with hypotheses a state and operands that meet them, clause by clause.
-/

namespace Sys2Proof.Tests

open Sys2Proof.Machine

set_option Elab.async false

/-! ### Helpers -/

/-- Fields set in shadow and active value. -/
def fill (l : List (Fld × Nat)) (s : State) : State := l.foldl (fun t p => t.load p.1 p.2) s

/-- A device in RUN, 2 s after reset, with both journal macros and the four policy cores up, the PCIe link in L0 and memory space
enabled, both command paths enabled and LAST = 41. -/
def up : State :=
  fill [(cmd1F Reg.cmdLastSeq 0, 41), (cmd1F Reg.cmdJstatJm0ok 0, 1), (cmd1F Reg.cmdJstatJm1ok 0, 1), (polF Reg.polStatRunning 0, 1),
    (polF Reg.polStatRunning 1, 1), (polF Reg.polStatRunning 2, 1), (polF Reg.polStatRunning 3, 1), (cmd0F Reg.cmdCfgRingen 0, 1),
    (cmd0F Reg.cmdCfgTwen 0, 1), (pexF Reg.pexLinkSpeed 0, 3), (pexF Reg.pexLinkL0 0, 1), (pexF Reg.pexCmdMse 0, 1)]
    { mode := .run, us := 2000000 }

/-- The checks of the invariant in one value: the stores' forms, and each queue's length with its bound. -/
def invOk (s : State) : Bool :=
  [s.regs.sorted, s.act.sorted, s.mem.wf].all id
    && [(s.evq.length, 64), (s.twq.length, 64), (s.offers.length, 64), (s.islBuf.length, 256)].all fun p => p.1 ≤ p.2

/-- The invariant, from its checks. -/
theorem inv_of {s : State} (h : invOk s = true) : s.Inv where
  regs := by simp_all [invOk]
  act := by simp_all [invOk]
  mem := by simp_all [invOk]
  evq := by simp_all [invOk]
  twq := by simp_all [invOk]
  offers := by simp_all [invOk]
  islBuf := by simp_all [invOk]

namespace Boot
def xt (o e : Nat) : State := fill [(tmbF Reg.tmbStatOnint 0, o), (tmbF Reg.tmbStatPlllock 0, 1), (tmbF Reg.tmbStatXtalok 0,
    1 - o), (tmbF Reg.tmbCfgAutoret 0, 1)] { up with sys := { up.sys with xtalEver := e == 1, perst := false } }
def isl : State := fill [(regOk false, 1), (regOk true, 1)] up
def s0 : State := xt 0 1
def s1 : State := xt 1 0
def s2 : State := xt 1 1
def s3 : State := { up with mode := .off }
def s4 : State := isl
def s5 : State := fill [(regOk false, 0)] isl
def s6 : State := { isl with mode := .hold }
def s7 : State := { up with warmArmed := true, flt := { up.flt with order := some 5} }
def s8 : State := { up with mode := .hold }
def s9 : State := { up with mode := .hold, sys := { up.sys with rstN := true } }
def s10 : State := { up with mode := .hold, sys := { up.sys with boot := some 100 } }
def s11 : State := { up with sys := { up.sys with bridge := 2 }, flt := { up.flt with resets := [5, -600000000],
                                                                                      limUs := some 5 } }
def s12 : State := { up with mode := .hold, sys := { up.sys with boot := some 100, bridge := 2 } }
def s13 : State := up
def s14 : State := { up with pfwOn := true }
def s15 : State := fill [(cmd0F Reg.cmdCfgRingen 0, 0)] { up with pfwOn := true }
end Boot

namespace Pages
def msg (g : Bool) : State := fill [(evt0F Reg.evtCfgGen 0, 1), (pexF Reg.pexCmdBme 0, 1), (pexF Reg.pexCmdMsixen 0, 1),
    (evt1F Reg.evtRtEn0 236, 1), (evt1F Reg.evtRtVec0 236, 3)]
  { up with evPend := [944], vec := vmod up.vec 3 fun v => { v with masked := false, gap := g, held := g } }
def s0 : State := up
def s1 : State := fill [(pexF Reg.pexCmdMse 0, 0)] up
def s2 : State := { up with mode := .hold }
def s3 : State := fill [(hdr Reg.pgEvt 0x0F0, 3), (hdr Reg.pgEvten 0x0F0, 3), (hdr Reg.pgLock 0x0F0,
    1)] { up with evPend := [944], evq := [{src := 944}] }
def s4 : State := fill [(hdr Reg.pgLock 0x0F0, 0)] { up with mode := .bench }
def s5 : State := msg true
def s6 : State := msg false
def s7 : State := fill [(hdr Reg.pgEvten 0x0F0, 0xFFFFFFFF)] { msg false with evPend := [] }
def s8 : State := fill [(pexF Reg.pexCmdMse 0, 0)] (msg true)
def s9 : State := fill [(glbF Reg.glbLockstatStage 0, 1), (glbF Reg.glbLockstatFails 0, 3)] up
def s10 : State := fill [(glbF Reg.glbLockstatStage 0, 2)] up
def s11 : State := fill [(glbF Reg.glbLockstatLockout 0, 1)] up
def s12 : State := fill [(memF Reg.memOwnOwner 5,
    3)] { up with mem := [(5*0x100000, 7), (5*0x100000+16, 9)].map fun p => (p.1, (BitVec.ofNat 8 p.2)) }
def s13 : State := { up with mode := .hold, sys := { up.sys with perst := false, boot := some 5 }}
def s14 : State := fill [(pexF Reg.pexLinkL0 0, 1)] { up with sys := { up.sys with perst := false }}
def s15 : State := fill [(twtF Reg.twtCfgTouten 0, 1), (twtF Reg.twtCfgRegen 0, 1), (twtF Reg.twtCfgFasten 0,
    1)] { up with twPtr := 300 }
end Pages

namespace Journal
def stage (ws : List Nat) (s : State) : State := { s with twStage := (ws.flatMap fun w => natToBytes 4 w) }
def nopW : List Nat := cmdWords 0 3 { seq := 42, twoWire := true } []
def ring : State := fill [(cmd0F Reg.cmdCfgRingen 0, 1), (cmdfF Reg.cmdRtailIdx 0, 1), (cmd0F Reg.cmdRheadIdx 0, 1),
    (cmd0F Reg.cmdCfgTwen 0, 1)] up
def je : JEntry := { seq := 41, words := journalWords (cmdWords 0 3 { seq := 41 } []), applied := true }
def s0 : State := up
def s1 : State := { up with mode := .bench}
def s2 : State := ring
def s3 : State := fill [(cmd0F Reg.cmdCfgRingen 0, 0), (cmdfF Reg.cmdRtailIdx 0, 0)] ring
def s4 : State := fill [(cmdfF Reg.cmdPheadIdx 0, 1)] { ring with pfwOn := true, repHeld := [{words := [1,2,3,4]}] }
def s5 : State := { ring with jnl := [{ je with status := some (0, 0) }] }
def s6 : State := { ring with jnl := [{ je with status := some (0, 0), twoWire := true }] }
def s7 : State := { ring with jnl := [je] }
def s8 : State := stage nopW ring
def s9 : State := { stage nopW ring with pfwOn := true }
def s10 : State := fill [(cmd1F Reg.cmdJstatRebuild 0, 1)] ring
def s11 : State := fill [(cmd0F Reg.cmdCfgTwen 0, 0)] up
def s12 : State := fill [(hdr Reg.pgCbusy 0x066, 1), (hldF Reg.hldLvlVhold 0, 20)] { up with snapUs := [(0x066, 5)] }
def s13 : State := fill [(hdr Reg.pgCbusy 0x011, 1), (bayF Reg.bayIlimIlim 1, 20)] { up with snapUs := [(0x011, 5)] }
end Journal

namespace Bays
def bayW (role st : Nat) (f : BayS → BayS := id) : State := (fill [(bayF Reg.bayCfgRole 6, role), (bayF Reg.bayStatState 6, st),
    (bayF Reg.bayStatPresent 6, if st = 0 then 0 else 1), (bayF Reg.bayRshRsh 6, 250),
  (bayF Reg.bayIlimIlim 6, 100), (bayF Reg.bayRetryBudget 6, 3), (bayF Reg.bayRetryRwin 6, 10), (srvF Reg.srvValSample 336,
    24000), (bayF Reg.bayCtlArm 6, 1), (bayF Reg.bayVmeasVsys 6, 20000), (bayF Reg.bayVmeasVmod 6, 20000)] up).bayMod 6 f
def s0 : State := bayW 0 1
def s1 : State := bayW 0 3 (fun b => { b with alt := 2 })
def s2 : State := fill [(bayF Reg.bayCfgUrgopen 6, 1)] (bayW 2 3 (fun b => { b with alt := 2 }))
def s3 : State := bayW 1 3
def s4 : State := fill [(bayF Reg.bayCfgUrgopen 6, 1)] (bayW 2 6 (fun b => { b with alt := 2 }))
def s5 : State := bayW 0 2 (fun b => {b with train := true})
def s6 : State := fill [(bayF Reg.bayCfgThren 6, 1), (bayF Reg.bayAlimThstep 6, 3)] (bayW 2 10)
def s7 : State := bayW 0 8
def s8 : State := bayW 0 3
def s9 : State := bayW 0 4
def s10 : State := bayW 0 2 (fun b => {b with rampTimer := true})
def s11 : State := bayW 2 3
def s12 : State := bayW 0 4 (fun b => {b with slow := 100000000})
def s13 : State := bayW 0 6 (fun b => {b with retries := [1, 1000000]})
def s14 : State := bayW 1 7
def s15 : State := bayW 0 5
end Bays

namespace Loops
def lpUp (st : Nat) : State := fill [(loopF Reg.loopPhmaploPh 3, 0x60), (loopF Reg.loopStatState 3, st),
    (loopF Reg.loopDutyDmax 3, 60000), (loopF Reg.loopCfgSnsen 3, 1),
  (loopF Reg.loopIlimTlim 3, 0), (phF Reg.phStatState 5, if st = 2 || st = 3 then 1 else 0), (phF Reg.phStatState 6,
    if st = 2 || st = 3 then 2 else 0), (loopF Reg.loopRampRon 3, 100), (loopF Reg.loopRampRoff 3, 100),
  (coefF 3 0 0, 5000), (coefF 3 0 4, 99999), (loopF Reg.loopSnsLwin 3, 10), (loopF Reg.loopIsclIfs 3, 1000)] up
def lpm (f : LoopS → LoopS) (s : State) : State := s.loopMod 3 f
def phs (j st : Nat) (s : State) : State := fill [(phF Reg.phStatState j, st)] s
def cur (s : State) : State := fill [(loopF Reg.loopCfgMode 3, 1)] s
def swOpen (s : State) : State := fill [(loopF Reg.loopCfgStopmode 3, 1)] s
def s0 : State := lpUp 3
def s1 : State := lpm (fun x => { x with fresh := some 123456789 }) (lpUp 3)
def s2 : State := lpUp 1
def s3 : State := lpUp 4
def s4 : State := swOpen (lpUp 4)
def s5 : State := lpUp 5
def s6 : State := lpUp 0
def s7 : State := cur (lpUp 3)
def s8 : State := cur (lpUp 0)
def s9 : State := (phs 5 5 (lpUp 3)).phMod 5 (fun x => { x with rejoin := true })
def s10 : State := (phs 20 5 (lpUp 3)).phMod 20 (fun x => { x with rejoin := true })
def s11 : State := fill [(loopF Reg.loopStatPgood 3, 1), (phF Reg.phShedSheden 6, 1)] (lpUp 3)
def s12 : State := fill [(loopF Reg.loopStatPgood 3, 1), (phF Reg.phShedSheden 6, 1)] (phs 6 3 (lpUp 3))
end Loops

namespace Abacus
def lpUp (st : Nat) : State := fill [(loopF Reg.loopPhmaploPh 3, 0x60), (loopF Reg.loopStatState 3, st),
    (loopF Reg.loopDutyDmax 3, 60000), (loopF Reg.loopCfgSnsen 3, 1),
  (loopF Reg.loopIlimTlim 3, 0), (phF Reg.phStatState 5, if st = 2 || st = 3 then 1 else 0), (phF Reg.phStatState 6,
    if st = 2 || st = 3 then 2 else 0), (loopF Reg.loopRampRon 3, 100), (loopF Reg.loopRampRoff 3, 100),
  (coefF 3 0 0, 5000), (coefF 3 0 4, 99999), (loopF Reg.loopSnsLwin 3, 10), (loopF Reg.loopIsclIfs 3, 1000)] up
def lpm (f : LoopS → LoopS) (s : State) : State := s.loopMod 3 f
def cur (s : State) : State := fill [(loopF Reg.loopCfgMode 3, 1)] s
def s0 : State := up
def s1 : State := { lpUp 3 with abc := { pend := some { balim := [(6, 500), (7, 300)], lalim := [(3, 77)] } } }
def s2 : State := fill [(abc0F Reg.abcStatHoldup 0, 1), (hldF Reg.hldStatState 0, 2)] up
def s3 : State := { up with mode := .hold }
def s4 : State := fill [(hldF Reg.hldStatState 0, 1), (hldF Reg.hldLvlVrec 0, 350)] (cur (lpUp 3))
def s5 : State := fill [(hldF Reg.hldStatState 0, 2), (hldF Reg.hldLvlVrec 0, 350)] (cur (lpUp 3))
def s6 : State := fill [(hldF Reg.hldCfgLvlen 0, 1),(hldF Reg.hldStatState 0, 3), (hldF Reg.hldLvlVrec 0, 350),
    (abc0F Reg.abcStatHoldup 0, 1)] (lpm (fun x => { x with held := true }) (cur (lpUp 3)))
def s7 : State := fill [(cap0F Reg.capTrigSrcen 0, 0), (hldF Reg.hldCfgEn 0, 1), (hldF Reg.hldCfgLvlen 0, 1),
    (hldF Reg.hldLvlVhold 0, 400), (hldF Reg.hldCfgGrpen 0, 3), (abc3F Reg.abcMapgrpEn 1, 1), (abc3F Reg.abcMapgrpLoop 1, 3),
    (loopF Reg.loopCfgType 3, 2)] (cur (lpUp 3))
def s8 : State := fill [(loopF Reg.loopIsclIfs 0, 1000), (loopF Reg.loopIsclIfs 3, 1000), (abc3F Reg.abcMapgrpEn 1, 1),
    (abc3F Reg.abcMapgrpLoop 1, 3)] up
def s9 : State := fill [(bal0F Reg.balCfgEn 0, 1)] { lpUp 3 with abc := { raw := some { r := 55, s := 1000, weight := 3 } } }
def s10 : State := fill [(bal0F Reg.balCfgEn 0, 1), (bal0F Reg.balCfgTelen 0, 1), (twcF Reg.twcCfgEn 2, 1),
    (twcFk Reg.twcMapEn 2 4, 1), (twcFk Reg.twcMapBay 2 4, 6), (twcFk Reg.twcMapAddr 2 4, 0x33), (twcF Reg.twcStatState 2, 1),
    (bayF Reg.bayCfgRole 6, 0)] (fill ((List.range 48).map fun n => (bayF Reg.bayCfgRole n,
    1)) { up with bal := { void := 1001, n := 4 } })
end Abacus

namespace Strings
def batUp (n : Nat) : State := fill [(batF Reg.batCfgEn n, 1), (batF Reg.batCfgBay n, 7), (batF Reg.batCfgGroup n, 2),
    (batF Reg.batStatSvc n, 2), (batF Reg.batStatLstate n, 2),
  (bayF Reg.bayStatPresent 7, 1), (bayF Reg.bayStatState 7, 3), (batF Reg.batTimeRoten n, 1), (abc3F Reg.abcMapgrpEn 2, 1),
    (abc3F Reg.abcMapgrpLoop 2, 3), (loopF Reg.loopCfgMode 3, 1), (loopF Reg.loopStatState 3, 3),
  (loopF Reg.loopCfgType 3, 2), (batF Reg.batStatFull n, 1), (twcF Reg.twcCfgEn 2, 1), (twcFk Reg.twcMapEn 2 4, 1),
    (twcFk Reg.twcMapBay 2 4, 7), (twcFk Reg.twcMapAddr 2 4, 0x33), (twcF Reg.twcStatState 2, 1)] up
def bm (n : Nat) (f : BatS → BatS) (s : State) : State := s.batMod n f
def je (n : Nat) (w : Wait) : JEntry :=
    { seq := 41, words := journalWords (cmdWords 0x600 n { seq := 41 } [0, 0]), applied := true, wait := w }
def late : State → State := fun s => { s with us := 100000000000000 }
def s0 : State := batUp 3
def s1 : State := bm 3 (fun b => { b with charged := true }) (batUp 3)
def s2 : State := bm 3 (fun b => { b with socA := 50, ql := 36000000}) (fill ([(batF Reg.batStatPseudo 3, 1),
    (srvF Reg.srvValSample 259, 2600)] ++ (List.range 168).reverse.map (fun p => (batFk Reg.batZZ 3 p,
    50)) ++ (List.range 168).reverse.map (fun p => (batFk Reg.batOcvE 3 p, 3000))) (batUp 3))
def s3 : State := late (batUp 3)
def s4 : State := fill [(bayF Reg.bayStatState 7, 0)] (batUp 3)
def s5 : State := bm 3 (fun b => { b with cal := true }) (fill [(bayF Reg.bayStatState 7, 0)] (batUp 3))
def s6 : State := bm 3 (fun b => { b with tries := some 1 }) (batUp 3)
def s7 : State := { batUp 3 with recDue := true }
def s8 : State := bm 3 (fun b => { b with due := true }) (batUp 3)
def s9 : State := { batUp 3 with jnl := [je 3 (.learn 3)] }
def s10 : State := { bm 3 (fun b => { b with rest := 2 }) (batUp 3) with jnl := [je 3 (.restOpen 3)] }
def s11 : State := fill [(pol0F Reg.polHpmBat 0, 1), (abc0F Reg.abcGdisDis 3, 55)] (batUp 3)
def s12 : State := (batUp 3).moveMod 2 (fun m => { m with on := true, pow := 100 })
def s13 : State := bm 3 (fun b => { b with rest := 3 }) (batUp 3)
def s14 : State := up
def s15 : State := { batUp 3 with sys := { (batUp 3).sys with grace := some 5 }, mem := [(3,4)] }
def s16 : State := fill [(thmF Reg.thmCfgEn 2, 1), (thmF Reg.thmCfgEn 0, 1), (thmF Reg.thmCfgR26 2, 10000),
    (thmF Reg.thmCfgR26 0, 10000),(thmF Reg.thmCfgBeta 2, 3500), (thmF Reg.thmCfgBeta 0, 3500)] up
def s17 : State := { up with mode := .bench }
def s18 : State := { up with mode := .hold, sys := { up.sys with bist := some (0, 0, 41, 1000) } }
def s19 : State := { up with mem := [(10,4), (wordAddr 70 5, 6)], sys := { up.sys with bist := some (1, 70, 41, 1000) } }
def s20 : State := { up with mode := .boot, sys := { up.sys with present := false } }
def s21 : State := { up with mode := .bench, sys := { up.sys with bist := some (2, 0, 41, 1000) } }
end Strings

namespace Flights
def flUp (st dn : Nat) : State := fill ([(flF Reg.flStatState 2, st), (flF Reg.flStatDirnow 2, dn), (flF Reg.flCfgPair 2,
    5)] ++ [(trdF Reg.flOnIn 2 4, 1), (trdF Reg.flDlDl 2 4, 500), (trdF Reg.flOnIn 2 104, 1), (trdF Reg.flDlDl 2 104, 500),
  (seq0F Reg.seqRailLvlUv 4, 100), (seq0F Reg.seqRailLvlOv 4, 400), (seq0F Reg.seqRailLvl2Off 4, 20)]) up
def fm (g : FlightS → FlightS) (s : State) : State := s.flMod 2 g
def td (e k : Nat) : Tread := { ent := e, slot := 100, dl := 700, at_ := k }
def mast : List (Fld × Nat) := [(idxF Reg.idxCfgEn 0, 1), (idxF Reg.idxStatMaster 0, 1)]
def slav : List (Fld × Nat) := [(idxF Reg.idxCfgEn 0, 1), (idxF Reg.idxStatMaster 0, 0), (idxF Reg.idxStatAddr 0, 4),
    (idxF Reg.idxStatMheard 0, 1)]
def s0 : State := flUp 0 0
def s1 : State := flUp 3 0
def s2 : State := fm (fun x => { x with landUs := 1999000, treads := [td 4 1, td 104 0] }) (flUp 3 1)
def s3 : State := fm (fun x => { x with treads := [td 4 0] }) (flUp 1 0)
def s4 : State := fm (fun x => { x with treads := [td 4 1, td 104 1], lands := [(5, 4, true)] }) (flUp 1 0)
def s5 : State := fm (fun x => { x with treads := [td 4 1, td 104 1], lands := [(5, 4, false)] }) (flUp 2 1)
def s6 : State := flUp 4 0
def s7 : State := fm (fun x => { x with cond := true }) (flUp 4 0)
def s8 : State := fill [(seq0F Reg.seqEntOvoff 4, 0)] up
def s9 : State := up.railMod 4 (fun r => { r with good := true, on := true, fell := false })
def s10 : State := (fill [(seq0F Reg.seqRailLvlUv 4, 100), (seq0F Reg.seqRailLvlOv 4, 400), (seq0F Reg.seqRailLvl2Off 4, 20),
    (srvF Reg.srvValSample 164, 3000), (seq0F Reg.seqEntOvoff 4,
    0)] up).railMod 4 (fun r => { r with good := false, on := false })
def s11 : State := (fill [(seq0F Reg.seqRailLvlUv 4, 100), (seq0F Reg.seqRailLvlOv 4, 400), (seq0F Reg.seqRailLvl2Off 4, 20),
    (srvF Reg.srvValSample 164, 7000), (seq0F Reg.seqEntOvoff 4,
    0)] up).railMod 4 (fun r => { r with good := true, on := true })
def s12 : State := (fill [(seq0F Reg.seqRailLvlUv 4, 100), (seq0F Reg.seqRailLvlOv 4, 400), (seq0F Reg.seqRailLvl2Off 4, 20),
    (srvF Reg.srvValSample 164, 7000), (seq0F Reg.seqEntOvoff 4,
    1)] up).railMod 4 (fun r => { r with good := true, on := true })
def s13 : State := fill mast up
def s14 : State := fill slav up
def s15 : State := fill (slav ++ [(idxF Reg.idxPeerHeard 3, 1), (idxF Reg.idxPeersExpect 0, 8)]) up
def s16 : State := fill (slav ++ [(idxF Reg.idxPeerLost 3, 1)]) up
end Flights

namespace Ties
def tieUp (st role : Nat) : State := fill [(tieF Reg.tieCfgEn 1, 1), (tieF Reg.tieCfgBay 1, 6), (tieF Reg.tieCfgDrp 1, 2),
    (tieF Reg.tieCfgIdef 1, 40),
  (tieF Reg.tieCfgMoisten 1, 1), (tieF Reg.tieCfgAccen 1, 1), (tieF Reg.tieCfgAccswap 1, 1), (tieF Reg.tieStatState 1, st),
    (tieF Reg.tieStatRole 1, role),
  (bayF Reg.bayCfgRole 6, 3), (bayF Reg.bayCfgLink 6, 1), (bayF Reg.bayCtlArm 6, 1), (bayF Reg.bayRshRsh 6, 250),
  (tieF Reg.tieCableIunm 1, 60), (tieF Reg.tieCableImark 1, 100), (tieF Reg.tieAdv2Imax 1, 100), (tieF Reg.tieAdvVmax 1, 500),
    (tieF Reg.tiePolPexp 1, 500),
  (abc0F Reg.abcExpheadExp 0, 8000), (bayF Reg.bayStatState 6, if 3 ≤ st then 3 else 0)] up
def tmod (f : TieS → TieS) (s : State) : State := s.tieMod 1 f
def supObj : Nat := 100 + 1024 * 500 + 1048576 * 100
def over1 (st lim : Nat) : State := fill [(tieF Reg.tieConreqObj 1, 0x80000001 + 8 * 20 + 8192 * 100),
    (tieF Reg.tieStatLimited 1, lim), (bayF Reg.bayPwrPwr 6, 2^24 - 2000)] (tieUp st 1)
def s0 : State := tieUp 0 1
def s1 : State := tieUp 1 1
def s2 : State := tmod (fun x => { x with cls := 2 }) (tieUp 1 1)
def s3 : State := tmod (fun x => { x with cls := 3, acc := true }) (tieUp 1 1)
def s4 : State := tmod (fun x => { x with tx := some { typ := 3, id := 1, objs := [5], sent := 1 }, ended := true,
                                          capsTimer := true }) (tieUp 5 1)
def s5 : State := tmod (fun x => { x with tx := some { typ := 7, id := 1, objs := [5], sent := 3 }, ended := true,
                                          await := 2 }) (tieUp 4 1)
def s6 : State := tmod (fun x => { x with tx := some { typ := 8, id := 1, objs := [5], sent := 3 }, ended := true, await := 7,
                                          capsN := 50, capsTimer := true }) (tieUp 3 1)
def s7 : State := tieUp 5 1
def s8 : State := tmod (fun x => { x with capsSent := [supObj, 0x40000000 + 100], await := 3 }) (tieUp 5 1)
def s9 : State := tmod (fun x => { x with req := some (0x80000001 + 8 * 20 + 8192 * 100, supObj, 0x40000000 + 100),
                                          await := 7 }) (fill [(srvF Reg.srvValSample 54, 10000)] (tieUp 4 0))
def s10 : State := tmod (fun x => { x with req := some (0x80000001 + 8 * 20 + 8192 * 100, supObj, 0x40000000 + 100),
                                           await := 7 }) (fill [(srvF Reg.srvValSample 54, 1000)] (tieUp 4 0))
def s11 : State := tmod (fun x => { x with await := 7, backoff := true, swapTo := some true }) (tieUp 5 1)
def s12 : State := tmod (fun x => { x with await := 3 }) (tieUp 6 0)
def s13 : State := tmod (fun x => { x with last := some (2, 1) }) (tieUp 5 1)
def s14 : State := tmod (fun x => { x with last := some (3, 1) }) (tieUp 5 1)
def s15 : State := tmod (fun x => { x with last := some (4, 1) }) (tieUp 5 1)
def s16 : State := tmod (fun x => { x with last := some (5, 1) }) (tieUp 5 1)
def s17 : State := tmod (fun x => { x with last := some (6, 1) }) (tieUp 5 1)
def s18 : State := tmod (fun x => { x with last := some (7, 1) }) (tieUp 5 1)
def s19 : State := tmod (fun x => { x with last := some (8, 1) }) (tieUp 5 1)
def s20 : State := tieUp 9 1
def s21 : State := tmod (fun x => { x with swapTo := some false }) (tieUp 5 1)
def s22 : State := over1 5 0
def s23 : State := over1 5 1
def s24 : State := fill [(bayF Reg.bayPwrPwr 6, 0)] (over1 5 1)
def s25 : State := over1 7 0
def s26 : State := { over1 5 0 with mode := .hold }
def s27 : State := fill [(tieF Reg.tieCfgHost 1, 1)] (tieUp 5 1)
def s28 : State := fill [(tieF Reg.tieCfgHost 1, 1), (tieF Reg.tieRxhdrHdr 1, 128), (tieFk Reg.tieRxcapObj 1 0,
    supObj)] (tieUp 5 0)
end Ties

namespace Ports
def tw (st : Nat) : State := fill [(twcF Reg.twcCfgEn 2, 1), (twcFk Reg.twcMapEn 2 4, 1), (twcFk Reg.twcMapBay 2 4, 7),
    (twcFk Reg.twcMapAddr 2 4, 0x33), (twcF Reg.twcStatState 2, st), (twcF Reg.twcCfgRetry 2, 2),
  (bayF Reg.bayStatState 7, 3), (bayF Reg.bayCfgRole 7, 2)] up
def xr (x : Xact) (s : State) : State := s.twMod 2 fun t => { t with run := some x }
def s0 : State := xr { cls := 3, addr := 0x33 } (tw 2)
def s1 : State := xr { cls := 3, retries := 2, losses := 7 } (tw 2)
def s2 : State := xr { cls := 1, arg := 3, again := true } (tw 2)
def s3 : State := tw 1
def s4 : State := xr { cls := 3 } (tw 2)
def s5 : State := tw 3
def s6 : State := tw 4
def s7 : State := (tw 4).twMod 2 (fun t => { t with skipped := [4], taken := [4], ask := none })
def s8 : State := (tw 5).twMod 2 (fun t => { t with judge := true})
end Ports

namespace Capture
def own (l : List (Nat × Nat)) (s : State) : State := fill (l.map fun p => (memF Reg.memOwnOwner p.1, p.2)) s
def t64 (k : Nat) (s : State) : State := { s with us := 64 * k }
def cmpF : List (Fld × Nat) := [(cap2F Reg.capCmpEn 3, 1), (cap2F Reg.capCmpCh 3, 280), (cap2F Reg.capCmpDeb 3, 1),
    (cap2F Reg.capCmpMode 3, 1), (cap2F Reg.capCmpLvlLo 3, 500), (cap0F Reg.capTrigSrcen 0, 15), (cap0F Reg.capCfgEn 0, 1)]
def strU : State := fill [(str0F Reg.strCfgEn 0, 1), (pexF Reg.pexLinkL0 0, 1), (pexF Reg.pexCmdBme 0, 1),
    (str0F Reg.strDsizeSize 0, 4), (str0F Reg.strCsizeSize 0, 4), (str0F Reg.strDtailIdx 0, 3), (str0F Reg.strCheadIdx 0,
    5)] (own [(10, 2), (11, 2)] up)
def fr (t : Nat) : FrameR := { typ := t, us := 5, fseq := 1, segs := [(10, 0, 6)] }
def buf (u : Nat) : BufS := { idx := 1, addr := 4096, room := 1000, used := u }
def s0 : State := up
def s1 : State := t64 5000 (fill [(memF Reg.memOwnReq 10, 2), (memF Reg.memOwnPending 10, 1), (cap0F Reg.capCfgEn 0,
    1)] (own [(10, 1), (11, 1)] up))
def s2 : State := fill ((cap1F Reg.capWinStatState 1, 2) :: (cap1F Reg.capWinStatSlot 1, 4) :: cmpF) up
def s3 : State := fill cmpF up
def s4 : State := { strU with str := {} }
def s5 : State := { strU with str := { ring := { frames := [fr 3, fr 1] }, buf := some (buf 20) } }
def s6 : State := { strU with str := { ring := { frames := [fr 3, fr 1] }, buf := some (buf 20), lost := some (4, 2) } }
def s7 : State := { strU with str := { buf := some (buf 20)} }
def s8 : State := own [(10, 2)] up
end Capture

namespace Log
def g1 (g : GalS) : State := { up with gal := g }
def r1 (n : Nat) : Rec := { typ := 1, seq := n, payload := [1, 2, 3], atUs := 0 }
def s0 : State := { up with offers := [{ typ := 5, src := 77, payloads := [[1, 2], [3]] }, { typ := 6, src := 1,
                                                                                             payloads := [[9]] }] }
def s1 : State := { g1 { tail := [{ r1 1 with payload := List.replicate 65530 0 }] } with offers := [{ typ := 5, src := 77,
                                                                                                       payloads := [[1, 2],
    [3]] }] }
def s2 : State := fill [(gal0F Reg.galStatFstate 0, 2)] (g1 { tail := [r1 1, r1 2], spill := [r1 9] })
def s3 : State := fill [(gal0F Reg.galStatFstate 0, 1)] (g1 { tail := [r1 1, r1 2], spill := [r1 9] })
def s4 : State := { up with us := 878907 }
def s5 : State := fill [(gal0F Reg.galStatFstate 0,
    1)] { g1 { tail := [r1 1], spill := [r1 9] } with offers := [{ typ := 5, src := 77, payloads := [[1, 2], [3]] }] }
def s6 : State := g1 { tail := [r1 1, r1 2, r1 3] }
def s7 : State := g1 { tail := [r1 1], tload := true, load := true }
def s8 : State := g1 { tail := [r1 1, r1 2, r1 3], next := 4 }
def s9 : State := fill [(gal0F Reg.galStatKeyset 0, 1)] (g1 { key := some [1,2,3,4,5,6,7,8] })
end Log

namespace Faults
def k0 : Tok := { src := 320, kind := 3, detail := 5, us := 100 }
def s0 : State := fill [(flt1F Reg.fltOvrClass 0, 0), (flt1F Reg.fltOvrEn 0, 1), (flt1F Reg.fltOvrSrc 0, 320),
    (flt1F Reg.fltOvrKind 0, 2)] { up with tokenQ := [{ k0 with kind := 2 }] }
def s1 : State := { up with flt := { units := [{ src := 320, chan := 5, us := 5, w := 1}, { src := 320, chan := 5,
                                                                                            us := 2000000, w := 1}] } }
def s2 : State := fill [(flt0F Reg.fltCfgHben 0, 1)] up
def s3 : State := fill [(flt0F Reg.fltCfgHben 0, 1)] { up with flt := { pairFail := true} }
def s4 : State := fill [(nvcF Reg.nvcStatDev0ok 0,
    1)] { up with mem := [(wordAddr 2 0, 7)], sys := { up.sys with xfer := some (2, 2, 2, 2) } }
def s5 : State := fill [(nvcF Reg.nvcXdstSlot 0, 2), (nvcF Reg.nvcXlenLen 0, 4), (nvcF Reg.nvcXsrcBank 0, 10),
    (memF Reg.memOwnOwner 10, 3)] up
def s6 : State := { up with sys := { up.sys with verify := some 2 } }
def s7 : State := fill [(polF Reg.polStatRunning 3, 0)] up
def s8 : State := { up with sys := { up.sys with mbx := [(0, [0x0001])] } }
def s9 : State := { up with sys := { up.sys with mbx := [(1, [0x0101 + 3 * 65536, 2, 100, 200])] } }
def s10 : State := { up with sys := { up.sys with mbx := [(1, [0x0102 + 65536, 2])] } }
def s11 : State := { up with sys := { up.sys with mbx := [(2, [0x0201])] } }
def s12 : State := { up with sys := { up.sys with mbx := [(2, [0x0205])] } }
def s13 : State := fill [(pol0F Reg.polHpmBat 0,
    1)] { up with sys := { up.sys with mbx := [(1, [0x0101 + 3 * 65536, 2, 100, 200])] } }
def s14 : State := fill [(loopF Reg.loopStatState 3, 3), (loopF Reg.loopStatPgood 3, 1), (loopF Reg.loopPerPer 3, 400),
    (loopF Reg.loopCfgType 3, 2), (loopF Reg.loopCfgMode 3, 1), (abc3F Reg.abcMapgrpEn 2, 1), (abc3F Reg.abcMapgrpLoop 2, 3),
    (batF Reg.batCfgEn 5, 1), (batF Reg.batCfgGroup 5, 2), (batF Reg.batTax0T 5, 25), (batF Reg.batNameQnom 5, 1000),
    (lanF Reg.lanZcfgZauto 0, 1)] (up.batMod 5 fun b => { b with socA := 50, ql := 3600000 })
def s15 : State := fill [(loopF Reg.loopStatState 3, 3), (loopF Reg.loopStatPgood 3, 1), (loopF Reg.loopPerPer 3, 400),
    (loopF Reg.loopCfgType 3, 2), (loopF Reg.loopCfgMode 3, 1)] up
def s16 : State := fill [(lanF Reg.lanStatState 0, 1), (lanF Reg.lanStatLoop 0,
    3)] { up with lan := { seq := some 9, npts := 5, fstart := 100, fstop := 900 } }
def s17 : State := fill [(lanF Reg.lanStatState 0, 2), (lanF Reg.lanStatLoop 0,
    3)] { up with lan := { npts := 1, fstart := 100, fstop := 900 } }
end Faults

/-! ### Ill-formed commands, one for each check -/

theorem test_wf_bay : Instr.wf (.urgent 48) = false := by decide
theorem test_wf_string : Instr.wf (.pseudoOcv 24) = false := by decide
theorem test_wf_rail : Instr.wf (.railGood 96 false) = false := by decide
theorem test_wf_entity : Instr.wf (.upDeadline 0 160 false) = false := by decide
theorem test_wf_bank : Instr.wf (.ownershipGrant 80) = false := by decide
theorem test_wf_bank_word : Instr.wf (.streamRead [(64, 8192)] []) = false := by decide
theorem test_wf_channel : Instr.wf (.frameStart [(384, [])] []) = false := by decide
theorem test_wf_supply : Instr.wf (.supplyOut 5) = false := by decide
theorem test_wf_args : Instr.wf (.pageSet 0 {} (List.replicate 13 0)) = false := by decide
theorem test_wf_address : Instr.wf (.registerWrite 0 0x200000 0 15) = false := by decide
theorem test_wf_lock_path : Instr.wf (.glbLockkey 2 0) = false := by decide
theorem test_wf_ltssm : Instr.wf (.pcieLinkChange 0 0 false false false 9) = false := by decide
theorem test_wf_entry : Instr.wf (.cmdRtailWrite 1 [(0, [])] 0) = false := by decide
theorem test_wf_phases : Instr.wf (.loopSample 0 0 (List.replicate 17 0) 0) = false := by decide
theorem test_wf_offer : Instr.wf (.recordOffer (some (0, 0, [])) 0) = false := by decide
theorem test_wf_part : Instr.wf (.snapshotApply 0x050 5) = false := by decide

/-! ### Worked examples of the manual -/

/-- A page that reads: the value of a dword read over BAR0. -/
def bar0Read (addr : BitVec 26) (s : State) : Option Nat :=
  match exec (.rcRead 0 addr 0) s with
  | .next t => some t.rdata
  | _ => none

/-- "Example — BAY7 by both paths": PG_ID of BAY7. -/
theorem test_bay7_id : bar0Read 0x17000 up = some 0x00100700 := by decide +kernel

/-- The same example: 0x00270000 at BAR0 + 0x0509C routes EV94 to vector 7 and enables it. -/
theorem test_bay7_route :
    (match exec (.registerWrite 0 0x0509C 0x00270000 15) up with
     | .next t => (t.rd (evt1F Reg.evtRtVec2 23), t.rd (evt1F Reg.evtRtEn2 23), evBit 94)
     | _ => (0, 0, none)) = (7, 1, some (0x017, 2)) := by decide +kernel

/-- The same example: the third key word unlocks page 0x0A0, and bit 4 of its PG_STAT, LOCKED, then reads 0. -/
theorem test_unlock_target_page :
    let s := fill [(glbF Reg.glbLockstatStage 0, 2), (hdr Reg.pgLock 0x0A0, 1)] up
    (bar0Read 0xA0010 s).map (bitOf · 4) = some true
    ∧ (match exec (.glbLockkey 0 0xC3A500A0) s with
       | .next t => (bar0Read 0xA0010 t).map (bitOf · 4)
       | _ => none) = some false := by decide +kernel

/-- "Example — a block boundary": 12 bytes from pointer 0x7058 with TWT_WIN = 1; the pointer stands at 0x7060, and the two RWJ
registers raise JREJ. -/
theorem test_block_boundary :
    (match exec (.registerTargetWrite [0x70, 0x58, 0xFF, 0xFF, 0xFF, 0xFF, 0xFF, 0xFF, 0xFF, 0xFF, 1, 0, 0, 0])
        (fill [(twtF Reg.twtWinWin 0, 1), (twtF Reg.twtCfgRegen 0, 1)] up) with
     | .next t => (t.twPtr, t.evtSet 0x017 31, t.rd (bayF Reg.bayCtlArm 7))
     | _ => (0, false, 9)) = (0x7060, true, 0) := by decide +kernel

/-- The consumers of Table 8.4. -/
def table84 : List Consumer :=
  [{ rod := 8, prio := 7, wt := 1, floor := 16000, ceil := 32000, meas := 24800, dem := 27280 },
   { rod := 9, prio := 5, wt := 1, floor := 12000, ceil := 25600, meas := 23200, dem := 25520 },
   { rod := 10, prio := 2, wt := 1, floor := 4000, ceil := 24000, meas := 9600, dem := 10560 },
   { rod := 11, prio := 2, wt := 3, floor := 4000, ceil := 24000, meas := 8000, dem := 8800 },
   { rod := 12, prio := 7, wt := 1, floor := 3200, ceil := 3200, meas := 3200, dem := 3200 }]

/-- "Example — a settle at the cap": the grants of 63,520 beads. -/
theorem test_settle_at_the_cap :
    ((grants 63520 false table84).1.map fun x => x.got) = [24800, 23200, 5080, 7240, 3200] := by decide +kernel

/-- The example under R458: 8,760 h, 2 min and 49.119 s of island operation read OPH 0x022380C0 and SUB 0x5A1B4. -/
theorem test_oph :
    ({ up with gal := {} } : State).oph 31536169119076 = 0x022380C0 ∧ ophSub 31536169119076 = 0x5A1B4 := by decide +kernel

/-- The thermistor example of chapter 18: 0.6667 V, 10 kΩ, BETA 3,435 K read 353 (44.125 °C). -/
theorem test_thermistor : thermistor 666700 1000 3435 = some 353 := by decide +kernel

/-- R553: EXTEST is accepted in BENCH, and acts as BYPASS in RUN. -/
theorem test_tap_extest :
    (up.tapLoad .extest).tapInstr = .bypass ∧ (State.tapLoad { up with mode := .bench } .extest).tapInstr = .extest := by decide +kernel

/-! ### The hypotheses of the statements about the machine -/

theorem witness_stepRunsFront : ({ up with pending := [.heartbeat, .islandLoss] } : State).pending = .heartbeat :: [.islandLoss] := rfl

theorem witness_emptyQueueCountsTime :
    up.pending = [] ∧ up.mode ≠ .off ∧ ({ up with mode := .off } : State).pending = [] ∧ ({ up with mode := .off } : State).mode = .off := by
  decide

theorem witness_stepKeepsInv : up.Inv ∧ ∃ t, step { up with pending := [.heartbeat] } = .next t :=
  ⟨inv_of (by decide +kernel), _, rfl⟩

theorem witness_everyCommandCompletes :
    (∀ a t x h, Instr.islandLoss ≠ .coldReset true a t x h)
    ∧ ({ up with mode := .off } : State).mode = .off ∧ (true = true ∨ false = true) := ⟨by nofun, rfl, .inl rfl⟩

theorem witness_queueAndClockFrame :
    (∃ t, exec .heartbeat up = .next t) ∧ ∀ m a w x h, Instr.heartbeat ≠ .coldReset m a w x h := ⟨⟨_, rfl⟩, by nofun⟩

theorem witness_modeMoves : ∃ t, exec .islandLoss up = .next t ∧ t.mode ≠ up.mode := ⟨_, rfl, by decide +kernel⟩

/-- The active firmware slot is 0 and the index of its image is 5; IMG_SELECT of slot 0 with RBADV. -/
def rbState : State := { up with sys := { up.sys with slots := [(slotLo 0 + 3, 5)] } }

theorem witness_rollbackCounter :
    ∃ t, exec (.imgSelect 0 { seq := 42 } 0 1) rbState = .next t
      ∧ rbState.rd (pol0F Reg.polRbcntCnt 0) < t.rd (pol0F Reg.polRbcntCnt 0) := ⟨_, rfl, by decide +kernel⟩

theorem witness_retirementsSurviveResets :
    5 < [48, 64, 384, 8, 4, 80, 16].getD 0 0 ∧ (up.setRetired 0 5 true).retired 0 5 = true
    ∧ (∃ t, exec (.coldReset false 0 0 true true) { up.setRetired 0 5 true with mode := .off } = .next t)
    ∧ (∃ t, exec .islandLoss (up.setRetired 0 5 true) = .next t) :=
  ⟨by decide, by decide +kernel, ⟨_, rfl⟩, ⟨_, rfl⟩⟩

/-- A full event queue. -/
def fullQueue : State := { up with evq := List.replicate 64 { src := 7, stamp := 9 } }

theorem witness_eventQueue :
    up.evq.length < 64 ∧ 64 ≤ fullQueue.evq.length ∧ fullQueue.evq.length ≤ 64
    ∧ (fullQueue.lUp = true ∧ fullQueue.evq = { src := 7, stamp := 9 } :: List.replicate 63 { src := 7, stamp := 9 } ∧ 7 < 1024 ∧ 9 < 2 ^ 20)
    ∧ (up.lUp = true ∧ up.evq = []) := by decide +kernel

theorem witness_pairFailure :
    up.islandUp = true ∧ up.flt.pairFail = false ∧ up.lUp = true
    ∧ ({ up with flt := { up.flt with pairFail := true } } : State).flt.pairFail = true
    ∧ (∃ t, exec .heartbeat { up with flt := { up.flt with pairFail := true } } = .next t)
    ∧ ({ up with mode := .off } : State).mode = .off ∧ (true = true ∨ false = true) :=
  ⟨by decide +kernel, by decide +kernel, by decide +kernel, rfl, ⟨_, rfl⟩, rfl, .inl rfl⟩

/-- Stage 1 of the lock key sequence, taken over BAR0. -/
def keyUp : State := fill [(glbF Reg.glbLockstatStage 0, 1)] up

theorem witness_emptyOffsets :
    keyUp.Inv ∧ keyUp.serves 0 = true ∧ keyUp.serves 3 = true ∧ pageListed 0x1FF = false ∧ (0x1FF < 512 ∧ 0xFFC < 0x1000 ∧ 0xFFC % 4 = 0)
    ∧ pageListed 0x017 = true ∧ 0x028 ≤ 0x028 ∧ 0x03C < 0x040 ∧ fieldsAt 0x017 0x068 = [] ∧ keyUp.liveWord 0x017 0x068 = none
    ∧ keyUp.writeAction 0x017 0x068 7 = none ∧ fieldsAt 0x017 0xFFC = [] ∧ keyUp.liveWord 0x017 0xFFC = none
    ∧ keyUp.writeAction 0x017 0xFFC 7 = none
    ∧ bitOf ((fill [(hdr Reg.pgEvten 0, 16)] up).rd (hdr Reg.pgEvten 0)) 4 = true :=
  ⟨inv_of (by decide +kernel), by decide +kernel⟩

/-- The ARM field of BAY7. -/
def bay7Arm : Fld := bayF Reg.bayCtlArm 7

theorem witness_journaledFields :
    up.Inv ∧ up.serves 0 = true ∧ up.serves 3 = true ∧ pageListed 0x017 = true ∧ pageJrnl 0x017 = true ∧ bay7Arm ∈ fieldsAt 0x017 0x060 ∧ bay7Arm.acc = .rwj
    ∧ bits 1 bay7Arm.lo bay7Arm.width ≠ bits (up.pageWord 0x017 0x060) bay7Arm.lo bay7Arm.width
    ∧ bitOf ((fill [(hdr Reg.pgEvten 0x017, 2 ^ 31)] up).rd (hdr Reg.pgEvten 0x017)) 31 = true
    ∧ (∀ f ∈ fieldsAt 0x017 0x060, f.acc = .rwj →
        bits (up.pageWord 0x017 0x060) f.lo f.width = bits (up.pageWord 0x017 0x060) f.lo f.width)
    ∧ up.writeAction 0x0C0 0x040 5 = none ∧ (∃ f ∈ fieldsAt 0x0C0 0x040, f.acc = .rw)
    ∧ bits 1 0 1 ≠ up.rd (hdr Reg.pgEnable 0x017) ∧ bits 0 0 2 = up.rd (hdr Reg.pgEnable 0x017) :=
  ⟨inv_of (by decide +kernel), by decide +kernel⟩

/-- The page 0x0A0 is locked. -/
def lockedUp : State := fill [(hdr Reg.pgLock 0x0A0, 1)] up

theorem witness_lockBits :
    lockedUp.Inv ∧ lockedUp.serves 0 = true ∧ lockedUp.serves 3 = true ∧ pageListed 0x0A0 = true ∧ pageLockable 0x0A0 = true ∧ pageListed 0x017 = true
    ∧ pageLockable 0x017 = false ∧ bitOf 2 0 = false ∧ bitOf 1 0 = true ∧ lockedUp.rd (hdr Reg.pgLock 0x0A0) = 1
    ∧ lockedUp.rd (glbF Reg.glbLockstatStage 0) ≠ 2 :=
  ⟨inv_of (by decide +kernel), by decide +kernel⟩

theorem witness_lockBits_next :
    (∃ t, exec .heartbeat lockedUp = .next t) ∧ (∃ t, exec .warmReset lockedUp = .next t) ∧ (∃ t, exec .hardReset lockedUp = .next t)
    ∧ ∃ t, exec (.coldReset false 0 0 true true) { lockedUp with mode := .off } = .next t :=
  ⟨⟨_, rfl⟩, ⟨_, rfl⟩, ⟨_, rfl⟩, ⟨_, rfl⟩⟩

/-- The memory test of bank 5 runs, and bank 6 is the stream's ring. -/
def memUp : State := fill [(memF Reg.memOwnOwner 6, 2)] { up with sys := { up.sys with bist := some (1, 5, 0, 0) } }

theorem witness_memoryFrame :
    storesMemory .heartbeat = false ∧ (∃ t, exec .heartbeat memUp = .next t)
    ∧ (∃ t, exec (.bar2Access 0 false 0 255 0) memUp = .next t) ∧ (∃ t, exec (.runEntry false 0 0) memUp = .next t)
    ∧ (wordAddr 68 0 ≤ wordAddr 68 0) ∧ (∃ t, exec (.memoryBistEnd none none) memUp = .next t)
    ∧ (∀ k m q u, memUp.sys.bist = some (k, m, q, u) → wordAddr m (bankWords m) ≤ wordAddr 6 0)
    ∧ memUp.strBanks = [6] ∧ (∀ m ∈ memUp.capBanks ++ memUp.strBanks, wordAddr 70 0 < wordAddr m 0 ∨ wordAddr m (bankWords m) ≤ wordAddr 70 0)
    ∧ ∃ t, exec (.frameStart [] []) memUp = .next t := by
  refine ⟨rfl, ⟨_, rfl⟩, ⟨_, rfl⟩, ⟨_, rfl⟩, le_refl _, ⟨_, rfl⟩, ?_, by decide +kernel, by decide +kernel, ⟨_, rfl⟩⟩
  intro k m q u h
  have e : memUp.sys.bist = some (1, 5, 0, 0) := rfl
  simp only [e, Option.some.injEq, Prod.mk.injEq] at h
  obtain ⟨-, rfl, -, -⟩ := h
  decide

/-- A gallery of three records with a key set. -/
def keyed : State := Log.g1 { tail := [Log.r1 1, Log.r1 2, Log.r1 3], next := 4, key := some [1, 2, 3, 4, 5, 6, 7, 8] }

/-- The MAC of GAL_CLEAR with SEQ 42, REKEY 1 and nonce 0 under that key, word by word. -/
def clearMac (i : Nat) : Word :=
  let e := journalWords (cmdWords 0xB01 0 { seq := 42 } [1, 0, 0, 0, 0, 0, 0, 0])
  let m := (hmacSha256 (wordBytes [1, 2, 3, 4, 5, 6, 7, 8]) (wordBytes [nth e 0, nth e 1, 1, 0])).map (·.toNat)
  BitVec.ofNat 32 (sumN ((List.range 4).map fun j => nth m (4 * i + j) * 256 ^ j))

/-- The words of that GAL_CLEAR. -/
def clearWords : List Nat :=
  cmdWords 0xB01 0 { seq := 42 } [1, 0, (clearMac 0).toNat, (clearMac 1).toNat, (clearMac 2).toNat, (clearMac 3).toNat,
    (clearMac 4).toNat, (clearMac 5).toNat]

/-- The same gallery, frozen. -/
def frozen : State := fill [(gal0F Reg.galStatFstate 0, 1)] keyed

/-- The clause of GalleryCommands on an authentic GAL_CLEAR. -/
theorem witness_galleryCommands_clear :
    keyed.Inv ∧ keyed.accepts clearWords false 0 ∧ (∀ r ∈ keyed.readable ++ keyed.gal.spill, r.typ = 0x22 → nth r.payload 0 ≠ 42)
    ∧ 0 = keyed.rd (gal0F Reg.galNonceNonce 0) ∧ keyed.macOk (keyed.appliedEntry clearWords false) = true ∧ keyed.fstate = 0
    ∧ recsWords keyed.gal.tail ≤ 32768 ∧ keyed.gal.refS + keyed.gal.refL = 0
    ∧ (frozen.Inv ∧ frozen.accepts clearWords false 0
      ∧ (∀ r ∈ frozen.readable ++ frozen.gal.spill, r.typ = 0x22 → nth r.payload 0 ≠ 42)
      ∧ 0 = frozen.rd (gal0F Reg.galNonceNonce 0) ∧ frozen.macOk (frozen.appliedEntry clearWords false) = true ∧ frozen.fstate ≠ 0) :=
  ⟨inv_of (by decide +kernel), by unfold State.accepts; decide +kernel, by decide +kernel, by decide +kernel, by decide +kernel,
    by decide +kernel, by decide +kernel, by decide +kernel, inv_of (by decide +kernel), by unfold State.accepts; decide +kernel,
    by decide +kernel⟩

/-! ### The hypotheses of the statements about the families -/

theorem witness_timebase :
    Boot.s0.Inv ∧ Boot.s1.Inv ∧ Boot.s2.Inv
    ∧ (Boot.s0.islandUp = true ∧ Boot.s0.rdB (tmbF Reg.tmbStatPlllock 0) = true)
    ∧ (Boot.s0.islandUp = true ∧ Boot.s0.lUp = true)
    ∧ (Boot.s0.islandUp = true ∧ Boot.s0.onInt = false)
    ∧ (Boot.s0.islandUp = true ∧ 5 * 0 < 100 * (110 - 0 + (0 - 110)) ∧ Boot.s0.onInt = false)
    ∧ (Boot.s0.islandUp = true ∧ 100 * (110 - 110 + (110 - 110)) ≤ 5 * 110)
    ∧ (Boot.s1.islandUp = true ∧ Boot.s1.onInt = true ∧ Boot.s1.sys.xtalEver = false)
    ∧ (Boot.s1.islandUp = true ∧ Boot.s1.onInt = true)
    ∧ (Boot.s2.islandUp = true ∧ Boot.s2.onInt = true ∧ Boot.s2.sys.xtalEver = true) :=
  by and_intros <;> first | exact inv_of (by decide +kernel) | decide +kernel

theorem witness_supplies :
    Boot.s3.Inv ∧ Boot.s4.Inv ∧ Boot.s5.Inv ∧ Boot.s6.Inv ∧ Boot.s13.Inv ∧ Boot.s14.Inv ∧ Boot.s15.Inv
    ∧ (Boot.s3.mode = Mode.off ∧ (false = true ∨ true = true))
    ∧ (Boot.s4.islandUp = true ∧ Boot.s4.rdB (regOk false) = true ∧ Boot.s4.rdB (regOk !false) = true)
    ∧ (Boot.s4.islandUp = true ∧ 1 < 5 ∧ 1 ∉ Boot.s4.sys.supOut)
    ∧ (Boot.s5.islandUp = true ∧ Boot.s5.rdB (regOk false) = false)
    ∧ (Boot.s6.islandUp = true ∧ Boot.s6.lUp = false ∧ Boot.s6.sys.rstN = false)
    ∧ (Boot.s13.islandUp = true ∧ (¬(Boot.s13.lUp = true ∧ Boot.s13.pfwOn = true)))
    ∧ (Boot.s14.lUp = true ∧ Boot.s14.pfwOn = true ∧ Boot.s14.rdB (glbF Reg.glbPfwDone 0) = false)
    ∧ (Boot.s15.lUp = true ∧ Boot.s15.pfwOn = true ∧ Boot.s15.twWaiting = false
      ∧ Boot.s15.rdB (cmd0F Reg.cmdCfgRingen 0) = false) :=
  by and_intros <;> first | exact inv_of (by decide +kernel) | decide +kernel

theorem witness_resetsAndBoot :
    Boot.s7.Inv ∧ Boot.s8.Inv ∧ Boot.s9.Inv ∧ Boot.s10.Inv ∧ Boot.s11.Inv ∧ Boot.s12.Inv
    ∧ (Boot.s7.islandUp = true ∧ Boot.s7.sys.rstN = false)
    ∧ (Boot.s7.lUp = true ∧ Boot.s7.flt.order.isSome = true)
    ∧ (Boot.s7.lUp = true ∧ Boot.s7.warmArmed = true)
    ∧ Boot.s8.mode = Mode.hold
    ∧ (Boot.s9.islandUp = true ∧ Boot.s9.sys.rstN = true)
    ∧ (Boot.s10.mode = Mode.hold ∧ Boot.s10.sys.boot.isSome = true)
    ∧ (Boot.s10.mode = Mode.hold ∧ Boot.s10.sys.boot.isSome = true ∧ Boot.s10.undone = [] ∧ Boot.s10.redirect = false)
    ∧ (Boot.s10.bridgeUp = true ∧ Boot.s10.bridgeInject = false)
    ∧ (Boot.s10.bridgeUp = true ∧ Boot.s10.bridgeInject = false ∧ Boot.s10.sys.bridge ≠ 2)
    ∧ Boot.s10.islandUp = true
    ∧ (Boot.s11.lUp = true ∧ Boot.s11.bridgeInject = false ∧ Boot.s11.sys.bridge = 2)
    ∧ (Boot.s12.mode = Mode.hold ∧ Boot.s12.bridgeUp = true ∧ Boot.s12.sys.bridge = 2 ∧ Boot.s12.islBuf.length < 256) :=
  by and_intros <;> first | exact inv_of (by decide +kernel) | decide +kernel

theorem witness_registerAccess :
    Pages.s0.Inv ∧ Pages.s1.Inv ∧ Pages.s2.Inv
    ∧ ((3#2 = 0#2 ∨ 3#2 = 3#2) ∧ Pages.s0.serves 3 = true ∧ pageListed 72 = true)
    ∧ ((3#2 = 0#2 ∨ 3#2 = 3#2) ∧ Pages.s0.serves 3 = true ∧ 160 < 2097152)
    ∧ (Pages.s0.barOn = true ∧ 5#4 ≠ 15#4)
    ∧ ((3#2 = 0#2 ∨ 3#2 = 3#2) ∧ Pages.s0.serves 3 = true ∧ 68 < 512 ∧ pageListed 68 = true ∧ 64 ≤ 208 ∧ 208 < 4096
      ∧ 208 % 4 = 0 ∧ (if 3#2 = 0#2 then Pages.s0.barWrite else Pages.s0).writeAction 68 208 240 = none
      ∧ 68 ∉ [0, 1, 4, 5, 224, 225, 226, 227, 228, 248] ∧ (fieldsAt 68 208).getD 0 default ∈ fieldsAt 68 208)
    ∧ ((3#2 = 0#2 ∨ 3#2 = 3#2) ∧ Pages.s0.serves 3 = true ∧ 2089028 % 4 = 0 ∧ 2089028 < 2097152
      ∧ pageListed (2089028 / 4096) = false)
    ∧ (Pages.s1.serves 1 = false ∧ 1#2 ≠ 3#2 ∧ Pages.s1.endpointUp = true ∧ Pages.s1.linkUp = true)
    ∧ (Pages.s2.serves 0 = false ∧ (0#2 = 3#2 ∨ Pages.s2.endpointUp = false ∨ Pages.s2.linkUp = false)) :=
  by and_intros <;> first | exact inv_of (by decide +kernel) | decide +kernel

theorem witness_pageAndMessageCommands :
    Pages.s3.Inv ∧ Pages.s4.Inv ∧ Pages.s5.Inv ∧ Pages.s6.Inv ∧ Pages.s7.Inv ∧ Pages.s8.Inv
    ∧ (Pages.s3.lUp = true ∧ pageListed 208 = true ∧ pageJrnl 208 = false)
    ∧ (Pages.s3.lUp = true ∧ pageListed 0 = true ∧ pageJrnl 0 = true)
    ∧ (Pages.s3.lUp = true ∧ pageListed 228 = true ∧ pageLockable 228 = false)
    ∧ (Pages.s3.lUp = true ∧ pageListed 160 = true)
    ∧ (Pages.s3.lUp = true ∧ Pages.s3.rdB (hdr Reg.pgLock 240) = true)
    ∧ (Pages.s3.lUp = true ∧ pageListed 3 = false
      ∧ [Instr.blkrst 3#9, Instr.lockSet 3#9, Instr.pgEvtClear (3#9) 0 0].getD 0 default ∈ [Instr.blkrst 3#9, Instr.lockSet 3#9,
        Instr.pgEvtClear (3#9) 0 0])
    ∧ (Pages.s3.lUp = true ∧ pageListed 160 = true ∧ pageLockable 160 = true)
    ∧ (Pages.s3.lUp = true ∧ pageListed 1 = true)
    ∧ (Pages.s4.lUp = true ∧ Pages.s4.rdB (hdr Reg.pgLock 240) = false ∧ Pages.s4.mode = Mode.bench)
    ∧ (Pages.s5.lUp = true ∧ Pages.s5.vecPending 3 = true ∧ Pages.s5.barWrite.vecFree 3 = false)
    ∧ (Pages.s5.lUp = true ∧ Pages.s5.barWrite.vecPending 1 = false)
    ∧ (Pages.s5.lUp = true ∧ Pages.s5.barOn = true)
    ∧ (Pages.s5.lUp = true ∧ (vget Pages.s5.vec 3).gap = true ∧ (vget Pages.s5.vec 3).held = true ∧ Pages.s5.vecPending 3 = true
      ∧ Pages.s5.vecMasked 3 = false ∧ Pages.s5.rdB (evt0F Reg.evtCfgGen 0) = true)
    ∧ (Pages.s5.lUp = true ∧ (vget Pages.s5.vec 0).held = false)
    ∧ (Pages.s6.lUp = true ∧ Pages.s6.vecPending 3 = true ∧ Pages.s6.barWrite.vecFree 3 = true)
    ∧ (Pages.s7.lUp = true ∧ Pages.s7.rd (glbF Reg.glbLockstatStage 0) = 0 ∧ Pages.s7.vecPending 3 = false
      ∧ (Pages.s7.raise 944).vecPending 3 = true)
    ∧ (Pages.s8.lUp = true ∧ Pages.s8.barOn = false) :=
  by and_intros <;> first | exact inv_of (by decide +kernel) | decide +kernel

theorem witness_lockKey :
    Pages.s0.Inv ∧ Pages.s9.Inv ∧ Pages.s10.Inv ∧ Pages.s11.Inv
    ∧ (Pages.s0.lUp = true ∧ (3#2 = 0#2 ∨ 3#2 = 3#2) ∧ Pages.s0.serves 3 = true
      ∧ Pages.s0.rdB (glbF Reg.glbLockstatLockout 0) = false ∧ Pages.s0.rd (glbF Reg.glbLockstatStage 0) = 0)
    ∧ (Pages.s9.lUp = true ∧ (3#2 = 0#2 ∨ 3#2 = 3#2) ∧ Pages.s9.serves 3 = true
      ∧ Pages.s9.rdB (glbF Reg.glbLockstatLockout 0) = false ∧ Pages.s9.rd (glbF Reg.glbLockstatStage 0) ≠ 0
      ∧ Pages.s9.sys.lockPath ≠ 3)
    ∧ (Pages.s9.lUp = true ∧ Pages.s9.rdB (glbF Reg.glbLockstatLockout 0) = false
      ∧ Pages.s9.rd (glbF Reg.glbLockstatStage 0) ≠ 0 ∧ Pages.s9.rd (glbF Reg.glbLockstatFails 0) = 3)
    ∧ (Pages.s9.lUp = true ∧ (0#2 = 0#2 ∨ 0#2 = 3#2) ∧ Pages.s9.serves 0 = true
      ∧ Pages.s9.rdB (glbF Reg.glbLockstatLockout 0) = false ∧ Pages.s9.rd (glbF Reg.glbLockstatStage 0) = 1
      ∧ Pages.s9.sys.lockPath = 0)
    ∧ (Pages.s9.lUp = true ∧ (0#2 = 0#2 ∨ 0#2 = 3#2) ∧ Pages.s9.serves 0 = true
      ∧ Pages.s9.rdB (glbF Reg.glbLockstatLockout 0) = false ∧ Pages.s9.rd (glbF Reg.glbLockstatStage 0) = 1
      ∧ Pages.s9.sys.lockPath = 0 ∧ 0 ≠ 15450)
    ∧ (Pages.s10.lUp = true ∧ (0#2 = 0#2 ∨ 0#2 = 3#2) ∧ Pages.s10.serves 0 = true
      ∧ Pages.s10.rdB (glbF Reg.glbLockstatLockout 0) = false ∧ Pages.s10.rd (glbF Reg.glbLockstatStage 0) = 2
      ∧ Pages.s10.sys.lockPath = 0 ∧ 280 < 512 ∧ pageLockable 280 = true)
    ∧ (Pages.s11.lUp = true ∧ Pages.s11.rdB (glbF Reg.glbLockstatLockout 0) = true)
    ∧ (Pages.s11.lUp = true ∧ Pages.s11.rdB (glbF Reg.glbLockstatLockout 0) = true ∧ (0#2 = 0#2 ∨ 0#2 = 3#2)) :=
  by and_intros <;> first | exact inv_of (by decide +kernel) | decide +kernel

theorem witness_bar2Words :
    Pages.s12.Inv
    ∧ (Pages.s12.barOn = true ∧ 1 < 64 ∧ 2 < 131072 ∧ Pages.s12.owner 1 ≠ 3)
    ∧ (Pages.s12.barOn = true ∧ 5 < 64 ∧ 1 < 131072 ∧ Pages.s12.owner 5 = 3) :=
  by and_intros <;> first | exact inv_of (by decide +kernel) | decide +kernel

theorem witness_pcieCommands :
    Pages.s13.Inv ∧ Pages.s14.Inv
    ∧ (Pages.s13.endpointUp = true ∧ (1 ≠ 0 ∨ 1 ≠ 0))
    ∧ (Pages.s13.lUp = false ∧ Pages.s13.endpointUp = true)
    ∧ (Pages.s14.lUp = true ∧ Pages.s14.redirect = false ∧ bits 5 0 1 = 1 ∧ Pages.s14.rdB (pexF Reg.pexLinkL0 0) = true
      ∧ Pages.s14.aerFatal = false) :=
  by and_intros <;> first | exact inv_of (by decide +kernel) | decide +kernel

theorem witness_targetCommands :
    Pages.s15.Inv
    ∧ (Pages.s15.targetOn false = true ∧ Pages.s15.pecOn = false)
    ∧ (Pages.s15.targetOn true = true ∧ Pages.s15.pecOn = false ∧ Pages.s15.twBusy = false ∧ Pages.s15.twStage.length = 64)
    ∧ (Pages.s15.targetOn true = true ∧ Pages.s15.rdB (twtF Reg.twtCfgTouten 0) = true) :=
  by and_intros <;> first | exact inv_of (by decide +kernel) | decide +kernel

theorem witness_plainCommands :
    Journal.s0.Inv ∧ Journal.s1.Inv
    ∧ Journal.s0.accepts (cmdWords 0 1 { seq := 42, ver := 1#4, jbad := 0#3 } []) false 0
    ∧ Journal.s0.accepts (cmdWords 1 1 { seq := 42, ver := 1#4, jbad := 0#3 } []) false 0
    ∧ (Journal.s0.accepts (cmdWords 2 1 { seq := 42, ver := 1#4, jbad := 0#3 } []) false 0 ∧ Journal.s0.benchRefused = false)
    ∧ (Journal.s1.accepts (cmdWords 3 3 { seq := 42, ver := 1#4, jbad := 0#3 } []) false 0 ∧ Journal.s1.mode = Mode.bench
      ∧ Journal.s1.rdB (kaiF Reg.kaiStatPdfail 0) = false) :=
  by and_intros <;> first | exact inv_of (by decide +kernel) | decide +kernel

theorem witness_stagedSettings :
    Journal.s0.Inv ∧ Journal.s12.Inv ∧ Journal.s13.Inv
    ∧ (68 < 512
      ∧ Journal.s0.accepts (cmdWords 16 1 { seq := 42, ver := 1#4, jbad := 0#3 } (List.map (fun
        (x : Word) => BitVec.toNat x) [68 + 65536, 64, 64, 0, 0, 0, 0, 0, 0, 0, 0, 0])) false 0
      ∧ rwjReg 68 64 = true ∧ rangeOk 68 64 64 = true ∧ 64 ≤ 64 ∧ (16 ≤ 68 ∧ 68 ≤ 63 → 64 ≠ 96)
      ∧ (Journal.s0.accepted (cmdWords 16 1 { seq := 42, ver := 1#4, jbad := 0#3 } (List.map (fun
        (x : Word) => BitVec.toNat x) [68 + 65536, 64, 64, 0, 0, 0, 0, 0, 0, 0, 0, 0])) false).pageCheck ((Journal.s0.accepted
        (cmdWords 16 1 { seq := 42, ver := 1#4, jbad := 0#3 } (List.map (fun (x : Word) => BitVec.toNat x) [68 + 65536, 64, 64,
        0, 0, 0, 0, 0, 0, 0, 0, 0])) false).putPair 68 64 64) 68 = none)
    ∧ (Journal.s0.lUp = true ∧ pageListed 102 = true ∧ pageStaged 102 = true ∧ Journal.s0.rdB (hdr Reg.pgCbusy 102) = false)
    ∧ (Journal.s12.lUp = true ∧ pageListed 102 = true ∧ pageStaged 102 = true ∧ Journal.s12.rdB (hdr Reg.pgCbusy 102) = true)
    ∧ (Journal.s12.lUp = true ∧ Journal.s12.rdB (hdr Reg.pgCbusy 102) = true ∧ Journal.s12.snapAged 102 (applyDelay 102) = true
      ∧ Journal.s12.rdB (hdr Reg.pgCpend 102) = false ∧ 102 = 102 ∧ Journal.s12.hldSt = 0)
    ∧ (Journal.s13.lUp = true ∧ Journal.s13.rdB (hdr Reg.pgCbusy 17) = true ∧ Journal.s13.snapAged 17 (applyDelay 17) = true
      ∧ Journal.s13.rdB (hdr Reg.pgCpend 17) = false ∧ (16 ≤ 17 ∧ 17 ≤ 63)) :=
  by and_intros <;> first | exact inv_of (by decide +kernel) | decide +kernel

theorem witness_ringCommands :
    Journal.s2.Inv ∧ Journal.s3.Inv ∧ Journal.s4.Inv
    ∧ (Journal.s2.barOn = true ∧ Journal.s2.ringReady = true ∧ Journal.s2.redirect = false ∧ Journal.s2.repHeld = []
      ∧ Journal.s2.rd (cmd0F Reg.cmdRheadIdx 0) = 1 ∧ 1 < Journal.s2.ringSize ∧ 2 = (1 + 1) % Journal.s2.ringSize
      ∧ [69632, 42, 0, 1347415381, 0, 0, 0, 0, 0, 0, 0, 0, 0, 0, 0, 0].length = 16
      ∧ bits (nth (List.map (fun (x : Word) => BitVec.toNat x) [69632, 42, 0, 1347415381, 0, 0, 0, 0, 0, 0, 0, 0, 0, 0, 0,
        0]) 0) 0 12 = 0
      ∧ Journal.s2.accepts (List.map (fun (x : Word) => BitVec.toNat x) [69632, 42, 0, 1347415381, 0, 0, 0, 0, 0, 0, 0, 0, 0, 0,
        0, 0]) false 0)
    ∧ (Journal.s3.barOn = true ∧ Journal.s3.rdB (cmd0F Reg.cmdCfgRingen 0) = false)
    ∧ (Journal.s3.barOn = true ∧ Journal.s3.repHeld = [] ∧ Journal.s3.rdB (cmd0F Reg.cmdCfgRingen 0) = false)
    ∧ (Journal.s3.barOn = true ∧ Journal.s3.rdB (cmd0F Reg.cmdCfgRingen 0) = false
      ∧ Journal.s3.rd (cmdfF Reg.cmdRtailIdx 0) % Journal.s3.ringSize = 0 ∧ Journal.s3.repHeld = [])
    ∧ (Journal.s4.barOn = true ∧ Journal.s4.repHeld = [Journal.s4.repHeld.head!] ∧ Journal.s4.repHeld.head!.doneSeq = none
      ∧ Journal.s4.redirect = false ∧ Journal.s4.rdB (cmd0F Reg.cmdCfgRingen 0) = true ∧ Journal.s4.pfwOn = true
      ∧ (Journal.s4.rd (cmd0F Reg.cmdPtailIdx 0) + 1) % Journal.s4.repSize ≠ 2 % Journal.s4.repSize) :=
  by and_intros <;> first | exact inv_of (by decide +kernel) | decide +kernel

theorem witness_reportCommands :
    Journal.s5.Inv ∧ Journal.s6.Inv ∧ Journal.s7.Inv ∧ Journal.s8.Inv ∧ Journal.s9.Inv ∧ Journal.s10.Inv ∧ Journal.s11.Inv
    ∧ (Journal.s5.lUp = true ∧ Journal.s5.twHeld = [])
    ∧ (Journal.s5.lUp = true ∧ List.filter (fun (m : ℕ) => bitOf 0 m) Journal.s5.macros = []
      ∧ Journal.s5.doneNext = some (Journal.s5.doneNext.get!.1, Journal.s5.doneNext.get!.2.1, Journal.s5.doneNext.get!.2.2)
      ∧ Journal.s5.jFind Journal.s5.doneNext.get!.1.seq = some Journal.s5.doneNext.get!.1
      ∧ Journal.s5.doneNext.get!.1.seq < 2 ^ 32 ∧ Journal.s5.rdB (cmd0F Reg.cmdCfgMirror 0) = false
      ∧ Journal.s5.doneNext.get!.1.twoWire = false ∧ Journal.s5.redirect = false ∧ Journal.s5.ringReady = true
      ∧ Journal.s5.repHeld = [])
    ∧ (Journal.s6.lUp = true ∧ List.filter (fun (m : ℕ) => bitOf 4 m) Journal.s6.macros = []
      ∧ Journal.s6.doneNext = some (Journal.s6.doneNext.get!.1, Journal.s6.doneNext.get!.2.1, Journal.s6.doneNext.get!.2.2)
      ∧ Journal.s6.jFind Journal.s6.doneNext.get!.1.seq = some Journal.s6.doneNext.get!.1
      ∧ Journal.s6.doneNext.get!.1.seq < 2 ^ 32 ∧ Journal.s6.rdB (cmd0F Reg.cmdCfgMirror 0) = false
      ∧ Journal.s6.doneNext.get!.1.twoWire = true ∧ Journal.s6.twq.length < 64 ∧ Journal.s6.twHeld = [])
    ∧ (Journal.s7.lUp = true ∧ Journal.s7.jFind 41 = some (Journal.s7.jFind 41).get! ∧ (Journal.s7.jFind 41).get!.applied = true
      ∧ (Journal.s7.jFind 41).get!.status = none ∧ Journal.s7.boundStands (Journal.s7.jFind 41).get! = false)
    ∧ (Journal.s8.lUp = true ∧ Journal.s8.rdB (cmd0F Reg.cmdCfgTwen 0) = true ∧ Journal.s8.twBusy = false
      ∧ Journal.s8.twq.length < 63 ∧ Journal.s8.twHeld = [] ∧ Journal.s8.jHeld = none
      ∧ bits (nth Journal.s8.stagedWords 0) 0 12 = 0 ∧ Journal.s8.accepts Journal.s8.stagedWords true 4)
    ∧ (Journal.s9.lUp = true ∧ Journal.s9.rdB (cmd0F Reg.cmdCfgTwen 0) = true ∧ Journal.s9.twBusy = false
      ∧ Journal.s9.pfwOn = true)
    ∧ (Journal.s10.lUp = true ∧ Journal.s10.rebuilding = true ∧ Journal.s10.jHeld = none)
    ∧ (Journal.s10.lUp = true ∧ Journal.s10.rebuilding = true ∧ Journal.s10.mirrorLost = false ∧ Journal.s10.macros ≠ [])
    ∧ (Journal.s11.lUp = true ∧ (Journal.s11.rdB (cmd0F Reg.cmdCfgTwen 0) = false ∨ Journal.s11.twBusy = true)) :=
  by and_intros <;> first | exact inv_of (by decide +kernel) | decide +kernel

theorem witness_bayInputs :
    Bays.s0.Inv ∧ Bays.s1.Inv ∧ Bays.s2.Inv ∧ Bays.s3.Inv ∧ Bays.s4.Inv ∧ Bays.s13.Inv ∧ Bays.s14.Inv
    ∧ (Bays.s0.islandUp = true ∧ 6 < 48 ∧ Bays.s0.bayRole 6 ≠ 3 ∧ (vget Bays.s0.bay 6).frozen = false)
    ∧ (Bays.s0.islandUp = true ∧ 6 < 48 ∧ Bays.s0.bayRole 6 ≠ 3
      ∧ ((vget Bays.s0.bay 6).alt != 0) ≠ Bays.s0.rdB (bayF Reg.bayStatPresent 6))
    ∧ (Bays.s0.islandUp = true ∧ 6 < 48 ∧ Bays.s0.bayRole 6 ≠ 3 ∧ (vget Bays.s0.bay 6).alt ≠ 2
      ∧ (vget Bays.s0.bay 6).frozen = false)
    ∧ (Bays.s1.islandUp = true ∧ 6 < 48 ∧ Bays.s1.bayRole 6 ≠ 3 ∧ (vget Bays.s1.bay 6).alt = 2
      ∧ (vget Bays.s1.bay 6).urgent = false ∧ (vget Bays.s1.bay 6).frozen = false
      ∧ (Bays.s1.bayRole 6 = 0 ∨ Bays.s1.effB (bayF Reg.bayCfgUrgopen 6) = false))
    ∧ (Bays.s2.islandUp = true ∧ 6 < 48 ∧ Bays.s2.bayRole 6 ≠ 3 ∧ (vget Bays.s2.bay 6).alt = 2
      ∧ (vget Bays.s2.bay 6).urgent = false ∧ (vget Bays.s2.bay 6).frozen = false ∧ Bays.s2.bayRole 6 ≠ 0
      ∧ Bays.s2.effB (bayF Reg.bayCfgUrgopen 6) = true ∧ Bays.s2.bayClosed 6 = true)
    ∧ (Bays.s3.islandUp = true ∧ 6 < 48 ∧ Bays.s3.bayRole 6 ≠ 3 ∧ (vget Bays.s3.bay 6).alt = 0
      ∧ (vget Bays.s3.bay 6).frozen = false ∧ (Bays.s3.bayClosed 6 = true ∨ Bays.s3.bayState 6 = 8))
    ∧ (Bays.s4.islandUp = true ∧ 6 < 48 ∧ Bays.s4.bayRole 6 ≠ 3 ∧ (vget Bays.s4.bay 6).alt = 2
      ∧ (vget Bays.s4.bay 6).urgent = false ∧ (vget Bays.s4.bay 6).frozen = false ∧ Bays.s4.bayRole 6 ≠ 0
      ∧ Bays.s4.effB (bayF Reg.bayCfgUrgopen 6) = true ∧ (Bays.s4.bayState 6 = 5 ∨ Bays.s4.bayState 6 = 6))
    ∧ (6 < 48 ∧ Bays.s13.bayState 6 = 6 ∧ Bays.s13.lUp = true)
    ∧ (6 < 48 ∧ Bays.s14.bayState 6 = 7 ∧ Bays.s14.lUp = true ∧ (vget Bays.s14.bay 6).owner ≠ 2) :=
  by and_intros <;> first | exact inv_of (by decide +kernel) | decide +kernel

theorem witness_bayStates :
    Bays.s5.Inv ∧ Bays.s6.Inv ∧ Bays.s7.Inv ∧ Bays.s8.Inv ∧ Bays.s9.Inv ∧ Bays.s10.Inv ∧ Bays.s11.Inv ∧ Bays.s12.Inv
    ∧ (6 < 48 ∧ (vget Bays.s5.bay 6).train = true ∧ (vget Bays.s5.bay 6).next = none)
    ∧ (6 < 48 ∧ Bays.s5.bayState 6 = 2 ∧ Bays.s5.bayMet 6 = true)
    ∧ (6 < 48 ∧ Bays.s6.throttles 6 = true ∧ (vget Bays.s6.bay 6).train = false ∧ Bays.s6.rd (bayF Reg.bayAlimThstep 6) ≠ 0)
    ∧ (6 < 48 ∧ Bays.s6.bayState 6 = 10)
    ∧ (6 < 48 ∧ Bays.s7.bayState 6 = 8)
    ∧ (6 < 48 ∧ Bays.s8.bayState 6 = 3)
    ∧ (6 < 48 ∧ Bays.s9.bayState 6 = 4)
    ∧ (6 < 48 ∧ Bays.s10.bayClosed 6 = true)
    ∧ (6 < 48 ∧ Bays.s10.bayState 6 = 2 ∧ (vget Bays.s10.bay 6).rampTimer = true)
    ∧ (6 < 48 ∧ (Bays.s10.bayRole 6 = 0 ∨ Bays.s10.bayRole 6 = 2) ∧ Bays.s10.bayClosed 6 = true)
    ∧ (6 < 48 ∧ (Bays.s11.bayState 6 = 3 ∨ Bays.s11.bayState 6 = 10) ∧ 30000 ≤ Bays.s11.busMv)
    ∧ (6 < 48 ∧ Bays.s12.bayState 6 = 4 ∧ Bays.s12.slowReached 6 = true) :=
  by and_intros <;> first | exact inv_of (by decide +kernel) | decide +kernel

theorem witness_bayCommands :
    Bays.s0.Inv ∧ Bays.s8.Inv ∧ Bays.s15.Inv
    ∧ (6 < 48 ∧ Bays.s0.accepts (cmdWords 256 6 { seq := 42, ver := 1#4, jbad := 0#3 } [0, 1]) false 0
      ∧ (Bays.s0.accepted (cmdWords 256 6 { seq := 42, ver := 1#4, jbad := 0#3 } [0, 1]) false).bayArmRefused 6 (bitOf 0 1) = none
      ∧ Bays.s0.bayRole 6 ≠ 3 ∧ Bays.s0.bayState 6 = 1)
    ∧ (1 < 48
      ∧ Bays.s0.accepts (cmdWords 259 1 { seq := 42, ver := 1#4, twoWire := true, jbad := 0#3 } [85058592, 11393102, 6, 6]) true 0
      ∧ Bays.s0.bayState 1 ≠ 9 ∧ rangeOk (16 + 1) 76 85058592 = true ∧ rangeOk (16 + 1) 80 11393102 = true
      ∧ rangeOk (16 + 1) 72 6 = true ∧ rangeOk (16 + 1) 92 6 = true ∧ bits 85058592 0 9 + 10 ≤ bits 85058592 16 9)
    ∧ (6 < 48 ∧ Bays.s8.accepts (cmdWords 257 6 { seq := 42, ver := 1#4, twoWire := true, jbad := 0#3 } [792685298]) true 0
      ∧ Bays.s8.bayClosed 6 = true)
    ∧ (6 < 48 ∧ Bays.s15.accepts (cmdWords 258 6 { seq := 42, ver := 1#4, twoWire := true, jbad := 0#3 } [6]) true 0
      ∧ Bays.s15.mode ≠ Mode.bench ∧ Bays.s15.bayRole 6 ≠ 3 ∧ (Bays.s15.bayState 6 = 5 ∨ Bays.s15.bayState 6 = 6)) :=
  by and_intros <;> first | exact inv_of (by decide +kernel) | decide +kernel

theorem witness_loopSampling :
    Loops.s0.Inv ∧ Loops.s1.Inv
    ∧ (Loops.s0.loopRunning 3 = true ∧ Loops.s0.loopCur 3 = false ∧ Loops.s0.lanSt = 0
      ∧ Loops.s0.eff (loopF Reg.loopCfgAvg 3) = 0)
    ∧ (Loops.s1.loopRunning 3 = true ∧ (Loops.s1.lp 3).fresh = some 123456789) :=
  by and_intros <;> first | exact inv_of (by decide +kernel) | decide +kernel

theorem witness_loopStates :
    Loops.s2.Inv ∧ Loops.s3.Inv ∧ Loops.s4.Inv ∧ Loops.s5.Inv ∧ Loops.s0.Inv
    ∧ (Loops.s2.loopSt 3 = 1 ∧ ((Loops.s2.loopPhases 3).any fun (j : ℕ) => Loops.s2.phSt j == 0) = true)
    ∧ (Loops.s3.loopSt 3 = 4 ∧ ((Loops.s3.lp 3).coast || Loops.s3.effB (loopF Reg.loopCfgStopmode 3)) = false
      ∧ Loops.s3.loopCur 3 = false)
    ∧ ((Loops.s3.loopSt 3 = 2 ∨ Loops.s3.loopSt 3 = 3 ∨ Loops.s3.loopSt 3 = 4) ∧ Loops.s3.loopAtGoal 3 = true)
    ∧ Loops.s3.loopRunning 3 = true
    ∧ (Loops.s4.loopSt 3 = 4 ∧ ((Loops.s4.lp 3).coast || Loops.s4.effB (loopF Reg.loopCfgStopmode 3)) = true)
    ∧ (Loops.s5.loopSt 3 = 5 ∧ Loops.s5.loopCur 3 = false)
    ∧ (Loops.s0.senseJudged 3 = true ∧ Loops.s0.trulyLow 3 = false)
    ∧ (Loops.s0.loopRunning 3 = true ∧ Loops.s0.loopCur 3 = false)
    ∧ (Loops.s0.loopSt 3 = 3 ∧ Loops.s0.loopCur 3 = false)
    ∧ (Loops.s0.loopRunning 3 = true ∧ Loops.s0.loopCur 3 = false ∧ Loops.s0.overloaded 3 = true) :=
  by and_intros <;> first | exact inv_of (by decide +kernel) | decide +kernel

theorem witness_loopCommands :
    Loops.s6.Inv ∧ Loops.s0.Inv ∧ Loops.s7.Inv ∧ Loops.s8.Inv
    ∧ (1 < 16
      ∧ Loops.s6.accepts (cmdWords 515 1 { seq := 42, ver := 1#4, jbad := 0#3 } [335544320, 12454420, 335544420, 0, 0, 20,
        6558600, 12454420]) false 0
      ∧ Loops.s6.rdB (loopF Reg.loopStatSwpend 1) = false)
    ∧ (20 < 64
      ∧ Loops.s6.accepts (cmdWords 768 20 { seq := 42, ver := 1#4, jbad := 0#3 } [6558600, 6558600, 12454420, 1475243193]) false 0
      ∧ (∀ i < 4, rangeOk (80 + 20 / 4) (64 + 64 * (20 % 4) + 4 * i) (nth [6558600, 6558600, 12454420, 1475243193] i) = true)
      ∧ (List.foldl (fun (t : Machine.State) (i : ℕ) => t.putWord (80 + 20 / 4) (64 + 64 * (20 % 4) + 4 * i) (nth [6558600,
        6558600, 12454420, 1475243193] i)) (Loops.s6.accepted (cmdWords 768 20 { seq := 42, ver := 1#4, jbad := 0#3 } [6558600,
        6558600, 12454420, 1475243193]) false) (List.range 4)).phaseCheck 20 = none
      ∧ Loops.s6.retired 1 20 = false ∧ Option.all (fun (n : ℕ) => Loops.s6.loopSt n == 0) (Loops.s6.phLoop 20) = true)
    ∧ (3 < 16
      ∧ Loops.s0.accepts (cmdWords 513 3 { seq := 42, ver := 1#4, twoWire := true, jbad := 0#3 } [0, 30000, 1, 0]) true 0
      ∧ bits 30000 0 10 ≤ 1000 ∧ (bits 30000 0 10 ≠ 0 ∨ Loops.s0.eff (loopF Reg.loopRampRoff 3) ≠ 0)
      ∧ (Loops.s0.loopSt 3 = 2 ∨ Loops.s0.loopSt 3 = 3) ∧ (Loops.s0.lp 3).held = false
      ∧ Loops.s0.eff (loopF Reg.loopOfftOffdly 3) = 0)
    ∧ (3 < 16 ∧ Loops.s7.accepts (cmdWords 514 3 { seq := 42, ver := 1#4, jbad := 0#3 } [0, 6573600, 0, 0]) false 0
      ∧ Loops.s7.targetOk 3 (Loops.s7.loopTarget 3 0) = true ∧ bits 6573600 0 10 ≠ 0 ∧ bits 6573600 0 10 ≤ 1000
      ∧ (Loops.s7.lp 3).held = false ∧ Loops.s7.loopRunning 3 = true)
    ∧ (3 < 16 ∧ Loops.s8.accepts (cmdWords 512 3 { seq := 42, ver := 1#4, twoWire := true, jbad := 0#3 } [1, 6, 0, 0]) true 0
      ∧ Loops.s8.targetOk 3 (Loops.s8.loopTarget 3 1) = true ∧ bits 6 0 10 ≤ 1000
      ∧ (bits 6 0 10 ≠ 0 ∨ Loops.s8.eff (loopF Reg.loopRampRon 3) ≠ 0)
      ∧ ((Loops.s8.loopPhases 3).any fun (j : ℕ) => Loops.s8.phSt j == 0) = true
      ∧ ((Loops.s8.loopPhases 3).all fun (j : ℕ) => Loops.s8.retired 1 j) = false ∧ Loops.s8.mode ≠ Mode.bench
      ∧ Loops.s8.loopSt 3 = 0 ∧ (Loops.s8.lp 3).held = false ∧ Loops.s8.eff (loopF Reg.loopOntOndly 3) = 0
      ∧ Loops.s8.rdB (loopF Reg.loopStatPgood 3) = false)
    ∧ (3 < 16 ∧ Loops.s8.accepts (cmdWords 514 3 { seq := 42, ver := 1#4, twoWire := true, jbad := 0#3 } [1, 500, 0, 0]) true 0
      ∧ Loops.s8.targetOk 3 (Loops.s8.loopTarget 3 1) = true ∧ bits 500 0 10 ≠ 0 ∧ bits 500 0 10 ≤ 1000
      ∧ (Loops.s8.lp 3).held = false ∧ Loops.s8.loopSt 3 = 0) :=
  by and_intros <;> first | exact inv_of (by decide +kernel) | decide +kernel

theorem witness_phaseCommands :
    Loops.s0.Inv ∧ Loops.s9.Inv ∧ Loops.s10.Inv ∧ Loops.s11.Inv ∧ Loops.s12.Inv
    ∧ (phInSet (Loops.s0.phSt 5) = true ∧ (Loops.s0.phx 5).cut = false)
    ∧ (phInSet (Loops.s0.phSt 5) = true ∧ Loops.s0.effB (phF Reg.phMonStgen 5) = true)
    ∧ Loops.s0.lUp = true
    ∧ (Loops.s9.phSt 5 = 5 ∧ (Loops.s9.phx 5).rejoin = true ∧ Loops.s9.lUp = true
      ∧ Loops.s9.phLoop 5 = some (Loops.s9.phLoop 5).get! ∧ Loops.s9.loopRunning (Loops.s9.phLoop 5).get! = true)
    ∧ (Loops.s10.phSt 20 = 5 ∧ (Loops.s10.phx 20).rejoin = true ∧ Loops.s10.lUp = true ∧ Loops.s10.phLoop 20 = none)
    ∧ (Loops.s11.phLoop 6 = some (Loops.s11.phLoop 6).get! ∧ Loops.s11.phSt 6 = 2
      ∧ Loops.s11.shedRuns (Loops.s11.phLoop 6).get! 6 = true ∧ Loops.s11.lastToShed (Loops.s11.phLoop 6).get! 6 = true)
    ∧ (Loops.s12.phLoop 6 = some (Loops.s12.phLoop 6).get! ∧ Loops.s12.phSt 6 = 3
      ∧ Loops.s12.shedRuns (Loops.s12.phLoop 6).get! 6 = true
      ∧ ((Loops.s12.loopPhases (Loops.s12.phLoop 6).get!).any fun (j : ℕ) => j != 6 && phInSet (Loops.s12.phSt j)) = true) :=
  by and_intros <;> first | exact inv_of (by decide +kernel) | decide +kernel

theorem witness_abacus :
    Abacus.s0.Inv ∧ Abacus.s1.Inv ∧ Abacus.s2.Inv ∧ Abacus.s3.Inv
    ∧ (Abacus.s0.lUp = true ∧ Abacus.s0.abc.pend = none)
    ∧ (Abacus.s0.lUp = true ∧ Abacus.s0.holdup = false)
    ∧ (Abacus.s1.lUp = true ∧ Abacus.s1.abc.pend = some Abacus.s1.abc.pend.get!)
    ∧ Abacus.s2.holdup = true
    ∧ Abacus.s3.lUp = false
    ∧ (Abacus.s0.accepts (cmdWords 1024 3 { seq := 42, ver := 1#4, jbad := 0#3 } [0, 1]) false 0 ∧ bits 0 0 24 ≤ 8388607)
    ∧ (Abacus.s0.accepts (cmdWords 1025 3 { seq := 42, ver := 1#4, jbad := 0#3 } [0, 0, 6, 1]) false 0
      ∧ (3 < 64 ∧ (∀ i < 4, rangeOk 97 (64 + 16 * 3 + 4 * i) (nth [0, 0, 6, 1] i) = true) ∧ (bits 0 0 3 = 3 ∨ bits 0 0 24
        ≤ bits 6 0 24) ∧ (bits 0 0 3 ≠ 0 ∨ Abacus.s0.rodMapped 3 = false))
      ∧ ((Abacus.s0.rodActive 3 = false ∨ bits 0 0 3 = Abacus.s0.rodKind 3) ∧ (Abacus.s0.floorsWith 3 (bits 0 0 3) (bits 0 0 24)
        ≤ Abacus.s0.rd (abc0F Reg.abcFloorsF 0) ∨ Abacus.s0.floorsWith 3 (bits 0 0 3) (bits 0 0 24) ≤ Abacus.s0.rd
        (abc0F Reg.abcBudgetB 0))))
    ∧ (Abacus.s0.accepts (cmdWords 1024 6 { seq := 42, ver := 1#4, jbad := 0#3 } [4138517454, 6]) false 0
      ∧ 8388607 < bits 4138517454 0 24)
    ∧ (Abacus.s0.accepts (cmdWords 1025 1 { seq := 42, ver := 1#4, jbad := 0#3 } [6, 100, 100, 0]) false 0
      ∧ (¬((1 < 64 ∧ (∀ i < 4, rangeOk 97 (64 + 16 * 1 + 4 * i) (nth [6, 100, 100, 0] i) = true) ∧ (bits 6 0 3 = 3
        ∨ bits 100 0 24 ≤ bits 100 0 24) ∧ (bits 6 0 3 ≠ 0 ∨ Abacus.s0.rodMapped 1 = false)) ∧ (Abacus.s0.rodActive 1 = false
        ∨ bits 6 0 3 = Abacus.s0.rodKind 1) ∧ (Abacus.s0.floorsWith 1 (bits 6 0 3) (bits 100 0 24) ≤ Abacus.s0.rd
        (abc0F Reg.abcFloorsF 0) ∨ Abacus.s0.floorsWith 1 (bits 6 0 3) (bits 100 0 24) ≤ Abacus.s0.rd
        (abc0F Reg.abcBudgetB 0))))) :=
  by and_intros <;> first | exact inv_of (by decide +kernel) | decide +kernel

theorem witness_holdUp :
    Abacus.s4.Inv ∧ Abacus.s5.Inv ∧ Abacus.s6.Inv ∧ Abacus.s7.Inv ∧ Abacus.s8.Inv
    ∧ Abacus.s4.hldSt = 1
    ∧ (Abacus.s5.hldSt = 2
      ∧ Abacus.s5.eff (hldF Reg.hldLvlVrec 0) < (686#10).toNat
      ∧ Abacus.s5.hldCause (busSamples 686#10 [] []) = 0)
    ∧ (Abacus.s6.hldSt = 3
      ∧ ((400#10).toNat ≤ Abacus.s6.eff (hldF Reg.hldLvlVrec 0)
        ∨ Abacus.s6.hldCause (busSamples 400#10 [400#10, 400#10, 400#10] [400#10]) ≠ 0))
    ∧ (Abacus.s7.islandUp = true ∧ Abacus.s7.hldSt = 0 ∧ Abacus.s7.effB (hldF Reg.hldCfgEn 0) = true
      ∧ Abacus.s7.hldCause (busSamples 0#10 [0#10, 3#10, 300#10] [300#10]) ≠ 0)
    ∧
      (Abacus.s8.accepts (cmdWords 1280 0 { seq := 42, ver := 1#4, twoWire := true, jbad := 0#3 } ([0, 3932180, 335872276,
        2630766098] ++ [3932180, 0, 3932180, 512])) true 0
      ∧ rangeOk 102 64 0 = true ∧ rangeOk 102 68 3932180 = true ∧ rangeOk 102 72 335872276 = true
      ∧ rangeOk 102 76 2630766098 = true
      ∧ (∀ k < 8, rangeOk 102 (96 + 4 * k) (bits (nth [3932180, 0, 3932180, 512] (k / 2)) (16 * (k % 2)) 16) = true)
      ∧ bits 3932180 0 10 < bits 3932180 16 10
      ∧ (∀ k < 8, (sx 16 (bits (nth [3932180, 0, 3932180, 512] (k / 2)) (16 * (k % 2)) 16)).natAbs ≤ Abacus.s8.eff
        (loopF Reg.loopIsclIfs (Abacus.s8.grpLoop k)))
      ∧ (∀ k < 8, bitOf (bits 0 8 8) k = true → Abacus.s8.effB (abc3F Reg.abcMapgrpEn k) = true)) :=
  by and_intros <;> first | exact inv_of (by decide +kernel) | decide +kernel

theorem witness_balanceCommands :
    Abacus.s9.Inv ∧ Abacus.s10.Inv
    ∧ (Abacus.s9.balRuns = true ∧ Abacus.s9.abc.raw = some Abacus.s9.abc.raw.get!)
    ∧ (Abacus.s10.balRuns = true ∧ Abacus.s10.effB (bal0F Reg.balCfgTelen 0) = true
      ∧ List.filter (fun (n : ℕ) => Abacus.s10.bayRole n == 0) (List.range 48) = [6] ∧ Abacus.s10.twModule 6 = some (2, 51)
      ∧ Abacus.s10.twSt 2 = 1 ∧ (Abacus.s10.twp 2).run = none ∧ (Abacus.s10.twp 2).queue = []) :=
  by and_intros <;> first | exact inv_of (by decide +kernel) | decide +kernel

theorem witness_batteryReferences :
    Strings.s0.Inv ∧ Strings.s1.Inv ∧ Strings.s2.Inv
    ∧ Strings.s0.estimates = true
    ∧ Strings.s0.batRuns 3 = true
    ∧ (Strings.s1.batRuns 3 = true ∧ (Strings.s1.bt 3).charged = true)
    ∧ (Strings.s2.batRuns 3 = true ∧ (Strings.s2.socV 3).isSome = true ∧ Strings.s2.rdB (batF Reg.batStatPseudo 3) = true
      ∧ Strings.s2.rdB (batF Reg.batStatNotemp 3) = false ∧ 5 * Strings.s2.batI 3 ≤ Strings.s2.batC 3
      ∧ -(5 * Strings.s2.batI 3) ≤ Strings.s2.batC 3) :=
  by and_intros <;> first | exact inv_of (by decide +kernel) | decide +kernel

theorem witness_batteryTimers :
    Strings.s3.Inv ∧ Strings.s4.Inv ∧ Strings.s5.Inv ∧ Strings.s6.Inv ∧ Strings.s7.Inv ∧ Strings.s8.Inv ∧ Strings.s9.Inv
    ∧ Strings.s10.Inv ∧ Strings.s11.Inv
    ∧ (Strings.s3.batRuns 3 = true ∧ Strings.s3.sinceReached 3 (3600000000 * Strings.s3.eff (batF Reg.batTimeStaleh 3)) = true)
    ∧ (Strings.s3.batRuns 3 = true ∧ Strings.s3.effB (batF Reg.batTimeRoten 3) = true
      ∧ Strings.s3.sinceReached 3 (86400000000 * Strings.s3.eff (batF Reg.batTimeRotd 3)) = true)
    ∧ (Strings.s3.batRuns 3 = true ∧ Strings.s3.batLst 3 = 2)
    ∧ (Strings.s3.batRuns 3 = true ∧ Strings.s3.batEn 3 = true ∧ Strings.s3.batSvc 3 ≠ 0)
    ∧ (Strings.s4.batRuns 3 = true ∧ Strings.s4.batOpen 3 = true)
    ∧ (Strings.s5.batRuns 3 = true ∧ (Strings.s5.bt 3).cal = true ∧ Strings.s5.batOpen 3 = true
      ∧ Int.natAbs 3 ≤ 16 * Strings.s5.eff (batF Reg.batIsclOfsmax 3))
    ∧ (Strings.s6.batRuns 3 = true ∧ (Strings.s6.bt 3).tries = some 1 ∧ 1 < 3
      ∧ Strings.s6.twModule (Strings.s6.batBay 3) = some (2, 51) ∧ Strings.s6.twSt 2 = 1 ∧ (Strings.s6.twp 2).run = none
      ∧ (Strings.s6.twp 2).queue = [])
    ∧ (Strings.s7.batRuns 3 = true ∧ Strings.s7.recDue = true)
    ∧ (Strings.s8.batRuns 3 = true ∧ Strings.s8.abc.restAsk = none ∧ Strings.s8.abc.rest = none
      ∧ Strings.s8.effB (pol0F Reg.polHpmBat 0) = false
      ∧ (Strings.s8.batMod 3 fun b => { b with again := false }).restPick = some 3)
    ∧ (Strings.s9.move 2).on = false
    ∧ (Strings.s10.bt 3).rest = 2
    ∧ Strings.s11.effB (pol0F Reg.polHpmBat 0) = true :=
  by and_intros <;> first | exact inv_of (by decide +kernel) | decide +kernel

theorem witness_batteryCommands :
    Strings.s0.Inv ∧ Strings.s12.Inv ∧ Strings.s13.Inv
    ∧ (3 < 24 ∧ Strings.s0.inRun = true
      ∧ Strings.s0.accepts (cmdWords 1537 3 { seq := 42, ver := 1#4, jbad := 0#3 } [0, 50000]) false 0
      ∧ Strings.s0.retired 0 (Strings.s0.batBay 3) = false ∧ Strings.s0.batEn 3 = true ∧ Strings.s0.batSvc 3 = 2
      ∧ Strings.s0.abc.rest = none ∧ (Strings.s0.move (Strings.s0.batGroup 3)).on = false)
    ∧ (3 < 24 ∧ Strings.s0.inRun = true
      ∧ Strings.s0.accepts (cmdWords 1536 3 { seq := 42, ver := 1#4, twoWire := true, jbad := 0#3 } [0, 100]) true 0
      ∧ Strings.s0.retired 0 (Strings.s0.batBay 3) = false ∧ Strings.s0.batEn 3 = true ∧ Strings.s0.batGroup 3 < 8
      ∧ Strings.s0.groupLoop (Strings.s0.batGroup 3) = some 3 ∧ Strings.s0.loopCur 3 = true ∧ Strings.s0.loopRunning 3 = true
      ∧ (Strings.s0.move (Strings.s0.batGroup 3)).on = false ∧ (Strings.s0.move (Strings.s0.batGroup 3)).ask = false
      ∧ Strings.s0.groupRests (Strings.s0.batGroup 3) = false
      ∧ (∀ m ∈ Strings.s0.groupStrings (Strings.s0.batGroup 3), Strings.s0.rdB (batF Reg.batStatFull m) = true)
      ∧ Strings.s0.coreUp 1 = true)
    ∧ (3 < 24 ∧ Strings.s12.inRun = true
      ∧ Strings.s12.accepts (cmdWords 1536 3 { seq := 42, ver := 1#4, twoWire := true, jbad := 0#3 } [1, 1]) true 0
      ∧ Strings.s12.batEn 3 = true ∧ (Strings.s12.move (Strings.s12.batGroup 3)).on = true)
    ∧ (3 < 24 ∧ Strings.s13.inRun = true
      ∧ Strings.s13.accepts (cmdWords 1537 3 { seq := 42, ver := 1#4, jbad := 0#3 } [1, 0]) false 0
      ∧ (Strings.s13.bt 3).rest = 3) :=
  by and_intros <;> first | exact inv_of (by decide +kernel) | decide +kernel

theorem witness_surveyAndThermal :
    Strings.s0.Inv ∧ Strings.s14.Inv ∧ Strings.s15.Inv ∧ Strings.s16.Inv
    ∧ (Strings.s0.islandUp = true ∧ 5 < 384 ∧ svReserved 5 = false ∧ Strings.s0.retired 2 5 = false)
    ∧ (Strings.s14.islandUp = true ∧ Strings.s14.rdB (hdr Reg.pgCbusy 176) = false ∧ Strings.s14.anyBroken = false
      ∧ Strings.s14.thmLevel = 0 ∧ -480 ≤ 500 ∧ 500 ≤ 1600 ∧ -480 ≤ 1200 ∧ 1200 ≤ 1600)
    ∧ (Strings.s14.islandUp = true ∧ Strings.s14.rdB (thmF Reg.thmStatHardtrip 0) = false)
    ∧ (Strings.s15.islandUp = true ∧ Strings.s15.sys.grace.isSome = true)
    ∧ (Strings.s16.islandUp = true ∧ 2 < 32 ∧ Strings.s16.effB (thmF Reg.thmCfgEn 2) = true
      ∧ Strings.s16.retired 2 (304 + 2) = false) :=
  by and_intros <;> first | exact inv_of (by decide +kernel) | decide +kernel

theorem witness_selfTest :
    Strings.s14.Inv ∧ Strings.s17.Inv ∧ Strings.s18.Inv ∧ Strings.s19.Inv ∧ Strings.s20.Inv ∧ Strings.s21.Inv
    ∧ (Strings.s14.accepts (cmdWords 3072 0 { seq := 42, ver := 1#4, jbad := 0#3 } [withTest 0 0, 0]) false 0
      ∧ (Strings.s14.accepted (cmdWords 3072 0 { seq := 42, ver := 1#4, jbad := 0#3 } [withTest 0 0, 0]) false).bistRefused
        (Strings.s14.appliedEntry (cmdWords 3072 0 { seq := 42, ver := 1#4, jbad := 0#3 } [withTest 0 0, 0]) false) = none)
    ∧
      (Strings.s14.accepts (cmdWords 3072 0 { seq := 42, ver := 1#4, twoWire := true, jbad := 0#3 } [withTest 4077635143 1,
        1280]) true 0
      ∧ (Strings.s14.accepted (cmdWords 3072 0 { seq := 42, ver := 1#4, twoWire := true, jbad := 0#3 } [withTest 4077635143 1,
        1280]) true).bistRefused (Strings.s14.appliedEntry (cmdWords 3072 0 { seq := 42, ver := 1#4, twoWire := true, jbad := 0#3 } [withTest 4077635143 1, 1280]) true) = none)
    ∧ (Strings.s17.accepts (cmdWords 3072 0 { seq := 42, ver := 1#4, jbad := 0#3 } [withTest 0 (max 2 (0 % 8)), 1]) false 0
      ∧ (Strings.s17.accepted (cmdWords 3072 0 { seq := 42, ver := 1#4, jbad := 0#3 } [withTest 0 (max 2 (0 % 8)),
        1]) false).bistRefused (Strings.s17.appliedEntry (cmdWords 3072 0 { seq := 42, ver := 1#4, jbad := 0#3 } [withTest 0
        (max 2 (0 % 8)), 1]) false) = none)
    ∧ (Strings.s18.sys.bist = some (0, 0, 41, 1000) ∧ Strings.s18.mode = Mode.hold)
    ∧ (Strings.s19.sys.bist = some (1, 70, 41, 1000) ∧ Strings.s19.lUp = true
      ∧ Strings.s19.rdB (bistF Reg.bistStatPaused 0) = false ∧ 70 < 80)
    ∧ (Strings.s20.mode = Mode.boot ∧ Strings.s20.sys.pdie = none)
    ∧ (Strings.s20.mode = Mode.boot ∧ Strings.s20.sys.present = false)
    ∧ (Strings.s21.mode = Mode.bench ∧ Strings.s21.sys.bist = some (2, 0, 41, 1000)
      ∧ Strings.s21.rdB (bistF Reg.bistStatPaused 0) = false) :=
  by and_intros <;> first | exact inv_of (by decide +kernel) | decide +kernel

theorem witness_flights :
    Flights.s0.Inv ∧ Flights.s1.Inv ∧ Flights.s2.Inv ∧ Flights.s3.Inv ∧ Flights.s4.Inv ∧ Flights.s5.Inv ∧ Flights.s6.Inv
    ∧ Flights.s7.Inv
    ∧ (2 < 8 ∧ Flights.s0.accepts (cmdWords 2048 2 { seq := 42, ver := 1#4, twoWire := true, jbad := 0#3 } [104, 0]) true 0
      ∧ bits 104 0 3 < 3 ∧ (Flights.s0.included 2).any (Flights.s0.treadBad 2) = false ∧ Flights.s0.depsBad 2 = false
      ∧ Flights.s0.runRefused 2 = false ∧ Flights.s0.fansOut 2 = false ∧ Flights.s0.included 2 ≠ [])
    ∧ (2 < 8 ∧ Flights.s1.accepts (cmdWords 2048 2 { seq := 42, ver := 1#4, jbad := 0#3 } [4, 2]) false 0
      ∧ Flights.s1.flState 2 ≠ 0 ∧ Flights.s1.fansOut 2 = false)
    ∧ (2 < 8 ∧ Flights.s2.accepts (cmdWords 2048 2 { seq := 42, ver := 1#4, twoWire := true, jbad := 0#3 } [3, 100]) true 0
      ∧ Flights.s2.flState 2 = 3 ∧ Flights.s2.mode ≠ Mode.bench ∧ Flights.s2.fansIn 2 = false ∧ Flights.s2.fansOut 2 = false
      ∧ (Flights.s2.flx 2).judged = false)
    ∧ (Flights.s3.lUp = true ∧ Flights.s3.flState 2 = 1 ∧ Flights.s3.flDown 2 = false ∧ 4 < 96
      ∧ (vget Flights.s3.rail 4).on = false
      ∧ List.map (fun (x : Tread) => x.ent) (List.filter (fun (x : Tread) => x.slot == 100 && x.at_ == 0)
        (Flights.s3.flx 2).treads) = [4]
      ∧ Flights.s3.remoteParents 2 4 = [])
    ∧ (Flights.s4.lUp = true ∧ 104 < 160 ∧ Flights.s4.judging 2 = true ∧ Flights.s4.flDown 2 = false
      ∧ Flights.s4.treadAt 2 104 = some 1)
    ∧ (Flights.s4.lUp = true ∧ List.find? (fun (p : ℕ × ℕ × Bool) => p.1 == 5) (Flights.s4.flx 2).lands = some (5, 4, true)
      ∧ (Flights.s4.flState 2 = 1 ∨ Flights.s4.flState 2 = 2))
    ∧ (Flights.s5.lUp = true ∧ 4 < 160 ∧ Flights.s5.judging 2 = true ∧ Flights.s5.flDown 2 = true
      ∧ Flights.s5.treadAt 2 4 = some 1)
    ∧ (Flights.s6.lUp = true ∧ Flights.s6.flState 2 = 4 ∧ (Flights.s6.flx 2).cond = false)
    ∧ (Flights.s7.lUp = true ∧ Flights.s7.flState 2 = 4 ∧ (Flights.s7.flx 2).cond = true
      ∧ Flights.s7.eff (flF Reg.flCfgPair 2) = 5 ∧ 5 < 8 ∧ 5 ≠ 2 ∧ Flights.s7.fansIn 5 = false) :=
  by and_intros <;> first | exact inv_of (by decide +kernel) | decide +kernel

theorem witness_railCommands :
    Flights.s8.Inv ∧ Flights.s9.Inv ∧ Flights.s10.Inv ∧ Flights.s11.Inv ∧ Flights.s12.Inv
    ∧ (Flights.s8.railJudged 4 = true
      ∧ (Flights.s8.sv (160 + 4) ≤ 16 * Flights.s8.eff (seq0F Reg.seqRailLvlUv 4) ∨ 16 * Flights.s8.eff
        (seq0F Reg.seqRailLvlOv 4) ≤ Flights.s8.sv (160 + 4)))
    ∧ (Flights.s8.railJudged 4 = true ∧ Flights.s8.sv (160 + 4) < 16 * Flights.s8.eff (seq0F Reg.seqRailLvlOv 4))
    ∧ (Flights.s9.railJudged 4 = true ∧ (vget Flights.s9.rail 4).good = true
      ∧ Flights.s9.sv (160 + 4) ≤ 16 * Flights.s9.eff (seq0F Reg.seqRailLvlUv 4))
    ∧ (Flights.s9.railJudged 4 = true ∧ (vget Flights.s9.rail 4).fell = false
      ∧ Flights.s9.sv (160 + 4) < 16 * Flights.s9.eff (seq0F Reg.seqRailLvl2Off 4))
    ∧ (Flights.s10.railJudged 4 = true ∧ (vget Flights.s10.rail 4).good = false
      ∧ 16 * Flights.s10.eff (seq0F Reg.seqRailLvlUv 4) < Flights.s10.sv (160 + 4)
      ∧ Flights.s10.sv (160 + 4) < 16 * Flights.s10.eff (seq0F Reg.seqRailLvlOv 4))
    ∧ (Flights.s10.railJudged 4 = true ∧ 16 * Flights.s10.eff (seq0F Reg.seqRailLvlUv 4) < Flights.s10.sv (160 + 4))
    ∧ (Flights.s11.railJudged 4 = true ∧ Flights.s11.lUp = true
      ∧ 16 * Flights.s11.eff (seq0F Reg.seqRailLvlOv 4) ≤ Flights.s11.sv (160 + 4)
      ∧ Flights.s11.effB (seq0F Reg.seqEntOvoff 4) = false)
    ∧ (Flights.s12.railJudged 4 = true ∧ Flights.s12.lUp = true
      ∧ 16 * Flights.s12.eff (seq0F Reg.seqRailLvlOv 4) ≤ Flights.s12.sv (160 + 4)
      ∧ Flights.s12.effB (seq0F Reg.seqEntOvoff 4) = true) :=
  by and_intros <;> first | exact inv_of (by decide +kernel) | decide +kernel

theorem witness_iddex :
    Flights.s13.Inv ∧ Flights.s14.Inv ∧ Flights.s15.Inv ∧ Flights.s16.Inv
    ∧ (Flights.s13.lUp = true ∧ Flights.s13.rdB (idxF Reg.idxStatMaster 0) = true ∧ Flights.s13.us % 1000 = 0)
    ∧ (Flights.s13.lUp = true ∧ Flights.s13.idxUp = true ∧ Flights.s13.rdB (idxF Reg.idxStatAddrconf 0) = false)
    ∧ (Flights.s13.lUp = true ∧ Flights.s13.idxUp = true
      ∧ idxFrameBad 0 (List.map (fun (x : Byte) => BitVec.toNat x) [1, 2, 3]) = true)
    ∧ (Flights.s14.lUp = true ∧ Flights.s14.rdB (idxF Reg.idxStatMaster 0) = false)
    ∧ (Flights.s14.lUp = true ∧ Flights.s14.idxUp = true
      ∧ idxFrameBad 5 (List.map (fun (x : Byte) => BitVec.toNat x) ([81, 64, 3, 4] ++ List.replicate 64 0 ++ [49, 204])) = false)
    ∧ (Flights.s13.idxUp = true ∧ (List.replicate 56 0).length = 56 ∧ 3#4 ≠ 0#4 ∧ 3 ≠ Flights.s13.idxAddr
      ∧ Flights.s13.retired 6 3 = false)
    ∧ (Flights.s13.idxUp = true ∧ Flights.s13.idxMaster = true ∧ (Flights.s13.flx 3).own = none)
    ∧ (Flights.s14.idxUp = true ∧ (List.replicate 64 0).length = 64 ∧ Flights.s14.rdB (idxF Reg.idxStatMaster 0) = false
      ∧ Flights.s14.retired 6 0 = false ∧ nth (List.map (fun (x : Byte) => BitVec.toNat x) (List.replicate 64 0)) 48 = 0)
    ∧ (Flights.s15.idxUp = true ∧ 3 ≠ Flights.s15.idxAddr ∧ Flights.s15.retired 6 3 = false
      ∧ Flights.s15.rdB (idxF Reg.idxPeerLost 3) = false
      ∧ (Flights.s15.rdB (idxF Reg.idxPeerHeard 3) || bitOf (Flights.s15.eff (idxF Reg.idxPeersExpect 0)) 3) = true)
    ∧ (Flights.s16.idxUp = true ∧ Flights.s16.hasMaster = true ∧ Flights.s16.rdB (idxF Reg.idxPeerLost 3) = true
      ∧ Flights.s16.rdB (idxF Reg.idxPeerBaded 3) = false) :=
  by and_intros <;> first | exact inv_of (by decide +kernel) | decide +kernel

theorem witness_tieDetection :
    Ties.s0.Inv ∧ Ties.s1.Inv ∧ Ties.s2.Inv ∧ Ties.s3.Inv ∧ Ties.s22.Inv ∧ Ties.s23.Inv ∧ Ties.s24.Inv ∧ Ties.s25.Inv
    ∧ Ties.s26.Inv
    ∧ (Ties.s0.tieUp 1 = true ∧ Ties.s0.tieBay 1 < 48 ∧ Ties.s0.tieState 1 = 0 ∧ Ties.s0.eff (tieF Reg.tieCfgDrp 1) = 2
      ∧ ((Ties.s0.tieSample 1 450 1).tieSeen 1 = 0 ∨ Ties.s0.rd (tieF Reg.tieStatMoist 1) = 2))
    ∧ (Ties.s0.tieUp 1 = true ∧ Ties.s0.tieBay 1 < 48)
    ∧ (Ties.s0.tieUp 1 = true ∧ Ties.s0.tieBay 1 < 48 ∧ (Ties.s0.tieState 1 ≠ 1 ∨ Ties.s0.rd (tieF Reg.tieStatMoist 1) = 2))
    ∧ (Ties.s0.tieUp 1 = true ∧ Ties.s0.tieBay 1 < 48 ∧ Ties.s0.effB (tieF Reg.tieCfgMoisten 1) = true)
    ∧ (Ties.s0.tieUp 1 = true ∧ Ties.s0.tieBay 1 < 48 ∧ Ties.s0.tieState 1 = 0 ∧ Ties.s0.eff (tieF Reg.tieCfgDrp 1) = 2
      ∧ (Ties.s0.tieSample 1 150 1).tieSeen 1 ≠ 0 ∧ Ties.s0.rd (tieF Reg.tieStatMoist 1) ≠ 2)
    ∧ (Ties.s0.tieUp 1 = true ∧ Ties.s0.tieBay 1 < 48 ∧ Ties.s0.effB (tieF Reg.tieCfgMoisten 1) = true ∧ 1 < 4 ∧ 1 < 2
      ∧ tieOpenCode (Ties.s0.tieState 1) = true)
    ∧ (Ties.s1.tieUp 1 = true ∧ Ties.s1.tieBay 1 < 48 ∧ Ties.s1.tieState 1 ≠ 0)
    ∧ (Ties.s2.tieUp 1 = true ∧ Ties.s2.tieBay 1 < 48 ∧ Ties.s2.tieState 1 = 1 ∧ Ties.s2.rd (tieF Reg.tieStatMoist 1) ≠ 2
      ∧ Ties.s2.tieSeen 1 = 1 ∧ (Ties.s2.tieSample 1 0 1).tieSeen 1 = 1)
    ∧ (Ties.s3.tieUp 1 = true ∧ Ties.s3.tieBay 1 < 48 ∧ Ties.s3.tieState 1 = 1 ∧ Ties.s3.rd (tieF Reg.tieStatMoist 1) ≠ 2
      ∧ Ties.s3.tieSeen 1 = 2 ∧ (Ties.s3.tieSample 1 100 1).tieSeen 1 = 2)
    ∧ (Ties.s22.tieOn 1 = true ∧ Ties.s22.tieBay 1 < 48 ∧ Ties.s22.islandUp = true ∧ Ties.s22.lUp = true
      ∧ tieAttachedCode (Ties.s22.tieState 1) = true)
    ∧ (Ties.s22.tieOn 1 = true ∧ Ties.s22.tieBay 1 < 48 ∧ Ties.s22.lUp = true ∧ Ties.s22.conLive 1 = true
      ∧ Ties.s22.rdB (tieF Reg.tieStatLimited 1) = false ∧ Ties.s22.tieOver 1 = true)
    ∧ (Ties.s23.tieOn 1 = true ∧ Ties.s23.tieBay 1 < 48 ∧ Ties.s23.lUp = true ∧ Ties.s23.conLive 1 = true
      ∧ Ties.s23.rdB (tieF Reg.tieStatLimited 1) = true ∧ Ties.s23.tieOver 1 = true)
    ∧ (Ties.s24.tieOn 1 = true ∧ Ties.s24.tieBay 1 < 48 ∧ Ties.s24.lUp = true ∧ Ties.s24.conLive 1 = true
      ∧ Ties.s24.rdB (tieF Reg.tieStatLimited 1) = true ∧ Ties.s24.tieOver 1 = false)
    ∧ (Ties.s25.tieOn 1 = true ∧ Ties.s25.tieBay 1 < 48 ∧ Ties.s25.islandUp = true
      ∧ (Ties.s25.tieState 1 = 7 ∨ Ties.s25.tieState 1 = 9))
    ∧ (Ties.s26.tieOn 1 = true ∧ Ties.s26.tieBay 1 < 48 ∧ Ties.s26.islandUp = true ∧ Ties.s26.lUp = false
      ∧ tieAttachedCode (Ties.s26.tieState 1) = true) :=
  by and_intros <;> first | exact inv_of (by decide +kernel) | decide +kernel

theorem witness_tieFrames :
    Ties.s4.Inv ∧ Ties.s5.Inv ∧ Ties.s6.Inv ∧ Ties.s7.Inv
    ∧ (Ties.s4.tieUp 1 = true ∧ Ties.s4.tieBay 1 < 48 ∧ (Ties.s4.tp 1).tx = some (Ties.s4.tp 1).tx.get!)
    ∧ (Ties.s4.tieUp 1 = true ∧ Ties.s4.tieBay 1 < 48 ∧ (Ties.s4.tp 1).tx = some (Ties.s4.tp 1).tx.get!
      ∧ ((Ties.s4.tp 1).ended = false ∨ (Ties.s4.tp 1).tx.get!.id ≠ 0))
    ∧ (Ties.s4.tieUp 1 = true ∧ Ties.s4.tieBay 1 < 48 ∧ (Ties.s4.tp 1).tx = some (Ties.s4.tp 1).tx.get!
      ∧ (Ties.s4.tp 1).ended = true ∧ (Ties.s4.tp 1).tx.get!.sent < 3)
    ∧ (Ties.s4.tieUp 1 = true ∧ Ties.s4.tieBay 1 < 48 ∧ (Ties.s4.tp 1).capsTimer = true ∧ Ties.s4.tieSource 1 = true
      ∧ ((Ties.s4.tp 1).capsN < 50 ∧ Ties.s4.tieState 1 = 3 ∨ Ties.s4.tieState 1 = 5 ∨ Ties.s4.tieState 1 = 10))
    ∧ (Ties.s4.tieUp 1 = true ∧ Ties.s4.tieBay 1 < 48
      ∧ ([0].length ≠ bits 0 7 3 ∨ 9 ≠ tieCrc 0 (List.map (fun (x : Word) => BitVec.toNat x) [0])))
    ∧ (Ties.s4.tieUp 1 = true ∧ Ties.s4.tieBay 1 < 48 ∧ (0 = 0 ∨ 9 ≤ 0 ∨ 0 ≠ 1) ∧ tieSignals (Ties.s4.tieState 1) = true
      ∧ (Ties.s4.tp 1).last ≠ some (0, 1))
    ∧ (Ties.s4.tieUp 1 = true ∧ Ties.s4.tieBay 1 < 48 ∧ (Ties.s4.tp 1).tx = some (Ties.s4.tp 1).tx.get!
      ∧ (Ties.s4.tp 1).ended = true ∧ (Ties.s4.tp 1).tx.get!.id = 1
      ∧ ((Ties.s4.tp 1).tx.get!.typ = 2 ∨ (Ties.s4.tp 1).tx.get!.typ = 3 ∨ (Ties.s4.tp 1).tx.get!.typ = 5 ∨
        (Ties.s4.tp 1).tx.get!.typ = 7 ∨ (Ties.s4.tp 1).tx.get!.typ = 8))
    ∧ (Ties.s5.tieUp 1 = true ∧ Ties.s5.tieBay 1 < 48 ∧ (Ties.s5.tp 1).tx = some (Ties.s5.tp 1).tx.get!
      ∧ (Ties.s5.tp 1).ended = true ∧ 3 ≤ (Ties.s5.tp 1).tx.get!.sent)
    ∧ (Ties.s5.tieUp 1 = true ∧ Ties.s5.tieBay 1 < 48 ∧ (Ties.s5.tp 1).await = 2)
    ∧ (Ties.s5.tieUp 1 = true ∧ Ties.s5.tieBay 1 < 48 ∧ (Ties.s5.tieState 1 = 4 ∨ Ties.s5.tieState 1 = 6))
    ∧ (Ties.s6.tieUp 1 = true ∧ Ties.s6.tieBay 1 < 48 ∧ (Ties.s6.tp 1).await = (Ties.s6.tp 1).await ∧ (Ties.s6.tp 1).await ≠ 0
      ∧ (Ties.s6.tp 1).await ≠ 2 ∧ tieSignals (Ties.s6.tieState 1) = true)
    ∧ (Ties.s6.tieUp 1 = true ∧ Ties.s6.tieBay 1 < 48 ∧ (Ties.s6.tp 1).capsTimer = true ∧ Ties.s6.tieSource 1 = true
      ∧ 50 ≤ (Ties.s6.tp 1).capsN ∧ Ties.s6.tieState 1 = 3)
    ∧ (Ties.s7.tieUp 1 = true ∧ Ties.s7.tieBay 1 < 48
      ∧ (¬(([] : List Word).length ≠ bits 1 7 3 ∨ 1489118142 ≠ tieCrc 1 []))) :=
  by and_intros <;> first | exact inv_of (by decide +kernel) | decide +kernel

theorem witness_tieMessages :
    Ties.s8.Inv ∧ Ties.s9.Inv ∧ Ties.s10.Inv ∧ Ties.s11.Inv ∧ Ties.s12.Inv ∧ Ties.s13.Inv ∧ Ties.s14.Inv ∧ Ties.s15.Inv
    ∧ Ties.s16.Inv ∧ Ties.s17.Inv ∧ Ties.s18.Inv ∧ Ties.s19.Inv ∧ Ties.s20.Inv ∧ Ties.s21.Inv
    ∧ (Ties.s8.tieUp 1 = true ∧ Ties.s8.tieBay 1 < 48 ∧ tieSignals (Ties.s8.tieState 1) = true
      ∧ (Ties.s8.tp 1).last ≠ some (2, 1))
    ∧ (Ties.s8.tieUp 1 = true ∧ Ties.s8.tieBay 1 < 48 ∧ tieSignals (Ties.s8.tieState 1) = true
      ∧ (Ties.s8.tp 1).last ≠ some (4, 1) ∧ (Ties.s8.tp 1).await = 3 ∧ (Ties.s8.tieState 1 = 3 ∨ Ties.s8.tieState 1 = 5))
    ∧ (Ties.s8.tieUp 1 = true ∧ Ties.s8.tieBay 1 < 48 ∧ tieSignals (Ties.s8.tieState 1) = true
      ∧ (Ties.s8.tp 1).last ≠ some (5, 1) ∧ ((Ties.s8.tp 1).await = 3 ∨ (Ties.s8.tp 1).await = 7))
    ∧ (Ties.s8.tieUp 1 = true ∧ Ties.s8.tieBay 1 < 48 ∧ tieSignals (Ties.s8.tieState 1) = true
      ∧ (Ties.s8.tp 1).last ≠ some (7, 1) ∧ Ties.s8.tieState 1 ≠ 9 ∧ (Ties.s8.tp 1).swapTo = none
      ∧ (Ties.s8.tieState 1 = 5 ∧ Ties.s8.eff (tieF Reg.tieCfgDrp 1) = 2 ∧ Ties.s8.tieArmed 1 = true ∧ Ties.s8.effB
        (tieF Reg.tieCfgAccswap 1) = true))
    ∧ (Ties.s8.tieUp 1 = true ∧ Ties.s8.tieBay 1 < 48 ∧ tieSignals (Ties.s8.tieState 1) = true
      ∧ (Ties.s8.tp 1).last ≠ some (8, 1) ∧ Ties.s8.tieSource 1 = true
      ∧ (Ties.s8.tieState 1 = 3 ∨ Ties.s8.tieState 1 = 5 ∨ Ties.s8.tieState 1 = 10))
    ∧ (Ties.s8.tieUp 1 = true ∧ Ties.s8.tieBay 1 < 48 ∧ tieSignals (Ties.s8.tieState 1) = true
      ∧ (Ties.s8.tp 1).last ≠ some (3, 1) ∧ Ties.s8.tieSource 1 = true ∧ Ties.s8.tieState 1 ≠ 9 ∧ Ties.s8.tieState 1 ≠ 6
      ∧ (Ties.s8.tp 1).swapTo = none ∧ (Ties.s8.tieEqual 1 2148303009 = true ∨ Ties.s8.tieRefuses 1 2148303009 = none))
    ∧ (Ties.s8.tieUp 1 = true ∧ Ties.s8.tieBay 1 < 48 ∧ tieSignals (Ties.s8.tieState 1) = true
      ∧ (Ties.s8.tp 1).last ≠ some (3, 1) ∧ Ties.s8.tieSource 1 = true ∧ Ties.s8.tieState 1 ≠ 9 ∧ Ties.s8.tieState 1 ≠ 6
      ∧ (Ties.s8.tp 1).swapTo = none ∧ Ties.s8.tieEqual 1 0 = false ∧ Ties.s8.tieRefuses 1 0 = some 1)
    ∧ (Ties.s9.tieUp 1 = true ∧ Ties.s9.tieBay 1 < 48 ∧ tieSignals (Ties.s9.tieState 1) = true
      ∧ (Ties.s9.tp 1).req = some ((Ties.s9.tp 1).req.get!.1, (Ties.s9.tp 1).req.get!.2.1, (Ties.s9.tp 1).req.get!.2.2)
      ∧ (Ties.s9.tp 1).last ≠ some (6, 6) ∧ Ties.s9.tieState 1 = 4 ∧ Ties.s9.tieSource 1 = false
      ∧ 100 * supVmin (Ties.s9.tp 1).req.get!.2.1 ≤ Ties.s9.svMv (48 + Ties.s9.tieBay 1)
      ∧ Ties.s9.svMv (48 + Ties.s9.tieBay 1) ≤ 100 * supVmax (Ties.s9.tp 1).req.get!.2.1)
    ∧ (Ties.s9.tieUp 1 = true ∧ Ties.s9.tieBay 1 < 48 ∧ tieSignals (Ties.s9.tieState 1) = true
      ∧ (Ties.s9.tp 1).last ≠ some (7, 6) ∧ Ties.s9.tieState 1 ≠ 9 ∧ (Ties.s9.tp 1).swapTo = none
      ∧ (¬(Ties.s9.tieState 1 = 5 ∧ Ties.s9.eff (tieF Reg.tieCfgDrp 1) = 2 ∧ Ties.s9.tieArmed 1 = true ∧ Ties.s9.effB
        (tieF Reg.tieCfgAccswap 1) = true)))
    ∧ (Ties.s10.tieUp 1 = true ∧ Ties.s10.tieBay 1 < 48 ∧ tieSignals (Ties.s10.tieState 1) = true
      ∧ (Ties.s10.tp 1).req = some ((Ties.s10.tp 1).req.get!.1, (Ties.s10.tp 1).req.get!.2.1, (Ties.s10.tp 1).req.get!.2.2)
      ∧ (Ties.s10.tp 1).last ≠ some (6, 1) ∧ Ties.s10.tieState 1 = 4 ∧ Ties.s10.tieSource 1 = false
      ∧ (Ties.s10.svMv (48 + Ties.s10.tieBay 1) < 100 * supVmin (Ties.s10.tp 1).req.get!.2.1 ∨ 100 * supVmax
        (Ties.s10.tp 1).req.get!.2.1 < Ties.s10.svMv (48 + Ties.s10.tieBay 1)))
    ∧ (Ties.s11.tieUp 1 = true ∧ Ties.s11.tieBay 1 < 48 ∧ tieSignals (Ties.s11.tieState 1) = true
      ∧ (Ties.s11.tp 1).last ≠ some (4, 1) ∧ (Ties.s11.tp 1).await = 7 ∧ Ties.s11.tieState 1 = 5)
    ∧ (Ties.s11.tieUp 1 = true ∧ Ties.s11.tieBay 1 < 48 ∧ tieSignals (Ties.s11.tieState 1) = true
      ∧ (Ties.s11.tp 1).backoff = true ∧ (Ties.s11.tp 1).swapTo = some true ∧ (Ties.s11.tp 1).tx = none)
    ∧ (Ties.s12.tieUp 1 = true ∧ Ties.s12.tieBay 1 < 48 ∧ tieSignals (Ties.s12.tieState 1) = true
      ∧ (Ties.s12.tp 1).last ≠ some (6, 1) ∧ Ties.s12.tieState 1 = 6 ∧ Ties.s12.tieSource 1 = false)
    ∧ (Ties.s13.tieUp 1 = true ∧ Ties.s13.tieBay 1 < 48 ∧ tieSignals (Ties.s13.tieState 1) = true
      ∧ (Ties.s13.tp 1).last = some (2, 1))
    ∧ (Ties.s14.tieUp 1 = true ∧ Ties.s14.tieBay 1 < 48 ∧ tieSignals (Ties.s14.tieState 1) = true
      ∧ (Ties.s14.tp 1).last = some (3, 1))
    ∧ (Ties.s15.tieUp 1 = true ∧ Ties.s15.tieBay 1 < 48 ∧ tieSignals (Ties.s15.tieState 1) = true
      ∧ (Ties.s15.tp 1).last = some (4, 1))
    ∧ (Ties.s16.tieUp 1 = true ∧ Ties.s16.tieBay 1 < 48 ∧ tieSignals (Ties.s16.tieState 1) = true
      ∧ (Ties.s16.tp 1).last = some (5, 1))
    ∧ (Ties.s17.tieUp 1 = true ∧ Ties.s17.tieBay 1 < 48 ∧ tieSignals (Ties.s17.tieState 1) = true
      ∧ (Ties.s17.tp 1).last = some (6, 1))
    ∧ (Ties.s18.tieUp 1 = true ∧ Ties.s18.tieBay 1 < 48 ∧ tieSignals (Ties.s18.tieState 1) = true
      ∧ (Ties.s18.tp 1).last = some (7, 1))
    ∧ (Ties.s19.tieUp 1 = true ∧ Ties.s19.tieBay 1 < 48 ∧ tieSignals (Ties.s19.tieState 1) = true
      ∧ (Ties.s19.tp 1).last = some (8, 1))
    ∧ (Ties.s20.tieUp 1 = true ∧ Ties.s20.tieBay 1 < 48 ∧ tieSignals (Ties.s20.tieState 1) = true
      ∧ (Ties.s20.tp 1).last ≠ some (3, 0) ∧ Ties.s20.tieState 1 = 9)
    ∧ (Ties.s20.tieUp 1 = true ∧ Ties.s20.tieBay 1 < 48 ∧ tieSignals (Ties.s20.tieState 1) = true
      ∧ (Ties.s20.tp 1).last ≠ some (4, 0) ∧ Ties.s20.tieState 1 = 9)
    ∧ (Ties.s20.tieUp 1 = true ∧ Ties.s20.tieBay 1 < 48 ∧ tieSignals (Ties.s20.tieState 1) = true
      ∧ (Ties.s20.tp 1).last ≠ some (7, 0) ∧ Ties.s20.tieState 1 = 9)
    ∧ (Ties.s21.tieUp 1 = true ∧ Ties.s21.tieBay 1 < 48 ∧ tieSignals (Ties.s21.tieState 1) = true
      ∧ (Ties.s21.tp 1).last ≠ some (3, 1) ∧ Ties.s21.tieSource 1 = true ∧ Ties.s21.tieState 1 ≠ 9
      ∧ (Ties.s21.tieState 1 = 6 ∨ (Ties.s21.tp 1).swapTo ≠ none ∧ (Ties.s21.tp 1).backoff = false)) :=
  by and_intros <;> first | exact inv_of (by decide +kernel) | decide +kernel

theorem witness_tieCommands :
    Ties.s27.Inv ∧ Ties.s28.Inv
    ∧ (2 < 4 ∧ Ties.s27.tieBay 2 < 48
      ∧ Ties.s27.accepts (cmdWords 1792 2 { seq := 42, ver := 1#4, jbad := 0#3 } [0, 2148303009]) false 0
      ∧ bits 2148303009 0 2 ≠ 3 ∧ Ties.s27.retired 4 2 = false)
    ∧ (1 < 4 ∧ Ties.s27.tieBay 1 < 48
      ∧ Ties.s27.accepts (cmdWords 1793 1 { seq := 42, ver := 1#4, jbad := 0#3 } [1, 2388274579, 1]) false 0
      ∧ Ties.s27.tieRequestRefused 1 1 2388274579 = none)
    ∧ (1 < 4 ∧ Ties.s27.tieBay 1 < 48
      ∧ Ties.s27.accepts (cmdWords 1793 1 { seq := 42, ver := 1#4, jbad := 0#3 } [2, 2388274579, 1]) false 0
      ∧ Ties.s27.tieRequestRefused 1 2 2388274579 = none)
    ∧ (1 < 4 ∧ Ties.s27.tieBay 1 < 48
      ∧ Ties.s27.accepts (cmdWords 1793 1 { seq := 42, ver := 1#4, jbad := 0#3 } [3, 2388274579, 1]) false 0
      ∧ Ties.s27.tieRequestRefused 1 3 2388274579 = none)
    ∧ (1 < 4 ∧ Ties.s28.tieBay 1 < 48
      ∧ Ties.s28.accepts (cmdWords 1793 1 { seq := 42, ver := 1#4, jbad := 0#3 } [0, 2148303009, 1]) false 0
      ∧ Ties.s28.tieRequestRefused 1 0 2148303009 = none ∧ Ties.s28.tieState 1 ≠ 10) :=
  by and_intros <;> first | exact inv_of (by decide +kernel) | decide +kernel

theorem witness_twoWirePorts :
    Ports.s0.Inv ∧ Ports.s1.Inv ∧ Ports.s2.Inv ∧ Ports.s3.Inv ∧ Ports.s4.Inv ∧ Ports.s5.Inv ∧ Ports.s6.Inv ∧ Ports.s7.Inv
    ∧ Ports.s8.Inv
    ∧ (Ports.s0.lUp = true ∧ Ports.s0.rdB (twcF Reg.twcHstatBusy 7) = false ∧ bitOf 51 31 = false)
    ∧ (Ports.s0.lUp = true ∧ Ports.s0.rdB (twcF Reg.twcHstatBusy 1) = false ∧ bitOf 2148505139 31 = true
      ∧ 7 < bits 2148505139 16 4)
    ∧ (Ports.s0.lUp = true ∧ (Ports.s0.twp 2).run = some (Ports.s0.twp 2).run.get! ∧ (Ports.s0.twp 2).run.get!.again = false
      ∧ 0 = 0 ∧ (Ports.s0.twp 2).run.get!.cls = 3 ∧ (Ports.s0.twp 2).queue = [])
    ∧ (Ports.s0.lUp = true ∧ (Ports.s0.twp 2).run = some (Ports.s0.twp 2).run.get! ∧ (Ports.s0.twp 2).run.get!.again = false
      ∧ (Ports.s0.twp 2).run.get!.losses < 7)
    ∧ (Ports.s0.lUp = true ∧ (Ports.s0.twp 2).run = some (Ports.s0.twp 2).run.get! ∧ (Ports.s0.twp 2).run.get!.again = false
      ∧ (Ports.s0.twp 2).run.get!.cls = 3 ∧ (Ports.s0.twp 2).queue = [])
    ∧ (Ports.s0.lUp = true ∧ (Ports.s0.twp 2).run = some (Ports.s0.twp 2).run.get! ∧ (Ports.s0.twp 2).run.get!.again = false
      ∧ 1 ≠ 0 ∧ (Ports.s0.twp 2).run.get!.retries < Ports.s0.eff (twcF Reg.twcCfgRetry 2))
    ∧ (Ports.s1.lUp = true ∧ (Ports.s1.twp 2).run = some (Ports.s1.twp 2).run.get! ∧ (Ports.s1.twp 2).run.get!.again = false
      ∧ 1 ≠ 0 ∧ Ports.s1.eff (twcF Reg.twcCfgRetry 2) ≤ (Ports.s1.twp 2).run.get!.retries ∧ (Ports.s1.twp 2).run.get!.cls = 3
      ∧ (Ports.s1.twp 2).queue = [])
    ∧ (Ports.s1.lUp = true ∧ (Ports.s1.twp 2).run = some (Ports.s1.twp 2).run.get! ∧ (Ports.s1.twp 2).run.get!.again = false
      ∧ 7 ≤ (Ports.s1.twp 2).run.get!.losses ∧ (Ports.s1.twp 2).run.get!.cls = 3 ∧ (Ports.s1.twp 2).queue = [])
    ∧ (Ports.s2.lUp = true ∧ (Ports.s2.twp 2).run = some (Ports.s2.twp 2).run.get! ∧ (Ports.s2.twp 2).run.get!.again = true)
    ∧ (Ports.s3.lUp = true ∧ Ports.s3.rdB (twcF Reg.twcHstatBusy 2) = false ∧ bitOf 3651219322 31 = true
      ∧ bits 3651219322 16 4 ≤ 7 ∧ Ports.s3.twSt 2 = 1 ∧ (Ports.s3.twp 2).run = none ∧ (Ports.s3.twp 2).queue = [])
    ∧ (Ports.s4.lUp = true ∧ (Ports.s4.twSt 2 = 1 ∨ Ports.s4.twSt 2 = 2) ∧ (true = true ∨ false = true))
    ∧ (Ports.s5.lUp = true ∧ (Ports.s5.twSt 2 = 3 ∨ Ports.s5.twSt 2 = 4) ∧ (Ports.s5.twp 2).run = none
      ∧ (Ports.s5.twp 2).queue = [])
    ∧ (Ports.s6.lUp = true ∧ Ports.s6.twSt 2 = 4)
    ∧ (Ports.s7.lUp = true ∧ Ports.s7.twSt 2 = 4 ∧ Ports.s7.cureNext 2 = none ∧ (Ports.s7.twp 2).skipped.head? = some 4
      ∧ (∀ m < 8, (Ports.s7.twp m).ask = none ∧ (Ports.s7.twp m).cyc = none) ∧ (∀ m < 8, m ≠ 2 → Ports.s7.twSt m ≠ 4)
      ∧ Ports.s7.bayRole (Ports.s7.eff (twcFk Reg.twcMapBay 2 4)) ≠ 1
      ∧ Ports.s7.bayState (Ports.s7.eff (twcFk Reg.twcMapBay 2 4)) = 3)
    ∧ (Ports.s8.lUp = true ∧ (Ports.s8.twp 2).judge = true ∧ (Ports.s8.twp 2).run = none ∧ (Ports.s8.twp 2).queue = []
      ∧ false = false)
    ∧ (Ports.s8.lUp = true ∧ (Ports.s8.twp 2).judge = true ∧ (Ports.s8.twp 2).run = none ∧ (Ports.s8.twp 2).queue = []
      ∧ (true = true ∨ false = true)) :=
  by and_intros <;> first | exact inv_of (by decide +kernel) | decide +kernel

theorem witness_captureBanks :
    Capture.s0.Inv ∧ Capture.s1.Inv
    ∧ (Capture.s0.lUp = true ∧ 0 < 80 ∧ Capture.s0.retired 5 0 = false ∧ (ownerAllowed 0).contains 5 = false)
    ∧ (Capture.s0.lUp = true ∧ Capture.s0.us % 64 = 0 ∧ Capture.s0.cap.began ≠ some Capture.s0.us)
    ∧ (Capture.s0.lUp = true ∧ Capture.s0.mode = Mode.run ∧ 0 < 80 ∧ Capture.s0.rdB (Reg.memTcfgTen.at 208 0) = true
      ∧ Capture.s0.owner 0 ≠ 7 ∧ Capture.s0.retired 5 0 = false)
    ∧ (Capture.s0.lUp = true ∧ 1 < 80 ∧ Capture.s0.retired 5 1 = false ∧ (ownerAllowed 1).contains 3 = true)
    ∧ (Capture.s1.lUp = true ∧ 10 < 80 ∧ Capture.s1.grantable 10 = true) :=
  by and_intros <;> first | exact inv_of (by decide +kernel) | decide +kernel

theorem witness_captureWindows :
    Capture.s2.Inv ∧ Capture.s3.Inv
    ∧ (Capture.s2.lUp = true ∧ Capture.s2.effB (cap0F Reg.capCfgEn 0) = true
      ∧ bitOf (Capture.s2.eff (cap0F Reg.capTrigSrcen 0)) 3 = true)
    ∧ (Capture.s2.lUp = true ∧ Capture.s2.winSt 1 = 2)
    ∧ (Capture.s2.lUp = true ∧ Capture.s2.winSt 1 = 2 ∧ (Capture.s2.winx 1).ended = false
      ∧ Capture.s2.rd (cap1F Reg.capWinStatSlot 1) < 16)
    ∧ (Capture.s3.lUp = true ∧ Capture.s3.effB (cap0F Reg.capCfgEn 0) = true
      ∧ bitOf (Capture.s3.eff (cap0F Reg.capTrigSrcen 0)) 2 = true ∧ Capture.s3.effB (cap2F Reg.capCmpEn 3) = true
      ∧ Capture.s3.eff (cap2F Reg.capCmpCh 3) < 384 ∧ svReserved (Capture.s3.eff (cap2F Reg.capCmpCh 3)) = false
      ∧ Capture.s3.retired 2 (Capture.s3.eff (cap2F Reg.capCmpCh 3)) = false
      ∧ Capture.s3.eff (cap2F Reg.capCmpDeb 3) + 1 ≤ [3#16, 400#16].length
      ∧ ([3#16, 400#16].all fun v => Capture.s3.cmpHolds 3 v.toNat) = true) :=
  by and_intros <;> first | exact inv_of (by decide +kernel) | decide +kernel

theorem witness_streamCommands :
    Capture.s4.Inv ∧ Capture.s5.Inv ∧ Capture.s6.Inv ∧ Capture.s7.Inv ∧ Capture.s8.Inv ∧ Capture.s0.Inv
    ∧ (Capture.s4.lUp = true ∧ Capture.s4.us % 1000 = 0 ∧ Capture.s4.rdB (str0F Reg.strCfgEn 0) = true
      ∧ Capture.s4.str.lossy = false)
    ∧ (Capture.s5.lUp = true ∧ Capture.s5.str.ring.frames = Capture.s5.str.ring.frames.head! :: Capture.s5.str.ring.frames.tail
      ∧ Capture.s5.str.buf = some Capture.s5.str.buf.get! ∧ Capture.s5.strStopped = false ∧ Capture.s5.str.rest = []
      ∧ Capture.s5.str.lost = none ∧ Capture.s5.memBad = [] ∧ 0 < Capture.s5.str.ring.frames.head!.size
      ∧ Capture.s5.str.buf.get!.used + Capture.s5.str.ring.frames.head!.size < Capture.s5.str.buf.get!.room)
    ∧ (Capture.s6.lUp = true ∧ Capture.s6.str.lost = some (Capture.s6.str.lost.get!.1, Capture.s6.str.lost.get!.2)
      ∧ Capture.s6.str.ring.frames.head? = some Capture.s6.str.ring.frames.head?.get!
      ∧ Capture.s6.str.buf = some Capture.s6.str.buf.get! ∧ Capture.s6.strStopped = false ∧ Capture.s6.str.rest = []
      ∧ Capture.s6.str.ring.frames.head?.get!.typ = 3 ∧ Capture.s6.str.buf.get!.used + 3 < Capture.s6.str.buf.get!.room)
    ∧ (Capture.s7.lUp = true ∧ Capture.s7.str.buf = some Capture.s7.str.buf.get! ∧ Capture.s7.strStopped = false
      ∧ Capture.s7.str.rest = [] ∧ Capture.s7.str.ring.frames = [] ∧ Capture.s7.str.buf.get!.used ≠ 0)
    ∧ (Capture.s8.lUp = true ∧ Capture.s8.rdB (str0F Reg.strCfgEn 0) = false ∧ Capture.s8.strBanks ≠ [])
    ∧ (Capture.s0.lUp = true ∧ Capture.s0.rdB (str0F Reg.strCfgEn 0) = false ∧ Capture.s0.strBanks = []) :=
  by and_intros <;> first | exact inv_of (by decide +kernel) | decide +kernel

theorem witness_gallery :
    Log.s0.Inv ∧ Log.s1.Inv ∧ Log.s2.Inv ∧ Log.s3.Inv ∧ Log.s4.Inv ∧ Log.s5.Inv ∧ Log.s6.Inv ∧ Log.s7.Inv
    ∧ (Log.s0.lUp = true ∧ Log.s0.offers = Log.s0.offers.head! :: Log.s0.offers.tail ∧ Log.s0.macroBad 0 = []
      ∧ Log.s0.gal.refS + Log.s0.gal.refL = 0 ∧ Log.s0.toSpill = false ∧ Log.s0.offers.head!.words ≤ Log.s0.galFree)
    ∧ (Log.s1.lUp = true ∧ (∀ e ∈ Log.s1.jnl, e.wait ≠ Wait.clear) ∧ Log.s1.rdB (hdr Reg.pgCbusy 249) = false
      ∧ Log.s1.fstate ≠ 1 ∧ Log.s1.flushDue = true ∧ Log.s1.logDevs ≠ [])
    ∧ (Log.s1.lUp = true ∧ Log.s1.offers = Log.s1.offers.head! :: Log.s1.offers.tail ∧ Log.s1.macroBad 0 = []
      ∧ Log.s1.gal.refS + Log.s1.gal.refL = 0 ∧ Log.s1.galFree < Log.s1.offers.head!.words)
    ∧ (Log.s2.lUp = true ∧ (∀ e ∈ Log.s2.jnl, e.wait ≠ Wait.clear) ∧ Log.s2.fstate = 2 ∧ Log.s2.rebuilding = false)
    ∧ (Log.s3.lUp = true ∧ Log.s3.fstate = 1)
    ∧ (Log.s4.lUp = true ∧ ophStep Log.s4.us = true)
    ∧ (Log.s5.lUp = true ∧ Log.s5.offers = Log.s5.offers.head! :: Log.s5.offers.tail ∧ Log.s5.macroBad 0 = []
      ∧ Log.s5.gal.refS + Log.s5.gal.refL = 0 ∧ Log.s5.toSpill = true ∧ Log.s5.offers.head!.words ≤ Log.s5.galFree)
    ∧ (Log.s6.lUp = true ∧ Log.s6.gal.tload = false)
    ∧ (Log.s6.lUp = true ∧ Log.s6.gal.load = false)
    ∧ (Log.s7.lUp = true ∧ Log.s7.gal.tload = true)
    ∧ (Log.s7.lUp = true ∧ Log.s7.gal.load = true) :=
  by and_intros <;> first | exact inv_of (by decide +kernel) | decide +kernel

theorem witness_galleryCommands :
    Log.s8.Inv ∧ Log.s3.Inv ∧ Log.s9.Inv
    ∧ (Log.s8.lUp = true ∧ Log.s8.rdB (gal0F Reg.galStatKeyset 0) = false)
    ∧ (Log.s8.accepts (cmdWords 2816 1 { seq := 42, ver := 1#4, twoWire := true, jbad := 0#3 } [1]) true 0 ∧ Log.s8.fstate = 0
      ∧ recsWords Log.s8.gal.tail ≤ 32768 ∧ Log.s8.spillRetired = false ∧ Log.s8.gal.refS + Log.s8.gal.refL = 0)
    ∧ (Log.s8.accepts (cmdWords 2817 1 { seq := 42, ver := 1#4, twoWire := true, jbad := 0#3 } [1, 1, 7, 0, 1, 7, 1, 7]) true 0
      ∧ (∀ r ∈ Log.s8.readable ++ Log.s8.gal.spill, r.typ = 34 → nth r.payload 0 ≠ 42)
      ∧ (1 ≠ Log.s8.rd (gal0F Reg.galNonceNonce 0) ∨ Log.s8.macOk (Log.s8.appliedEntry
        (cmdWords 2817 1 { seq := 42, ver := 1#4, twoWire := true, jbad := 0#3 } [1, 1, 7, 0, 1, 7, 1, 7]) true) = false))
    ∧ (Log.s3.accepts (cmdWords 2816 0 { seq := 42, ver := 1#4, twoWire := true, jbad := 0#3 } [0]) true 0 ∧ Log.s3.fstate = 1)
    ∧ (Log.s9.lUp = true ∧ Log.s9.rdB (gal0F Reg.galStatKeyset 0) = true) :=
  by and_intros <;> first | exact inv_of (by decide +kernel) | decide +kernel

theorem witness_faultCommands :
    Faults.s0.Inv ∧ Faults.s1.Inv ∧ Faults.s2.Inv ∧ Faults.s3.Inv
    ∧ (Faults.s0.lUp = true ∧ Faults.s0.tokenQ = Faults.s0.tokenQ.head! :: Faults.s0.tokenQ.tail)
    ∧ (Faults.s0.islandUp = true ∧ Faults.s0.flt.pairFail = false)
    ∧ (Faults.s1.bucket 320 5 = (Faults.s1.bucket 320 5).head! :: (Faults.s1.bucket 320 5).tail ∧ Faults.s1.islandUp = true
      ∧ (Faults.s1.bucket 320 5).head!.us + 1000000 * (Faults.s1.bucket 320 5).head!.w ≤ Faults.s1.us + 10000
      ∧ Faults.s1.unitAwaited (Faults.s1.bucket 320 5).head! = false)
    ∧ (Faults.s2.islandUp = true ∧ Faults.s2.us % 1000 = 0 ∧ Faults.s2.effB (flt0F Reg.fltCfgHben 0) = true
      ∧ Faults.s2.pairOk = true)
    ∧ (Faults.s3.islandUp = true ∧ Faults.s3.us % 1000 = 0 ∧ Faults.s3.effB (flt0F Reg.fltCfgHben 0) = true
      ∧ Faults.s3.pairOk = false) :=
  by and_intros <;> first | exact inv_of (by decide +kernel) | decide +kernel

theorem witness_imageCommands :
    Faults.s4.Inv ∧ Faults.s5.Inv ∧ Faults.s6.Inv ∧ Faults.s7.Inv
    ∧ (Faults.s4.lUp = true ∧ Faults.s4.rdB (nvcF Reg.nvcStatBusy 0) = false
      ∧ Faults.s4.xferRefused (Faults.s4.rd (nvcF Reg.nvcXsrcBank 0)) (Faults.s4.rd (nvcF Reg.nvcXdstSlot 0)) (Faults.s4.rd
        (nvcF Reg.nvcXdstOfs 0)) (Faults.s4.rd (nvcF Reg.nvcXlenLen 0)) = true)
    ∧ (Faults.s4.lUp = true ∧ Faults.s4.rdB (nvcF Reg.nvcStatBusy 0) = false ∧ Faults.s4.rd (nvcF Reg.nvcXdstSlot 0) ≤ 4
      ∧ Faults.s4.coreUp 3 = true)
    ∧ (Faults.s4.lUp = true ∧ Faults.s4.sys.xfer = some (2, 2, 2, 2))
    ∧ (Faults.s4.accepts (cmdWords 3074 2 { seq := 42, ver := 1#4, jbad := 0#3 } [2, 0]) false 0 ∧ bits 2 1 2 < 3
      ∧ (bits 2 0 1 = 0 → bits 2 1 2 < 2) ∧ Faults.s4.verifyFailed (selSlot (bits 2 0 1) (bits 2 1 2)) = false
      ∧ Faults.s4.xferTo (selSlot (bits 2 0 1) (bits 2 1 2)) = false
      ∧ (bitOf 0 0 = true → bits 2 0 1 = 0 ∧ bitOf 2 8 = false ∧ Faults.s4.rdB (pol0F Reg.polFwselNofw 0) = false ∧ Faults.s4.rd
        (pol0F Reg.polFwselActive 0) = bits 2 1 2))
    ∧ (Faults.s5.lUp = true ∧ Faults.s5.rdB (nvcF Reg.nvcStatBusy 0) = false
      ∧ Faults.s5.xferRefused (Faults.s5.rd (nvcF Reg.nvcXsrcBank 0)) (Faults.s5.rd (nvcF Reg.nvcXdstSlot 0)) (Faults.s5.rd
        (nvcF Reg.nvcXdstOfs 0)) (Faults.s5.rd (nvcF Reg.nvcXlenLen 0)) = false)
    ∧ (Faults.s6.sys.verify = some Faults.s6.sys.verify.get! ∧ Faults.s6.lUp = true)
    ∧ (Faults.s7.lUp = true ∧ Faults.s7.rdB (nvcF Reg.nvcStatBusy 0) = false ∧ Faults.s7.rd (nvcF Reg.nvcXdstSlot 0) ≤ 4
      ∧ Faults.s7.coreUp 3 = false) :=
  by and_intros <;> first | exact inv_of (by decide +kernel) | decide +kernel

theorem witness_coreCommands :
    Faults.s8.Inv ∧ Faults.s9.Inv ∧ Faults.s10.Inv ∧ Faults.s11.Inv ∧ Faults.s12.Inv ∧ Faults.s13.Inv
    ∧ (Faults.s8.lUp = true ∧ Faults.s8.coreUp 0 = true)
    ∧ (Faults.s8.lUp = true ∧ Faults.s8.mbxAsked 0 1 = some (Faults.s8.mbxAsked 0 1).get!)
    ∧ (Faults.s8.lUp = true ∧ Faults.s8.mbxOpen 0 = some (Faults.s8.mbxOpen 0).get!)
    ∧ (Faults.s9.lUp = true ∧ Faults.s9.mbxAsked 1 257 = some (Faults.s9.mbxAsked 1 257).get!
      ∧ 3 ≤ bits (nth (Faults.s9.mbxAsked 1 257).get! 0) 16 8 ∧ nth (Faults.s9.mbxAsked 1 257).get! 1 < 8
      ∧ nth (Faults.s9.mbxAsked 1 257).get! 2 < 2 ^ 24 ∧ nth (Faults.s9.mbxAsked 1 257).get! 3 < 2 ^ 24
      ∧ Faults.s9.effB (pol0F Reg.polHpmBat 0) = false)
    ∧ (Faults.s10.lUp = true ∧ Faults.s10.mbxAsked 1 258 = some (Faults.s10.mbxAsked 1 258).get!
      ∧ 1 ≤ bits (nth (Faults.s10.mbxAsked 1 258).get! 0) 16 8 ∧ nth (Faults.s10.mbxAsked 1 258).get! 1 < 8)
    ∧ (Faults.s11.lUp = true ∧ Faults.s11.mbxAsked 2 513 = some (Faults.s11.mbxAsked 2 513).get!)
    ∧ (Faults.s12.lUp = true ∧ Faults.s12.mbxOpen 2 = some (Faults.s12.mbxOpen 2).get! ∧ Faults.s12.mbxUp 2 = true
      ∧ 513 < mbxMsg (Faults.s12.mbxOpen 2).get!)
    ∧ (Faults.s13.lUp = true ∧ Faults.s13.mbxAsked 1 257 = some (Faults.s13.mbxAsked 1 257).get!
      ∧ 3 ≤ bits (nth (Faults.s13.mbxAsked 1 257).get! 0) 16 8 ∧ nth (Faults.s13.mbxAsked 1 257).get! 1 < 8
      ∧ nth (Faults.s13.mbxAsked 1 257).get! 2 < 2 ^ 24 ∧ nth (Faults.s13.mbxAsked 1 257).get! 3 < 2 ^ 24
      ∧ Faults.s13.effB (pol0F Reg.polHpmBat 0) = true) :=
  by and_intros <;> first | exact inv_of (by decide +kernel) | decide +kernel

theorem witness_analyzerCommands :
    Faults.s14.Inv ∧ Faults.s15.Inv ∧ Faults.s16.Inv ∧ Faults.s17.Inv
    ∧ (Faults.s14.inRun = true ∧ Faults.s14.coreUp 1 = true ∧ Faults.s14.effB (lanF Reg.lanZcfgZauto 0) = true
      ∧ Faults.s14.lanSt = 0 ∧ Faults.s14.lan.seq = none ∧ Faults.s14.holdup = false
      ∧ Faults.s14.effB (abc3F Reg.abcMapgrpEn 2) = true ∧ Faults.s14.loopCur (Faults.s14.grpLoop 2) = true
      ∧ Faults.s14.loopSt (Faults.s14.grpLoop 2) = 3 ∧ Faults.s14.rdB (loopF Reg.loopStatPgood (Faults.s14.grpLoop 2)) = true
      ∧ (∃ m ∈ Faults.s14.groupStrings 2, (Faults.s14.zQualifies m).isSome = true))
    ∧
      (Faults.s15.accepts (cmdWords 3073 3 { seq := 42, ver := 1#4, jbad := 0#3 } [clrBit 900 8, 65797, 65797, 65797, 900,
        1]) false 0
      ∧ 3 < 16 ∧ bits 900 0 2 ≠ 3 ∧ bits 65797 0 18 ≤ bits 65797 0 18 ∧ 1 ≤ bits 65797 0 7 ∧ bits 65797 0 7 ≤ 64
      ∧ bits 65797 8 8 ≠ 0 ∧ bits 65797 16 8 ≠ 0 ∧ bits 900 0 16 ≠ 0
      ∧ Faults.s15.lanLimits 3 (bits 900 0 2) (bits 65797 0 18) (bits 65797 0 18) = false ∧ Faults.s15.loopSt 3 = 3
      ∧ Faults.s15.rdB (loopF Reg.loopStatPgood 3) = true ∧ (bits 900 0 2 = 2 → Faults.s15.loopBidirCur 3 = true)
      ∧ Faults.s15.holdup = false ∧ Faults.s15.lan.seq = none ∧ Faults.s15.mode = Mode.run)
    ∧
      (Faults.s16.accepts (cmdWords 3073 1 { seq := 42, ver := 1#4, twoWire := true, jbad := 0#3 } [setBit 100 8, 1, 292557278,
        1, 2492511958, 100]) true 0
      ∧ 1 < 16 ∧ Faults.s16.lanSt ≠ 0)
    ∧ (Faults.s16.lUp = true ∧ Faults.s16.lanSt = 1)
    ∧ (Faults.s16.lUp = true ∧ Faults.s16.lanSt ≠ 0 ∧ Faults.s16.lan.seq = some 9
      ∧ Faults.s16.rd (lanF Reg.lanStatDonepts 0) < 64)
    ∧ (Faults.s17.lUp = true ∧ Faults.s17.lanSt ≠ 0 ∧ Faults.s17.lan.seq = none) :=
  by and_intros <;> first | exact inv_of (by decide +kernel) | decide +kernel

end Sys2Proof.Tests
end

/-!
PROOFS. The statements of the scope chapter (O19, O20, O23). Each fails, on a state that is written out here together with the
clause that it breaks.
-/

namespace Sys2Proof.Machine

/-! ### States for the counterexamples -/

/-- Register fields set one after the other. -/
def State.wrAll (s : State) (l : List (Fld × Nat)) : State := l.foldl (fun t p => t.wr p.1 p.2) s

theorem wrAll_inv {s : State} (h : s.Inv) (l : List (Fld × Nat)) : (s.wrAll l).Inv := by
  induction l generalizing s with
  | nil => exact h
  | cons p l ih => exact ih (wr_inv h p.1 p.2)

/-! ### RC_READ of EVT_QPOP (O19) -/

/-- A read of EVT_QPOP takes the oldest entry of the event queue (R70) and stores nothing: its RC fields keep what the register
store holds for them. -/
theorem exec_rcRead_evtQpop {s : State} (hl : s.lUp = true) :
    exec (.rcRead 3 0x7040 0) s = .next (State.answer { s with evq := s.evq.drop 1 } s.queueWord) := by
  have hserve : s.serves 3 = true := hl
  have hword : s.pageWord 0x007 0x040 = s.queueWord := rfl
  have hread : s.hostRead 3 0x7040 0 = (s.afterRead 0x007 0x040 0).answer (s.pageWord 0x007 0x040) := by
    simp [State.hostRead, hserve, State.pageRead]
  have hafter : s.afterRead 0x007 0x040 0 = { s with evq := s.evq.drop 1 } := rfl
  rw [hword, hafter] at hread
  exact congrArg Host.Outcome.next hread

/-- A device in RUN whose register store holds 1 for EVT_QPOP.SRC. The invariant says nothing of the values in the store. -/
def qpopStored : State := State.wrAll { mode := .run } [(evt3F Reg.evtQpopSrc 0, 1)]

theorem qpopStored_inv : qpopStored.Inv := wrAll_inv ⟨rfl, rfl, rfl, by decide, by decide, by decide, by decide⟩ _

/-- Refutes O19, in its clause on reads: EVT_QPOP.SRC is an RC field, and a read of EVT_QPOP leaves it at the 1 that `qpopStored`
holds for it, where the clause asks for its reset value 0. -/
theorem not_registerAccess : ¬ Obligations.RegisterAccess := by
  unfold Obligations.RegisterAccess
  intro h
  obtain ⟨hserved, -, -⟩ := h qpopStored qpopStored_inv
  obtain ⟨-, -, -, hread⟩ := hserved 3 (.inr rfl) rfl
  obtain ⟨t, ht, -, hrc⟩ := hread 0x7040 (by decide)
  have hreset : t.rd (evt3F Reg.evtQpopSrc 0) = 0 := hrc (evt3F Reg.evtQpopSrc 0) (by decide) rfl
  have hstored : t.rd (evt3F Reg.evtQpopSrc 0) = 1 := by
    rw [exec_rcRead_evtQpop rfl] at ht
    cases ht
    decide
  omega

/-! ### EVT_EOI of a vector that a stray source holds pending (O20) -/

/-- A number above the 1,024 sources, whose EVT_RTk.VEC (R68) has the key of the count of refused records, GAL_NREF.SPACE: page
0x0F8 lies 1,024 registers for each page after 0x005, and offset 0x070 twelve after 0x040. -/
def straySource : Nat := 4 * ((0x0F8 - 0x005) * 1024 + 12)

/-- A device in RUN, memory space enabled, no message held back, a lock key sequence under way on BAR0, EV5 routed with LOG, the
gallery's writer full, and the stray source pending on vector 0. The invariant does not bound the pending sources. -/
def strayPending : State :=
  State.wrAll
    { mode := .run, evPend := [straySource], offers := List.replicate 64 {}, vec := Vector.replicate 32 { masked := false } }
    [(pexF Reg.pexLinkSpeed 0, 1), (pexF Reg.pexCmdMse 0, 1), (pexF Reg.pexCmdBme 0, 1), (pexF Reg.pexCmdMsixen 0, 1),
      (evt0F Reg.evtCfgGen 0, 1), (glbF Reg.glbLockstatStage 0, 1), (evt1F Reg.evtRtLog1 1, 1),
      (evt1F Reg.evtRtEn0 (straySource / 4), 1)]

theorem strayPending_inv : strayPending.Inv := wrAll_inv ⟨rfl, rfl, rfl, by decide, by decide, by decide, by decide⟩ _

/-- The write of EVT_EOI aborts the sequence (R72); the record of its LOCKKEYFAIL is refused and counted (R459), and the count
routes the stray source away from vector 0. -/
theorem strayPending_barWrite :
    strayPending.vecPending 0 = true ∧ strayPending.barWrite.vecFree 0 = true ∧ strayPending.barWrite.vecPending 0 = false := by
  decide +kernel

/-- Refutes O20: on `strayPending` vector 0 is pending before the write of EVT_EOI and not once the write has begun, so the clause on
pending vectors asks for a message and the clause on vectors that are not pending asks that none leaves. -/
theorem not_pageAndMessageCommands : ¬ Obligations.PageAndMessageCommands := by
  unfold Obligations.PageAndMessageCommands
  intro h
  obtain ⟨-, hmsg⟩ := h
  obtain ⟨hsend, -, hquiet, -⟩ := hmsg strayPending strayPending_inv rfl
  obtain ⟨hpend, hfree, hnot⟩ := strayPending_barWrite
  obtain ⟨t, ht, hout, -⟩ := hsend 0 hpend hfree
  rw [hquiet 0 hnot] at ht
  cases ht
  simp at hout

/-! ### PCIE_LINK_CHANGE that ends a spell of redirection (O23) -/

/-- The outcome is a next state that passes the test. -/
def endsIn (r : Res) (p : State → Bool) : Bool :=
  match r with
  | .next t => p t
  | .fault _ => false
  | .refused _ => false

theorem endsIn_next {t : State} {p : State → Bool} : endsIn (.next t) p = p t := rfl

/-- A device in RUN with the link down and redirection on (R90), LAST = 41, and a BIST_START of the logic test (SEQ 42) that waits
in the command ring. -/
def bistSpell : State :=
  State.wrAll { mode := .run, redirect := true, hostRing := [(0, cmdWords 0xC00 0 { seq := 42 } [0, 0])] }
    [(cmd1F Reg.cmdLastSeq 0, 41), (cmd1F Reg.cmdJstatJm0ok 0, 1), (cmd0F Reg.cmdCfgRingen 0, 1), (cmdfF Reg.cmdRtailIdx 0, 1),
      (pexF Reg.pexCmdBme 0, 1)]

theorem bistSpell_inv : bistSpell.Inv := wrAll_inv ⟨rfl, rfl, rfl, by decide, by decide, by decide, by decide⟩ _

/-- The link comes up in L0 at 2.5 GT/s: the spell ends, the ring is fetched (R90), the logic test begins a hold (R499), and the
reset of the L-die takes PEX_LINK back to 0 (R65). -/
theorem bistSpell_linkUp :
    endsIn (exec (.pcieLinkChange 1 1 true false false 4) bistSpell)
      (fun t => t.mode == .hold && t.rd (pexF Reg.pexLinkSpeed 0) == 0) = true := by
  decide +kernel

/-- Refutes O23, in its clause on PCIE_LINK_CHANGE: from Detect the link would show the speed 1 to which it has trained, and on
`bistSpell` the hold that a fetched BIST_START begins in the same step leaves PEX_LINK.SPEED 0. -/
theorem not_pcieCommands : ¬ Obligations.PcieCommands := by
  unfold Obligations.PcieCommands
  intro h
  obtain ⟨hlink, -⟩ := h bistSpell bistSpell_inv
  obtain ⟨t, ht, hspeed, -⟩ := hlink 1 1 true false false 4 rfl
  have htrained : t.rd (pexF Reg.pexLinkSpeed 0) = min 1 bistSpell.speedCap % 4 := hspeed (.inl (by decide))
  have hcap : min 1 bistSpell.speedCap % 4 = 1 := by decide
  have hrun := bistSpell_linkUp
  rw [ht, endsIn_next, Bool.and_eq_true, beq_iff_eq, beq_iff_eq, htrained, hcap] at hrun
  exact absurd hrun.2 (by decide)

end Sys2Proof.Machine

/-!
PROOFS. The statements of the chapter on the architecture. First, what every command keeps: one lemma for each function of the
model says that it takes a state that keeps, since a command began, the invariant, the device state, the queue and the microsecond
counter (`Keeps`) to another that does. `exec_step` draws from them what every command does to these.
-/

namespace Sys2Proof.Machine

section

/-! ### What every command keeps -/

/-- The device is past its boot: RUN, THROTTLED, BENCH or HOLD. Between any two of these states Table 1.5 lists a change. -/
def Mode.live : Mode → Bool
  | .run | .throttled | .bench | .hold => true
  | .off | .boot => false

/-- What lies between two points `s₀` and `s` of a command: the invariant stands, the device state has not moved but among the live
ones, and the queue and the microsecond counter are as they were. -/
structure Keeps (s₀ s : State) : Prop where
  inv : s₀.Inv → s.Inv
  mode : s.mode = s₀.mode ∨ s₀.mode.live = true ∧ s.mode.live = true
  pending : s.pending = s₀.pending
  us : s.us = s₀.us

/-- The fields that `Keeps` speaks of. -/
abbrev State.kept (s : State) := (s.pending, s.mode, s.us, s.regs, s.act, s.mem, s.evq, s.twq, s.offers, s.islBuf)

/-- The outcome, if it is a next state, keeps what `Keeps` names. -/
def Ends (s₀ : State) (r : Res) : Prop := ∀ t, r = .next t → Keeps s₀ t

-- The many short proofs of this section name one another, so they are elaborated in turn.
set_option Elab.async false

variable {s₀ s t old : State}

theorem Keeps.refl (s : State) : Keeps s s := ⟨id, .inl rfl, rfl, rfl⟩

theorem Keeps.ite {c : Prop} {_ : Decidable c} (hs : Keeps s₀ s) (ht : Keeps s₀ t) : Keeps s₀ (if c then s else t) := by
  split
  · exact hs
  · exact ht

theorem Keeps.foldl {α : Type} {f : State → α → State} {l : List α} (h : Keeps s₀ s) (hf : ∀ t x, Keeps s₀ t → Keeps s₀ (f t x)) :
    Keeps s₀ (l.foldl f s) := by
  induction l generalizing s with
  | nil => exact h
  | cons x l ih => exact ih (hf s x h)

theorem Ends.next (h : Keeps s₀ s) : Ends s₀ (.next s) := by
  rintro t ⟨⟩
  exact h

theorem Ends.ite {c : Prop} {_ : Decidable c} {r q : Res} (hr : Ends s₀ r) (hq : Ends s₀ q) : Ends s₀ (if c then r else q) := by
  split
  · exact hr
  · exact hq

theorem State.inv_of_kept (h : s.Inv) (e : t.kept = s.kept) : t.Inv := by
  simp only [State.kept, Prod.mk.injEq] at e
  obtain ⟨-, -, -, hregs, hact, hmem, hevq, htwq, hoffers, hisl⟩ := e
  exact ⟨hregs ▸ h.regs, hact ▸ h.act, hmem ▸ h.mem, hevq ▸ h.evq, htwq ▸ h.twq, hoffers ▸ h.offers, hisl ▸ h.islBuf⟩

/-- A change of other fields. -/
theorem Keeps.same (h : Keeps s₀ s) (e : t.kept = s.kept := by with_reducible rfl) : Keeps s₀ t where
  inv hi := State.inv_of_kept (h.inv hi) e
  mode := (congrArg (fun k => k.2.1) e : t.mode = s.mode) ▸ h.mode
  pending := (congrArg (fun k => k.1) e : t.pending = s.pending).trans h.pending
  us := (congrArg (fun k => k.2.2.1) e : t.us = s.us).trans h.us

/-- A change that keeps the invariant, the device state, the queue and the counter. -/
theorem Keeps.upd (h : Keeps s₀ s) (hi : s.Inv → t.Inv) (e : (t.pending, t.mode, t.us) = (s.pending, s.mode, s.us) := by with_reducible rfl) :
    Keeps s₀ t where
  inv ho := hi (h.inv ho)
  mode := (congrArg (fun k => k.2.1) e : t.mode = s.mode) ▸ h.mode
  pending := (congrArg (fun k => k.1) e : t.pending = s.pending).trans h.pending
  us := (congrArg (fun k => k.2.2) e : t.us = s.us).trans h.us

/-- Where a command is in a live state, it began in one. -/
theorem Keeps.origin_live (h : Keeps s₀ s) (hs : s.mode.live = true) : s₀.mode.live = true := by
  rcases h.mode with e | ⟨ho, -⟩
  · rw [← e, hs]
  · exact ho

theorem live_of_lUp (h : s.lUp = true) : s.mode.live = true := by
  unfold State.lUp at h
  revert h
  cases s.mode <;> decide

theorem State.Inv.setMode {m : Mode} (h : s.Inv) : State.Inv { s with mode := m } :=
  ⟨h.regs, h.act, h.mem, h.evq, h.twq, h.offers, h.islBuf⟩

/-- A move to a live state of a device that is in one. -/
theorem Keeps.move {m : Mode} (h : Keeps s₀ s) (ho : s₀.mode.live = true) (hm : m.live = true) : Keeps s₀ { s with mode := m } where
  inv hi := (h.inv hi).setMode
  mode := .inr ⟨ho, hm⟩
  pending := h.pending
  us := h.us

/-! ### Writes, events and tokens -/

theorem Keeps.wr {f : Fld} {v : Nat} (hs : Keeps s₀ s) : Keeps s₀ (s.wr f v) := hs.upd (fun h => wr_inv h f v) rfl

theorem Keeps.wrB {f : Fld} {b : Bool} (hs : Keeps s₀ s) : Keeps s₀ (s.wrB f b) := hs.wr

theorem Keeps.wrA {f : Fld} {v : Nat} (hs : Keeps s₀ s) : Keeps s₀ (s.wrA f v) := hs.upd (fun h => wrA_inv h f v) rfl

theorem Keeps.load {f : Fld} {v : Nat} (hs : Keeps s₀ s) : Keeps s₀ (s.load f v) := hs.wr.wrA

theorem Keeps.inc {f : Fld} {n : Nat} (hs : Keeps s₀ s) : Keeps s₀ (s.inc f n) := hs.wr

theorem Keeps.incWrap {f : Fld} {n : Nat} (hs : Keeps s₀ s) : Keeps s₀ (s.incWrap f n) := hs.wr

theorem Keeps.wrBit {f : Fld} {b : Nat} {x : Bool} (hs : Keeps s₀ s) : Keeps s₀ (s.wrBit f b x) := hs.wr

theorem Keeps.emit {o : Out} (hs : Keeps s₀ s) : Keeps s₀ (s.emit o) := hs.same rfl

theorem Keeps.answer {v : Nat} (hs : Keeps s₀ s) : Keeps s₀ (s.answer v) := hs.same rfl

theorem Keeps.draw {place : Nat} (hs : Keeps s₀ s) : Keeps s₀ (s.draw place).2 := hs.same rfl

theorem Keeps.setRetired {typ i : Nat} {x : Bool} (hs : Keeps s₀ s) : Keeps s₀ (s.setRetired typ i x) := hs.wrBit

theorem Keeps.sendMsg {v : Nat} (hs : Keeps s₀ s) : Keeps s₀ (s.sendMsg v) := by
  unfold State.sendMsg
  exact hs.emit.same

theorem Keeps.due {v : Nat} (hs : Keeps s₀ s) : Keeps s₀ (s.due v) := .ite hs.sendMsg hs.same

theorem Keeps.release {v : Nat} (hs : Keeps s₀ s) : Keeps s₀ (s.release v) := .ite (.ite hs.sendMsg hs.same) hs

theorem Keeps.releaseAll (hs : Keeps s₀ s) : Keeps s₀ s.releaseAll := .foldl hs fun _ _ ih => ih.release

theorem Keeps.dueNew {old : State} (hs : Keeps s₀ s) : Keeps s₀ (old.dueNew s) := .foldl hs fun _ _ ih => .ite ih.due ih

theorem Keeps.queueEv {n us : Nat} (hs : Keeps s₀ s) : Keeps s₀ (s.queueEv n us) := by
  refine hs.upd (fun h => queueEv_inv h n us) ?_
  unfold State.queueEv
  split <;> rfl

theorem Keeps.pend {n us : Nat} (hs : Keeps s₀ s) : Keeps s₀ (s.pend n us) := .ite hs (.ite hs.queueEv.same.due hs.queueEv.same)

theorem Keeps.setEvt {pg b n us : Nat} (hs : Keeps s₀ s) : Keeps s₀ (s.setEvt pg b n us) := .ite hs.wrBit.pend hs.wrBit

theorem Keeps.refused {len : Bool} (hs : Keeps s₀ s) : Keeps s₀ (s.refused len) := .ite hs.inc.same hs.inc.same

theorem Keeps.refuse {len : Bool} (hs : Keeps s₀ s) : Keeps s₀ (s.refuse len) := .ite hs.refused.setEvt.refused hs.refused.setEvt

theorem Keeps.offer {o : Offer} (hs : Keeps s₀ s) : Keeps s₀ (s.offer o) := by
  unfold State.offer
  refine .ite hs (.ite hs.refuse ?_)
  split
  case isTrue hroom =>
    refine hs.upd fun h => ⟨h.regs, h.act, h.mem, h.evq, h.twq, ?_, h.islBuf⟩
    simp only [List.length_append, List.length_singleton]
    omega
  case isFalse => exact hs.refuse

theorem Keeps.record {typ src : Nat} {payload : List Nat} (hs : Keeps s₀ s) : Keeps s₀ (s.record typ src payload) := hs.offer

theorem Keeps.islPush {t : Tok} (hs : Keeps s₀ s) : Keeps s₀ (s.islPush t) := by
  refine hs.upd (fun h => islPush_inv h t) ?_
  unfold State.islPush
  split <;> rfl

theorem Keeps.raiseBit {pg b n : Nat} (hs : Keeps s₀ s) : Keeps s₀ (s.raiseBit pg b n) :=
  .ite (.ite hs.setEvt.record hs.setEvt) (.ite hs.islPush hs)

theorem Keeps.raise {n : Nat} (hs : Keeps s₀ s) : Keeps s₀ (s.raise n) := by
  unfold State.raise
  split
  · exact hs.raiseBit
  · exact hs

theorem Keeps.token {src kind detail : Nat} (hs : Keeps s₀ s) : Keeps s₀ (s.token src kind detail) :=
  .ite hs.same (.ite hs.islPush hs)

theorem Keeps.tokenEv {src kind detail : Nat} (hs : Keeps s₀ s) : Keeps s₀ (s.tokenEv src kind detail) :=
  .ite hs.raise.token hs.token

theorem Keeps.late {src detail : Nat} (hs : Keeps s₀ s) : Keeps s₀ (s.late src detail) := hs.incWrap.token

theorem Keeps.injected (hs : Keeps s₀ s) : Keeps s₀ s.injected := hs.same.wr.raise

theorem Keeps.jrej {pg off : Nat} (hs : Keeps s₀ s) : Keeps s₀ (s.jrej pg off) := by
  unfold State.jrej
  exact hs.raiseBit.same

theorem Keeps.lockrej {pg off : Nat} (hs : Keeps s₀ s) : Keeps s₀ (s.lockrej pg off) := by
  unfold State.lockrej
  exact hs.raiseBit.same

theorem Keeps.accessErr {addr path : Nat} {write : Bool} (hs : Keeps s₀ s) : Keeps s₀ (s.accessErr addr path write) :=
  hs.wr.wr.wrB.raise

theorem Keeps.lockAbort (hs : Keeps s₀ s) : Keeps s₀ s.lockAbort := by
  unfold State.lockAbort
  exact .raise (.ite hs.wr.wr.wr hs.wr.wr)

theorem Keeps.barWrite (hs : Keeps s₀ s) : Keeps s₀ s.barWrite := .ite hs.lockAbort hs

theorem Keeps.nvcIdle (hs : Keeps s₀ s) : Keeps s₀ s.nvcIdle := hs.wr.wr.wr

theorem Keeps.nvcFail {d : Nat} (hs : Keeps s₀ s) : Keeps s₀ (s.nvcFail d) := hs.wr.tokenEv

theorem Keeps.clearEvt {pg mask : Nat} (hs : Keeps s₀ s) : Keeps s₀ (s.clearEvt pg mask) := by
  unfold State.clearEvt
  exact hs.wr.same

theorem Keeps.takeSnap {pg : Nat} (hs : Keeps s₀ s) : Keeps s₀ (s.takeSnap pg) := hs.same rfl

theorem Keeps.commit {pg : Nat} (hs : Keeps s₀ s) : Keeps s₀ (s.commit pg) := .ite hs.wr hs.takeSnap.wr

theorem Keeps.applyPart {lo hi : Nat} (hs : Keeps s₀ s) : Keeps s₀ (s.applyPart lo hi) :=
  hs.upd (fun h => ⟨h.regs, Store.sorted_copy h.act, h.mem, h.evq, h.twq, h.offers, h.islBuf⟩) rfl

/-! ### The journal -/

theorem Keeps.ringFollow (hs : Keeps s₀ s) : Keeps s₀ s.ringFollow := .ite (.ite hs hs.raise.same) hs.same

theorem Keeps.writeRing {words : List Nat} (hs : Keeps s₀ s) : Keeps s₀ (s.writeRing words) :=
  .ringFollow (.ite hs.emit.wr.wr hs.emit.wr)

theorem Keeps.writeTw {words : List Nat} (hs : Keeps s₀ s) : Keeps s₀ (s.writeTw words) := by
  unfold State.writeTw
  split
  case isTrue hroom =>
    rw [Bool.and_eq_true, decide_eq_true_eq] at hroom
    refine hs.upd fun h => ⟨h.regs, h.act, h.mem, h.evq, ?_, h.offers, h.islBuf⟩
    simp only [List.length_append, List.length_singleton]
    omega
  case isFalse => exact hs.same

theorem Keeps.report {twoWire : Bool} {w0 seq htag : Nat} (hs : Keeps s₀ s) : Keeps s₀ (s.report twoWire w0 seq htag) :=
  .ite hs.writeTw (.ite hs.writeTw (.ite hs.writeRing hs.same))

theorem Keeps.jMod {seq : Nat} {f : JEntry → JEntry} (hs : Keeps s₀ s) : Keeps s₀ (s.jMod seq f) := hs.same rfl

theorem Keeps.setStatus {seq code reason : Nat} (hs : Keeps s₀ s) : Keeps s₀ (s.setStatus seq code reason) :=
  .ite hs.jMod.inc (.ite hs.jMod.inc.raise hs.jMod)

theorem Keeps.done {seq code reason : Nat} (hs : Keeps s₀ s) : Keeps s₀ (s.done seq code reason) := by
  unfold State.done
  split
  · exact .ite hs.setStatus.jMod hs
  · exact hs

theorem Keeps.doneOne {code reason : Nat} {e : JEntry} (hs : Keeps s₀ s) : Keeps s₀ (s.doneOne code reason e) :=
  .ite hs.jMod.setStatus hs.jMod.late

theorem Keeps.doneEntries {p : JEntry → Bool} {code reason : Nat} (hs : Keeps s₀ s) : Keeps s₀ (s.doneEntries p code reason) :=
  .foldl hs fun _ _ ih => ih.doneOne

theorem Keeps.doneWhere {p : Wait → Bool} {code reason : Nat} (hs : Keeps s₀ s) : Keeps s₀ (s.doneWhere p code reason) :=
  hs.doneEntries

theorem Keeps.doneWait {w : Wait} {code reason : Nat} (hs : Keeps s₀ s) : Keeps s₀ (s.doneWait w code reason) := hs.doneWhere

theorem Keeps.setWait {seq : Nat} {w : Wait} (hs : Keeps s₀ s) : Keeps s₀ (s.setWait seq w) := hs.jMod

theorem Keeps.supersede {e : JEntry} (hs : Keeps s₀ s) : Keeps s₀ (s.supersede e) :=
  .ite hs (.foldl hs fun _ _ ih => .jMod (.ite ih.setStatus ih))

theorem Keeps.refuseCmd {e : JEntry} {reason : Nat} (hs : Keeps s₀ s) : Keeps s₀ (s.refuseCmd e reason) := hs.done

theorem Keeps.lseq {pg : Nat} {e : JEntry} (hs : Keeps s₀ s) : Keeps s₀ (s.lseq pg e) := hs.wr

theorem Keeps.commitDone {pg : Nat} (hs : Keeps s₀ s) : Keeps s₀ (s.commitDone pg) :=
  .ite hs.wr.doneWait.wr.takeSnap.wr.same hs.wr.doneWait

theorem Keeps.reject {ws : List Nat} {twoWire : Bool} {code : Nat} (hs : Keeps s₀ s) : Keeps s₀ (s.reject ws twoWire code) := by
  unfold State.reject
  extract_lets t
  have ht : Keeps s₀ t := hs.report.inc.raise
  exact .ite ht.raise ht

theorem Keeps.twFree (hs : Keeps s₀ s) : Keeps s₀ s.twFree := .ite hs.wr hs

theorem Keeps.macroFail {m : Nat} (hs : Keeps s₀ s) : Keeps s₀ (s.macroFail m) := by
  unfold State.macroFail
  extract_lets +onlyGivenNames t u
  have ht : Keeps s₀ t := hs.same.tokenEv
  have hu : Keeps s₀ u := .ite ht.wr (.ite ht.wr ht)
  refine .ite hu ?_
  refine .ite ?_ hu.wr
  extract_lets +onlyGivenNames spilled w v
  have hv : Keeps s₀ v := .raise (.wr (.wr (.ite hu.wr hu)))
  split
  · exact .ite hv.reject.same.twFree hv.reject.same
  · exact hv

theorem Keeps.macroInject (hs : Keeps s₀ s) : Keeps s₀ s.macroInject := .ite hs.same.injected hs

theorem Keeps.dupRead {ws : List Nat} {bad : Nat} (hs : Keeps s₀ s) : Keeps s₀ (s.dupRead ws bad) :=
  .ite (.foldl hs fun _ _ ih => ih.macroFail) hs

theorem Keeps.duplicate {ws : List Nat} {twoWire : Bool} (hs : Keeps s₀ s) : Keeps s₀ (s.duplicate ws twoWire) := by
  unfold State.duplicate
  exact hs.report.inc.raise

theorem Keeps.accept {ws : List Nat} {twoWire : Bool} (hs : Keeps s₀ s) : Keeps s₀ (s.accept ws twoWire) :=
  .ite hs.same.wr.wr.report.raise hs.same.wr.wr.report

theorem Keeps.applyBy {ap : JEntry → State → State} {seq : Nat} (hs : Keeps s₀ s)
    (hap : ∀ e t, Keeps s₀ t → Keeps s₀ (ap e t)) : Keeps s₀ (State.applyBy ap seq s) := by
  unfold State.applyBy
  extract_lets t
  have ht : Keeps s₀ t := hs.jMod
  split
  · exact hap _ _ ht.supersede
  · exact ht

/-- A command is applied only in a live state: nothing is checked while the L-die is down (R65). -/
theorem Keeps.check {ap : JEntry → State → State} {ws : List Nat} {twoWire : Bool} {bad : Nat} (hs : Keeps s₀ s)
    (hap : s₀.mode.live = true → ∀ e t, Keeps s₀ t → Keeps s₀ (ap e t)) : Keeps s₀ (State.check ap ws twoWire bad s) := by
  unfold State.check
  extract_lets seq d
  split
  case isTrue => exact hs
  case isFalse hup =>
    simp only [Bool.or_eq_true, Bool.not_eq_true', not_or, Bool.not_eq_false] at hup
    have ho : s₀.mode.live = true := hs.origin_live (live_of_lUp hup.1)
    refine .ite hs.reject (.ite hs.reject (.ite hs.dupRead.duplicate
        (.ite hs.reject (.ite hs.reject (.ite hs.reject (.ite hs.reject ?_))))))
    split
    · exact hs.accept.applyBy (hap ho)
    · extract_lets t
      have ht : Keeps s₀ t := .foldl hs.macroInject fun _ _ ih => ih.macroFail
      exact .ite ht.reject ht.same

theorem Keeps.arrive {twoWire : Bool} (hs : Keeps s₀ s) : Keeps s₀ (s.arrive twoWire) := .ite hs (.wr (.ite hs.wr hs))

theorem Keeps.command {ap : JEntry → State → State} {opc inst : Nat} {h : CmdHdr} {args : List Nat} (hs : Keeps s₀ s)
    (hap : s₀.mode.live = true → ∀ e t, Keeps s₀ t → Keeps s₀ (ap e t)) : Keeps s₀ (s.command ap opc inst h args) :=
  .ite (hs.arrive.check hap) hs

/-! ### Capture and stream -/

theorem Keeps.capMod {f : CapS → CapS} (hs : Keeps s₀ s) : Keeps s₀ (s.capMod f) := hs.same rfl

theorem Keeps.strMod {f : StrS → StrS} (hs : Keeps s₀ s) : Keeps s₀ (s.strMod f) := hs.same rfl

theorem Keeps.touched {segs : List (Nat × Nat × Nat)} (hs : Keeps s₀ s) : Keeps s₀ (s.touched segs) := by
  unfold State.touched
  extract_lets +onlyGivenNames a
  refine .ite ?_ hs.same
  split
  · exact hs.same.injected
  · exact hs.same

theorem Memory.wf_memPieces {m : Memory} {segs : List (Nat × Nat × Nat)} {ws : List Nat} (h : m.wf = true) :
    (memPieces m segs ws).wf = true := by
  induction segs generalizing m ws with
  | nil => exact h
  | cons x r ih => exact ih (Memory.wf_putWords h)

theorem Memory.wf_ringWrite {m : Memory} {r : RingS} {banks : List Nat} {typ flags us : Nat} {payload : List Nat}
    (h : m.wf = true) : (ringWrite m r banks typ flags us payload).1.wf = true :=
  Memory.wf_memPieces h

/-- Memory of any canonical form in place of the one that stands. -/
theorem Keeps.putMem {m : Memory} (hs : Keeps s₀ s) (hm : s.mem.wf = true → m.wf = true) : Keeps s₀ { s with mem := m } :=
  hs.upd fun h => ⟨h.regs, h.act, hm h.mem, h.evq, h.twq, h.offers, h.islBuf⟩

theorem Keeps.capWrite {us : Nat} {ws : List Nat} (hs : Keeps s₀ s) : Keeps s₀ (s.capWrite us ws) := by
  unfold State.capWrite
  refine .ite hs ?_
  extract_lets codes w₁ _ _ a w
  have ha : Keeps s₀ a := .ite (.touched (hs.putMem (m := w₁.1) Memory.wf_ringWrite).same) hs
  exact .wr (.touched (ha.putMem (m := w.1) Memory.wf_ringWrite).same)

theorem Keeps.winMod {k : Nat} {f : WinS → WinS} (hs : Keeps s₀ s) : Keeps s₀ (s.winMod k f) := hs.capMod

theorem Keeps.trigRecord {src win t : Nat} (hs : Keeps s₀ s) : Keeps s₀ (s.trigRecord src win t) := hs.record

theorem Keeps.trigMissed {src t : Nat} (hs : Keeps s₀ s) : Keeps s₀ (s.trigMissed src t) := hs.inc.raise.trigRecord

theorem Keeps.capTrigger {src t : Nat} (hs : Keeps s₀ s) : Keeps s₀ (s.capTrigger src t) := by
  unfold State.capTrigger
  refine .ite hs ?_
  extract_lets +onlyGivenNames a
  have ha : Keeps s₀ a := hs.inc.raise.capMod
  refine .ite ha.inc.inc.trigRecord ?_
  split
  · exact ha.wr.wr.wr.wr.wr.wr.wr.wr.winMod.trigRecord
  · exact ha.trigMissed

theorem Keeps.snapRecord {k slot flags : Nat} (hs : Keeps s₀ s) : Keeps s₀ (s.snapRecord k slot flags) := hs.record

theorem Keeps.snapBegin {k : Nat} (hs : Keeps s₀ s) : Keeps s₀ (s.snapBegin k) := by
  unfold State.snapBegin
  extract_lets +onlyGivenNames w
  split
  · exact hs.wr.snapRecord.winMod
  · exact hs.wr.wr.winMod

theorem Keeps.winClose {k : Nat} (hs : Keeps s₀ s) : Keeps s₀ (s.winClose k) :=
  .snapBegin (.raise (.wr (.wr (.wr (.wr (.wr (.wr (.foldl hs.wr fun _ _ ih => ih.wr))))))))

theorem Keeps.winRelease {k : Nat} (hs : Keeps s₀ s) : Keeps s₀ (s.winRelease k) :=
  .ite (.capMod (.winMod (.wr (.wr (.foldl hs.wr fun _ _ ih => ih.wr))))) hs

theorem Keeps.capShow (hs : Keeps s₀ s) : Keeps s₀ s.capShow := hs.wr.wr.wr

theorem Keeps.eccUnc {m w : Nat} (hs : Keeps s₀ s) : Keeps s₀ (s.eccUnc m w) := hs.inc.wr.wr.raise.token

theorem Keeps.eccCorr {m w : Nat} (hs : Keeps s₀ s) : Keeps s₀ (s.eccCorr m w) := hs.inc.wr.wr.raise

theorem Keeps.eccFound {fs : List FrameR} {unc corr : List (Nat × Nat)} (hs : Keeps s₀ s) : Keeps s₀ (s.eccFound fs unc corr) := by
  unfold State.eccFound
  exact .same (.foldl (.foldl hs fun _ _ ih => ih.eccUnc) fun _ _ ih => ih.eccCorr)

/-! ### Loops and phases -/

theorem Keeps.loopMod {n : Nat} {f : LoopS → LoopS} (hs : Keeps s₀ s) : Keeps s₀ (s.loopMod n f) := hs.same rfl

theorem Keeps.phMod {j : Nat} {f : PhS → PhS} (hs : Keeps s₀ s) : Keeps s₀ (s.phMod j f) := hs.same rfl

theorem Keeps.movePh {j st : Nat} (hs : Keeps s₀ s) : Keeps s₀ (s.movePh j st) := hs.wr.phMod

theorem Keeps.setPh {j st : Nat} (hs : Keeps s₀ s) : Keeps s₀ (s.setPh j st) := .ite hs.movePh (.ite hs.movePh.raise hs.movePh)

theorem Keeps.showRef {n : Nat} (hs : Keeps s₀ s) : Keeps s₀ (s.showRef n) := hs.wr

theorem Keeps.setPgood {n : Nat} {x : Bool} (hs : Keeps s₀ s) : Keeps s₀ (s.setPgood n x) := .ite hs hs.wrB.raise

theorem Keeps.setIlimit {n : Nat} {x : Bool} (hs : Keeps s₀ s) : Keeps s₀ (s.setIlimit n x) := .ite hs (.ite hs.wrB.raise hs.wrB)

theorem Keeps.idlePhases {n : Nat} (hs : Keeps s₀ s) : Keeps s₀ (s.idlePhases n) := .foldl hs fun _ _ ih => .ite ih.phMod.setPh ih

theorem Keeps.loopTri {n st : Nat} (hs : Keeps s₀ s) : Keeps s₀ (s.loopTri n st) := by
  unfold State.loopTri
  extract_lets t u
  have hu : Keeps s₀ u := hs.idlePhases.setPgood.wr.wr.wr.wr.wr.wr.wr.loopMod
  exact .ite hu.raise hu

theorem Keeps.loopFault {n kind : Nat} (hs : Keeps s₀ s) : Keeps s₀ (s.loopFault n kind) := by
  unfold State.loopFault
  refine .ite hs ?_
  extract_lets det a b low stopping c d e
  have ha : Keeps s₀ a := hs.wr.wr
  have hb : Keeps s₀ b := .ite ha.inc (.ite ha.inc ha)
  have hd : Keeps s₀ d := .ite hb.loopTri.loopMod.raise hb.loopTri.loopMod.tokenEv
  exact .ite hd.doneWait.doneWait hd.doneWait

theorem Keeps.nophase {n : Nat} (hs : Keeps s₀ s) : Keeps s₀ (s.nophase n) := .ite hs.loopFault hs

theorem Keeps.loopBegin {n : Nat} (hs : Keeps s₀ s) : Keeps s₀ (s.loopBegin n) :=
  .nophase (.showRef (.wrBit (.wr (.foldl hs.loopMod.wr fun _ _ ih => .ite ih.setPh ih))))

theorem Keeps.loopStart {n : Nat} {delay : Bool} (hs : Keeps s₀ s) : Keeps s₀ (s.loopStart n delay) :=
  .ite hs.loopMod (.ite hs.loopMod.wr hs.loopBegin)

theorem Keeps.loopUndefer {n : Nat} (hs : Keeps s₀ s) : Keeps s₀ (s.loopUndefer n) := by
  unfold State.loopUndefer
  split
  · exact .ite hs.loopStart hs
  · exact hs

theorem Keeps.loopRetarget {n up dn : Nat} {target : Int} (hs : Keeps s₀ s) : Keeps s₀ (s.loopRetarget n target up dn) :=
  .ite hs.loopMod.wr (.wr (.ite hs.loopMod hs.loopMod.setPgood))

theorem Keeps.loopOffEnd {n : Nat} (hs : Keeps s₀ s) : Keeps s₀ (s.loopOffEnd n) :=
  .ite (.ite hs.loopTri.doneWait hs.loopTri) (.ite hs.loopTri.doneWait hs.setPgood.wr)

theorem Keeps.loopStop {n dn : Nat} {delay coast : Bool} (hs : Keeps s₀ s) : Keeps s₀ (s.loopStop n delay coast dn) := by
  unfold State.loopStop
  extract_lets +onlyGivenNames st a
  refine .ite (.ite hs.loopMod.wr hs.loopMod.loopOffEnd) ?_
  refine .ite (.ite hs.loopMod.loopOffEnd hs.loopMod) ?_
  extract_lets low b
  have hb : Keeps s₀ b := .ite hs.loopMod.wr.raise hs.loopMod
  exact .ite hb.doneWait hb

theorem Keeps.phFault {j kind : Nat} (hs : Keeps s₀ s) : Keeps s₀ (s.phFault j kind) := by
  unfold State.phFault
  extract_lets det a b c
  have hb : Keeps s₀ b := .ite hs.wr.wr.setRetired.movePh hs.wr.wr.movePh
  split
  · exact hb.tokenEv.phMod.nophase
  · exact hb.tokenEv.phMod

theorem Keeps.phJoin {j : Nat} (hs : Keeps s₀ s) : Keeps s₀ (s.phJoin j) := by
  unfold State.phJoin
  extract_lets a
  split
  · exact .ite hs.phMod.setPh hs.phMod.setPh.loopUndefer
  · exact hs.phMod.setPh

theorem Keeps.phJoinNext {j : Nat} (hs : Keeps s₀ s) : Keeps s₀ (s.phJoinNext j) := by
  unfold State.phJoinNext
  split
  · exact .ite hs.phMod hs.phJoin
  · exact hs.phJoin

theorem Keeps.phRetire {j : Nat} (hs : Keeps s₀ s) : Keeps s₀ (s.phRetire j) := by
  unfold State.phRetire
  extract_lets a
  split
  · exact hs.setPh.phMod.nophase
  · exact hs.setPh.phMod

theorem Keeps.returnPhases {n : Nat} (hs : Keeps s₀ s) : Keeps s₀ (s.returnPhases n) := .foldl hs fun _ _ ih => .ite ih.setPh ih

/-! ### Bays -/

theorem Keeps.bayMod {n : Nat} {f : BayS → BayS} (hs : Keeps s₀ s) : Keeps s₀ (s.bayMod n f) := hs.same rfl

theorem Keeps.slowCount {n : Nat} (hs : Keeps s₀ s) : Keeps s₀ (s.slowCount n) := hs.bayMod

theorem Keeps.setBay {n st : Nat} (hs : Keeps s₀ s) : Keeps s₀ (s.setBay n st) := by
  unfold State.setBay
  extract_lets s t u
  have ht : Keeps s₀ t := .wrB (.wrB (.wrB (.wr (.ite hs.slowCount hs))))
  have hu : Keeps s₀ u := .ite ht ht.wr
  exact .ite hu hu.wr

theorem Keeps.setArm {n : Nat} {x : Bool} (hs : Keeps s₀ s) : Keeps s₀ (s.setArm n x) := hs.wrB

theorem Keeps.bayToOpen {n : Nat} (hs : Keeps s₀ s) : Keeps s₀ (s.bayToOpen n) := hs.setBay

theorem Keeps.bayRetryLeft {n : Nat} (hs : Keeps s₀ s) : Keeps s₀ (s.bayRetryLeft n) := hs.wr

theorem Keeps.tripMarks {n kind peak : Nat} (hs : Keeps s₀ s) : Keeps s₀ (s.tripMarks n kind peak) := hs.wr.wr.inc.wr.tokenEv

theorem Keeps.bayTrip {n kind peak : Nat} (hs : Keeps s₀ s) : Keeps s₀ (s.bayTrip n kind peak) :=
  .ite hs.tripMarks.setBay.bayMod.doneWait (.ite hs.tripMarks.bayMod hs)

theorem Keeps.bayOpenGate {n : Nat} {fast : Bool} (hs : Keeps s₀ s) : Keeps s₀ (s.bayOpenGate n fast) := hs.setArm.setBay.bayMod

theorem Keeps.bayRamp {n : Nat} (hs : Keeps s₀ s) : Keeps s₀ (s.bayRamp n) := hs.setArm.setBay.bayMod

theorem Keeps.bayClose {n : Nat} {adopt : Bool} (hs : Keeps s₀ s) : Keeps s₀ (s.bayClose n adopt) :=
  .ite hs.setArm.setBay.bayMod hs.bayRamp

theorem Keeps.bayTimedOpen {n owner : Nat} (hs : Keeps s₀ s) : Keeps s₀ (s.bayTimedOpen n owner) := .ite hs.setBay.bayMod hs

theorem Keeps.bayCycleEnd {n : Nat} (hs : Keeps s₀ s) : Keeps s₀ (s.bayCycleEnd n) := .ite hs.setBay.bayMod hs

theorem Keeps.bayRetire {n : Nat} (hs : Keeps s₀ s) : Keeps s₀ (s.bayRetire n) := hs.setArm.setBay.bayMod.raise

theorem Keeps.bayRestore {n : Nat} (hs : Keeps s₀ s) : Keeps s₀ (s.bayRestore n) := .ite hs.bayToOpen.bayMod.bayRetryLeft.raise hs

theorem Keeps.bayAbort {n : Nat} (hs : Keeps s₀ s) : Keeps s₀ (s.bayAbort n) := .ite hs.bayMod hs

theorem Keeps.openingEnds {n : Nat} (hs : Keeps s₀ s) : Keeps s₀ (s.openingEnds n) := .ite hs.raise hs

theorem Keeps.bayArm {n : Nat} {adopt : Bool} (hs : Keeps s₀ s) : Keeps s₀ (s.bayArm n adopt) :=
  .ite (.ite hs.bayAbort.setBay.setArm hs.setArm) (.ite hs.bayClose (.ite hs.bayAbort.openingEnds.bayRamp hs))

theorem Keeps.bayOpen {n : Nat} {fast : Bool} (hs : Keeps s₀ s) : Keeps s₀ (s.bayOpen n fast) :=
  .ite hs.bayAbort.bayOpenGate (.ite hs.setArm.bayMod (.ite hs.setArm.bayToOpen hs.setArm))

theorem Keeps.bayPortClose {n : Nat} (hs : Keeps s₀ s) : Keeps s₀ (s.bayPortClose n) := .ite hs.openingEnds.bayRamp hs

theorem Keeps.bayPortOpen {n : Nat} {fast : Bool} (hs : Keeps s₀ s) : Keeps s₀ (s.bayPortOpen n fast) :=
  .ite hs.setBay.bayMod (.ite hs.bayMod hs)

theorem Keeps.bayPresent {n : Nat} {x : Bool} (hs : Keeps s₀ s) : Keeps s₀ (s.bayPresent n x) :=
  .ite hs.wrB.raise.setBay hs.wrB.raise

theorem Keeps.sendTrain {n step : Nat} (hs : Keeps s₀ s) : Keeps s₀ (s.sendTrain n step) := hs.emit.wr.bayMod

theorem Keeps.orderStep {n step : Nat} (hs : Keeps s₀ s) : Keeps s₀ (s.orderStep n step) :=
  .ite hs (.ite hs.wr.bayMod.bayMod hs.wr.bayMod.sendTrain)

/-! ### Flights and rails -/

theorem Keeps.railMod {n : Nat} {f : RailS → RailS} (hs : Keeps s₀ s) : Keeps s₀ (s.railMod n f) := hs.same rfl

theorem Keeps.flMod {f : Nat} {g : FlightS → FlightS} (hs : Keeps s₀ s) : Keeps s₀ (s.flMod f g) := hs.same rfl

theorem Keeps.setEst {e st : Nat} (hs : Keeps s₀ s) : Keeps s₀ (s.setEst e st) := .ite hs.wr.raise hs.wr

theorem Keeps.entToken {e kind : Nat} (hs : Keeps s₀ s) : Keeps s₀ (s.entToken e kind) := hs.token

theorem Keeps.entSwitchOn {e : Nat} (hs : Keeps s₀ s) (ht : s.entSwitchOn e = some t) : Keeps s₀ t := by
  unfold State.entSwitchOn at ht
  split at ht
  · cases ht
    exact hs.railMod
  · split at ht
    · dsimp only at ht
      split at ht
      · cases ht
      · split at ht
        · cases ht
          exact hs.loopRetarget
        · cases ht
          exact hs.loopMod.loopStart
    · dsimp only at ht
      split at ht
      · cases ht
      · split at ht
        · cases ht
        · cases ht
          exact hs.bayArm

theorem Keeps.entSwitchOff {e : Nat} (hs : Keeps s₀ s) : Keeps s₀ (s.entSwitchOff e) :=
  .ite hs.railMod (.ite hs.loopStop hs.bayOpen)

theorem Keeps.setTread {f e a : Nat} (hs : Keeps s₀ s) : Keeps s₀ (s.setTread f e a) := hs.flMod

theorem Keeps.markPgt {f e : Nat} (hs : Keeps s₀ s) : Keeps s₀ (s.markPgt f e) := by
  unfold State.markPgt
  split
  · exact hs.wr
  · exact hs

theorem Keeps.sendOrder {op f action t0 : Nat} (hs : Keeps s₀ s) : Keeps s₀ (s.sendOrder op f action t0) := by
  unfold State.sendOrder
  exact hs.wr.wr.wr.wr.same.flMod.raise

theorem Keeps.gstat (hs : Keeps s₀ s) : Keeps s₀ s.gstat := .foldl hs fun _ _ ih => ih.wrBit.wrBit

theorem Keeps.flCommandDone {f : Nat} (hs : Keeps s₀ s) : Keeps s₀ (s.flCommandDone f) := by
  unfold State.flCommandDone
  extract_lets +onlyGivenNames x
  split
  · exact hs
  · exact .ite hs (.doneWait (.ite hs.flMod.raise.token hs.flMod))

theorem Keeps.flAck {f result : Nat} (hs : Keeps s₀ s) : Keeps s₀ (s.flAck f result) := by
  unfold State.flAck
  refine .ite ?_ hs
  split
  · exact .ite hs.same.wr hs
  · exact hs

theorem Keeps.flStamp {f : Nat} (hs : Keeps s₀ s) : Keeps s₀ (s.flStamp f) := .ite hs.wr hs

theorem Keeps.flCheck {f : Nat} (hs : Keeps s₀ s) : Keeps s₀ (s.flCheck f) := by
  unfold State.flCheck
  extract_lets +onlyGivenNames st x
  refine .ite ?_ hs
  extract_lets nbad pend a b
  have ha : Keeps s₀ a := hs.flStamp.wr.wr.raise
  exact .gstat (.ite ha.flAck.flMod.flCommandDone ha.flAck.flMod)

theorem Keeps.flCheckAll (hs : Keeps s₀ s) : Keeps s₀ s.flCheckAll := .foldl hs fun _ _ ih => ih.flCheck

theorem Keeps.flStop {f : Nat} (hs : Keeps s₀ s) : Keeps s₀ (s.flStop f) := .ite hs hs.flStamp.wr.wr.flMod.raise.gstat

theorem Keeps.flBegin {f t0 : Nat} {down rev dev : Bool} {treads : List Tread} (hs : Keeps s₀ s) :
    Keeps s₀ (s.flBegin f down rev dev treads t0) :=
  .flMod (.foldl hs.wr.wrB.wr.wrB.wrB.wr.wr fun _ _ ih => .ite ih.wr.setEst ih.wr)

theorem Keeps.flRun {f t0 : Nat} {down dev order : Bool} {seq : Option Nat} {slaves : List (Nat × Nat)} (hs : Keeps s₀ s) :
    Keeps s₀ (s.flRun f down dev order seq t0 slaves) := by
  unfold State.flRun
  exact hs.flMod.wr.wr.flBegin.raise.gstat.flCheck

theorem Keeps.flRecord {f src origin action op id t0 : Nat} (hs : Keeps s₀ s) :
    Keeps s₀ (s.flRecord f src origin action op id t0) :=
  hs.record

theorem Keeps.deviceStart {f : Nat} {down : Bool} (hs : Keeps s₀ s) : Keeps s₀ (s.deviceStart f down) :=
  .ite hs (.flRecord (.flRun (.foldl hs fun _ _ ih => .ite ih.flStop.doneWait.token.raise ih.flStop)))

theorem Keeps.dropEnts {es : List Nat} (hs : Keeps s₀ s) : Keeps s₀ (s.dropEnts es) := by
  unfold State.dropEnts
  refine .foldl hs fun _ _ ih => .ite ih (.foldl ih.setEst.entSwitchOff fun _ _ ih' => ?_)
  split
  · exact .ite (.ite ih'.setTread ih') (.ite ih'.setTread ih')
  · exact ih'

theorem Keeps.settleDrop {e : Nat} (hs : Keeps s₀ s) : Keeps s₀ (s.settleDrop e) := by
  unfold State.settleDrop
  refine .ite ?_ hs
  extract_lets a
  refine .foldl hs.setEst fun _ _ ih => ?_
  split
  · exact .ite ih.setTread.markPgt (.ite ih.setTread ih)
  · exact ih

theorem Keeps.settleDrops {es : List Nat} (hs : Keeps s₀ s) : Keeps s₀ (s.settleDrops es) := .foldl hs fun _ _ ih => ih.settleDrop

theorem Keeps.flFail {f e : Nat} (hs : Keeps s₀ s) : Keeps s₀ (s.flFail f e) := by
  unfold State.flFail
  extract_lets deps a b c
  refine .flCheckAll (.settleDrops (.foldl hs.setEst.entToken.setTread.entSwitchOff.dropEnts fun _ _ ih => ?_))
  split
  · exact .ite ih.setEst.setTread ih
  · exact ih

theorem Keeps.flSkip {f e : Nat} (hs : Keeps s₀ s) : Keeps s₀ (s.flSkip f e) := by
  unfold State.flSkip
  extract_lets deps a
  refine .flCheckAll (.settleDrops (.dropEnts (.foldl hs fun _ _ ih => ?_)))
  split
  · exact .ite ih.setEst.setTread ih
  · exact ih

theorem Keeps.entBecomesGood {e : Nat} (hs : Keeps s₀ s) : Keeps s₀ (s.entBecomesGood e) :=
  .ite hs.wr (.flCheckAll (.foldl (.ite hs.wr.setEst hs.wr) fun _ _ ih => .ite ih.setTread.markPgt ih))

theorem Keeps.condTaken {f : Nat} (hs : Keeps s₀ s) : Keeps s₀ (s.condTaken f) := by
  unfold State.condTaken
  extract_lets +onlyGivenNames a
  refine .ite ?_ hs.flMod
  extract_lets +onlyGivenNames b
  have hb : Keeps s₀ b := .ite hs.flMod.sendOrder hs.flMod
  exact .ite hb.flBegin.raise.gstat.flCheck hb.wr

theorem Keeps.condCease {f : Nat} (hs : Keeps s₀ s) : Keeps s₀ (s.condCease f) := .ite hs.flMod.wr.wr.gstat hs.flMod

theorem Keeps.entLosesGood {e : Nat} (hs : Keeps s₀ s) : Keeps s₀ (s.entLosesGood e) := by
  unfold State.entLosesGood
  extract_lets +onlyGivenNames a
  refine .ite hs.wr ?_
  extract_lets +onlyGivenNames runs
  split
  · exact hs.wr.entToken.dropEnts.settleDrops.flCheckAll
  · exact .ite (.ite hs.wr.setEst.entToken.dropEnts.settleDrops.flCheckAll hs.wr.setEst.entToken) hs.wr

theorem Keeps.entFalls {e : Nat} (hs : Keeps s₀ s) : Keeps s₀ (s.entFalls e) := .ite hs.settleDrop.flCheckAll hs

theorem Keeps.entTaken {e : Nat} (hs : Keeps s₀ s) : Keeps s₀ (s.entTaken e) := by
  unfold State.entTaken
  refine .flCheckAll (.foldl hs fun _ _ ih => ?_)
  split
  · exact .ite ih.setTread.wr ih
  · exact ih

theorem Keeps.entFaults {e : Nat} (hs : Keeps s₀ s) : Keeps s₀ (s.entFaults e) :=
  .ite hs (.foldl hs fun _ _ ih => .ite ih.flFail ih)

theorem Keeps.entFollow {e : Nat} {old : State} (hs : Keeps s₀ s) : Keeps s₀ (old.entFollow s e) := by
  unfold State.entFollow
  extract_lets a bad b
  have ha : Keeps s₀ a := .ite hs.entBecomesGood (.ite hs.entLosesGood hs)
  have hb : Keeps s₀ b := .ite ha.entFaults ha
  exact .ite hb.entFalls hb

theorem Keeps.flightFollow {old : State} (hs : Keeps s₀ s) : Keeps s₀ (old.flightFollow s) := .foldl hs fun _ _ ih => ih.entFollow

theorem Keeps.slotEnt {f e : Nat} (hs : Keeps s₀ s) : Keeps s₀ (State.slotEnt f s e) := by
  unfold State.slotEnt
  extract_lets +onlyGivenNames a
  have ha : Keeps s₀ a := hs.wr
  refine .ite ?_ (.ite hs.setTread.setEst (.ite hs.flSkip (.ite hs.setTread (.ite hs.setTread.setEst ?_))))
  · exact .ite hs.setTread.setEst (.ite hs.setTread ha.setEst.setTread.entSwitchOff.settleDrop)
  · split
    case h_1 t ht =>
      extract_lets u
      have hu : Keeps s₀ u := (ha.entSwitchOn ht).setEst.setTread
      exact .ite hu.entBecomesGood hu
    case h_2 => exact ha.flFail

theorem Keeps.slot {f t : Nat} (hs : Keeps s₀ s) : Keeps s₀ (s.slot f t) :=
  .ite (.flCheckAll (.foldl hs.wr fun _ _ ih => ih.slotEnt)) hs

theorem Keeps.flHold (hs : Keeps s₀ s) : Keeps s₀ s.flHold :=
  .gstat (.foldl hs fun _ _ ih => .ite ih.wr.wr (.ite ih ih.flStamp.wr))

/-! ### TIE ports -/

theorem Keeps.tieMod {n : Nat} {f : TieS → TieS} (hs : Keeps s₀ s) : Keeps s₀ (s.tieMod n f) := hs.same rfl

theorem Keeps.setTie {n st : Nat} (hs : Keeps s₀ s) : Keeps s₀ (s.setTie n st) := hs.wr

theorem Keeps.setConLimit {n i num : Nat} (hs : Keeps s₀ s) : Keeps s₀ (s.setConLimit n i num) := hs.wr

theorem Keeps.setIdef {n : Nat} (hs : Keeps s₀ s) : Keeps s₀ (s.setIdef n) := hs.setConLimit

theorem Keeps.tieOpen {n : Nat} {fast : Bool} (hs : Keeps s₀ s) : Keeps s₀ (s.tieOpen n fast) := hs.bayPortOpen

theorem Keeps.tieToken {n kind typ : Nat} (hs : Keeps s₀ s) : Keeps s₀ (s.tieToken n kind typ) := hs.tokenEv

theorem Keeps.limitNow {n : Nat} (hs : Keeps s₀ s) : Keeps s₀ (s.limitNow n) := .ite hs.setConLimit hs.setIdef

theorem Keeps.tieClose {n : Nat} (hs : Keeps s₀ s) : Keeps s₀ (s.tieClose n) := .ite hs hs.limitNow.bayPortClose

theorem Keeps.tieFrame {n : Nat} {m : TieMsg} (hs : Keeps s₀ s) : Keeps s₀ (s.tieFrame n m) := hs.emit.inc.tieMod

theorem Keeps.tieSend {n typ : Nat} {objs : List Nat} (hs : Keeps s₀ s) : Keeps s₀ (s.tieSend n typ objs) :=
  .ite hs.tieMod.tieFrame hs.tieMod.tieMod

theorem Keeps.tieNext {n : Nat} (hs : Keeps s₀ s) : Keeps s₀ (s.tieNext n) := by
  unfold State.tieNext
  split
  · exact hs.tieMod.tieFrame
  · exact hs.tieMod

theorem Keeps.tieReceipt {n id : Nat} (hs : Keeps s₀ s) : Keeps s₀ (s.tieReceipt n id) := hs.emit.inc

theorem Keeps.tieAdvertise {n : Nat} (hs : Keeps s₀ s) : Keeps s₀ (s.tieAdvertise n) :=
  .tieSend (.tieMod (.ite hs.setTie.tieMod hs))

theorem Keeps.tieOffer {n : Nat} (hs : Keeps s₀ s) : Keeps s₀ (s.tieOffer n) := .ite hs hs.tieAdvertise

theorem Keeps.tieEndContract {n : Nat} (hs : Keeps s₀ s) : Keeps s₀ (s.tieEndContract n) := by
  unfold State.tieEndContract
  extract_lets had t u
  have ht : Keeps s₀ t := hs.wr.wr.wr.wr.setIdef
  exact .ite ht.tieMod.raise ht.tieMod

theorem Keeps.tieReady {n : Nat} (hs : Keeps s₀ s) : Keeps s₀ (s.tieReady n) := by
  unfold State.tieReady
  split
  · extract_lets same t u
    have ht : Keeps s₀ t := hs.wr.wr.wr
    exact .doneWait (.raise (.tieMod (.setTie (.ite ht (.tieMod (.wr (.ite ht.setIdef ht.setConLimit)))))))
  · exact hs.setTie.doneWait

theorem Keeps.tieTransition {n : Nat} (hs : Keeps s₀ s) : Keeps s₀ (s.tieTransition n) := by
  unfold State.tieTransition
  split
  · exact hs
  · extract_lets +onlyGivenNames st ends
    refine .ite hs.tieMod.tieSend ?_
    refine .ite ?_ hs.tieClose.tieMod
    extract_lets t u
    have ht : Keeps s₀ t := .ite hs.setIdef hs.setConLimit
    exact .ite ht.tieMod.tieSend ht.tieMod

theorem Keeps.tieWantSwap {n : Nat} (hs : Keeps s₀ s) : Keeps s₀ (s.tieWantSwap n) := .ite hs.tieMod.tieSend hs

theorem Keeps.tieSettle {n span : Nat} {p : Int} {episode : Bool} (hs : Keeps s₀ s) : Keeps s₀ (s.tieSettle n p span episode) :=
  .ite hs (.ite hs.tieMod (.ite hs.tieOpen.tieEndContract.setTie.tieMod.tieSend (.ite hs.tieMod.tieOffer hs.tieMod)))

theorem Keeps.setTieRole {n : Nat} {source : Bool} (hs : Keeps s₀ s) : Keeps s₀ (s.setTieRole n source) := hs.wrB

theorem Keeps.tieExchange {n : Nat} (hs : Keeps s₀ s) : Keeps s₀ (s.tieExchange n) := by
  unfold State.tieExchange
  extract_lets now t
  have ht : Keeps s₀ t := hs.tieEndContract.setTieRole.setTie.tieMod.raise
  exact .ite ht.tieOffer ht

theorem Keeps.tieEnterSwap {n : Nat} (hs : Keeps s₀ s) : Keeps s₀ (s.tieEnterSwap n) :=
  .ite hs.setTie.tieMod.tieOpen.tieSend hs.setTie.tieMod

theorem Keeps.tieQuiet {n : Nat} (hs : Keeps s₀ s) : Keeps s₀ (s.tieQuiet n) := hs.tieMod

theorem Keeps.tieFresh {n : Nat} (hs : Keeps s₀ s) : Keeps s₀ (s.tieFresh n) := hs.tieQuiet.tieMod

theorem Keeps.tieReset {n : Nat} (hs : Keeps s₀ s) : Keeps s₀ (s.tieReset n) := by
  unfold State.tieReset
  extract_lets +onlyGivenNames b a c
  have hc : Keeps s₀ c := hs.inc.raise.tieEndContract.setTieRole.tieFresh
  exact .ite hc (.ite hc.bayTimedOpen.setTie (.ite (.ite hc.setTie.tieMod hc.setTie.tieOffer) hc.setTie))

theorem Keeps.tieSendReset {n : Nat} (hs : Keeps s₀ s) : Keeps s₀ (s.tieSendReset n) := .ite hs.emit.tieReset hs

theorem Keeps.tieResetEnd {n : Nat} {byCommand : Bool} (hs : Keeps s₀ s) : Keeps s₀ (s.tieResetEnd n byCommand) :=
  .ite (.ite hs.setTie.tieMod hs.setTie) hs

theorem Keeps.tieLate {n : Nat} {late : Bool} (hs : Keeps s₀ s) : Keeps s₀ (s.tieLate n late) := .ite hs.late hs

theorem Keeps.tieAccessory {n : Nat} (hs : Keeps s₀ s) : Keeps s₀ (s.tieAccessory n) := .ite (.ite hs.tieClose hs.tieOpen) hs

theorem Keeps.tieToggled {n : Nat} (hs : Keeps s₀ s) : Keeps s₀ (s.tieToggled n) :=
  .ite (.ite hs.tieEndContract.setTie.tieOffer hs.tieEndContract.setTie) hs

theorem Keeps.tiePolicyDue {n : Nat} (hs : Keeps s₀ s) : Keeps s₀ (s.tiePolicyDue n) := by
  unfold State.tiePolicyDue
  split
  · exact .ite hs.wrB.wrA.wr.wrA.tieMod.doneWait hs
  · exact hs

theorem Keeps.tieFollow1 {n : Nat} {old : State} (hs : Keeps s₀ s) : Keeps s₀ (old.tieFollow1 s n) := by
  unfold State.tieFollow1
  refine .ite hs ?_
  extract_lets a d c
  have ha : Keeps s₀ a := .ite hs.bayMod.tieResetEnd hs
  have hd : Keeps s₀ d := .ite ha.tieOffer ha
  have hc : Keeps s₀ c := .ite (.ite hd.tieTransition hd) ha
  exact .ite hc (.ite hc.tieAccessory (.ite hc.tieToggled hc))

theorem Keeps.tieFollow {old : State} (hs : Keeps s₀ s) : Keeps s₀ (old.tieFollow s) := .foldl hs fun _ _ ih => ih.tieFollow1

/-! ### Battery strings -/

theorem Keeps.batMod {n : Nat} {f : BatS → BatS} (hs : Keeps s₀ s) : Keeps s₀ (s.batMod n f) := hs.same rfl

theorem Keeps.batToken {n kind : Nat} (hs : Keeps s₀ s) : Keeps s₀ (s.batToken n kind) := hs.tokenEv

theorem Keeps.batLearnEv {n : Nat} (hs : Keeps s₀ s) : Keeps s₀ (s.batLearnEv n) := hs.raise

theorem Keeps.setAnchor {n : Nat} {soc : ℚ} (hs : Keeps s₀ s) : Keeps s₀ (s.setAnchor n soc) := hs.batMod

theorem Keeps.setUnc {n tenths : Nat} (hs : Keeps s₀ s) : Keeps s₀ (s.setUnc n tenths) := hs.batMod.wr

theorem Keeps.showSoc {n : Nat} (hs : Keeps s₀ s) : Keeps s₀ (s.showSoc n) := hs.wr

theorem Keeps.restAnchor {n v : Nat} (hs : Keeps s₀ s) : Keeps s₀ (s.restAnchor n v) :=
  hs.setAnchor.setUnc.wr.wr.wr.batMod.showSoc

theorem Keeps.setLst {n st : Nat} (hs : Keeps s₀ s) : Keeps s₀ (s.setLst n st) := hs.wr

theorem Keeps.batDq {n cause : Nat} (hs : Keeps s₀ s) : Keeps s₀ (s.batDq n cause) := .ite hs.wr.setLst.batLearnEv hs

theorem Keeps.batSetFull {n : Nat} (hs : Keeps s₀ s) : Keeps s₀ (s.batSetFull n) := by
  unfold State.batSetFull
  extract_lets a t
  have ha : Keeps s₀ a := .ite hs hs.wr.raise
  exact .showSoc (.ite ha.setAnchor.setUnc ha.setAnchor.setUnc.setLst)

theorem Keeps.batClearFull {n : Nat} (hs : Keeps s₀ s) : Keeps s₀ (s.batClearFull n) := .ite hs.wr.batMod.setLst hs.wr.batMod

theorem Keeps.setQl {n ql : Nat} (hs : Keeps s₀ s) : Keeps s₀ (s.setQl n ql) := hs.batMod.wr

theorem Keeps.showDchg {n : Nat} (hs : Keeps s₀ s) : Keeps s₀ (s.showDchg n) := hs.wr

theorem Store.sorted_foldr_ins {α : Type} {l : List α} {k v : α → Nat} {m : Store} (h : m.sorted = true) :
    Store.sorted (l.foldr (fun p a => Store.ins (k p) (v p) a) m) = true := by
  induction l with
  | nil => exact h
  | cons p l ih => exact Store.sorted_ins ih

theorem Store.sorted_foldl_put {α : Type} {l : List α} {k d v : α → Nat} {m : Store} (h : m.sorted = true) :
    Store.sorted (l.foldl (fun a p => Store.put a (k p) (d p) (v p)) m) = true := by
  induction l generalizing m with
  | nil => exact h
  | cons p l ih => exact ih (Store.sorted_put h)

theorem Keeps.putRec {n : Nat} {r : Store} (hs : Keeps s₀ s) : Keeps s₀ (s.putRec n r) :=
  hs.upd (fun h => ⟨Store.sorted_foldr_ins (Store.sorted_filter h.regs), h.act, h.mem, h.evq, h.twq, h.offers, h.islBuf⟩) rfl

theorem Keeps.saveRec {n : Nat} (hs : Keeps s₀ s) : Keeps s₀ (s.saveRec n) := .ite hs.same hs

theorem Keeps.nvmRec {n : Nat} {sel : Nat → Bool} {q : Bool} (hs : Keeps s₀ s) : Keeps s₀ (s.nvmRec n sel q) := by
  unfold State.nvmRec
  refine .ite hs ?_
  extract_lets +onlyGivenNames w t
  split
  · exact hs.saveRec.same
  · exact hs.saveRec.same

theorem Keeps.recCommit (hs : Keeps s₀ s) : Keeps s₀ s.recCommit := by
  unfold State.recCommit
  exact .same (.foldl hs fun _ _ ih => ih.saveRec)

theorem Keeps.recCommitDue (hs : Keeps s₀ s) : Keeps s₀ s.recCommitDue := .ite hs.same hs.recCommit

theorem Keeps.batNoid {n : Nat} (hs : Keeps s₀ s) : Keeps s₀ (s.batNoid n) := hs.wr.batToken.batMod

theorem Keeps.loadRec {n : Nat} {r : ModRec} {known : Bool} (hs : Keeps s₀ s) : Keeps s₀ (s.loadRec n r known) :=
  hs.putRec.batMod.wr.wrB.setQl.showDchg.setAnchor.saveRec

theorem Keeps.batIdentity {n id : Nat} {bad : Bool} (hs : Keeps s₀ s) : Keeps s₀ (s.batIdentity n id bad) := by
  unfold State.batIdentity
  extract_lets +onlyGivenNames other a
  have ha : Keeps s₀ a := hs.wr.wr.batMod
  refine .ite ha.batNoid ?_
  extract_lets +onlyGivenNames fresh
  have hfresh (t : State) (ht : Keeps s₀ t) : Keeps s₀ (fresh t) := ht.same.loadRec
  split
  · exact .ite (hfresh _ (.batToken ha.same)) ha.loadRec
  · exact hfresh a ha

theorem Keeps.batIdFail {n : Nat} (hs : Keeps s₀ s) : Keeps s₀ (s.batIdFail n) := by
  unfold State.batIdFail
  split
  · exact .ite hs.batNoid hs
  · exact hs

theorem Keeps.restEnd {n : Nat} (hs : Keeps s₀ s) : Keeps s₀ (s.restEnd n) := .ite hs.batMod.same.raise hs

theorem Keeps.restStop {n : Nat} (hs : Keeps s₀ s) : Keeps s₀ (s.restStop n) := .ite (.restEnd (.ite hs.bayCycleEnd hs)) hs

theorem Keeps.restAdvance (hs : Keeps s₀ s) : Keeps s₀ s.restAdvance := by
  unfold State.restAdvance
  split
  · exact hs.same
  · exact hs

theorem Keeps.restRequest (hs : Keeps s₀ s) : Keeps s₀ s.restRequest := by
  unfold State.restRequest
  refine .ite hs ?_
  split
  · exact hs.batMod.same
  · exact hs

theorem Keeps.moveMod {g : Nat} {f : MoveS → MoveS} (hs : Keeps s₀ s) : Keeps s₀ (s.moveMod g f) := hs.same rfl

theorem Keeps.learnDone {g code reason : Nat} (hs : Keeps s₀ s) : Keeps s₀ (s.learnDone g code reason) := hs.doneWhere

theorem Keeps.learnStop {g cause : Nat} (hs : Keeps s₀ s) : Keeps s₀ (s.learnStop g cause) :=
  .ite (.ite (.foldl hs.moveMod fun _ _ ih => ih.batDq) hs.moveMod) hs

theorem Keeps.batForget {n : Nat} (hs : Keeps s₀ s) : Keeps s₀ (s.batForget n) :=
  hs.saveRec.putRec.setLst.wr.wr.wr.wr.wr.wr.batMod

theorem Keeps.setSvc {n svc : Nat} (hs : Keeps s₀ s) : Keeps s₀ (s.setSvc n svc) :=
  .ite hs (.ite hs.wr.raise.batForget hs.wr.raise)

theorem Keeps.batFollow1 {n : Nat} {old : State} (hs : Keeps s₀ s) : Keeps s₀ (old.batFollow1 s n) := by
  unfold State.batFollow1
  refine .ite hs ?_
  extract_lets b a c d
  have ha : Keeps s₀ a := .ite hs.bayMod.restEnd hs
  have hc : Keeps s₀ c := .ite ha.restEnd ha
  have hd : Keeps s₀ d := .ite hc.batDq hc
  exact .ite hd.setSvc hd

theorem Keeps.batFollow {old : State} (hs : Keeps s₀ s) : Keeps s₀ (old.batFollow s) := .foldl hs fun _ _ ih => ih.batFollow1

/-! ### Controller ports -/

theorem Keeps.twMod {n : Nat} {f : TwcS → TwcS} (hs : Keeps s₀ s) : Keeps s₀ (s.twMod n f) := hs.same rfl

theorem Keeps.setTw {n st : Nat} (hs : Keeps s₀ s) : Keeps s₀ (s.setTw n st) := hs.wr

theorem Keeps.trimResult {b tag : Nat} {ok : Bool} (hs : Keeps s₀ s) : Keeps s₀ (s.trimResult b tag ok) := by
  unfold State.trimResult
  split
  · exact .ite hs.late hs
  · exact .ite hs.late hs
  · exact .ite hs.bayMod.wr.wr hs.bayMod.inc.wr.raise

theorem Keeps.telResult {b : Nat} {ok : Bool} {data : List Nat} (hs : Keeps s₀ s) : Keeps s₀ (s.telResult b ok data) := hs.same rfl

theorem Keeps.hostData {n : Nat} {data : List Nat} (hs : Keeps s₀ s) : Keeps s₀ (s.hostData n data) :=
  .foldl hs fun _ _ ih => .ite ih.wr ih

theorem Keeps.hostResult {n result : Nat} {data : List Nat} (hs : Keeps s₀ s) : Keeps s₀ (s.hostResult n result data) := by
  unfold State.hostResult
  extract_lets a b
  have ha : Keeps s₀ a := hs.wr.wr.wr.wr
  exact .ite ha.wrB.hostData ha.wrB.raise

theorem Keeps.xactResult {n result : Nat} {x : Xact} {data : List Nat} {bad : Bool} (hs : Keeps s₀ s) :
    Keeps s₀ (s.xactResult n x result data bad) :=
  .ite hs.trimResult (.ite (.ite (.ite hs.batIdentity hs.late) hs.batIdFail) (.ite hs.telResult hs.hostResult))

theorem Keeps.xactStart {n : Nat} {x : Xact} (hs : Keeps s₀ s) : Keeps s₀ (s.xactStart n x) := hs.emit.twMod.setTw

theorem Keeps.twNext {n : Nat} (hs : Keeps s₀ s) : Keeps s₀ (s.twNext n) := by
  unfold State.twNext
  refine .ite hs ?_
  split
  · exact hs.twMod.xactStart
  · exact hs

theorem Keeps.xactRequest {n : Nat} {x : Xact} (hs : Keeps s₀ s) : Keeps s₀ (s.xactRequest n x) := by
  unfold State.xactRequest
  split
  · exact hs.xactResult
  · exact hs.twMod.twNext

theorem Keeps.xfail {n : Nat} {x : Xact} (hs : Keeps s₀ s) : Keeps s₀ (s.xfail n x) := .ite hs hs.raise

theorem Keeps.xactEnd {n result : Nat} {data : List Nat} {bad : Bool} (hs : Keeps s₀ s) :
    Keeps s₀ (s.xactEnd n result data bad) := by
  unfold State.xactEnd
  split
  · exact hs
  · extract_lets a b
    have ha : Keeps s₀ a := hs.twMod.setTw
    exact .twNext (.xactResult (.ite ha.inc (.ite ha.inc.xfail (.ite ha.inc.xfail ha))))

theorem Keeps.xactFlush {n result : Nat} (hs : Keeps s₀ s) : Keeps s₀ (s.xactFlush n result) :=
  .foldl hs.twMod fun _ _ ih => ih.xactResult

theorem Keeps.twRetire {n : Nat} (hs : Keeps s₀ s) : Keeps s₀ (s.twRetire n) := hs.setTw.wr.setRetired.raise.token.twMod

theorem Keeps.cureSkip {n k : Nat} (hs : Keeps s₀ s) : Keeps s₀ (s.cureSkip n k) := hs.inc.twMod

theorem Keeps.cureTake {f n : Nat} (hs : Keeps s₀ s) : Keeps s₀ (State.cureTake f n s) := by
  induction f generalizing s with
  | zero => exact hs
  | succ f ih =>
    unfold State.cureTake
    refine .ite hs ?_
    split
    · exact .ite (ih hs.wr.cureSkip) hs.wr.twMod
    · exact .ite hs.twRetire hs

theorem Keeps.cureServe (hs : Keeps s₀ s) : Keeps s₀ s.cureServe := .foldl hs fun _ _ ih => .ite ih ih.cureTake

theorem Keeps.cureRelease {n : Nat} {ok : Bool} (hs : Keeps s₀ s) : Keeps s₀ (s.cureRelease n ok) := by
  unfold State.cureRelease
  split
  · exact hs
  · exact .ite hs.bayTimedOpen.twMod hs.cureSkip.cureServe

theorem Keeps.cureDone {n : Nat} (hs : Keeps s₀ s) : Keeps s₀ (s.cureDone n) := hs.inc.twMod.cureServe

theorem Keeps.cureBegin {n : Nat} (hs : Keeps s₀ s) : Keeps s₀ (s.cureBegin n) := .ite hs.setTw.twMod.cureServe hs

theorem Keeps.twHang {n : Nat} {sda scl : Bool} (hs : Keeps s₀ s) : Keeps s₀ (s.twHang n sda scl) :=
  hs.wrB.wrB.setTw.xactFlush.twMod.inc.raise.token.cureBegin

theorem Keeps.twRelease {n : Nat} (hs : Keeps s₀ s) : Keeps s₀ (s.twRelease n) :=
  .cureServe (.twNext (.raise (.twMod (.setTw (.wr (.wr (.wr (.ite hs.inc hs))))))))

theorem Keeps.twFollow1 {n : Nat} (hs : Keeps s₀ s) : Keeps s₀ (s.twFollow1 n) := by
  unfold State.twFollow1
  split
  · exact hs
  · exact .ite hs.bayMod.twMod.cureSkip.cureServe (.ite hs (.ite hs.twMod hs.cureDone))

theorem Keeps.twFollow (hs : Keeps s₀ s) : Keeps s₀ s.twFollow := .ite (.foldl hs fun _ _ ih => ih.twFollow1) hs

theorem Keeps.idRequest {n : Nat} (hs : Keeps s₀ s) : Keeps s₀ (s.idRequest n) := by
  unfold State.idRequest
  split
  · exact hs.xactRequest
  · exact hs.batIdFail

theorem Keeps.idTry {n : Nat} (hs : Keeps s₀ s) : Keeps s₀ (s.idTry n) := by
  unfold State.idTry
  split
  · exact .ite hs.batMod.idRequest hs.batNoid
  · exact hs

/-! ### Units that follow a change -/

theorem Keeps.lanAbort {cause : Nat} (hs : Keeps s₀ s) : Keeps s₀ (s.lanAbort cause) := .ite hs hs.wr.wr.raise.same.doneWait

theorem Keeps.lanFollow {old : State} (hs : Keeps s₀ s) : Keeps s₀ (old.lanFollow s) :=
  .ite hs (.ite hs.lanAbort (.ite hs.lanAbort (.ite hs.lanAbort hs)))

theorem Keeps.lanToken {t : Tok} (hs : Keeps s₀ s) : Keeps s₀ (s.lanToken t) := .ite hs.lanAbort hs

theorem Keeps.holdupBegins (hs : Keeps s₀ s) : Keeps s₀ s.holdupBegins := .ite hs.capTrigger hs

theorem Keeps.hldFollow {old : State} (hs : Keeps s₀ s) : Keeps s₀ (old.hldFollow s) := by
  unfold State.hldFollow
  extract_lets +onlyGivenNames was now
  refine .ite hs ?_
  extract_lets s a
  have hs : Keeps s₀ s := .ite hs.holdupBegins hs
  have ha : Keeps s₀ a := .ite (.foldl hs fun _ _ ih => ih.condCease) (.ite (.foldl hs fun _ _ ih => ih.condTaken) hs)
  exact .ite (.foldl ha fun _ _ ih => ih.deviceStart) ha

theorem Keeps.follow {old : State} (hs : Keeps s₀ s) : Keeps s₀ (old.follow s) :=
  hs.hldFollow.flightFollow.tieFollow.batFollow.lanFollow.twFollow

/-! ### The analyzer -/

theorem Keeps.lanAdvance {n : Nat} (hs : Keeps s₀ s) : Keeps s₀ (s.lanAdvance n) := .ite hs hs.same

/-! ### The timebase -/

theorem Keeps.sysMod {f : SysS → SysS} (hs : Keeps s₀ s) : Keeps s₀ (s.sysMod f) := hs.same rfl

theorem Keeps.slewTo {int : Bool} (hs : Keeps s₀ s) : Keeps s₀ (s.slewTo int) := hs.wrB.wr

theorem Keeps.toCrystal {back : Bool} (hs : Keeps s₀ s) : Keeps s₀ (s.toCrystal back) :=
  .ite hs.slewTo.sysMod.raise hs.slewTo.sysMod

theorem Keeps.forceFollow (hs : Keeps s₀ s) : Keeps s₀ s.forceFollow :=
  .ite (.ite hs hs.slewTo.sysMod) (.ite (.ite hs.toCrystal (.ite hs.toCrystal hs)) hs.sysMod)

theorem Keeps.tmbCfg {v : Nat} (hs : Keeps s₀ s) : Keeps s₀ (s.tmbCfg v) := hs.wr.wr.forceFollow

theorem Keeps.xtalLoss (hs : Keeps s₀ s) : Keeps s₀ s.xtalLoss := .ite hs.wr hs.wr.slewTo.inc.tokenEv

theorem execPllLock_ends (hs : Keeps s₀ s) : Ends s₀ (execPllLock s) := .next (.ite hs.wr hs)

theorem execXtalQualified_ends (hs : Keeps s₀ s) : Ends s₀ (execXtalQualified s) := .ite (.next hs.wr.forceFollow) (.next hs)

theorem execXtalReturn_ends (hs : Keeps s₀ s) : Ends s₀ (execXtalReturn s) := .ite (.next hs.wr.forceFollow) (.next hs)

theorem execXtalEdgeTimeout_ends {late : Bool} (hs : Keeps s₀ s) : Ends s₀ (execXtalEdgeTimeout late s) :=
  .ite (.next (.ite hs.xtalLoss.late hs.xtalLoss)) (.next hs)

theorem execXtalCountWindow_ends {xtal osc : BitVec 16} (hs : Keeps s₀ s) : Ends s₀ (execXtalCountWindow xtal osc s) :=
  .ite (.next hs.xtalLoss) (.next hs)

theorem execPllUnlock_ends (hs : Keeps s₀ s) : Ends s₀ (execPllUnlock s) := .ite (.next hs.wr.raise) (.next hs)

theorem execPllRelock_ends (hs : Keeps s₀ s) : Ends s₀ (execPllRelock s) := .next (.ite hs.wr hs)

theorem execSlewDone_ends (hs : Keeps s₀ s) : Ends s₀ (execSlewDone s) := .next (.ite hs.wr hs)

theorem execInterpolatorCalibration_ends {spans : Bool} (hs : Keeps s₀ s) : Ends s₀ (execInterpolatorCalibration spans s) :=
  .ite (.next hs) (.ite (.next hs.same.incWrap.wr.wr) (.next hs.wr.raise))

theorem Keeps.tapTaken {j : Nat} (hs : Keeps s₀ s) : Keeps s₀ (s.tapTaken j) := hs.same rfl

theorem execHandshakeMeasurement_ends {cyc : BitVec 12} (hs : Keeps s₀ s) : Ends s₀ (execHandshakeMeasurement cyc s) :=
  .next (.ite hs.wr hs)

theorem Keeps.usLatch (hs : Keeps s₀ s) : Keeps s₀ s.usLatch := hs.wr

theorem execTmbUsLoRead_ends (hs : Keeps s₀ s) : Ends s₀ (execTmbUsLoRead s) := .next (.ite hs.usLatch.answer hs)

/-! ### Events of the loops -/

theorem Keeps.loopError {n : Nat} {esum : Int} (hs : Keeps s₀ s) : Keeps s₀ (s.loopError n esum).2 := by
  unfold State.loopError
  extract_lets x
  split
  · exact hs
  · exact hs.draw (place := 30)

theorem Keeps.compensate {n : Nat} {e : Int} (hs : Keeps s₀ s) : Keeps s₀ (s.compensate n e) := hs.loopMod

theorem Keeps.limitVoltage {n : Nat} {i : Int} (hs : Keeps s₀ s) : Keeps s₀ (s.limitVoltage n i) := hs.setIlimit.loopMod.showRef

theorem Keeps.limitCurrent {n : Nat} (hs : Keeps s₀ s) : Keeps s₀ (s.limitCurrent n) := hs.setIlimit.loopMod.showRef

theorem Keeps.loopMeans {n : Nat} {i v : Int} (hs : Keeps s₀ s) : Keeps s₀ (s.loopMeans n i v) := by
  unfold State.loopMeans
  extract_lets per pt p a l f t _ b
  have ht : Keeps s₀ t := hs.loopMod.wr.loopMod
  have hb : Keeps s₀ b := .ite (.ite ht.same ht) hs.loopMod
  exact .ite hb.wr.wr.wr.wr.loopMod hb

theorem Keeps.cancelPark {j : Nat} (hs : Keeps s₀ s) : Keeps s₀ (s.cancelPark j) := .ite hs.inc.setPh hs

theorem Keeps.shedPhase {n j : Nat} {i : Int} (hs : Keeps s₀ s) : Keeps s₀ (s.shedPhase n i j) :=
  .ite (.ite hs.setPh hs) (.ite (.ite hs hs.setPh) (.ite (.ite hs.setPh (.ite hs.setPh hs)) hs))

theorem Keeps.shedding {n : Nat} {e i : Int} (hs : Keeps s₀ s) : Keeps s₀ (s.shedding n e i) :=
  .foldl (.ite (.foldl hs fun _ _ ih => .ite ih.setPh ih.cancelPark) hs) fun _ _ ih => ih.shedPhase

theorem Keeps.periodEnd {j : Nat} (hs : Keeps s₀ s) : Keeps s₀ (s.periodEnd j) := .ite hs.phMod hs.wr.phMod

theorem Keeps.setCurrents {n : Nat} {imon : List Nat} (hs : Keeps s₀ s) : Keeps s₀ (s.setCurrents n imon) :=
  .foldl hs fun _ _ ih => ih.phMod

theorem Keeps.placePhases {n : Nat} (hs : Keeps s₀ s) : Keeps s₀ (s.placePhases n) := .foldl hs fun _ _ ih => ih.phMod.tapTaken

theorem Keeps.sampleLoop {n : Nat} {esum remote : Int} {imon : List Nat} (hs : Keeps s₀ s) :
    Keeps s₀ (s.sampleLoop n esum imon remote) := by
  unfold State.sampleLoop
  extract_lets a b i er v g w c d e f
  have hb : Keeps s₀ b := .placePhases (.setCurrents (.foldl (.foldl hs fun _ _ ih => .ite ih.phJoin ih) fun _ _ ih =>
      ih.periodEnd))
  have he : Keeps s₀ e := .ite hb.loopError.lanAdvance.compensate.loopMod.loopMod.loopMeans.shedding.limitCurrent
      hb.loopError.lanAdvance.compensate.loopMod.loopMod.loopMeans.shedding.limitVoltage
  exact .ite he.loopMod.loopTri.doneWait he.loopMod

theorem execLoopSample_ends {n : BitVec 4} {esum : BitVec 16} {imon : List (BitVec 12)} {remote : BitVec 12} (hs : Keeps s₀ s) :
    Ends s₀ (execLoopSample n esum imon remote s) :=
  .ite (.next hs.sampleLoop.follow) (.next hs)

theorem Keeps.loopLate {n : Nat} (hs : Keeps s₀ s) : Keeps s₀ (s.loopLate n) := by
  unfold State.loopLate
  extract_lets run a b c
  have ha : Keeps s₀ a := hs.inc.inc.wr
  have hb : Keeps s₀ b := .loopMod (.late (.ite ha.raise ha))
  have hc : Keeps s₀ c := .ite hb.wrBit.tokenEv hb
  exact .ite hc.wrBit.raise.loopFault hc

theorem execLatchPoint_ends {n : BitVec 4} {late : Bool} {slack : BitVec 14} (hs : Keeps s₀ s) :
    Ends s₀ (execLatchPoint n late slack s) := by
  unfold execLatchPoint
  extract_lets +onlyGivenNames k
  split
  · refine .ite (.next hs.loopLate.follow) ?_
    extract_lets a b
    have ha : Keeps s₀ a := hs.wr.wr.loopMod
    exact .next (.ite ha.wr.raise ha.wr)
  · exact .next hs

theorem execOndelayEnd_ends {n : BitVec 4} (hs : Keeps s₀ s) : Ends s₀ (execOndelayEnd n s) :=
  .ite (.next hs.loopBegin.follow) (.next hs)

theorem execOffdelayEnd_ends {n : BitVec 4} (hs : Keeps s₀ s) : Ends s₀ (execOffdelayEnd n s) :=
  .ite (.next hs.loopOffEnd.follow) (.next hs)

theorem execOffLevelReached_ends {n : BitVec 4} (hs : Keeps s₀ s) : Ends s₀ (execOffLevelReached n s) :=
  .ite (.ite (.next hs) (.next hs.loopMod.loopTri.doneWait.follow))
      (.ite (.next hs.loopMod.doneWait) (.ite (.ite (.next hs.loopMod.wr.raise.doneWait.follow) (.next hs.loopMod)) (.next hs)))

theorem execPgoodSet_ends {n : BitVec 4} {late : Bool} (hs : Keeps s₀ s) : Ends s₀ (execPgoodSet n late s) := by
  unfold execPgoodSet
  extract_lets +onlyGivenNames k st
  refine .ite ?_ (.next hs)
  extract_lets a b c
  have hb : Keeps s₀ b := .ite hs.setPgood.wr hs.setPgood
  exact .next (.follow (.doneEntries (.ite hb.late hb)))

theorem execPgoodClear_ends {n : BitVec 4} (hs : Keeps s₀ s) : Ends s₀ (execPgoodClear n s) :=
  .ite (.next hs.setPgood.follow) (.next hs)

theorem Keeps.senseLost {n : Nat} (hs : Keeps s₀ s) : Keeps s₀ (s.senseLost n) := hs.wr.wr.wr.inc.raise.token

theorem execSenseLoss_ends {n : BitVec 4} {late : Bool} (hs : Keeps s₀ s) : Ends s₀ (execSenseLoss n late s) := by
  unfold execSenseLoss
  extract_lets +onlyGivenNames k
  refine .ite ?_ (.next hs)
  extract_lets a
  have ha : Keeps s₀ a := .ite hs hs.senseLost
  exact .next (.ite ha.late ha)

theorem execSenseLossHigh_ends {n : BitVec 4} (hs : Keeps s₀ s) : Ends s₀ (execSenseLossHigh n s) :=
  .ite (.next hs.senseLost) (.next hs)

theorem execLoopOv_ends {n : BitVec 4} {late : Bool} (hs : Keeps s₀ s) : Ends s₀ (execLoopOv n late s) :=
  .ite (.next (.follow (.ite hs.loopFault.late hs.loopFault))) (.next hs)

theorem execLoopUv_ends {n : BitVec 4} {late : Bool} (hs : Keeps s₀ s) : Ends s₀ (execLoopUv n late s) := by
  unfold execLoopUv
  extract_lets +onlyGivenNames k
  refine .ite ?_ (.next hs)
  extract_lets a b
  have ha : Keeps s₀ a := hs.wr.wr.inc
  exact .next (.follow (.ite ha.tokenEv.setPgood.late ha.tokenEv.setPgood))

theorem execOverload_ends {n : BitVec 4} {late : Bool} (hs : Keeps s₀ s) : Ends s₀ (execOverload n late s) :=
  .ite (.next (.follow (.ite hs.loopFault.late hs.loopFault))) (.next hs)

/-! ### Events of the phases -/

theorem Keeps.phLate {j : Nat} {late : Bool} (hs : Keeps s₀ s) : Keeps s₀ (s.phLate j late) := .ite hs.late hs

theorem execPeakCrossing_ends {n : BitVec 6} (hs : Keeps s₀ s) : Ends s₀ (execPeakCrossing n s) := by
  unfold execPeakCrossing
  extract_lets +onlyGivenNames j
  refine .ite ?_ (.next hs)
  extract_lets a
  have ha : Keeps s₀ a := hs.inc.wr.phMod
  exact .next (.follow (.ite ha.phFault ha))

theorem execStageFault_ends {n : BitVec 6} {late : Bool} (hs : Keeps s₀ s) : Ends s₀ (execStageFault n late s) :=
  .ite (.next hs.phFault.phLate.follow) (.next hs)

theorem execImonopen_ends {n : BitVec 6} {late : Bool} (hs : Keeps s₀ s) : Ends s₀ (execImonopen n late s) :=
  .ite (.next hs.phFault.phLate.follow) (.next hs)

theorem execRejoin_ends {n : BitVec 6} {late : Bool} (hs : Keeps s₀ s) : Ends s₀ (execRejoin n late s) :=
  .ite (.next hs.phJoinNext.phLate.follow) (.next hs)

theorem execDwellEnd_ends {n : BitVec 6} {late : Bool} (hs : Keeps s₀ s) : Ends s₀ (execDwellEnd n late s) := by
  unfold execDwellEnd
  extract_lets j
  split
  · exact .ite (.next hs.setPh.phLate) (.next hs)
  · exact .next hs

theorem execParkEnd_ends {n : BitVec 6} {late : Bool} (hs : Keeps s₀ s) : Ends s₀ (execParkEnd n late s) := by
  unfold execParkEnd
  extract_lets j
  split
  · exact .ite (.next hs.inc.setPh.nophase.phLate.follow) (.next hs)
  · exact .next hs

theorem Keeps.setImbal {j : Nat} {x : Bool} (hs : Keeps s₀ s) : Keeps s₀ (s.setImbal j x) :=
  .ite hs.wrB.raise.wr.wr.token hs.wrB.raise

theorem Keeps.showDev {avg : ℚ} {j : Nat} (hs : Keeps s₀ s) : Keeps s₀ (s.showDev avg j) := .ite hs.draw.wr hs.wr

theorem Keeps.judgePhase {late j : Nat} {avg : ℚ} (hs : Keeps s₀ s) : Keeps s₀ (s.judgePhase late avg j) :=
  .ite hs.phMod.setImbal.phLate (.ite hs.phMod.setImbal hs.phMod)

theorem Keeps.judgeLoop {late n : Nat} (hs : Keeps s₀ s) : Keeps s₀ (s.judgeLoop late n) := by
  unfold State.judgeLoop
  extract_lets ps avg a
  have ha : Keeps s₀ a := .foldl hs fun _ _ ih => ih.showDev
  exact .ite (.foldl ha fun _ _ ih => ih.judgePhase) ha

theorem execImbalanceWindow_ends {late : BitVec 64} (hs : Keeps s₀ s) : Ends s₀ (execImbalanceWindow s late) :=
  .ite (.next (.foldl (.foldl hs fun _ _ ih => ih.judgeLoop) fun _ _ ih => ih.wr.phMod)) (.next hs)

/-! ### Commands on loops and phases -/

theorem Keeps.putWord {pg off v : Nat} (hs : Keeps s₀ s) : Keeps s₀ (s.putWord pg off v) := .foldl hs fun _ _ ih => ih.wr

theorem Keeps.coefWrite {n : Nat} {e : JEntry} (hs : Keeps s₀ s) : Keeps s₀ (s.coefWrite n e) :=
  .setWait (.loopMod (.commit (.wr (.foldl hs fun _ _ ih => ih.wr))))

theorem Keeps.coefSwitch {n : Nat} (hs : Keeps s₀ s) : Keeps s₀ (s.coefSwitch n) := by
  unfold State.coefSwitch
  extract_lets +onlyGivenNames a b c
  have hb : Keeps s₀ b := .ite hs.wr.wr.loopMod hs.wr.wr
  split
  · exact hb.doneWait
  · extract_lets d
    split
    · exact hb.doneWait.loopMod.coefWrite
    · exact hb.doneWait.loopMod

theorem Keeps.applyLoopPage {n : Nat} (hs : Keeps s₀ s) : Keeps s₀ (s.applyLoopPage n) :=
  .ite hs.applyPart.commitDone.loopMod.coefSwitch hs.applyPart.commitDone.loopMod

theorem Keeps.applyPhPart {pg q : Nat} (hs : Keeps s₀ s) : Keeps s₀ (s.applyPhPart pg q) :=
  .ite hs (.ite hs.applyPart.same.commitDone hs.applyPart.same)

theorem Keeps.loopTaken {n : Nat} (hs : Keeps s₀ s) : Keeps s₀ (s.loopTaken n) := by
  unfold State.loopTaken
  exact .ite hs.entTaken.lanAbort hs.entTaken

theorem Keeps.resense {n : Nat} (hs : Keeps s₀ s) : Keeps s₀ (s.resense n) := .ite hs.wr hs

theorem Keeps.putTarget {n a : Nat} (hs : Keeps s₀ s) : Keeps s₀ (s.putTarget n a) := .ite hs.wr hs.wr

theorem Keeps.heldTarget {e : JEntry} {w : Wait} {f : State → State} (hs : Keeps s₀ s) (hf : ∀ t, Keeps s₀ t → Keeps s₀ (f t)) :
    Keeps s₀ (s.heldTarget e w f) :=
  (hf _ hs.lseq).commit.setWait

theorem Keeps.loopReached {n : Nat} (hs : Keeps s₀ s) : Keeps s₀ (s.loopReached n) := .ite hs.doneWait hs

theorem Keeps.applyLoopStart {e : JEntry} (hs : Keeps s₀ s) : Keeps s₀ (s.applyLoopStart e) := by
  unfold State.applyLoopStart
  extract_lets +onlyGivenNames n t ron ps
  split
  · exact hs.refuseCmd
  · extract_lets +onlyGivenNames use delay ont
    refine .ite (.follow (hs.loopTaken.heldTarget fun _ ih => .ite ih.putTarget.wr ih.putTarget)) ?_
    extract_lets +onlyGivenNames a b c d st f
    have ha : Keeps s₀ a := hs.loopTaken.lseq.putTarget
    have hb : Keeps s₀ b := .ite ha ha.wr
    have hc : Keeps s₀ c := .setWait (.commit (.ite hb.wr hb))
    have hd : Keeps s₀ d := .ite hc.resense hc
    exact .follow (.loopReached (.ite hd.loopRetarget (.ite (.ite hd.loopMod.loopBegin hd.loopMod) hd.loopMod.loopStart)))

theorem Keeps.applyLoopVset {e : JEntry} (hs : Keeps s₀ s) : Keeps s₀ (s.applyLoopVset e) := by
  unfold State.applyLoopVset
  extract_lets +onlyGivenNames n t rate
  split
  · exact hs.refuseCmd
  · extract_lets +onlyGivenNames a b
    have ha : Keeps s₀ a := hs.loopTaken.heldTarget fun _ ih => ih.putTarget
    have hb : Keeps s₀ b := .ite ha.resense ha
    exact .ite ha.follow (.ite hb.loopRetarget.loopReached.follow (.follow (.ite hb.loopMod.done hb.loopMod)))

theorem Keeps.applyLoopStop {e : JEntry} (hs : Keeps s₀ s) : Keeps s₀ (s.applyLoopStop e) := by
  unfold State.applyLoopStop
  extract_lets +onlyGivenNames n roff
  split
  · exact hs.refuseCmd
  · extract_lets +onlyGivenNames use delay offt
    refine .ite (.follow (hs.loopTaken.heldTarget fun _ ih => .ite ih.wr ih)) ?_
    extract_lets a b c
    have hb : Keeps s₀ b := .ite hs.loopTaken.lseq hs.loopTaken.lseq.wr
    exact .follow (.loopStop (.setWait (.commit (.ite hb.wr hb))))

theorem Keeps.applyLoopCoef {e : JEntry} (hs : Keeps s₀ s) : Keeps s₀ (s.applyLoopCoef e) :=
  .ite hs.refuseCmd (.ite hs.lseq.loopMod.setWait hs.lseq.coefWrite)

theorem Keeps.applyPhCfg {e : JEntry} (hs : Keeps s₀ s) : Keeps s₀ (s.applyPhCfg e) := by
  unfold State.applyPhCfg
  extract_lets j pg off new moved busy
  split
  · exact hs.refuseCmd
  · exact .commit (.setWait (.lseq (.foldl hs fun _ _ ih => ih.putWord)))

theorem execLoopStart_ends {inst : BitVec 8} {h : CmdHdr} {target ron delay flags : Word} (hs : Keeps s₀ s) :
    Ends s₀ (execLoopStart inst h target ron delay flags s) :=
  .next (hs.command fun _ _ _ ih => ih.applyLoopStart)

theorem execLoopStop_ends {inst : BitVec 8} {h : CmdHdr} {delay roff coast flags : Word} (hs : Keeps s₀ s) :
    Ends s₀ (execLoopStop inst h delay roff coast flags s) :=
  .next (hs.command fun _ _ _ ih => ih.applyLoopStop)

theorem execLoopVset_ends {inst : BitVec 8} {h : CmdHdr} {target rate arg2 flags : Word} (hs : Keeps s₀ s) :
    Ends s₀ (execLoopVset inst h target rate arg2 flags s) :=
  .next (hs.command fun _ _ _ ih => ih.applyLoopVset)

theorem execLoopCoef_ends {inst : BitVec 8} {h : CmdHdr} {b0 b1 b2 b3 a1 a2 a3 reset : Word} (hs : Keeps s₀ s) :
    Ends s₀ (execLoopCoef inst h b0 b1 b2 b3 a1 a2 a3 reset s) :=
  .next (hs.command fun _ _ _ ih => ih.applyLoopCoef)

theorem execPhCfg_ends {inst : BitVec 8} {h : CmdHdr} {imcfg lim mon shed : Word} (hs : Keeps s₀ s) :
    Ends s₀ (execPhCfg inst h imcfg lim mon shed s) :=
  .next (hs.command fun _ _ _ ih => ih.applyPhCfg)

/-! ### Events and commands of the bays -/

theorem Keeps.batInsert {n vins : Nat} (hs : Keeps s₀ s) : Keeps s₀ (s.batInsert n vins) := by
  unfold State.batInsert
  exact hs.batForget.wr.setAnchor.setUnc.batMod.showSoc.idTry

theorem Keeps.bayLate {n : Nat} {late : Bool} (hs : Keeps s₀ s) : Keeps s₀ (s.bayLate n late) := .ite hs.late hs

theorem execAltClassChange_ends {n : BitVec 6} {mv : BitVec 12} (hs : Keeps s₀ s) : Ends s₀ (execAltClassChange n mv s) :=
  .ite (.next hs) (.next hs.wr.bayMod)

theorem execPresenceChange_ends {n : BitVec 6} {vins : BitVec 16} {late : Bool} (hs : Keeps s₀ s) :
    Ends s₀ (execPresenceChange n vins late s) := by
  unfold execPresenceChange
  refine .ite (.next hs) ?_
  extract_lets a b
  have ha : Keeps s₀ a := hs.bayPresent
  have hb : Keeps s₀ b := by
    unfold b
    split
    · exact .ite (.ite ha.batInsert ha.bayMod) ha.bayMod
    · exact ha
  exact .next (.follow hb.bayLate)

theorem execUrgent_ends {n : BitVec 6} (hs : Keeps s₀ s) : Ends s₀ (execUrgent n s) :=
  .ite (.next hs) (.ite (.next hs.bayMod.raise.bayOpen.doneWait.follow) (.next hs.bayMod.raise))

theorem execUrgentEnd_ends {n : BitVec 6} (hs : Keeps s₀ s) : Ends s₀ (execUrgentEnd n s) := .ite (.next hs.bayMod) (.next hs)

theorem execExtraction_ends {n : BitVec 6} {late : Bool} (hs : Keeps s₀ s) : Ends s₀ (execExtraction n late s) := by
  unfold execExtraction
  extract_lets +onlyGivenNames k
  refine .ite ?_ (.next hs)
  extract_lets was a b
  have ha : Keeps s₀ a := hs.setArm.setBay.bayMod
  exact .next (.follow (.bayLate (.doneWait (.doneWait (.raise (.ite ha.raise ha))))))

theorem execThrottleTrainEnd_ends {n : BitVec 6} (hs : Keeps s₀ s) : Ends s₀ (execThrottleTrainEnd n s) := by
  unfold execThrottleTrainEnd
  extract_lets +onlyGivenNames k
  refine .ite ?_ (.next hs)
  extract_lets a
  have ha : Keeps s₀ a := hs.wr.bayMod
  split
  · exact .next (.ite ha.sendTrain ha)
  · exact .next ha

theorem execThrottleRepeat_ends {n : BitVec 6} (hs : Keeps s₀ s) : Ends s₀ (execThrottleRepeat n s) :=
  .ite (.next hs) (.ite (.next hs.sendTrain) (.ite (.next hs.sendTrain.bayMod) (.next hs)))

theorem Keeps.bayOn {n : Nat} (hs : Keeps s₀ s) : Keeps s₀ (s.bayOn n) := hs.setBay.wr.bayMod.raise.doneWait

theorem execRampComplete_ends {n : BitVec 6} (hs : Keeps s₀ s) : Ends s₀ (execRampComplete n s) :=
  .ite (.next hs.bayOn.follow) (.next hs)

theorem execAdopted_ends {n : BitVec 6} (hs : Keeps s₀ s) : Ends s₀ (execAdopted n s) :=
  .ite (.next hs.bayOn.wr.follow) (.next hs)

theorem execGateOff_ends {n : BitVec 6} (hs : Keeps s₀ s) : Ends s₀ (execGateOff n s) :=
  .ite (.next hs.bayToOpen.raise.doneWait.follow) (.next hs)

theorem execLimitEntry_ends {n : BitVec 6} (hs : Keeps s₀ s) : Ends s₀ (execLimitEntry n s) :=
  .ite (.next hs.setBay.follow) (.next hs)

theorem execLimitExit_ends {n : BitVec 6} (hs : Keeps s₀ s) : Ends s₀ (execLimitExit n s) :=
  .ite (.next hs.setBay.raise.follow) (.next hs)

theorem execFastTrip_ends {n : BitVec 6} {peak : BitVec 16} (hs : Keeps s₀ s) : Ends s₀ (execFastTrip n peak s) :=
  .ite (.next hs.bayTrip.follow) (.next hs)

theorem execSlow_ends {n : BitVec 6} {peak : BitVec 16} {late : Bool} (hs : Keeps s₀ s) : Ends s₀ (execSlow n peak late s) :=
  .ite (.next hs.bayTrip.bayLate.follow) (.next hs)

theorem execRamptime_ends {n : BitVec 6} {peak : BitVec 16} {late : Bool} (hs : Keeps s₀ s) :
    Ends s₀ (execRamptime n peak late s) :=
  .ite (.next hs.bayTrip.bayLate.follow) (.next hs)

theorem execReverse_ends {n : BitVec 6} {peak : BitVec 16} {late : Bool} (hs : Keeps s₀ s) : Ends s₀ (execReverse n peak late s) :=
  .ite (.next hs.bayTrip.bayLate.follow) (.next hs)

theorem execGatelow_ends {n : BitVec 6} {peak : BitVec 16} {late : Bool} (hs : Keeps s₀ s) : Ends s₀ (execGatelow n peak late s) :=
  .ite (.next hs.bayTrip.bayLate.follow) (.next hs)

theorem execSenseopen_ends {n : BitVec 6} {peak : BitVec 16} (hs : Keeps s₀ s) : Ends s₀ (execSenseopen n peak s) :=
  .ite (.next hs.bayTrip.follow) (.next hs)

theorem execTogdlyEnd_ends {n : BitVec 6} (hs : Keeps s₀ s) : Ends s₀ (execTogdlyEnd n s) :=
  .ite (.next (.follow (.ite hs.bayMod.bayRetryLeft.bayToOpen hs.bayMod.bayRetryLeft.bayRamp))) (.next hs)

theorem execRetryWindowExpiry_ends {n : BitVec 6} (hs : Keeps s₀ s) : Ends s₀ (execRetryWindowExpiry n s) :=
  .ite (.next hs.bayMod.bayRetryLeft) (.next hs)

theorem execTimedOpenEnd_ends {n : BitVec 6} {vmean : BitVec 16} {late : Bool} (hs : Keeps s₀ s) :
    Ends s₀ (execTimedOpenEnd n vmean s late) := by
  unfold execTimedOpenEnd
  extract_lets +onlyGivenNames k
  refine .ite ?_ (.next hs)
  extract_lets o a b c
  have ha : Keeps s₀ a := by
    unfold a
    refine .ite ?_ hs
    split
    · exact hs.restAnchor
    · exact hs
  refine .next ?_
  refine .follow (.ite ?_ ha.bayCycleEnd)
  split
  · exact ha.bayCycleEnd.tieResetEnd.tieLate
  · exact ha.bayCycleEnd

theorem Keeps.bayTaken {n : Nat} (hs : Keeps s₀ s) : Keeps s₀ (s.bayTaken n) := hs.entTaken

theorem Keeps.applyBayArm {e : JEntry} (hs : Keeps s₀ s) : Keeps s₀ (s.applyBayArm e) := by
  unfold State.applyBayArm
  extract_lets +onlyGivenNames n
  refine .ite hs.refuseCmd ?_
  split
  · exact hs.refuseCmd
  · extract_lets a b
    have ha : Keeps s₀ a := hs.bayTaken.lseq.bayArm
    exact .follow (.ite ha.done ha.setWait)

theorem Keeps.applyBayOpen {e : JEntry} (hs : Keeps s₀ s) : Keeps s₀ (s.applyBayOpen e) := by
  unfold State.applyBayOpen
  extract_lets +onlyGivenNames n
  refine .ite hs.refuseCmd ?_
  refine .ite hs.refuseCmd ?_
  extract_lets a
  have ha : Keeps s₀ a := hs.bayTaken.lseq.bayOpen
  exact .follow (.ite ha.setWait ha.done)

theorem Keeps.applyBayToggle {e : JEntry} (hs : Keeps s₀ s) : Keeps s₀ (s.applyBayToggle e) := by
  unfold State.applyBayToggle
  extract_lets +onlyGivenNames n st
  split
  · exact hs.refuseCmd
  · extract_lets +onlyGivenNames a
    refine .ite ?_ hs.bayTaken.lseq.bayClose.setWait.follow
    extract_lets b
    have hb : Keeps s₀ b := hs.bayTaken.lseq.setArm.bayToOpen.done
    refine .follow ?_
    split
    · exact hb.tieToggled
    · exact hb

theorem Keeps.applyBayLimit {e : JEntry} (hs : Keeps s₀ s) : Keeps s₀ (s.applyBayLimit e) := by
  unfold State.applyBayLimit
  extract_lets n pg regs new
  split
  · exact hs.refuseCmd
  · exact .commit (.setWait (.lseq (.foldl hs fun _ _ ih => ih.putWord)))

theorem Keeps.bayLimitNow {n : Nat} (hs : Keeps s₀ s) : Keeps s₀ (s.bayLimitNow n) := .ite hs.setBay hs

theorem Keeps.applyBayPage {n : Nat} (hs : Keeps s₀ s) : Keeps s₀ (s.applyBayPage n) :=
  hs.applyPart.bayRetryLeft.bayLimitNow.commitDone

theorem execBayArm_ends {inst : BitVec 8} {h : CmdHdr} {flags bound : Word} (hs : Keeps s₀ s) :
    Ends s₀ (execBayArm inst h flags bound s) :=
  .next (hs.command fun _ _ _ ih => ih.applyBayArm)

theorem execBayOpen_ends {inst : BitVec 8} {h : CmdHdr} {flags : Word} (hs : Keeps s₀ s) : Ends s₀ (execBayOpen inst h flags s) :=
  .next (hs.command fun _ _ _ ih => ih.applyBayOpen)

theorem execBayToggle_ends {inst : BitVec 8} {h : CmdHdr} {flags : Word} (hs : Keeps s₀ s) :
    Ends s₀ (execBayToggle inst h flags s) :=
  .next (hs.command fun _ _ _ ih => ih.applyBayToggle)

theorem execBayLimit_ends {inst : BitVec 8} {h : CmdHdr} {ilim tflt plim rsh : Word} (hs : Keeps s₀ s) :
    Ends s₀ (execBayLimit inst h ilim tflt plim rsh s) :=
  .next (hs.command fun _ _ _ ih => ih.applyBayLimit)

/-! ### Events and commands of the battery strings -/

theorem Keeps.batLate {n : Nat} {late : Bool} (hs : Keeps s₀ s) : Keeps s₀ (s.batLate n late) := .ite hs.late hs

theorem Keeps.batNotemp {n : Nat} (hs : Keeps s₀ s) : Keeps s₀ (s.batNotemp n) := .ite (.batDq (.ite hs hs.wr.batToken)) hs.wr

theorem Keeps.batDchg {n : Nat} (hs : Keeps s₀ s) : Keeps s₀ (s.batDchg n) := .showDchg (.ite hs.batMod.inc.nvmRec hs.batMod)

theorem Keeps.growUnc {n : Nat} (hs : Keeps s₀ s) : Keeps s₀ (s.growUnc n) := .ite hs.batMod.wr hs

theorem Keeps.batPseudo {n : Nat} (hs : Keeps s₀ s) : Keeps s₀ (s.batPseudo n) := .ite hs.wr hs

theorem Keeps.batCountdis {n : Nat} (hs : Keeps s₀ s) : Keeps s₀ (s.batCountdis n) := by
  unfold State.batCountdis
  split
  · exact .ite hs.wr.batToken hs
  · exact hs

theorem Keeps.batMeans {n : Nat} (hs : Keeps s₀ s) : Keeps s₀ (s.batMeans n) := by
  unfold State.batMeans
  extract_lets +onlyGivenNames b a c
  have hc : Keeps s₀ c := .batMod (.wr (.ite hs.wr.wr.batMod hs))
  exact .ite (.ite hc.batMod.batDq hc.batMod) hc

theorem Keeps.batUpdate {n : Nat} (hs : Keeps s₀ s) : Keeps s₀ (s.batUpdate n) := by
  unfold State.batUpdate
  extract_lets a b c d e f g
  have ha : Keeps s₀ a := hs.batNotemp.batMeans.batDchg.batPseudo.growUnc
  have hc : Keeps s₀ c := .ite ha.batCountdis.batDq ha.batCountdis
  have hd : Keeps s₀ d := .showSoc (.ite hc.batMod hc)
  have he : Keeps s₀ e := .ite hd.wr hd
  have hf : Keeps s₀ f := .ite he.batClearFull he
  exact .wr (.wr (.wr (.ite hf.wr hf)))

theorem Keeps.groupRequest {g : Nat} (hs : Keeps s₀ s) : Keeps s₀ (s.groupRequest g) := hs.wr.wr

theorem Keeps.setEuse (hs : Keeps s₀ s) : Keeps s₀ s.setEuse := by
  unfold State.setEuse
  exact hs.wr.same

theorem execSocUpdate_ends (hs : Keeps s₀ s) : Ends s₀ (execSocUpdate s) := by
  unfold execSocUpdate
  refine .ite ?_ (.next hs)
  extract_lets a b
  have ha : Keeps s₀ a := .setEuse (.foldl hs fun _ _ ih => ih.batUpdate)
  exact .next (.restRequest (.ite ha (.foldl ha fun _ _ ih => ih.groupRequest)))

theorem Keeps.batBegin {n : Nat} (hs : Keeps s₀ s) : Keeps s₀ (s.batBegin n) := by
  unfold State.batBegin
  refine .ite ?_ hs
  refine .ite ?_ hs.wr.setLst.batLearnEv
  extract_lets a
  have ha : Keeps s₀ a := hs.batMod.setLst.batLearnEv
  exact .ite ha.batDq ha

theorem execRestPoint_ends {n : BitVec 5} {v : BitVec 16} {late : Bool} (hs : Keeps s₀ s) : Ends s₀ (execRestPoint n v late s) :=
  .ite (.next hs.restAnchor.batMod.batLate) (.next hs)

theorem execChargeTermination_ends {n : BitVec 5} {late : Bool} (hs : Keeps s₀ s) : Ends s₀ (execChargeTermination n late s) :=
  .ite (.next hs.batSetFull.batLate) (.next hs)

theorem Keeps.batLearned {n : Nat} (hs : Keeps s₀ s) : Keeps s₀ (s.batLearned n) :=
  .ite (.ite hs.wr.setQl.inc.setLst.nvmRec.batLearnEv hs.wr.batDq) hs

theorem execCutoff_ends {n : BitVec 5} {late : Bool} (hs : Keeps s₀ s) : Ends s₀ (execCutoff n late s) := by
  unfold execCutoff
  extract_lets +onlyGivenNames k
  refine .ite ?_ (.next hs)
  extract_lets a b c d
  have hb : Keeps s₀ b := .showSoc (.setUnc (.wr (.setAnchor (.ite hs hs.wr.raise))))
  exact .next (.batLate (.ite hb.batLearned.learnStop hb.batLearned))

theorem execPseudoOcv_ends {n : BitVec 5} (hs : Keeps s₀ s) : Ends s₀ (execPseudoOcv n s) := by
  unfold execPseudoOcv
  extract_lets k
  refine .ite ?_ (.next hs)
  split
  · exact .next hs.setAnchor.showSoc
  · exact .next hs

theorem execStale_ends {n : BitVec 5} {late : Bool} (hs : Keeps s₀ s) : Ends s₀ (execStale n late s) :=
  .ite (.next hs.wr.raise.batLate) (.next hs)

theorem execRotationDue_ends {n : BitVec 5} {late : Bool} (hs : Keeps s₀ s) : Ends s₀ (execRotationDue n late s) :=
  .ite (.next hs.batMod.raise.restRequest.batLate) (.next hs)

theorem execLearningPause_ends {n : BitVec 5} {late : Bool} (hs : Keeps s₀ s) : Ends s₀ (execLearningPause n late s) :=
  .ite (.next hs.batDq.batLate) (.next hs)

theorem execOffsetCalStart_ends {n : BitVec 5} (hs : Keeps s₀ s) : Ends s₀ (execOffsetCalStart n s) :=
  .ite (.next hs.batMod) (.next hs)

theorem execOffsetCalEnd_ends {n : BitVec 5} {mean : BitVec 20} (hs : Keeps s₀ s) : Ends s₀ (execOffsetCalEnd n mean s) :=
  .ite (.ite (.next hs.batMod) (.ite (.next hs.batMod.batToken) (.next hs.batMod.wr.wr))) (.next hs)

theorem execIdentityTry_ends {n : BitVec 5} {late : Bool} (hs : Keeps s₀ s) : Ends s₀ (execIdentityTry n late s) :=
  .ite (.next hs.idTry.batLate) (.next hs)

theorem Keeps.batHist {n : Nat} (hs : Keeps s₀ s) : Keeps s₀ (s.batHist n) := .ite hs hs.inc.inc.inc.wr.wr.wr.wr.wr.wr.saveRec

theorem execHistogramUpdate_ends (hs : Keeps s₀ s) : Ends s₀ (execHistogramUpdate s) :=
  .ite (.next (.foldl hs fun _ _ ih => ih.batHist)) (.next hs)

theorem execRecordCommit_ends (hs : Keeps s₀ s) : Ends s₀ (execRecordCommit s) := .ite (.next hs.recCommit) (.next hs)

theorem execRotationRequest_ends {n : BitVec 5} (hs : Keeps s₀ s) : Ends s₀ (execRotationRequest n s) :=
  .ite (.next hs.batMod.restRequest) (.next hs)

theorem execLearnAdmissionTimeout_ends {g : BitVec 3} (hs : Keeps s₀ s) : Ends s₀ (execLearnAdmissionTimeout g s) :=
  .ite (.next hs) (.next hs.moveMod.learnDone)

theorem Keeps.restDrop {n : Nat} (hs : Keeps s₀ s) : Keeps s₀ (s.restDrop n) := hs.batMod.same.restAdvance

theorem execRestAdmissionTimeout_ends {n : BitVec 5} (hs : Keeps s₀ s) : Ends s₀ (execRestAdmissionTimeout n s) := by
  unfold execRestAdmissionTimeout
  extract_lets k
  refine .ite ?_ (.next hs)
  split
  · exact .next hs.restDrop
  · exact .next hs.restDrop.doneOne
  · exact .next hs.doneOne

theorem execGdisHoldExpiry_ends {g : BitVec 3} (hs : Keeps s₀ s) : Ends s₀ (execGdisHoldExpiry g s) :=
  .ite (.next hs.wr.wr) (.next hs)

theorem Keeps.applyBatLearn {e : JEntry} (hs : Keeps s₀ s) : Keeps s₀ (s.applyBatLearn e) := by
  unfold State.applyBatLearn
  extract_lets +onlyGivenNames n g loopOk
  refine .ite ?_ ?_
  · split
    · exact hs.refuseCmd
    · exact hs.lseq.learnStop.done
  · split
    · exact hs.refuseCmd
    · exact .ite hs.lseq.setWait.moveMod hs.lseq.setWait

theorem Keeps.restAskCmd {n : Nat} (hs : Keeps s₀ s) : Keeps s₀ (s.restAskCmd n) := by
  unfold State.restAskCmd
  extract_lets +onlyGivenNames put
  refine .ite hs ?_
  split
  · exact hs.batMod.same
  · exact .ite hs.batMod.same hs.batMod.batMod.same

theorem Keeps.applyBatRest {e : JEntry} (hs : Keeps s₀ s) : Keeps s₀ (s.applyBatRest e) := by
  unfold State.applyBatRest
  extract_lets n
  refine .ite ?_ ?_
  · split
    · exact hs.refuseCmd
    · exact hs.lseq.restStop.done.follow
  · split
    · exact hs.refuseCmd
    · exact hs.lseq.setWait.restAskCmd

theorem execBatLearn_ends {inst : BitVec 8} {h : CmdHdr} {power : Word} (hs : Keeps s₀ s) : Ends s₀ (execBatLearn inst h power s) :=
  .next (hs.command fun _ _ _ ih => ih.applyBatLearn)

theorem execBatLearnAbort_ends {inst : BitVec 8} {h : CmdHdr} {power : Word} (hs : Keeps s₀ s) :
    Ends s₀ (execBatLearnAbort inst h power s) :=
  .next (hs.command fun _ _ _ ih => ih.applyBatLearn)

theorem execBatRest_ends {inst : BitVec 8} {h : CmdHdr} {wait : Word} (hs : Keeps s₀ s) : Ends s₀ (execBatRest inst h wait s) :=
  .next (hs.command fun _ _ _ ih => ih.applyBatRest)

theorem execBatRestAbort_ends {inst : BitVec 8} {h : CmdHdr} {wait : Word} (hs : Keeps s₀ s) :
    Ends s₀ (execBatRestAbort inst h wait s) :=
  .next (hs.command fun _ _ _ ih => ih.applyBatRest)

/-! ### The survey -/

theorem Keeps.putSample {p : BitVec 9 × BitVec 16} (hs : Keeps s₀ s) : Keeps s₀ (s.putSample p) := .ite hs (.ite hs.wr.same hs.wr)

theorem Keeps.batCoulomb {n : Nat} (hs : Keeps s₀ s) : Keeps s₀ (s.batCoulomb n) := .ite hs hs.batMod.batBegin

theorem Keeps.bayFoldback {n : Nat} (hs : Keeps s₀ s) : Keeps s₀ (s.bayFoldback n) :=
  .ite (.ite hs.wr (.ite hs.wr hs.draw.wrB)) hs

theorem Keeps.baySample {n : Nat} (hs : Keeps s₀ s) : Keeps s₀ (s.baySample n) := by
  unfold State.baySample
  extract_lets i v a b
  have ha : Keeps s₀ a := hs.wr.wr.wr.bayMod
  exact .ite ha.bayFoldback.bayRamp ha.bayFoldback

theorem Keeps.bayMeans {k n : Nat} (hs : Keeps s₀ s) : Keeps s₀ (s.bayMeans k n) := hs.wr.wr.bayMod

theorem Keeps.railMean {k n : Nat} (hs : Keeps s₀ s) : Keeps s₀ (s.railMean k n) := hs.wr.railMod

theorem Keeps.msEnd (hs : Keeps s₀ s) : Keeps s₀ s.msEnd := by
  unfold State.msEnd
  extract_lets a
  have ha : Keeps s₀ a := .foldl (.foldl hs fun _ _ ih => ih.bayMeans) fun _ _ ih => ih.railMean
  exact .ite ha.same hs

theorem Keeps.busMonitor {bus : List Nat} (hs : Keeps s₀ s) : Keeps s₀ (s.busMonitor bus) :=
  .wrB (.wrB (.wrB (.ite hs.wr hs.wr.wr)))

theorem Keeps.phSample {j : Nat} (hs : Keeps s₀ s) : Keeps s₀ (s.phSample j) := hs.phMod

theorem Keeps.survey {codes : List (BitVec 9 × BitVec 16)} (hs : Keeps s₀ s) : Keeps s₀ (s.survey codes) := by
  unfold State.survey
  extract_lets +onlyGivenNames a b c
  have ha : Keeps s₀ a := .foldl hs fun _ _ ih => ih.putSample
  have hp : Keeps s₀ ((List.range 64).foldl State.phSample a) := .foldl ha fun _ _ ih => ih.phSample
  have hb : Keeps s₀ b := .foldl (.foldl hp fun _ _ ih => ih.batCoulomb) fun _ _ ih => ih.baySample
  have hc : Keeps s₀ c := .foldl hb fun _ _ ih => ih.railMod
  exact .msEnd hc.same

theorem execSurveySample_ends {codes : List (BitVec 9 × BitVec 16)} {bus : BitVec 10} {lvl slp : List (BitVec 10)}
    (hs : Keeps s₀ s) : Ends s₀ (execSurveySample codes bus lvl slp s) :=
  .ite (.next hs.survey.busMonitor.follow) (.next hs)

/-! ### The Abacus -/

theorem Keeps.applyAbcPage {pg : Nat} (hs : Keeps s₀ s) : Keeps s₀ (s.applyAbcPage pg) := .ite hs.applyPart.commitDone.same hs

theorem Keeps.closeCycle (hs : Keeps s₀ s) : Keeps s₀ s.closeCycle := hs.same rfl

theorem execAbacusSettle_ends (hs : Keeps s₀ s) : Ends s₀ (execAbacusSettle s) := by
  unfold execAbacusSettle
  extract_lets +onlyGivenNames a
  have ha : Keeps s₀ a := .closeCycle (.foldl hs fun _ _ ih => ih.applyAbcPage)
  exact .ite (.next ha.same) (.next hs)

theorem Keeps.issueAlim {p : SettleP} {n : Nat} (hs : Keeps s₀ s) : Keeps s₀ (s.issueAlim p n) := .ite hs hs.wr.bayLimitNow

theorem Keeps.issueStep {p : SettleP} {n : Nat} (hs : Keeps s₀ s) : Keeps s₀ (s.issueStep p n) := .ite hs hs.orderStep

theorem Keeps.issueRef {us : Nat} {p : Nat × Int} (hs : Keeps s₀ s) : Keeps s₀ (s.issueRef us p) := .ite hs.loopRetarget hs

theorem Keeps.issueLearn {g : Nat} (hs : Keeps s₀ s) : Keeps s₀ (s.issueLearn g) := .ite hs.moveMod.wr.learnDone hs

theorem Keeps.issueRest {n : Nat} (hs : Keeps s₀ s) : Keeps s₀ (s.issueRest n) :=
  .ite hs.bayTimedOpen.batMod.wr.same.raise.doneWait.restAdvance hs

theorem Keeps.issueRestNo (hs : Keeps s₀ s) : Keeps s₀ s.issueRestNo := by
  unfold State.issueRestNo
  split
  · exact .ite hs.batMod.same hs
  · exact hs

theorem Keeps.issueSums {p : SettleP} (hs : Keeps s₀ s) : Keeps s₀ (s.issueSums p) := by
  unfold State.issueSums
  exact hs.same

theorem Keeps.rodPeak {r : Nat} (hs : Keeps s₀ s) : Keeps s₀ (s.rodPeak r) := hs.wr

theorem Keeps.showMoves (hs : Keeps s₀ s) : Keeps s₀ s.showMoves := hs.wrB.wrB

theorem Keeps.issueSettle {p : SettleP} (hs : Keeps s₀ s) : Keeps s₀ (s.issueSettle p) := by
  unfold State.issueSettle
  extract_lets r a b c d e f g h t
  have hr : Keeps s₀ r :=
    hs.upd fun hi => ⟨Store.sorted_foldl_put hi.regs, hi.act, hi.mem, hi.evq, hi.twq, hi.offers, hi.islBuf⟩
  have ha : Keeps s₀ a := .issueSums (.foldl hr fun _ _ ih => ih.rodPeak)
  have hb : Keeps s₀ b := .foldl ha fun _ _ ih => ih.raise
  have hc : Keeps s₀ c :=
    .foldl (.foldl (.foldl hb fun _ _ ih => ih.issueAlim) fun _ _ ih => ih.issueStep) fun _ _ ih => ih.issueRef
  have hd : Keeps s₀ d := .foldl hc fun _ _ ih => ih.wr
  have he : Keeps s₀ e := .foldl (.foldl hd fun _ _ ih => ih.issueLearn) fun _ _ ih => ih.learnStop
  have hf : Keeps s₀ f := by
    unfold f
    cases e.abc.rest with
    | none => exact he
    | some n => exact .ite he.restStop he
  have hg : Keeps s₀ g := by
    unfold g
    cases p.restOn with
    | none => exact .ite hf.issueRestNo hf
    | some n => exact hf.issueRest
  have hh : Keeps s₀ h := by
    unfold h
    cases p.release with
    | none => exact hg
    | some r => exact hg.cureRelease
  have ht : Keeps s₀ t := .foldl hh.showMoves fun _ _ ih => ih.doneWait
  exact .foldl ht fun _ _ ih => ih.tieSettle

theorem Keeps.lateSettle (hs : Keeps s₀ s) : Keeps s₀ s.lateSettle :=
  .ite hs.same.incWrap.raise.late.token hs.same.incWrap.raise.late

theorem execEnforcementIssue_ends {late : Bool} {slack : BitVec 16} (hs : Keeps s₀ s) :
    Ends s₀ (execEnforcementIssue late slack s) := by
  unfold execEnforcementIssue
  split
  · exact .ite (.next hs.lateSettle) (.next (.ite hs.issueSettle.follow.wr.raise hs.issueSettle.follow.wr))
  · exact .next hs

theorem Keeps.trimBay {n : Nat} (hs : Keeps s₀ s) : Keeps s₀ (s.trimBay n) := by
  unfold State.trimBay
  extract_lets b a
  refine .ite hs.bayMod.bayMod.incWrap.wr.raise ?_
  refine .ite hs.bayMod ?_
  split
  · exact hs.bayMod.bayMod.xactRequest
  · exact hs.bayMod

theorem execFeedTrim_ends (hs : Keeps s₀ s) : Ends s₀ (execFeedTrim s) :=
  .ite (.next (.foldl hs fun _ _ ih => ih.trimBay)) (.next hs)

theorem Keeps.abcCommit {pg : Nat} (hs : Keeps s₀ s) : Keeps s₀ (s.abcCommit pg) := .ite hs.takeSnap hs.commit

theorem Keeps.applyAbcCap {e : JEntry} (hs : Keeps s₀ s) : Keeps s₀ (s.applyAbcCap e) :=
  .ite hs.refuseCmd hs.putWord.putWord.lseq.abcCommit.setWait

theorem Keeps.applyRodSet {e : JEntry} (hs : Keeps s₀ s) : Keeps s₀ (s.applyRodSet e) := by
  unfold State.applyRodSet
  extract_lets +onlyGivenNames r off kind floor fl
  split
  · exact hs.refuseCmd
  · exact .setWait (.abcCommit (.lseq (.foldl hs fun _ _ ih => ih.putWord)))

theorem execAbcCap_ends {inst : BitVec 8} {h : CmdHdr} {cap slew : Word} (hs : Keeps s₀ s) :
    Ends s₀ (execAbcCap inst h cap slew s) :=
  .next (hs.command fun _ _ _ ih => ih.applyAbcCap)

theorem execRodSet_ends {inst : BitVec 8} {h : CmdHdr} {cfg floor ceil enf : Word} (hs : Keeps s₀ s) :
    Ends s₀ (execRodSet inst h cfg floor ceil enf s) :=
  .next (hs.command fun _ _ _ ih => ih.applyRodSet)

/-! ### Hold-up -/

theorem Keeps.setHld {st : Nat} (hs : Keeps s₀ s) : Keeps s₀ (s.setHld st) := hs.wr

theorem Keeps.forceLoop {k : Nat} (hs : Keeps s₀ s) : Keeps s₀ (s.forceLoop k) :=
  .showRef (.returnPhases (.ite hs.loopMod.wr hs.loopMod))

theorem Keeps.extraSample {p : BitVec 4 × BitVec 18} (hs : Keeps s₀ s) : Keeps s₀ (s.extraSample p) := by
  unfold State.extraSample
  extract_lets +onlyGivenNames m
  refine .ite ?_ hs
  extract_lets +onlyGivenNames er a
  split
  · exact .wr (.loopMod (.foldl hs.loopError.compensate fun _ _ ih => ih.phMod))
  · exact hs.loopError.compensate

theorem Keeps.hldMarks {cause vbus : Nat} (hs : Keeps s₀ s) : Keeps s₀ (s.hldMarks cause vbus) := by
  unfold State.hldMarks
  exact hs.wr.wr.wr.wr.wr.wr.wr.wrB.inc.same

theorem execHoldupTrigger_ends {bus : BitVec 10} {lvl slp : List (BitVec 10)} {extra : List (BitVec 4 × BitVec 18)}
    (hs : Keeps s₀ s) : Ends s₀ (execHoldupTrigger bus lvl slp extra s) := by
  unfold execHoldupTrigger
  extract_lets +onlyGivenNames b10 cause
  refine .ite ?_ (.next hs)
  extract_lets gs a b
  have ha : Keeps s₀ a := hs.lanAbort.hldMarks.setHld.raise
  exact .next (.follow (.foldl (.foldl (.ite ha.inc.raise ha) fun _ _ ih => ih.forceLoop) fun _ _ ih => ih.extraSample))

theorem execHandover_ends (hs : Keeps s₀ s) : Ends s₀ (execHandover s) :=
  .ite (.next (.follow (.ite (.foldl hs.setHld.raise fun _ _ ih => .ite ih.issueRef ih) hs.setHld.raise))) (.next hs)

theorem execRecoverStart_ends {bus : BitVec 10} {lvl slp : List (BitVec 10)} (hs : Keeps s₀ s) :
    Ends s₀ (execRecoverStart bus s lvl slp) :=
  .ite (.next hs.busMonitor.setHld) (.next hs)

theorem execRecoverBreak_ends {bus : BitVec 10} {lvl slp : List (BitVec 10)} (hs : Keeps s₀ s) :
    Ends s₀ (execRecoverBreak bus lvl slp s) :=
  .ite (.next hs.busMonitor.setHld) (.next hs)

theorem execEpisodeEnd_ends {late : Bool} (hs : Keeps s₀ s) : Ends s₀ (execEpisodeEnd late s) := by
  unfold execEpisodeEnd
  refine .ite ?_ (.next hs)
  extract_lets a b c d
  have ha : Keeps s₀ a := hs.setHld.wr.wr.raise
  have hb : Keeps s₀ b := .ite ha ha.wr
  have hd : Keeps s₀ d := .ite hb.same.recCommitDue hb.same
  exact .next (.follow (.ite hd.late hd))

theorem Keeps.applyHldSet {e : JEntry} (hs : Keeps s₀ s) : Keeps s₀ (s.applyHldSet e) := by
  unfold State.applyHldSet
  extract_lets regs new
  split
  · exact hs.refuseCmd
  · exact .commit (.setWait (.lseq (.foldl hs fun _ _ ih => ih.putWord)))

theorem execHldSet_ends {inst : BitVec 8} {h : CmdHdr} {cfg lvl rate tgt pre0 pre1 pre2 pre3 : Word} (hs : Keeps s₀ s) :
    Ends s₀ (execHldSet inst h cfg lvl rate tgt pre0 pre1 pre2 pre3 s) :=
  .next (hs.command fun _ _ _ ih => ih.applyHldSet)

/-! ### The balance -/

theorem Keeps.balEnter {raw : RawS} (hs : Keeps s₀ s) : Keeps s₀ (s.balEnter raw) := .foldl hs.same fun _ _ ih => ih.wrB

theorem execBalanceCycle_ends {late : Bool} (hs : Keeps s₀ s) : Ends s₀ (execBalanceCycle late s) := by
  unfold execBalanceCycle
  refine .ite ?_ (.next hs)
  refine .ite (.next hs.same.incWrap.raise.late) ?_
  split
  · exact .next hs.balEnter
  · exact .next hs

theorem Keeps.showSuspects (hs : Keeps s₀ s) : Keeps s₀ s.showSuspects := hs.wr.wrB

theorem Keeps.becomeSuspect {c eps : Nat} {stuck : Bool} (hs : Keeps s₀ s) : Keeps s₀ (s.becomeSuspect c stuck eps) :=
  hs.wr.wrB.wr.showSuspects

theorem Keeps.mark {c : Nat} {stuck : Bool} (hs : Keeps s₀ s) : Keeps s₀ (s.mark c stuck) := by
  unfold State.mark
  extract_lets a b eps
  have ha : Keeps s₀ a := .foldl hs fun _ _ ih => .ite ih.inc ih.wr
  exact .ite (.ite ha.wr ha.wr.wr) (.ite ha.wr.becomeSuspect.tokenEv ha.wr)

theorem Keeps.unbalanced (hs : Keeps s₀ s) : Keeps s₀ s.unbalanced := by
  unfold State.unbalanced
  extract_lets b a d e
  have hd : Keeps s₀ d := .wr (.wr (.wr (.wr (.foldl hs fun _ _ ih => ih.wr))))
  split
  · exact hd.wr.raise.wr.mark
  · exact hd.wr.raise.wr.raise

theorem Keeps.telJudge {c : Nat} (hs : Keeps s₀ s) : Keeps s₀ (s.telJudge c) :=
  .ite hs (.ite (.ite hs.same.wr.tokenEv hs.same) (.ite hs.same.wr hs.same))

theorem Keeps.newWindow (hs : Keeps s₀ s) : Keeps s₀ s.newWindow := .foldl hs.same fun _ _ ih => .ite ih.applyPart.commitDone ih

theorem Keeps.window (hs : Keeps s₀ s) : Keeps s₀ s.window := by
  unfold State.window
  extract_lets +onlyGivenNames n a judged c b d
  have ha : Keeps s₀ a := hs.wr.wr.wr
  have hc : Keeps s₀ c := ha.wr.inc
  have hb : Keeps s₀ b := .ite (.ite hc.unbalanced (.foldl hc.wr.wr fun _ _ ih => ih.wr)) ha.wr.wr.wr.inc
  have hd : Keeps s₀ d := .ite (.foldl hb fun _ _ ih => ih.telJudge) hb
  exact hd.newWindow

theorem execBalanceWindow_ends (hs : Keeps s₀ s) : Ends s₀ (execBalanceWindow s) :=
  .ite (.next hs.window) (.ite (.next hs.newWindow) (.next hs))

theorem execTelemetryRead_ends (hs : Keeps s₀ s) : Ends s₀ (execTelemetryRead s) := by
  unfold execTelemetryRead
  refine .ite ?_ (.next hs)
  refine .next ?_
  refine .foldl hs fun _ _ ih => ?_
  split
  · exact ih.xactRequest
  · exact ih

/-! ### Banks, windows and stream -/

theorem Keeps.strShow (hs : Keeps s₀ s) : Keeps s₀ s.strShow := hs.wrB.wrB.wr.wr.wr

theorem Keeps.strLose {fs : List FrameR} (hs : Keeps s₀ s) : Keeps s₀ (s.strLose fs) := by
  unfold State.strLose
  split
  · exact hs
  · exact hs.strMod.inc

theorem Keeps.strCut {gone : List FrameR} (hs : Keeps s₀ s) : Keeps s₀ (s.strCut gone) := .ite hs.strMod hs

theorem Keeps.ringClean (hs : Keeps s₀ s) : Keeps s₀ s.ringClean := by
  unfold State.ringClean
  exact hs.strCut.strMod.strLose.capMod

theorem strCut_mem {gone : List FrameR} : (s.strCut gone).mem = s.mem :=
  (apply_ite State.mem _ _ _).trans (ite_self _)

theorem Keeps.strPut {typ flags us : Nat} {payload : List Nat} (hs : Keeps s₀ s) : Keeps s₀ (s.strPut typ flags us payload) := by
  unfold State.strPut
  extract_lets w
  have hw : Keeps s₀ { s.strCut w.2.2 with mem := w.1 } :=
    hs.strCut.putMem fun h => Memory.wf_ringWrite (strCut_mem (s := s) ▸ h)
  exact hw.strMod.touched.strLose

theorem Keeps.strWrite {us : Nat} {ws : List Nat} (hs : Keeps s₀ s) : Keeps s₀ (s.strWrite us ws) := by
  unfold State.strWrite
  refine .ite hs ?_
  extract_lets +onlyGivenNames codes n flags lay need miss
  refine .ite hs.strMod.inc ?_
  extract_lets a b
  have ha : Keeps s₀ a := by
    unfold a
    split
    · exact hs.strPut.raise.strMod
    · exact hs
  exact .strPut (.ite ha.strPut.strMod ha)

theorem Keeps.showCodes (hs : Keeps s₀ s) : Keeps s₀ s.showCodes := .foldl (.foldl hs fun _ _ ih => ih.wr.wr) fun _ _ ih => ih.wr

theorem Keeps.frameCommit {pg : Nat} (hs : Keeps s₀ s) : Keeps s₀ (s.frameCommit pg) := .ite hs.applyPart.commitDone hs

theorem Keeps.frameRates (hs : Keeps s₀ s) : Keeps s₀ s.frameRates := by
  unfold State.frameRates
  extract_lets a b step c loops d
  have ha : Keeps s₀ a := .foldl hs fun _ _ ih => ih.frameCommit
  exact .showCodes (.strMod (.capMod (.strMod (.ite ha.capMod ha))))

theorem Keeps.bankRequest {m req : Nat} (hs : Keeps s₀ s) : Keeps s₀ (s.bankRequest m req) := .ite hs (.ite hs.wr.wr hs.raise)

theorem Keeps.grant {m : Nat} (hs : Keeps s₀ s) : Keeps s₀ (s.grant m) := hs.wr.wr.raise.ringClean

theorem execBankOwnerRequest_ends {m : BitVec 7} {req : BitVec 3} (hs : Keeps s₀ s) : Ends s₀ (execBankOwnerRequest m req s) :=
  .next (.ite hs.barWrite.bankRequest hs)

theorem execOwnershipGrant_ends {m : BitVec 7} (hs : Keeps s₀ s) : Ends s₀ (execOwnershipGrant m s) := .next (.ite hs.grant hs)

theorem Keeps.frameEnd {sv : List (BitVec 9 × List (BitVec 16))} {ll : List (BitVec 4 × List (BitVec 12))} {b : Nat}
    (hs : Keeps s₀ s) : Keeps s₀ (s.frameEnd sv ll b) :=
  .foldl hs.capWrite.strWrite fun _ _ ih => .ite ih.winClose ih

theorem execFrameStart_ends {sv : List (BitVec 9 × List (BitVec 16))} {ll : List (BitVec 4 × List (BitVec 12))}
    (hs : Keeps s₀ s) : Ends s₀ (execFrameStart sv ll s) := by
  unfold execFrameStart
  refine .ite ?_ (.next hs)
  extract_lets a g
  have ha : Keeps s₀ a := by
    unfold a
    split
    · exact hs.frameEnd
    · exact hs
  have hg : Keeps s₀ g := .foldl ha.ringClean fun _ _ ih => .ite ih.grant ih
  exact .next hg.frameRates.capMod.capShow.strShow

theorem execTransparentTestRegion_ends {m : BitVec 7} {fail : Bool} {w : BitVec 17} (hs : Keeps s₀ s) :
    Ends s₀ (execTransparentTestRegion m fail w s) := by
  unfold execTransparentTestRegion
  extract_lets +onlyGivenNames n
  refine .ite ?_ (.next hs)
  extract_lets r last a b
  have hb : Keeps s₀ b := .ite hs.wr.incWrap hs.wr
  exact .next (.ite hb.inc.wr.wr.raise.token hb)

theorem execComparatorTrigger_ends {k : BitVec 4} {codes : List (BitVec 16)} (hs : Keeps s₀ s) :
    Ends s₀ (execComparatorTrigger k codes s) :=
  .ite (.next hs.capTrigger) (.next hs)

theorem Keeps.capCtl {v : Nat} (hs : Keeps s₀ s) : Keeps s₀ (s.capCtl v) :=
  .foldl (.ite hs.capTrigger hs) fun _ _ ih => .ite ih.winMod.winRelease ih

theorem execSwtrig_ends (hs : Keeps s₀ s) : Ends s₀ (execSwtrig s) := .next (.ite hs.barWrite.capCtl hs)

theorem execRel_ends {k : BitVec 1} (hs : Keeps s₀ s) : Ends s₀ (execRel k s) := .next (.ite hs.barWrite.capCtl hs)

theorem execHoldtExpiry_ends {k : BitVec 1} (hs : Keeps s₀ s) : Ends s₀ (execHoldtExpiry k s) :=
  .next (.ite hs.winMod.winRelease hs)

theorem execVaultWriteEnd_ends {k : BitVec 1} {ok0 ok1 : Bool} {unc corr : List (BitVec 7 × BitVec 17)} (hs : Keeps s₀ s) :
    Ends s₀ (execVaultWriteEnd k ok0 ok1 unc corr s) := by
  unfold execVaultWriteEnd
  refine .ite ?_ (.next hs)
  extract_lets u a₁ a₂ devs good a c b
  have ha₁ : Keeps s₀ a₁ := hs.eccFound
  have ha₂ : Keeps s₀ a₂ := .ite ha₁.raise ha₁
  have ha : Keeps s₀ a := .foldl ha₂ fun _ _ ih => ih.nvcFail
  have hc : Keeps s₀ c := ha.wr.wr.wrB.wrB.wr.wr.raise
  have hb : Keeps s₀ b := .ite hc.capMod ha.wr.raise
  exact .next hb.snapRecord.winMod.winRelease

theorem execStepInstant_ends (hs : Keeps s₀ s) : Ends s₀ (execStepInstant s) := by
  unfold execStepInstant
  refine .ite ?_ (.next hs)
  extract_lets fill down run a
  refine .ite ?_ ?_
  · split
    · exact .next hs.strMod.strMod.raise.strShow
    · exact .next hs.strMod.strShow
  · refine .ite ?_ (.next hs.strMod.strShow)
    split
    · exact .next hs.strMod.strMod.raise.strShow
    · exact .next hs.strMod.strShow

theorem Keeps.complete {idx htag bytes first : Nat} {err : Bool} (hs : Keeps s₀ s) :
    Keeps s₀ (s.complete idx err htag bytes first) := by
  unfold State.complete
  exact .raise (.ite hs.emit.wr.wr hs.emit.wr)

theorem Keeps.bufDone {b : BufS} (hs : Keeps s₀ s) : Keeps s₀ (s.bufDone b) := hs.strMod.complete

theorem Keeps.takeDesc (hs : Keeps s₀ s) : Keeps s₀ s.takeDesc := .ite hs.wr.complete.raise hs.wr.strMod

theorem Keeps.copyOut {k : Nat} {head : Bool} (hs : Keeps s₀ s) : Keeps s₀ (State.copyOut k head s) := by
  induction k generalizing head s with
  | zero => exact hs
  | succ k ih =>
    unfold State.copyOut
    split
    · exact .ite (.ite hs (ih hs.bufDone)) (.ite hs (ih hs.emit.strMod))
    · exact .ite hs (ih hs.takeDesc)

theorem Keeps.frameGone (hs : Keeps s₀ s) : Keeps s₀ s.frameGone := .ite hs.strMod hs

theorem Keeps.strResume (hs : Keeps s₀ s) : Keeps s₀ s.strResume := by
  unfold State.strResume
  refine .ite hs ?_
  split
  · exact hs.strMod.strLose
  · exact hs

theorem Keeps.gapWords {q n : Nat} (hs : Keeps s₀ s) : Keeps s₀ (s.gapWords q n).2 := hs.draw (place := 32)

theorem execStreamRead_ends {unc corr : List (BitVec 7 × BitVec 17)} (hs : Keeps s₀ s) : Ends s₀ (execStreamRead unc corr s) := by
  unfold execStreamRead
  extract_lets +onlyGivenNames fuel
  refine .ite (.next hs) ?_
  refine .ite (.next hs.copyOut.frameGone.strShow) ?_
  extract_lets +onlyGivenNames r
  split
  · exact .ite (.next hs.strResume.gapWords.strMod.raise.copyOut.frameGone.strShow) (.next hs)
  · split
    · exact .next hs
    · exact .next hs.eccFound.strMod.copyOut.frameGone.strShow

theorem execBufferFlush_ends (hs : Keeps s₀ s) : Ends s₀ (execBufferFlush s) := by
  unfold execBufferFlush
  split
  · exact .ite (.next hs.bufDone.strShow) (.next hs)
  · exact .next hs

theorem execStrDtailWrite_ends {idx : BitVec 12} {descs : List (BitVec 12 × BitVec 128)} (hs : Keeps s₀ s) :
    Ends s₀ (execStrDtailWrite idx descs s) :=
  .ite (.next (.strShow (.wr (.foldl hs.barWrite fun _ _ ih => ih.strMod)))) (.next hs)

theorem execStrCheadWrite_ends {idx : BitVec 12} (hs : Keeps s₀ s) : Ends s₀ (execStrCheadWrite idx s) :=
  .next (.ite hs.barWrite.wr.strShow hs)

theorem Keeps.strCfg {v : Nat} (hs : Keeps s₀ s) : Keeps s₀ (s.strCfg v) := by
  unfold State.strCfg
  extract_lets on a b
  have ha : Keeps s₀ a := hs.wr.wr.wr
  have hb : Keeps s₀ b := .ite ha ha.wr
  exact .ite hb.wr.strShow (.ite hb.strShow (.ite hb.wr hb.wr.wr.wr.wr.wr.strMod.strShow))

theorem execStreamEnable_ends {v : Word} (hs : Keeps s₀ s) : Ends s₀ (execStreamEnable v s) := .next (.ite hs.barWrite.strCfg hs)

theorem Keeps.capHold (hs : Keeps s₀ s) : Keeps s₀ s.capHold := .foldl hs.capMod fun _ _ ih => .ite ih.wr.winMod ih

theorem Keeps.capRun (hs : Keeps s₀ s) : Keeps s₀ s.capRun := by
  unfold State.capRun
  extract_lets +onlyGivenNames a b
  have ha : Keeps s₀ a := by
    unfold a
    split
    · exact hs
    · split
      · exact hs.wr.wr.wr.wr.wr.wr.wr.winMod.winClose
      · exact hs
  have hb : Keeps s₀ b := ha.capMod
  exact hb.same.wr.strShow

theorem Keeps.capWipe (hs : Keeps s₀ s) : Keeps s₀ s.capWipe :=
  hs.upd (fun h => ⟨h.regs, h.act, rfl, h.evq, h.twq, h.offers, h.islBuf⟩) rfl

/-! ### The gallery -/

theorem Keeps.galMod {f : GalS → GalS} (hs : Keeps s₀ s) : Keeps s₀ (s.galMod f) := hs.same rfl

theorem Keeps.galShow (hs : Keeps s₀ s) : Keeps s₀ s.galShow := hs.wr.wr.wr.wr.wr

theorem Keeps.galOne {spill broken : Bool} {typ src n : Nat} {island : Option Nat} {p : Nat × List Nat} (hs : Keeps s₀ s) :
    Keeps s₀ (s.galOne spill typ src island broken n p) := by
  unfold State.galOne
  extract_lets us r a b c
  have hb : Keeps s₀ b := .ite hs.galMod.wr hs.galMod
  exact .ite hb.incWrap.raise hb.incWrap

theorem Keeps.galPut {spill : Bool} {o : Offer} (hs : Keeps s₀ s) : Keeps s₀ (s.galPut spill o) :=
  .foldl hs fun _ _ ih => ih.galOne

theorem Keeps.galThaw {cause : Nat} (hs : Keeps s₀ s) : Keeps s₀ (s.galThaw cause) := by
  unfold State.galThaw
  refine .ite hs ?_
  extract_lets a b
  have hb : Keeps s₀ b := hs.galPut.wr.wrB.raise
  exact .galShow (.ite hb hb.raise)

theorem Keeps.galMerge (hs : Keeps s₀ s) : Keeps s₀ s.galMerge := by
  unfold State.galMerge
  extract_lets m a b
  have hb : Keeps s₀ b := .ite hs.galMod.raise hs.galMod
  exact .galShow (.ite (.ite hb hb.wr.raise) hb)

theorem Keeps.galAccept {o : Offer} (hs : Keeps s₀ s) : Keeps s₀ (s.galAccept o) := by
  unfold State.galAccept
  extract_lets +onlyGivenNames told
  refine .ite hs.refuse ?_
  extract_lets a b
  have ha : Keeps s₀ a := .ite hs.galPut.galMod hs
  exact .ite ha.galPut.galShow.galThaw ha.galPut.galShow

theorem Keeps.dropOffer {o : Offer} {r : List Offer} (hs : Keeps s₀ s) (e : s.offers = o :: r) :
    Keeps s₀ { s with offers := r } := by
  refine hs.upd fun h => ⟨h.regs, h.act, h.mem, h.evq, h.twq, ?_, h.islBuf⟩
  have hlen := h.offers
  rw [e, List.length_cons] at hlen
  exact Nat.le_of_succ_le hlen

theorem execRecordOffer_ends {new : Option (Byte × BitVec 10 × List (List Word))} {bad : BitVec 3} (hs : Keeps s₀ s) :
    Ends s₀ (execRecordOffer new bad s) := by
  unfold execRecordOffer
  refine .ite (.next hs) ?_
  extract_lets +onlyGivenNames a
  have ha : Keeps s₀ a := by
    unfold a
    cases new with
    | none => exact hs
    | some p => exact hs.offer
  split
  · exact .next ha
  case h_2 o r e =>
    have hb := ha.dropOffer e
    exact .next (.galAccept (.ite hb (.foldl hb.macroInject fun _ _ ih => ih.macroFail)))

theorem Keeps.galPage (hs : Keeps s₀ s) : Keeps s₀ s.galPage := .galShow (.wr (.ite hs.galMod.inc hs.galMod))

theorem Keeps.nvmFail {dev : Nat} (hs : Keeps s₀ s) : Keeps s₀ (s.nvmFail dev) := hs.nvcFail.raise.same.record

theorem Keeps.galCur {cur : Nat} (hs : Keeps s₀ s) : Keeps s₀ (s.galCur cur) := by
  unfold State.galCur
  exact hs.wr.wr.wr.wr.wrB.wrB.wr.galMod

theorem execGalCur_ends {cur : Word} (hs : Keeps s₀ s) : Ends s₀ (execGalCur cur s) := .next (.ite hs.barWrite.galCur hs)

theorem Keeps.fastLoad {cur wofs : Nat} (hs : Keeps s₀ s) : Keeps s₀ (s.fastLoad cur wofs) := by
  unfold State.fastLoad
  exact hs.wr.wr.wrB.galMod

theorem Keeps.galTcur {cur : Nat} (hs : Keeps s₀ s) : Keeps s₀ (s.galTcur cur) := hs.wr.fastLoad

theorem execGalTcur_ends {cur : Word} (hs : Keeps s₀ s) : Ends s₀ (execGalTcur cur s) := .next (.ite hs.barWrite.galTcur hs)

theorem Keeps.galAdvance (hs : Keeps s₀ s) : Keeps s₀ s.galAdvance := hs.fastLoad

theorem execGalleryWindowAdvance_ends (hs : Keeps s₀ s) : Ends s₀ (execGalleryWindowAdvance s) := .next (.ite hs.galAdvance hs)

theorem execWinready_ends {fast : Bool} (hs : Keeps s₀ s) : Ends s₀ (execWinready fast s) :=
  .ite (.next hs) (.ite (.ite (.next hs.wr.galMod) (.next hs)) (.ite (.next hs.wr.raise.galMod) (.next hs)))

theorem Keeps.applyGalFreeze {e : JEntry} (hs : Keeps s₀ s) : Keeps s₀ (s.applyGalFreeze e) :=
  .ite (.ite hs.done (.ite hs.refuseCmd hs.galAccept.wr.raise.done)) hs.galThaw.done

theorem execGalFreeze_ends {inst : BitVec 8} {h : CmdHdr} (hs : Keeps s₀ s) : Ends s₀ (execGalFreeze inst h s) :=
  .next (hs.command fun _ _ _ ih => ih.applyGalFreeze)

theorem execGalThaw_ends {inst : BitVec 8} {h : CmdHdr} (hs : Keeps s₀ s) : Ends s₀ (execGalThaw inst h s) :=
  .next (hs.command fun _ _ _ ih => ih.applyGalFreeze)

theorem execFreezeTimeout_ends {late : Bool} (hs : Keeps s₀ s) : Ends s₀ (execFreezeTimeout late s) :=
  .ite (.next (.ite hs.galThaw.late hs.galThaw)) (.next hs)

theorem Keeps.newNonce (hs : Keeps s₀ s) : Keeps s₀ s.newNonce := hs.galMod.wr

theorem Keeps.applyGalClear {e : JEntry} (hs : Keeps s₀ s) : Keeps s₀ (s.applyGalClear e) :=
  .ite hs.done.newNonce (.ite hs.raise.refuseCmd.newNonce (.ite hs.refuseCmd.newNonce
      (.ite hs.setWait (.newNonce (.done (.raise (.galShow (.ite hs.galAccept.galMod.wr hs.galAccept.galMod))))))))

theorem execGalClear_ends {inst : BitVec 8} {h : CmdHdr} {rekey nonce mac0 mac1 mac2 mac3 mac4 mac5 : Word} (hs : Keeps s₀ s) :
    Ends s₀ (execGalClear inst h rekey nonce mac0 mac1 mac2 mac3 mac4 mac5 s) :=
  .next (hs.command fun _ _ _ ih => ih.applyGalClear)

theorem Keeps.clearRetry (hs : Keeps s₀ s) : Keeps s₀ s.clearRetry := .foldl hs fun _ _ ih => ih.applyGalClear

theorem execFlush_ends {fail0 fail1 : Bool} (hs : Keeps s₀ s) : Ends s₀ (execFlush fail0 fail1 s) := by
  unfold execFlush
  refine .ite ?_ (.next hs)
  extract_lets a bad
  have ha : Keeps s₀ a := .ite hs.applyPart.commitDone hs
  exact .next (.ite ha.galPage.clearRetry (.foldl ha fun _ _ ih => ih.nvmFail))

theorem execMergeDone_ends (hs : Keeps s₀ s) : Ends s₀ (execMergeDone s) := .ite (.next hs.galMerge.clearRetry) (.next hs)

theorem Keeps.keyLoad (hs : Keeps s₀ s) : Keeps s₀ s.keyLoad := .ite hs.lockrej hs.galMod.wr

theorem execKeyLoad_ends (hs : Keeps s₀ s) : Ends s₀ (execKeyLoad s) := .next (.ite hs.barWrite.keyLoad hs)

theorem execOphStep_ends (hs : Keeps s₀ s) : Ends s₀ (execOphStep s) := .ite (.next (.ite hs.wr.wr.galMod hs.wr.wr)) (.next hs)

theorem Keeps.galHold {cause : Nat} (hs : Keeps s₀ s) : Keeps s₀ (s.galHold cause) := by
  unfold State.galHold
  extract_lets +onlyGivenNames a
  have ha : Keeps s₀ a := hs.galMod
  refine .galMod (ha.upd fun h => ?_)
  exact ⟨h.regs, h.act, h.mem, h.evq, h.twq, Nat.zero_le _, h.islBuf⟩

theorem Keeps.galRun (hs : Keeps s₀ s) : Keeps s₀ s.galRun := by
  unfold State.galRun
  extract_lets a
  have ha : Keeps s₀ a := by
    unfold a
    split
    · exact hs.wr.galThaw.galMod
    · exact hs
  exact .ite ha ha.galMerge

/-! ### Events and commands of the flights -/

theorem Keeps.runFlight {e : JEntry} {f action : Nat} (hs : Keeps s₀ s) : Keeps s₀ (s.runFlight e f action) := by
  unfold State.runFlight
  refine .ite hs.wr.refuseCmd ?_
  refine .ite hs.refuseCmd ?_
  refine .ite hs.refuseCmd ?_
  extract_lets down b c
  have hc : Keeps s₀ c := .ite hs.setWait.flMod hs.setWait
  exact .ite hc.sendOrder.flRun hc.flRun

theorem Keeps.flContinue {f : Nat} (hs : Keeps s₀ s) : Keeps s₀ (s.flContinue f) := by
  unfold State.flContinue
  exact hs.wr.wr.gstat.flCheck

theorem Keeps.applyFlightRun {e : JEntry} (hbefore : Keeps s₀ before) : Keeps s₀ (State.applyFlightRun e before) :=
  .ite hbefore.wr.refuseCmd (.ite (.done (.flStop (.ite hbefore.wr.sendOrder hbefore.wr)))
      (.ite (.ite hbefore.wr.runFlight (.ite hbefore.wr.refuseCmd
      (.flContinue (.flMod (.setWait (.ite hbefore.wr.sendOrder.flMod hbefore.wr)))))) hbefore.wr.runFlight))

theorem execFlightRun_ends {inst : BitVec 8} {h : CmdHdr} {action bound : Word} (hs : Keeps s₀ s) :
    Ends s₀ (execFlightRun inst h action bound s) :=
  .next (hs.command fun _ _ _ ih => ih.applyFlightRun)

theorem execFlightContinue_ends {inst : BitVec 8} {h : CmdHdr} {bound : Word} (hs : Keeps s₀ s) :
    Ends s₀ (execFlightContinue inst h bound s) :=
  .next (hs.command fun _ _ _ ih => ih.applyFlightRun)

theorem execFlightAbort_ends {inst : BitVec 8} {h : CmdHdr} {bound : Word} (hs : Keeps s₀ s) :
    Ends s₀ (execFlightAbort inst h bound s) :=
  .next (hs.command fun _ _ _ ih => ih.applyFlightRun)

theorem execSlot_ends {f : BitVec 3} {t : BitVec 24} {late : Bool} (hs : Keeps s₀ s) : Ends s₀ (execSlot f t late s) :=
  .ite (.next hs) (.ite (.next hs.incWrap.raise.late) (.next hs.slot.follow))

theorem execLanding_ends {f : BitVec 3} {k : BitVec 4} (hs : Keeps s₀ s) : Ends s₀ (execLanding f k s) := by
  unfold execLanding
  extract_lets +onlyGivenNames g
  split
  · refine .ite ?_ (.next hs)
    extract_lets a b
    have ha : Keeps s₀ a := hs.wr.wr.flMod
    exact .next (.ite ha.raise.wr.flMod ha.raise)
  · exact .next hs

theorem execUpDeadline_ends {f : BitVec 3} {e : BitVec 8} {late : Bool} (hs : Keeps s₀ s) : Ends s₀ (execUpDeadline f e late s) :=
  .ite (.next (.follow (.ite hs.flFail.late hs.flFail))) (.next hs)

theorem execDownDeadline_ends {f : BitVec 3} {e : BitVec 8} {late : Bool} (hs : Keeps s₀ s) :
    Ends s₀ (execDownDeadline f e late s) := by
  unfold execDownDeadline
  refine .ite ?_ (.next hs)
  extract_lets a
  have ha : Keeps s₀ a := hs.setEst.entToken.setTread
  exact .next (.flCheckAll (.ite ha.late ha))

theorem Keeps.railLate {r : Nat} {late : Bool} (hs : Keeps s₀ s) : Keeps s₀ (s.railLate r late) := .ite hs.late hs

theorem execRailGood_ends {n : BitVec 7} {late : Bool} (hs : Keeps s₀ s) : Ends s₀ (execRailGood n s late) := by
  unfold execRailGood
  extract_lets +onlyGivenNames r
  refine .ite ?_ (.next hs)
  extract_lets a
  have ha : Keeps s₀ a := hs.railMod.entBecomesGood.railLate
  exact .next (.ite (.foldl ha fun _ _ ih => ih.condTaken) ha)

theorem execRailGoodLost_ends {n : BitVec 7} {late : Bool} (hs : Keeps s₀ s) : Ends s₀ (execRailGoodLost n s late) := by
  unfold execRailGoodLost
  extract_lets +onlyGivenNames r
  refine .ite ?_ (.next hs)
  extract_lets a
  have ha : Keeps s₀ a := hs.railMod.entLosesGood.railLate.follow
  exact .next (.ite (.foldl ha fun _ _ ih => ih.condCease) ha)

theorem execRailOv_ends {n : BitVec 7} {late : Bool} (hs : Keeps s₀ s) : Ends s₀ (execRailOv n s late) := by
  unfold execRailOv
  extract_lets +onlyGivenNames r
  refine .ite ?_ (.next hs)
  extract_lets +onlyGivenNames a
  have ha : Keeps s₀ a := hs.raise.entToken.railLate
  exact .ite (.next ha.dropEnts.settleDrops.flCheckAll.follow) (.next ha)

theorem execRailFallen_ends {n : BitVec 7} (hs : Keeps s₀ s) : Ends s₀ (execRailFallen n s) :=
  .ite (.next hs.railMod.entFalls) (.next hs)

theorem execReturnWaitEnd_ends {f : BitVec 3} {late : Bool} (hs : Keeps s₀ s) : Ends s₀ (execReturnWaitEnd f late s) := by
  unfold execReturnWaitEnd
  extract_lets +onlyGivenNames g
  refine .ite ?_ (.next hs)
  extract_lets a b c
  have ha : Keeps s₀ a := hs.wr.wr.gstat
  have hb : Keeps s₀ b := .ite ha.deviceStart ha
  exact .next (.ite hb.follow.late.raise hb.follow)

/-! ### IDDEX -/

theorem Keeps.idxMod {f : IdxS → IdxS} (hs : Keeps s₀ s) : Keeps s₀ (s.idxMod f) := hs.same rfl

theorem execSyncPulse_ends (hs : Keeps s₀ s) : Ends s₀ (execSyncPulse s) := .ite (.next hs.idxMod.emit) (.next hs)

theorem execSyncEdge_ends {err : BitVec 16} (hs : Keeps s₀ s) : Ends s₀ (execSyncEdge err s) :=
  .ite (.next (.ite hs.wr.idxMod.wr.raise hs.wr.idxMod)) (.next hs)

theorem execSyncEdgeMissed_ends {late : Bool} (hs : Keeps s₀ s) : Ends s₀ (execSyncEdgeMissed late s) := by
  unfold execSyncEdgeMissed
  refine .ite ?_ (.next hs)
  extract_lets a b
  have hb : Keeps s₀ b := .ite hs.inc.idxMod.wr.raise hs.inc.idxMod
  exact .next (.ite hb.late hb)

theorem Keeps.addrConf (hs : Keeps s₀ s) : Keeps s₀ s.addrConf := .ite hs hs.wr.raise.token

theorem Keeps.agePeers (hs : Keeps s₀ s) : Keeps s₀ s.agePeers := .foldl hs fun _ _ ih => ih.inc

theorem execIddexSlot_ends {wrong : Bool} (hs : Keeps s₀ s) : Ends s₀ (execIddexSlot wrong s) := by
  unfold execIddexSlot
  refine .ite (.next hs) ?_
  extract_lets +onlyGivenNames a
  refine .ite (.next hs.agePeers) ?_
  extract_lets b
  have hb : Keeps s₀ b := hs.agePeers.emit.inc.idxMod
  exact .next (.ite hb.addrConf hb)

theorem Keeps.remoteFollow {old : State} (hs : Keeps s₀ s) : Keeps s₀ (old.remoteFollow s) :=
  .ite hs (.follow (.flCheckAll (.foldl (.ite hs hs.dropEnts.settleDrops.flCheckAll) fun _ _ ih => .ite
      (.foldl ih fun _ _ ih' => ih'.slotEnt) ih)))

theorem Keeps.takeStates {a : Nat} {p : List Nat} (hs : Keeps s₀ s) : Keeps s₀ (s.takeStates a p) :=
  .foldl hs.wr fun _ _ ih => ih.wr

theorem Keeps.peerHeard {a : Nat} {p : List Nat} (hs : Keeps s₀ s) : Keeps s₀ (s.peerHeard a p) := by
  unfold State.peerHeard
  extract_lets was first b c d e
  have hb : Keeps s₀ b := hs.inc.wr.wr.wr.wrBit
  have hd : Keeps s₀ d := .ite hb.wrBit.takeStates hb.wrBit
  have he : Keeps s₀ e := .ite hd.raise.raise hd
  exact .ite he.wr.raise he

theorem Keeps.ackOrder {id f result : Nat} (hs : Keeps s₀ s) : Keeps s₀ (s.ackOrder id f result) := hs.idxMod.wr

theorem Keeps.carryOrder {op f action id t0 : Nat} (hs : Keeps s₀ s) : Keeps s₀ (s.carryOrder op f action id t0) :=
  .ite hs.ackOrder (.ite (.ite hs.ackOrder (.flRecord (.flRun (.ackOrder (.ite hs.condCease hs)))))
      (.ite (.ite hs.ackOrder.flMod.flContinue.flRecord hs.ackOrder)
      (.ite (.flRecord (.ackOrder (.flStop (.ite hs.condCease hs))))
      (.ite (.flRecord (.ite hs.ackOrder.condTaken hs.ackOrder)) hs.ackOrder))))

theorem Keeps.takeOrder {p : List Nat} (hs : Keeps s₀ s) : Keeps s₀ (s.takeOrder p) := .ite hs hs.idxMod.wr.wr.wr.raise.carryOrder

theorem Keeps.takeTime {p : List Nat} (hs : Keeps s₀ s) : Keeps s₀ (s.takeTime p) := .ite hs.idxMod hs

theorem execMasterFrame_ends {payload : List Byte} (hs : Keeps s₀ s) : Ends s₀ (execMasterFrame payload s) :=
  .ite (.next hs) (.ite (.next hs.addrConf) (.ite (.next hs) (.next hs.peerHeard.takeTime.takeOrder.remoteFollow)))

theorem Keeps.takeAck {a id f result : Nat} (hs : Keeps s₀ s) : Keeps s₀ (s.takeAck a id f result) := by
  unfold State.takeAck
  extract_lets +onlyGivenNames x
  split
  · extract_lets +onlyGivenNames put
    refine .ite hs ?_
    refine .ite hs ?_
    refine .ite hs.flMod.late ?_
    extract_lets b c worst
    have hc : Keeps s₀ c := .ite hs.flMod.raise.token hs.flMod
    exact .flCommandDone (.ite hc.wr hc)
  · exact hs

theorem execSlaveFrame_ends {src : BitVec 4} {payload : List Byte} (hs : Keeps s₀ s) : Ends s₀ (execSlaveFrame src payload s) :=
  .ite (.next hs) (.ite (.next hs.addrConf) (.ite (.next hs) (.next (.remoteFollow (.ite hs.peerHeard.takeAck hs.peerHeard)))))

theorem execIddexFrameDiscarded_ends {slot : BitVec 4} {frame : List Byte} (hs : Keeps s₀ s) :
    Ends s₀ (execIddexFrameDiscarded s slot frame) :=
  .next (.ite hs.inc hs)

theorem execOrderAckDeadline_ends {f : BitVec 3} (hs : Keeps s₀ s) : Ends s₀ (execOrderAckDeadline f s) :=
  .ite (.next hs.flMod.flCommandDone) (.next hs)

theorem Keeps.masterLost (hs : Keeps s₀ s) : Keeps s₀ s.masterLost :=
  .gstat (.foldl (.foldl hs.wr.raise fun _ _ ih => .ite ih.flStamp.wr.flAck ih) fun _ _ ih => ih.condCease)

theorem Keeps.slaveLost {a : Nat} (hs : Keeps s₀ s) : Keeps s₀ (s.slaveLost a) :=
  .foldl hs fun _ _ ih => .ite ih.flMod.flCommandDone ih

theorem execPeerLost_ends {a : BitVec 4} {late : Bool} (hs : Keeps s₀ s) : Ends s₀ (execPeerLost a late s) := by
  unfold execPeerLost
  extract_lets +onlyGivenNames n
  refine .ite ?_ (.next hs)
  extract_lets b c d
  have hc : Keeps s₀ c := hs.wr.wr.wrBit.wrBit.raise.raise.token
  have hd : Keeps s₀ d := .ite hc.masterLost hc.slaveLost
  exact .next (.ite hd.late hd)

theorem execPgraceEnd_ends {a : BitVec 4} (hs : Keeps s₀ s) : Ends s₀ (execPgraceEnd a s) :=
  .ite (.next hs.wr.raise.remoteFollow) (.next hs)

/-! ### Events and commands of the TIE ports -/

theorem Keeps.tieSample {n ts1 ts2 : Nat} (hs : Keeps s₀ s) : Keeps s₀ (s.tieSample n ts1 ts2) :=
  .tieMod (.ite hs.wr.wr.inc hs.wr.wr)

theorem execDrpToggle_ends {n : BitVec 2} {ts1 ts2 : BitVec 10} (hs : Keeps s₀ s) : Ends s₀ (execDrpToggle n ts1 ts2 s) :=
  .ite (.next (.ite hs.tieSample.setTie hs.tieSample.setTieRole.tieMod)) (.next hs)

theorem execAttach_ends {n : BitVec 2} {ts1 ts2 : BitVec 10} {late : Bool} (hs : Keeps s₀ s) :
    Ends s₀ (execAttach n ts1 ts2 late s) := by
  unfold execAttach
  extract_lets +onlyGivenNames k a
  refine .ite ?_ (.next hs)
  extract_lets +onlyGivenNames src b c d
  have hc : Keeps s₀ c := hs.tieSample.setTieRole.wrB.wr.tieFresh.tieMod.setIdef.bayPresent.raise.setTie
  exact .next (.tieLate (.ite (.ite hc.tieOffer (.ite hc.tieClose.tieMod hc.tieClose.tieOffer)) hc))

theorem execTsClassChange_ends {n : BitVec 2} {ts1 ts2 : BitVec 10} (hs : Keeps s₀ s) : Ends s₀ (execTsClassChange n ts1 ts2 s) :=
  .ite (.next (.ite hs.tieSample.setTie (.ite hs.tieSample.setTie hs.tieSample))) (.next hs)

theorem execAccessoryAttach_ends {n : BitVec 2} {ts1 ts2 : BitVec 10} {late : Bool} (hs : Keeps s₀ s) :
    Ends s₀ (execAccessoryAttach n ts1 ts2 late s) :=
  .ite (.next hs.tieSample.setTieRole.wr.setIdef.bayPresent.raise.setTie.tieAccessory.tieLate) (.next hs)

theorem Keeps.tieLeave {n st : Nat} (hs : Keeps s₀ s) : Keeps s₀ (s.tieLeave n st) :=
  .tieMod (.tieFresh (.wr (.wr (.setTie (.ite hs.tieOpen.tieEndContract.bayPresent hs.tieOpen.tieEndContract)))))

theorem execDetach_ends {n : BitVec 2} {ts1 ts2 : BitVec 10} {late : Bool} (hs : Keeps s₀ s) :
    Ends s₀ (execDetach n ts1 ts2 late s) :=
  .ite (.next hs.tieSample.tieLeave.raise.tieLate.follow) (.next hs)

theorem execMoistureMeasurement_ends {n : BitVec 2} {gnd1 gnd2 snp1 snp2 : BitVec 16} (hs : Keeps s₀ s) :
    Ends s₀ (execMoistureMeasurement n gnd1 gnd2 s snp1 snp2) := by
  unfold execMoistureMeasurement
  extract_lets +onlyGivenNames k
  refine .ite ?_ (.next hs)
  extract_lets r a cls m b c d
  have hc : Keeps s₀ c := .ite hs.wr.wr.wr.tieMod.raise hs.wr.wr.wr.tieMod
  exact .next (.follow (.ite hc.tieToken.tieLeave (.ite hc.setTie hc)))

theorem Keeps.tieTake {n typ id : Nat} {act : State → State} (hs : Keeps s₀ s) (hact : ∀ t, Keeps s₀ t → Keeps s₀ (act t)) :
    Keeps s₀ (s.tieTake n typ id act) :=
  .ite (.ite hs.inc.tieReceipt (hact _ hs.inc.tieReceipt.tieMod).tiePolicyDue.follow) hs

theorem execFrameSent_ends {n : BitVec 2} (hs : Keeps s₀ s) : Ends s₀ (execFrameSent n s) := .ite (.next hs.tieMod) (.next hs)

theorem Keeps.tieDelivered {n typ : Nat} (hs : Keeps s₀ s) : Keeps s₀ (s.tieDelivered n typ) :=
  .ite hs.tieMod (.ite hs.tieTransition (.ite hs.tieReady.tieWantSwap (.ite hs.tieExchange hs)))

theorem execReceipt_ends {n : BitVec 2} {id : BitVec 3} (hs : Keeps s₀ s) : Ends s₀ (execReceipt n id s) := by
  unfold execReceipt
  extract_lets k
  split
  · exact .ite (.next hs.inc.tieNext.tieDelivered.tiePolicyDue.follow) (.next hs)
  · exact .next hs

theorem execReceiptTimeout_ends {n : BitVec 2} {late : Bool} (hs : Keeps s₀ s) : Ends s₀ (execReceiptTimeout n late s) := by
  unfold execReceiptTimeout
  extract_lets +onlyGivenNames k
  split
  · exact .ite (.ite (.next hs.tieLate.inc.tieFrame) (.next hs.tieLate.inc.raise.tieToken.tieSendReset.follow)) (.next hs)
  · exact .next hs

theorem execResponseTimeout_ends {n : BitVec 2} {late : Bool} (hs : Keeps s₀ s) : Ends s₀ (execResponseTimeout n late s) :=
  .ite (.ite (.next hs.tieLate.tieMod.tieMod.tiePolicyDue) (.next hs.tieLate.tieMod.tieToken.tieSendReset.tiePolicyDue.follow))
      (.next hs)

theorem execCapsRepeat_ends {n : BitVec 2} {late : Bool} (hs : Keeps s₀ s) : Ends s₀ (execCapsRepeat n late s) :=
  .ite (.ite (.next hs.tieLate.setTie.tieMod) (.next hs.tieLate.tieAdvertise)) (.next hs)

theorem execTransitionTimeout_ends {n : BitVec 2} {late : Bool} (hs : Keeps s₀ s) : Ends s₀ (execTransitionTimeout n late s) :=
  .ite (.next hs.tieLate.tieToken.tieSendReset.tiePolicyDue.follow) (.next hs)

theorem execTieFrameDiscarded_ends {n : BitVec 2} {hdr : BitVec 16} {objs : List Word} {crc : Word} (hs : Keeps s₀ s) :
    Ends s₀ (execTieFrameDiscarded n s hdr objs crc) :=
  .next (.ite hs.inc hs)

theorem execReservedMessage_ends {n rev : BitVec 2} {id : BitVec 3} {typ : BitVec 4} (hs : Keeps s₀ s) :
    Ends s₀ (execReservedMessage n id typ rev s) :=
  .ite (.next (hs.tieTake fun _ ih => ih.inc)) (.next hs)

theorem Keeps.tieAsk {n pos ireq preq : Nat} (hs : Keeps s₀ s) : Keeps s₀ (s.tieAsk n pos ireq preq) := hs.tieMod.tieSend

theorem Keeps.tiePolicyAsk {n : Nat} (hs : Keeps s₀ s) : Keeps s₀ (s.tiePolicyAsk n) := by
  unfold State.tiePolicyAsk
  extract_lets _ fits
  cases fits with
  | none => exact hs
  | some p => exact hs.tieAsk

theorem execCaps_ends {n : BitVec 2} {id : BitVec 3} {dual : Bool} {objs : List Word} (hs : Keeps s₀ s) :
    Ends s₀ (execCaps n id dual objs s) := by
  unfold execCaps
  extract_lets +onlyGivenNames k os
  refine .next (hs.tieTake fun t ht => ?_)
  extract_lets +onlyGivenNames a b c
  have ha : Keeps s₀ a := .foldl ht fun _ _ ih => ih.wr
  have hc : Keeps s₀ c := .ite ha.wr.tieMod ha.wr
  exact .ite hc (.ite hc.tieOpen.tieEndContract.setTie.tieMod (.ite hc hc.tiePolicyAsk))

theorem Keeps.tieReject {n reason : Nat} (hs : Keeps s₀ s) : Keeps s₀ (s.tieReject n reason) := hs.tieSend

theorem execRequest_ends {n : BitVec 2} {id : BitVec 3} {obj : Word} (hs : Keeps s₀ s) : Ends s₀ (execRequest n id obj s) := by
  unfold execRequest
  extract_lets +onlyGivenNames k o
  refine .next ?_
  refine hs.tieTake fun _ ih => .ite ih.tieMod.tieReject (.ite ih.tieMod (.ite ih.tieMod.inc.tieReject ?_))
  split
  · exact ih.tieMod.tieReject.tieMod
  · exact ih.tieMod.tieMod.setTie.tieSend

theorem execAccept_ends {n : BitVec 2} {id : BitVec 3} (hs : Keeps s₀ s) : Ends s₀ (execAccept n id s) :=
  .next (hs.tieTake fun _ ih => .ite ih.setTie.tieMod (.ite ih.tieEnterSwap ih))

theorem execReject_ends {n : BitVec 2} {id : BitVec 3} {reason : Byte} (hs : Keeps s₀ s) : Ends s₀ (execReject n id reason s) := by
  unfold execReject
  extract_lets +onlyGivenNames k
  refine .next (hs.tieTake fun t ht => ?_)
  extract_lets +onlyGivenNames w r a b
  have hr : Keeps s₀ r := ht.wr.raise
  have hb : Keeps s₀ b := .ite hr.tieMod.inc hr.tieMod
  exact .ite (.ite hb.tieMod hb.tieMod.doneWait) hr

theorem execReady_ends {n : BitVec 2} {id : BitVec 3} (hs : Keeps s₀ s) : Ends s₀ (execReady n id s) := by
  unfold execReady
  extract_lets +onlyGivenNames k
  refine .next ?_
  refine hs.tieTake fun _ ih => .ite ih.tieExchange (.ite ?_ ih)
  split
  · exact .ite (.tieWantSwap (.ite ih.tieReady.tieOpen ih.tieReady.tieClose)) ih.tieSendReset
  · exact ih

theorem execSwap_ends {n : BitVec 2} {id : BitVec 3} (hs : Keeps s₀ s) : Ends s₀ (execSwap n id s) := by
  unfold execSwap
  extract_lets +onlyGivenNames k
  exact .next (hs.tieTake fun _ ih => .ite ih.tieReject (.ite ih.inc.tieReject
      (.ite (.tieReject (.ite ih.inc.tieMod ih)) (.tieEnterSwap (.tieSend (.ite ih.inc.tieMod ih))))))

theorem execGetcaps_ends {n : BitVec 2} {id : BitVec 3} (hs : Keeps s₀ s) : Ends s₀ (execGetcaps n id s) :=
  .next (hs.tieTake fun _ ih => .ite ih.tieAdvertise ih)

theorem execCollisionBackoffEnd_ends {n : BitVec 2} {late : Bool} (hs : Keeps s₀ s) :
    Ends s₀ (execCollisionBackoffEnd n late s) := by
  unfold execCollisionBackoffEnd
  extract_lets +onlyGivenNames k
  refine .ite ?_ (.next hs)
  extract_lets a
  have ha : Keeps s₀ a := hs.tieLate.tieMod
  split
  · exact .ite (.next ha.tieSend) (.next ha.tieMod)
  · exact .next ha

theorem execTieHardReset_ends {n : BitVec 2} (hs : Keeps s₀ s) : Ends s₀ (execTieHardReset n s) :=
  .ite (.ite (.next hs.tieToken.tieReset.tiePolicyDue.follow) (.next hs.tieToken.tieOpen.tieReset.setTie.follow)) (.next hs)

theorem execBreach_ends {n : BitVec 2} {late : Bool} (hs : Keeps s₀ s) : Ends s₀ (execBreach n late s) :=
  .ite (.next hs.setConLimit.wr.inc.raise.tieToken.tieLate) (.next hs)

theorem execBreachLimitEnd_ends {n : BitVec 2} {late : Bool} (hs : Keeps s₀ s) : Ends s₀ (execBreachLimitEnd n late s) :=
  .ite (.next hs.bayTrip.setTie.inc.raise.tieQuiet.tieLate.follow) (.next hs)

theorem execBreachRecovery_ends {n : BitVec 2} (hs : Keeps s₀ s) : Ends s₀ (execBreachRecovery n s) :=
  .ite (.next hs.wr.limitNow) (.next hs)

theorem Keeps.applyTiePage {n : Nat} (hs : Keeps s₀ s) : Keeps s₀ (s.applyTiePage n) := by
  unfold State.applyTiePage
  extract_lets was a b c
  have hb : Keeps s₀ b := .ite hs.tieLeave.applyPart hs.applyPart
  have hc : Keeps s₀ c := .ite hb.tieAdvertise hb
  exact .follow (.commitDone (.ite hc.tieAccessory.tieWantSwap hc))

theorem Keeps.applyTiePolicy {e : JEntry} (hs : Keeps s₀ s) : Keeps s₀ (s.applyTiePolicy e) := by
  unfold State.applyTiePolicy
  extract_lets n
  split
  · exact hs.refuseCmd
  · exact hs.lseq.setWait.tieMod.tiePolicyDue

theorem Keeps.applyTieRequest {e : JEntry} (hs : Keeps s₀ s) : Keeps s₀ (s.applyTieRequest e) := by
  unfold State.applyTieRequest
  extract_lets +onlyGivenNames n action
  split
  · exact hs.refuseCmd
  · extract_lets +onlyGivenNames a
    have ha : Keeps s₀ a := hs.lseq.setWait
    exact .ite (.tieAsk (.ite ha.setTie ha)) (.ite ha.tieMod.tieSend
        (.ite ha.tieSendReset.follow (.ite ha.tieAdvertise ha.tieSend)))

theorem execTiePolicy_ends {inst : BitVec 8} {h : CmdHdr} {host drp : Word} (hs : Keeps s₀ s) :
    Ends s₀ (execTiePolicy inst h host drp s) :=
  .next (hs.command fun _ _ _ ih => ih.applyTiePolicy)

theorem execTieRequest_ends {inst : BitVec 8} {h : CmdHdr} {obj bound : Word} (hs : Keeps s₀ s) :
    Ends s₀ (execTieRequest inst h obj bound s) :=
  .next (hs.command fun _ _ _ ih => ih.applyTieRequest)

theorem execTieRequestSwap_ends {inst : BitVec 8} {h : CmdHdr} {obj bound : Word} (hs : Keeps s₀ s) :
    Ends s₀ (execTieRequestSwap inst h obj bound s) :=
  .next (hs.command fun _ _ _ ih => ih.applyTieRequest)

theorem execTieRequestHardreset_ends {inst : BitVec 8} {h : CmdHdr} {obj bound : Word} (hs : Keeps s₀ s) :
    Ends s₀ (execTieRequestHardreset inst h obj bound s) :=
  .next (hs.command fun _ _ _ ih => ih.applyTieRequest)

theorem execTieRequestCaps_ends {inst : BitVec 8} {h : CmdHdr} {obj bound : Word} (hs : Keeps s₀ s) :
    Ends s₀ (execTieRequestCaps inst h obj bound s) :=
  .next (hs.command fun _ _ _ ih => ih.applyTieRequest)

/-! ### The two-wire controllers -/

theorem Keeps.xactAgain {n : Nat} {x : Xact} (hs : Keeps s₀ s) : Keeps s₀ (s.xactAgain n x) := hs.twMod

theorem execTransactionEnd_ends {n : BitVec 3} {result : BitVec 2} {data : List Byte} {bad : Bool} (hs : Keeps s₀ s) :
    Ends s₀ (execTransactionEnd n result data bad s) := by
  unfold execTransactionEnd
  extract_lets k
  split
  · exact .ite (.next hs) (.ite (.next hs.xactAgain) (.next hs.xactEnd))
  · exact .next hs

theorem execTransactionRetry_ends {n : BitVec 3} (hs : Keeps s₀ s) : Ends s₀ (execTransactionRetry n s) := by
  unfold execTransactionRetry
  split
  · exact .ite (.next hs.xactStart) (.next hs)
  · exact .next hs

theorem execArbitrationLoss_ends {n : BitVec 3} (hs : Keeps s₀ s) : Ends s₀ (execArbitrationLoss n s) := by
  unfold execArbitrationLoss
  extract_lets +onlyGivenNames k
  split
  · exact .ite (.next hs) (.ite (.next hs.inc.raise.xactEnd) (.next hs.inc.xactAgain))
  · exact .next hs

theorem execStretch_ends {n : BitVec 3} (hs : Keeps s₀ s) : Ends s₀ (execStretch n s) := by
  unfold execStretch
  split
  · exact .ite (.next hs.inc.xactEnd) (.next hs)
  · exact .next hs

theorem execHang_ends {n : BitVec 3} {sda scl late : Bool} (hs : Keeps s₀ s) : Ends s₀ (execHang n sda scl late s) :=
  .ite (.next (.follow (.ite hs.twHang.late hs.twHang))) (.next hs)

theorem execSegmentRelease_ends {n : BitVec 3} (hs : Keeps s₀ s) : Ends s₀ (execSegmentRelease n s) :=
  .ite (.next hs.twRelease.follow) (.next hs)

theorem execSkipRetry_ends {n : BitVec 3} (hs : Keeps s₀ s) : Ends s₀ (execSkipRetry n s) :=
  .ite (.next hs.twMod.cureServe.follow) (.next hs)

theorem execSkipwaitEnd_ends {n : BitVec 3} (hs : Keeps s₀ s) : Ends s₀ (execSkipwaitEnd n s) :=
  .ite (.next hs.twRetire.cureServe.follow) (.next hs)

theorem execLineJudgementEnd_ends {n : BitVec 3} {sda scl : Bool} (hs : Keeps s₀ s) : Ends s₀ (execLineJudgementEnd n sda scl s) :=
  .ite (.ite (.next hs.wr.twMod.twHang.follow) (.next hs.wr.twMod.wr.wr.setTw.twNext)) (.next hs)

theorem Keeps.hostPass {n v : Nat} (hs : Keeps s₀ s) : Keeps s₀ (s.hostPass n v) := by
  unfold State.hostPass
  extract_lets a
  have ha : Keeps s₀ a := hs.wr.wr.wr.wr
  exact .ite ha (.ite ha.wr ha.wr.xactRequest)

theorem execHostPassThrough_ends {n : BitVec 3} {v : Word} (hs : Keeps s₀ s) : Ends s₀ (execHostPassThrough n v s) :=
  .ite (.next hs.barWrite.hostPass) (.next hs)

theorem Keeps.applyTwcPage {n : Nat} (hs : Keeps s₀ s) : Keeps s₀ (s.applyTwcPage n) :=
  .commitDone (.ite hs.applyPart.twMod (.ite hs.applyPart.xactFlush.setTw.twMod hs.applyPart.cureBegin))

/-! ### Faults -/

theorem Keeps.fltMod {f : FltS → FltS} (hs : Keeps s₀ s) : Keeps s₀ (s.fltMod f) := hs.same rfl

theorem Keeps.showBucket {src : Nat} (hs : Keeps s₀ s) : Keeps s₀ (s.showBucket src) := hs.wr

theorem Keeps.showPerm {src : Nat} {p : Bool} (hs : Keeps s₀ s) : Keeps s₀ (s.showPerm src p) := hs.wrB

theorem Keeps.bucketAdd {w chan : Nat} {t : Tok} (hs : Keeps s₀ s) : Keeps s₀ (s.bucketAdd w t chan) := hs.fltMod

theorem Keeps.judge {t : Tok} {n w : Nat} {chs : List (Nat × Nat)} (hs : Keeps s₀ s) : Keeps s₀ (s.judge t n w chs).1 := by
  have ha : Keeps s₀ ((bucketChannels t.src chs).foldl (State.bucketAdd w t) s) := .foldl hs fun _ _ ih => ih.bucketAdd
  exact .showPerm (.showBucket (.ite ha.inc ha))

theorem execBucketLeak_ends {src : BitVec 10} {chan : BitVec 9} (hs : Keeps s₀ s) : Ends s₀ (execBucketLeak src chan s) := by
  unfold execBucketLeak
  split
  · exact .ite (.next hs.fltMod.showBucket) (.next hs)
  · exact .next hs

theorem Keeps.openToken {t : Tok} {cls : Nat} {perm : Bool} (hs : Keeps s₀ s) : Keeps s₀ (s.openToken t cls perm) := by
  unfold State.openToken
  extract_lets +onlyGivenNames inj put
  split
  · extract_lets a b c
    have ha : Keeps s₀ a := hs.wr.wr.wr.inc
    have hc : Keeps s₀ c := .ite ha.wr.wr ha.wr
    exact .ite hc.wr hc
  · split
    · exact hs.wr.wr.wr.wr.wr.wrB.wrB.wr.incWrap.raise
    · exact hs.fltMod.raise

theorem Keeps.fltAck {k gen : Nat} (hs : Keeps s₀ s) : Keeps s₀ (s.fltAck k gen) := .ite hs.wr hs

theorem Keeps.fltAckAll (hs : Keeps s₀ s) : Keeps s₀ s.fltAckAll := .fltMod (.foldl hs fun _ _ ih => ih.wr)

theorem execFltAck_ends {entry : BitVec 7} {gen : Byte} (hs : Keeps s₀ s) : Ends s₀ (execFltAck entry gen s) :=
  .next (.ite hs.barWrite.fltAck hs)

theorem execFltAckall_ends (hs : Keeps s₀ s) : Ends s₀ (execFltAckall s) := .next (.ite hs.barWrite.fltAckAll hs)

theorem Keeps.retireUnit {typ i : Nat} (hs : Keeps s₀ s) : Keeps s₀ (s.retireUnit typ i) := by
  unfold State.retireUnit
  refine .ite (.ite hs hs.bayRetire.doneWait.doneWait.follow) ?_
  refine .ite (.follow (.ite hs hs.phRetire)) ?_
  refine .ite ?_ (.ite (.ite hs hs.setTw.wr.raise.xactFlush.twMod.cureServe.follow)
      (.ite hs.tieLeave.wr.follow (.ite (.ite hs.wr.galThaw hs.wr) hs.wr.wrBit)))
  split
  · exact .ite hs hs.becomeSuspect
  · exact hs

theorem Keeps.retireChannel {typ i : Nat} (hs : Keeps s₀ s) : Keeps s₀ (s.retireChannel typ i) := by
  unfold State.retireChannel
  extract_lets a
  have ha : Keeps s₀ a := hs.setRetired.inc.raise
  exact .ite ha.retireUnit.remoteFollow ha.retireUnit

theorem Keeps.restoreChannel {typ i : Nat} (hs : Keeps s₀ s) : Keeps s₀ (s.restoreChannel typ i) := by
  unfold State.restoreChannel
  extract_lets +onlyGivenNames mine units gone a b c
  have hb : Keeps s₀ b := .foldl (.foldl hs.setRetired.fltMod fun _ _ ih => ih.showBucket) fun _ _ ih => .ite ih.wr ih
  exact .ite hb.raise.bayRestore.follow (.ite (.follow (.ite hb.raise.phJoinNext hb.raise))
      (.ite hb.raise.twMod (.ite (.follow (.ite hb.raise.wr.tieAccessory hb.raise.wr))
      (.ite hb.raise.wr (.ite hb.raise.wr.wrBit.remoteFollow hb.raise)))))

theorem Keeps.transient {t : Tok} (hs : Keeps s₀ s) : Keeps s₀ (s.transient t) :=
  .ite (.ite hs (.ite (.ite hs hs.setBay) hs.retireChannel)) (.ite (.ite hs (.ite hs.phJoinNext.follow hs.phMod)) hs)

theorem Keeps.retireLog {t : Tok} (hs : Keeps s₀ s) : Keeps s₀ (s.retireLog t) := hs.wr

theorem Keeps.holdToken (hs : Keeps s₀ s) : Keeps s₀ s.holdToken := .ite hs.fltMod (.ite hs.fltMod (.ite hs hs.fltMod.raise))

theorem Keeps.tokenTrigger {t : Tok} {cls : Nat} (hs : Keeps s₀ s) : Keeps s₀ (s.tokenTrigger t cls) := .ite hs.capTrigger hs

theorem Keeps.tokenAct {t : Tok} {chs : List (Nat × Nat)} {cls n w : Nat} (hs : Keeps s₀ s) :
    Keeps s₀ (s.tokenAct t chs cls n w) := by
  unfold State.tokenAct
  extract_lets +onlyGivenNames a₁ a
  have ha₁ : Keeps s₀ a₁ := hs.tokenTrigger.inc
  have ha : Keeps s₀ a := .ite ha₁.raise ha₁
  refine .ite ha.inc ?_
  extract_lets +onlyGivenNames j perm r o
  have hj : Keeps s₀ j.1 := by
    unfold j
    split
    · exact ha.judge
    · exact ha
  have ho : Keeps s₀ o := .ite hj.record.openToken hj.record
  refine .ite ho ?_
  extract_lets c d
  have hd : Keeps s₀ d := .ite (.ite ho.raise.retireLog (.foldl ho.raise fun _ _ ih => ih.retireChannel)) ho.raise.transient
  exact .ite hd.holdToken hd

theorem Keeps.takeToken (hs : Keeps s₀ s) : Keeps s₀ s.takeToken := by
  unfold State.takeToken
  split
  · exact hs
  · exact hs.same.tokenAct.lanToken

theorem execToken_ends {new : Option (BitVec 10 × BitVec 6 × Word)} (hs : Keeps s₀ s) : Ends s₀ (execToken new s) := by
  unfold execToken
  refine .ite (.next hs) (.next (.takeToken ?_))
  cases new with
  | none => exact hs
  | some p => exact hs.token

theorem Keeps.clrEntry {k : Nat} (hs : Keeps s₀ s) : Keeps s₀ (s.clrEntry k) :=
  .ite hs (.ite (.ite hs.wr.wr.wr.showSuspects hs) (.ite hs (.ite hs.tokenAct hs.restoreChannel)))

theorem Keeps.applyFltPage (hs : Keeps s₀ s) : Keeps s₀ s.applyFltPage := by
  unfold State.applyFltPage
  exact .commitDone (.foldl (.foldl hs.applyPart fun _ _ ih => ih.clrEntry) fun _ _ ih => ih.load.load.load.load)

theorem execFaultPairSwap_ends (hs : Keeps s₀ s) : Ends s₀ (execFaultPairSwap s) :=
  .ite (.ite (.next hs.emit.fltMod) (.next hs.fltMod)) (.next hs)

theorem execPnfail_ends (hs : Keeps s₀ s) : Ends s₀ (execPnfail s) := .ite (.next hs.fltMod.wr.raise) (.next hs)

theorem Keeps.fltInj {v : Nat} (hs : Keeps s₀ s) : Keeps s₀ (s.fltInj v) := .ite hs.lockrej hs.wr.wr.wr.wr.same

/-! ### Sweeps and impedance points -/

theorem Keeps.lanMod {f : LanS → LanS} (hs : Keeps s₀ s) : Keeps s₀ (s.lanMod f) := hs.same rfl

theorem Keeps.lanCommit (hs : Keeps s₀ s) : Keeps s₀ s.lanCommit := .ite hs.applyPart.commitDone hs

theorem Keeps.lanStart {n point : Nat} {x : LanS} (hs : Keeps s₀ s) : Keeps s₀ (s.lanStart n point x) := by
  unfold State.lanStart
  exact hs.wr.wr.wr.wr.wr.wr.returnPhases.same

theorem Keeps.lanClear (hs : Keeps s₀ s) : Keeps s₀ s.lanClear := .wr (.wr (.wr (.foldl hs fun _ _ ih => ih.wr.wr)))

theorem Keeps.applyLanRun {e : JEntry} (hs : Keeps s₀ s) : Keeps s₀ (s.applyLanRun e) := by
  unfold State.applyLanRun
  extract_lets n point fstart fstop npts settle intc amp
  refine .ite (.ite hs.refuseCmd hs.lanAbort.done) ?_
  split
  · exact hs.refuseCmd
  · exact hs.lseq.setWait.lanCommit.lanClear.lanStart

theorem execLanRun_ends {inst : BitVec 8} {h : CmdHdr} {point fstart fstop shape amp bound : Word} (hs : Keeps s₀ s) :
    Ends s₀ (execLanRun inst h point fstart fstop shape amp bound s) :=
  .next (hs.command fun _ _ _ ih => ih.applyLanRun)

theorem execLanAbort_ends {inst : BitVec 8} {h : CmdHdr} {point fstart fstop shape amp bound : Word} (hs : Keeps s₀ s) :
    Ends s₀ (execLanAbort inst h point fstart fstop shape amp bound s) :=
  .next (hs.command fun _ _ _ ih => ih.applyLanRun)

theorem Keeps.margins (hs : Keeps s₀ s) : Keeps s₀ s.margins := by
  unfold State.margins
  extract_lets pts x g a b
  have ha : Keeps s₀ a := by
    unfold a
    cases x with
    | none => exact hs
    | some q => exact hs.wr.wr
  refine .wrB ?_
  unfold b
  cases g with
  | none => exact ha
  | some q => exact ha.wr

theorem execImpedancePointStart_ends {g : BitVec 3} (hs : Keeps s₀ s) : Ends s₀ (execImpedancePointStart g s) :=
  .ite (.next hs.lanCommit.lanStart) (.next hs)

theorem Keeps.zWrite {d : Demod} (hs : Keeps s₀ s) : Keeps s₀ (s.zWrite d) := by
  unfold State.zWrite
  extract_lets +onlyGivenNames n
  split
  · exact hs
  · exact .ite hs.lanMod hs.wr.nvmRec.inc.raise.lanMod

theorem execAnalyzerPointEnd_ends {res : List Demod} (hs : Keeps s₀ s) : Ends s₀ (execAnalyzerPointEnd res s) := by
  unfold execAnalyzerPointEnd
  refine .ite (.next hs) ?_
  refine .ite (.next (.wr (.foldl hs fun _ _ ih => ih.zWrite))) ?_
  split
  · exact .next hs
  · extract_lets +onlyGivenNames k f r ph low a b
    have hb : Keeps s₀ b := hs.wr.wr.wrB.wr.wr.wr.lanMod
    exact .ite (.next hb.lanCommit) (.next (.doneWait (.lanMod (.raise (.inc (.wr (.ite hb hb.margins)))))))

theorem execDevAbort_ends (hs : Keeps s₀ s) : Ends s₀ (execDevAbort s) := .ite (.next hs.lanAbort) (.next hs)

/-! ### What resets do -/

theorem Keeps.resetRegs {p : Nat → Nat → Bool} (hs : Keeps s₀ s) : Keeps s₀ (s.resetRegs p) :=
  hs.upd (fun h => ⟨Store.sorted_filter h.regs, h.act, h.mem, h.evq, h.twq, h.offers, h.islBuf⟩) rfl

theorem Keeps.dropSnaps (hs : Keeps s₀ s) : Keeps s₀ s.dropSnaps := hs.same.resetRegs

theorem Keeps.jStop (hs : Keeps s₀ s) : Keeps s₀ s.jStop :=
  hs.upd (fun h => ⟨h.regs, h.act, h.mem, h.evq, Nat.zero_le _, h.offers, h.islBuf⟩) rfl

theorem Keeps.evStop (hs : Keeps s₀ s) : Keeps s₀ s.evStop :=
  hs.upd (fun h => ⟨h.regs, h.act, h.mem, Nat.zero_le _, h.twq, h.offers, h.islBuf⟩) rfl

theorem Keeps.twStop {n : Nat} (hs : Keeps s₀ s) : Keeps s₀ (s.twStop n) := .ite hs.twMod.wr hs.twMod.wr.setTw

theorem Keeps.tieStop {n : Nat} (hs : Keeps s₀ s) : Keeps s₀ (s.tieStop n) := hs.tieQuiet.tieMod

theorem Keeps.ldieStop (hs : Keeps s₀ s) : Keeps s₀ s.ldieStop := by
  unfold State.ldieStop
  exact .idxMod (.sysMod (.fltMod (.foldl (.foldl (.foldl hs.jStop.evStop.resetRegs.lanClear.wr.wr.nvcIdle.wr.wr.wr.wr.wr.wr fun _ _
      ih => ih.wr.wr.wr.wr) fun _ _ ih => ih.twStop) fun _ _ ih => ih.tieStop)))

theorem Keeps.tokensToIsland (hs : Keeps s₀ s) : Keeps s₀ s.tokensToIsland := .foldl hs.same fun _ _ ih => ih.islPush

theorem Keeps.bayHold {n : Nat} (hs : Keeps s₀ s) : Keeps s₀ (s.bayHold n) := by
  unfold State.bayHold
  extract_lets a b
  have ha : Keeps s₀ a := .ite hs.setBay hs
  exact .bayMod (.ite ha.wr ha)

theorem Keeps.loopHold {n : Nat} (hs : Keeps s₀ s) : Keeps s₀ (s.loopHold n) :=
  .foldl hs.loopMod.wr fun _ _ ih => .ite ih.setPh ih

theorem Keeps.batHold (hs : Keeps s₀ s) : Keeps s₀ s.batHold := by
  unfold State.batHold
  exact .same (.foldl (.foldl hs fun _ _ ih => ih.learnStop) fun _ _ ih => .ite ih.batDq ih)

theorem Keeps.setCause {cause : Nat} (hs : Keeps s₀ s) : Keeps s₀ (s.setCause cause) := hs.wr.wr

theorem Keeps.lanHold (hs : Keeps s₀ s) : Keeps s₀ s.lanHold := .ite hs hs.same.wr.wr

theorem Keeps.enterHold {cause : Nat} (hs : Keeps s₀ s) (ho : s₀.mode.live = true) : Keeps s₀ (s.enterHold cause) := by
  unfold State.enterHold
  extract_lets +onlyGivenNames a b c d e
  have ha : Keeps s₀ a := hs.jStop.lanHold.flHold.capHold.galHold
  have hb : Keeps s₀ b := .tokensToIsland (ha.move ho rfl).same
  have hd : Keeps s₀ d := hb.setCause.inc.wr.wr.wr
  have he : Keeps s₀ e := .foldl (.foldl hd fun _ _ ih => ih.bayHold) fun _ _ ih => ih.loopHold
  exact he.batHold.dropSnaps.newWindow.ldieStop.forceFollow

theorem Keeps.holdCause {cause : Nat} (hs : Keeps s₀ s) : Keeps s₀ (s.holdCause cause) := by
  unfold State.holdCause
  split
  case isTrue hup => exact hs.enterHold (hs.origin_live (live_of_lUp hup))
  case isFalse => exact .ite hs.inc.ldieStop hs.ldieStop

theorem Keeps.bootBegin (hs : Keeps s₀ s) : Keeps s₀ s.bootBegin := .ite hs.sysMod hs

theorem Keeps.loopKill {n : Nat} (hs : Keeps s₀ s) : Keeps s₀ (s.loopKill n) := by
  unfold State.loopKill
  exact .same (.foldl (.foldl hs fun _ _ ih => ih.wr) fun _ _ ih => ih.wr)

theorem Keeps.phKill {j : Nat} (hs : Keeps s₀ s) : Keeps s₀ (s.phKill j) := .ite hs.same hs.same.wr

theorem Keeps.powerKill (hs : Keeps s₀ s) : Keeps s₀ s.powerKill :=
  .wr (.wr (.foldl (.foldl hs fun _ _ ih => ih.loopKill) fun _ _ ih => ih.phKill))

theorem Keeps.pdieReset (hs : Keeps s₀ s) : Keeps s₀ s.pdieReset := by
  unfold State.pdieReset
  extract_lets run drop a
  have ha : Keeps s₀ a := hs.powerKill.dropSnaps.wr.wrB
  exact .ite (.foldl ha fun _ _ ih => .ite ih.bayOpenGate ih) ha

/-! ### Thermal -/

theorem Keeps.setGood {i n : Nat} (hs : Keeps s₀ s) : Keeps s₀ (s.setGood i n) := hs.sysMod

theorem Keeps.setBroken {i : Nat} {x : Bool} (hs : Keeps s₀ s) : Keeps s₀ (s.setBroken i x) :=
  .ite hs (.ite hs.wrB.inc.tokenEv hs.wrB.raise)

theorem Keeps.convert {i : Nat} {r : Option (BitVec 16)} (hs : Keeps s₀ s) : Keeps s₀ (s.convert i r) := by
  unfold State.convert
  split
  · exact .ite hs.inc.setGood.setBroken hs.inc.setGood
  · extract_lets t a₁ a m b
    have ha : Keeps s₀ a := .ite hs.wr.wr hs.wr.wr.wr
    exact .ite ha.setGood.setBroken (.ite ha.wr.setGood.setBroken ha.wr.setGood)

theorem Keeps.sampleRate (hs : Keeps s₀ s) : Keeps s₀ s.sampleRate := by
  unfold State.sampleRate
  extract_lets f hot cool
  refine .ite hs.wr.sysMod ?_
  refine .ite hs.sysMod ?_
  split
  · exact .ite hs.wr hs
  · exact hs.sysMod

theorem Keeps.retrain {speed : Nat} (hs : Keeps s₀ s) : Keeps s₀ (s.retrain speed) := .ite hs hs.wr.inc.raise

theorem live_of_eq {m : Mode} (h : s.mode = m) (hm : m.live = true) : s.mode.live = true := h ▸ hm

theorem Keeps.throttle {x : Bool} (hs : Keeps s₀ s) : Keeps s₀ (s.throttle x) := by
  unfold State.throttle
  extract_lets a b c
  have ha : Keeps s₀ a := by
    unfold a
    split
    · split
      case isTrue hm => exact hs.move (hs.origin_live (live_of_eq hm rfl)) rfl
      case isFalse => exact hs
    · split
      case isTrue hm => exact hs.move (hs.origin_live (live_of_eq hm rfl)) rfl
      case isFalse => exact hs
  exact .retrain (.wrB (.wrB ha.capMod))

theorem Keeps.galSave (hs : Keeps s₀ s) : Keeps s₀ s.galSave := .ite hs.galThaw hs.galThaw.galMerge

theorem Keeps.shutdown (hs : Keeps s₀ s) : Keeps s₀ s.shutdown := .sysMod (.holdCause (.ite hs.galSave hs))

theorem Keeps.powerBack (hs : Keeps s₀ s) : Keeps s₀ s.powerBack := hs.wr.sysMod.bootBegin

theorem Keeps.goLevel {new : Nat} (hs : Keeps s₀ s) : Keeps s₀ (s.goLevel new) := by
  unfold State.goLevel
  extract_lets +onlyGivenNames old
  refine .ite hs ?_
  extract_lets a b c d e f g h
  have hb : Keeps s₀ b := .ite hs.wr.shutdown hs.wr
  have hc : Keeps s₀ c := .ite hb.powerBack hb
  have hd : Keeps s₀ d := .ite hc.throttle (.ite hc.throttle hc)
  have he : Keeps s₀ e := .ite hd.raise hd
  have hf : Keeps s₀ f := .ite he.raise he
  have hg : Keeps s₀ g := .ite hf.inc hf
  have hh : Keeps s₀ h := .ite hg.raise hg
  exact .ite hh.inc hh

theorem execDieTempSample_ends {l p : Option (BitVec 16)} {late : Bool} (hs : Keeps s₀ s) :
    Ends s₀ (execDieTempSample l p late s) := by
  unfold execDieTempSample
  refine .ite (.next hs) ?_
  extract_lets a b
  have ha : Keeps s₀ a := .ite hs.applyPart.commitDone hs
  exact .next (.follow (.sampleRate (.goLevel (.convert (.convert (.ite ha.late ha))))))

theorem execLdiePowerDown_ends {late : Bool} (hs : Keeps s₀ s) : Ends s₀ (execLdiePowerDown late s) := by
  unfold execLdiePowerDown
  refine .ite ?_ (.next hs)
  extract_lets a
  have ha : Keeps s₀ a := hs.wr.capWipe.sysMod
  exact .next (.ite ha.late ha)

theorem Keeps.thermUpdate {v : List (BitVec 22)} {n : Nat} (hs : Keeps s₀ s) : Keeps s₀ (s.thermUpdate v n) := by
  unfold State.thermUpdate
  refine .ite hs.wr.wr ?_
  extract_lets t
  cases t with
  | none => exact hs.wr.raise
  | some t => exact .ite (.ite hs.wr.wr hs.wr.wr.wr.raise) (.ite hs.wr.wr.wr hs.wr.wr)

theorem execThermistorUpdate_ends {v : List (BitVec 22)} (hs : Keeps s₀ s) : Ends s₀ (execThermistorUpdate v s) :=
  .next (.ite (.foldl hs fun _ _ ih => ih.thermUpdate) hs)

/-! ### Built-in tests -/

theorem Keeps.bistResult {test bank sig dur : Nat} {pass aborted cold : Bool} (hs : Keeps s₀ s) :
    Keeps s₀ (s.bistResult test bank sig dur pass aborted cold) := by
  unfold State.bistResult
  extract_lets e a b c d
  have hb : Keeps s₀ b := hs.wr.wr.wrB.wrB.wr.wr.wr.wr.wr.wr.wr
  have hc : Keeps s₀ c := .ite hb hb.inc
  exact .sysMod (.raise (.record (.ite hc hc.inc)))

theorem Keeps.bistDone {pass : Bool} (hs : Keeps s₀ s) : Keeps s₀ (s.bistDone pass) := .ite hs.doneWait hs.doneWait

theorem Keeps.bistBegin {e : JEntry} {test bank : Nat} (hs : Keeps s₀ s) : Keeps s₀ (s.bistBegin e test bank) :=
  hs.wr.wr.wr.wr.wr.wrB.sysMod.setWait.lseq

theorem Keeps.bistReplay {e : JEntry} (hs : Keeps s₀ s) : Keeps s₀ (s.bistReplay e) := by
  unfold State.bistReplay
  extract_lets t
  split
  · exact .ite hs.setWait.bistResult.bistDone.sysMod hs.setWait.bistResult.bistDone
  · exact hs.setWait.bistResult.bistDone

theorem Keeps.applyBist {e : JEntry} (hs : Keeps s₀ s) (ho : s₀.mode.live = true) : Keeps s₀ (s.applyBist e) := by
  unfold State.applyBist
  refine .ite hs.bistReplay ?_
  split
  · exact hs.refuseCmd
  · exact .ite (hs.recCommitDue.enterHold ho).sysMod (.ite hs.recCommitDue.wr.bistBegin hs.recCommitDue.bistBegin)

theorem execBistLogic_ends {inst : BitVec 8} {h : CmdHdr} {arg0 bound : Word} (hs : Keeps s₀ s) :
    Ends s₀ (execBistLogic inst h arg0 bound s) :=
  .next (hs.command fun ho _ _ ih => ih.applyBist ho)

theorem execBistMemory_ends {inst : BitVec 8} {h : CmdHdr} {arg0 bound : Word} (hs : Keeps s₀ s) :
    Ends s₀ (execBistMemory inst h arg0 bound s) :=
  .next (hs.command fun ho _ _ ih => ih.applyBist ho)

theorem execBistPdie_ends {inst : BitVec 8} {h : CmdHdr} {arg0 bound : Word} (hs : Keeps s₀ s) :
    Ends s₀ (execBistPdie inst h arg0 bound s) :=
  .next (hs.command fun ho _ _ ih => ih.applyBist ho)

theorem execLogicBistEnd_ends {sig : Option (BitVec 64)} (hs : Keeps s₀ s) : Ends s₀ (execLogicBistEnd sig s) := by
  unfold execLogicBistEnd
  split
  · exact .ite (.next hs.sysMod.bootBegin) (.next hs)
  · exact .next hs

theorem execMemoryBistEnd_ends {sig : Option (BitVec 64)} {fail : Option (BitVec 17)} (hs : Keeps s₀ s) :
    Ends s₀ (execMemoryBistEnd sig fail s) := by
  unfold execMemoryBistEnd
  split
  case h_1 m _ t _ =>
    refine .ite ?_ (.next hs)
    extract_lets +onlyGivenNames a b c
    have ha : Keeps s₀ a := .touched (hs.putMem Memory.wf_wipe)
    have hc : Keeps s₀ c := by
      unfold c
      cases fail with
      | none => exact ha.wr.wr
      | some w => exact ha.wr.wr.wr.wr.tokenEv
    exact .next hc.bistResult.bistDone
  case h_2 => exact .next hs

/-! ### PAGE_SET -/

theorem Keeps.putPair {pg off v : Nat} (hs : Keeps s₀ s) : Keeps s₀ (s.putPair pg off v) := .ite hs.wr hs.putWord

theorem Keeps.applyPageSet {e : JEntry} (hs : Keeps s₀ s) : Keeps s₀ (s.applyPageSet e) := by
  unfold State.applyPageSet
  extract_lets +onlyGivenNames pg n ps new
  have hnew : Keeps s₀ new := .foldl hs fun _ _ ih => ih.putPair
  split
  · exact hs.refuseCmd
  · split
    · exact hs.refuseCmd
    · exact .ite hnew.lseq.setWait.commit hnew.lseq.done

theorem execCommit_ends {pg : BitVec 9} (hs : Keeps s₀ s) : Ends s₀ (execCommit pg s) :=
  .next (.ite hs (.ite hs.barWrite.accessErr (.ite hs.barWrite.commit hs.barWrite)))

theorem Keeps.applyPlain {pg : Nat} (hs : Keeps s₀ s) : Keeps s₀ (s.applyPlain pg) := hs.applyPart.commitDone

theorem Keeps.snapApply {pg part : Nat} (hs : Keeps s₀ s) : Keeps s₀ (s.snapApply pg part) :=
  .ite hs.applyBayPage.follow (.ite hs.applyLoopPage.follow (.ite (.ite hs.applyPhPart.follow hs)
      (.ite (.ite hs.applyPlain hs) (.ite hs.applyTiePage (.ite (.ite hs.applyTwcPage hs)
      (.ite hs.applyFltPage (.ite hs.applyPlain.follow hs)))))))

theorem execSnapshotApply_ends {pg : BitVec 9} {part : BitVec 3} (hs : Keeps s₀ s) : Ends s₀ (execSnapshotApply pg part s) :=
  .next (.ite hs.snapApply hs)

/-! ### Images -/

theorem Keeps.fwLoad {k : Nat} {trial : Bool} (hs : Keeps s₀ s) : Keeps s₀ (s.fwLoad k trial) := by
  unfold State.fwLoad
  extract_lets a
  have ha : Keeps s₀ a := .foldl hs fun t n ih => (ih.putMem Memory.wf_putRun).wr.wr.wr
  exact ha.wr.wrB.wr

theorem Keeps.fwBoot (hs : Keeps s₀ s) : Keeps s₀ s.fwBoot := by
  unfold State.fwBoot
  extract_lets +onlyGivenNames pick trial a
  have ha : Keeps s₀ a := hs.wr.sysMod
  exact .ite ha.fwLoad.raise (.ite ha.fwLoad.raise (.raise (.wr (.wr (.foldl ha fun _ _ ih => ih.wr)))))

theorem Keeps.imgPut {f : Fld} {v : Nat} (hs : Keeps s₀ s) : Keeps s₀ (s.imgPut f v) := .ite hs.load hs.wr

theorem Keeps.imgEntry {e : Nat × Nat × Nat} (hs : Keeps s₀ s) : Keeps s₀ (s.imgEntry e) :=
  .ite hs.wr (.ite hs.wr (.foldl hs fun _ _ ih => ih.imgPut))

theorem Keeps.imgClear {keep : List Nat} (hs : Keeps s₀ s) : Keeps s₀ (s.imgClear keep) :=
  hs.upd (fun h => ⟨Store.sorted_filter h.regs, Store.sorted_filter h.act, h.mem, h.evq, h.twq, h.offers, h.islBuf⟩) rfl

theorem Keeps.imgApply {es : List (Nat × Nat × Nat)} (hs : Keeps s₀ s) : Keeps s₀ (s.imgApply es) := by
  unfold State.imgApply
  extract_lets keep a b
  have hb : Keeps s₀ b := .foldl (.foldl hs.imgClear fun _ _ ih => ih.imgEntry) fun _ _ ih => .ite ih.bankRequest ih
  exact .ite hb.wr.strCfg hb

theorem Keeps.imgBoot (hs : Keeps s₀ s) : Keeps s₀ s.imgBoot := by
  unfold State.imgBoot
  extract_lets pick a order b
  have hb : Keeps s₀ b := .foldl hs.wr.sysMod fun _ _ ih => ih.raise
  split
  · split
    · exact hb.imgApply.wr
    · exact hb
  · exact hb.imgApply

theorem Keeps.imgFactory (hs : Keeps s₀ s) : Keeps s₀ s.imgFactory := by
  unfold State.imgFactory
  split
  · exact .foldl hs fun _ _ ih => ih.imgEntry
  · exact hs

theorem Keeps.rbAdvance {k : Nat} (hs : Keeps s₀ s) : Keeps s₀ (s.rbAdvance k) := hs.wr.raise

theorem Keeps.applyImgSelect {e : JEntry} (hs : Keeps s₀ s) : Keeps s₀ (s.applyImgSelect e) := by
  unfold State.applyImgSelect
  extract_lets +onlyGivenNames target slot trial adv k
  split
  · exact hs.refuseCmd
  · extract_lets a
    have ha : Keeps s₀ a := .ite hs.wr.sysMod hs.wr.sysMod
    exact .done (.lseq (.ite ha.rbAdvance ha))

theorem execImgSelect_ends {inst : BitVec 8} {h : CmdHdr} {target rbadv : Word} (hs : Keeps s₀ s) :
    Ends s₀ (execImgSelect inst h target rbadv s) :=
  .next (hs.command fun _ _ _ ih => ih.applyImgSelect)

theorem Keeps.nvcEnd {result : Nat} (hs : Keeps s₀ s) : Keeps s₀ (s.nvcEnd result) := hs.wr.nvcIdle

theorem Keeps.nvcGo (hs : Keeps s₀ s) : Keeps s₀ s.nvcGo := .ite hs (.ite hs.wr.raise hs.wr.wr.sysMod)

theorem execNvcTransfer_ends (hs : Keeps s₀ s) : Ends s₀ (execNvcTransfer s) := .next (.ite hs.barWrite.nvcGo hs)

theorem execNvcTransferDone_ends {fail0 fail1 bad : Bool} (hs : Keeps s₀ s) : Ends s₀ (execNvcTransferDone fail0 fail1 bad s) := by
  unfold execNvcTransferDone
  split
  · exact .next hs
  · refine .ite (.next hs) ?_
    extract_lets +onlyGivenNames seg ws a devs out b
    have hb : Keeps s₀ b := .foldl hs.eccFound.sysMod fun _ _ ih => ih.nvcFail
    exact .ite (.next hb.nvcEnd.raise) (.ite (.next hb.draw.sysMod.nvcEnd.raise) (.next hb.sysMod.nvcEnd.raise))

theorem Keeps.nvcVerify (hs : Keeps s₀ s) : Keeps s₀ s.nvcVerify := .ite hs (.ite hs.wr.raise (.ite hs.wr hs.wr.wr.sysMod))

theorem execNvcVerify_ends (hs : Keeps s₀ s) : Ends s₀ (execNvcVerify s) := .next (.ite hs.barWrite.nvcVerify hs)

theorem execVerifyDone_ends (hs : Keeps s₀ s) : Ends s₀ (execVerifyDone s) := by
  unfold execVerifyDone
  split
  · exact .next hs
  · exact .ite (.next hs) (.next (.nvcEnd (.ite hs.sysMod.wrB.wr hs.sysMod)))

/-! ### The policy cores -/

theorem Keeps.mbxDrop {n : Nat} (hs : Keeps s₀ s) : Keeps s₀ (s.mbxDrop n) := hs.wr.wr.sysMod

theorem Keeps.showRestarts {n : Nat} (hs : Keeps s₀ s) : Keeps s₀ (s.showRestarts n) := hs.wr

theorem Keeps.restartWindow {n : Nat} (hs : Keeps s₀ s) : Keeps s₀ (s.restartWindow n) := hs.sysMod.showRestarts

theorem Keeps.coreHang {n : Nat} (hs : Keeps s₀ s) : Keeps s₀ (s.coreHang n) := by
  unfold State.coreHang
  extract_lets a
  have ha : Keeps s₀ a := hs.mbxDrop.restartWindow.tokenEv
  exact .ite ha.sysMod.showRestarts ha.wr.wr

theorem execCoreHeartbeatTimeout_ends {core : BitVec 2} {late : Bool} (hs : Keeps s₀ s) :
    Ends s₀ (execCoreHeartbeatTimeout core late s) :=
  .next (.ite (.ite hs.coreHang.late hs.coreHang) hs)

theorem execRestartWindowExpiry_ends {core : BitVec 2} (hs : Keeps s₀ s) : Ends s₀ (execRestartWindowExpiry core s) :=
  .next (.ite hs.restartWindow hs)

theorem Keeps.mbxGo {n : Nat} (hs : Keeps s₀ s) : Keeps s₀ (s.mbxGo n) := .ite hs hs.wr.wr.sysMod

theorem Keeps.mbxEnd {n msg status : Nat} (hs : Keeps s₀ s) : Keeps s₀ (s.mbxEnd n msg status) := hs.mbxDrop.wr.wr.raise

theorem Keeps.mbxPut {n : Nat} {ws : List Nat} (hs : Keeps s₀ s) : Keeps s₀ (s.mbxPut n ws) := .foldl hs fun _ _ ih => ih.wr

theorem Keeps.mbxVersion {n : Nat} (hs : Keeps s₀ s) : Keeps s₀ (s.mbxVersion n) := hs.mbxPut.mbxEnd

theorem Keeps.mbxRequests {q : List Nat} (hs : Keeps s₀ s) : Keeps s₀ (s.mbxRequests q) :=
  .ite hs.mbxEnd (.ite hs.mbxEnd hs.wr.wr.mbxEnd)

theorem Keeps.mbxEnergy {q : List Nat} (hs : Keeps s₀ s) : Keeps s₀ (s.mbxEnergy q) := .ite hs.mbxEnd hs.mbxPut.mbxEnd

theorem Keeps.mbxWeights (hs : Keeps s₀ s) : Keeps s₀ s.mbxWeights := by
  unfold State.mbxWeights
  exact hs.mbxPut.mbxEnd

theorem Keeps.mbxServe {n : Nat} {q : List Nat} (hs : Keeps s₀ s) : Keeps s₀ (s.mbxServe n q) :=
  .ite hs.mbxVersion (.ite hs.mbxRequests (.ite hs.mbxEnergy (.ite hs.mbxWeights hs.mbxEnd)))

theorem execMailboxVersion_ends {core : BitVec 2} (hs : Keeps s₀ s) : Ends s₀ (execMailboxVersion core s) := by
  unfold execMailboxVersion
  split
  · exact .next hs.mbxVersion
  · exact .next hs

theorem execMailboxGroupRequests_ends (hs : Keeps s₀ s) : Ends s₀ (execMailboxGroupRequests s) := by
  unfold execMailboxGroupRequests
  split
  · exact .next hs.mbxRequests
  · exact .next hs

theorem execMailboxGroupEnergy_ends (hs : Keeps s₀ s) : Ends s₀ (execMailboxGroupEnergy s) := by
  unfold execMailboxGroupEnergy
  split
  · exact .next hs.mbxEnergy
  · exact .next hs

theorem execMailboxFeedWeights_ends (hs : Keeps s₀ s) : Ends s₀ (execMailboxFeedWeights s) := by
  unfold execMailboxFeedWeights
  split
  · exact .next hs.mbxWeights
  · exact .next hs

theorem execMailboxAnswer_ends {core : BitVec 2} (hs : Keeps s₀ s) : Ends s₀ (execMailboxAnswer core s) := by
  unfold execMailboxAnswer
  split
  · exact .next (.ite hs.mbxServe hs)
  · exact .next hs

theorem execMailboxTimeout_ends {core : BitVec 2} {late : Bool} (hs : Keeps s₀ s) : Ends s₀ (execMailboxTimeout core late s) := by
  unfold execMailboxTimeout
  extract_lets +onlyGivenNames n
  split
  · exact .next (.ite hs.mbxEnd.late hs.mbxEnd)
  · exact .next hs

/-! ### The command path -/

theorem Keeps.applyNop {e : JEntry} (hs : Keeps s₀ s) : Keeps s₀ (s.applyNop e) := hs.done

theorem Keeps.applyWarmreset {e : JEntry} (hs : Keeps s₀ s) : Keeps s₀ (s.applyWarmreset e) := hs.lseq.done

theorem Keeps.applyBenchEnter {e : JEntry} (hs : Keeps s₀ s) (ho : s₀.mode.live = true) : Keeps s₀ (s.applyBenchEnter e) :=
  .ite hs.refuseCmd (hs.move ho rfl).forceFollow.done

theorem Keeps.applyBenchLeave {e : JEntry} (hs : Keeps s₀ s) (ho : s₀.mode.live = true) : Keeps s₀ (s.applyBenchLeave e) := by
  unfold State.applyBenchLeave
  refine .ite hs.done (.ite hs.refuseCmd (.done (.forceFollow (hs.move ho ?_))))
  split <;> rfl

theorem Keeps.applyCommand {e : JEntry} (hs : Keeps s₀ s) (ho : s₀.mode.live = true) : Keeps s₀ (State.applyCommand e s) := by
  unfold State.applyCommand
  refine .ite hs.applyNop (.ite hs.applyWarmreset (.ite (hs.applyBenchEnter ho) (.ite (hs.applyBenchLeave ho) ?_)))
  refine .ite hs.applyPageSet (.ite hs.applyBayArm (.ite hs.applyBayOpen (.ite hs.applyBayToggle ?_)))
  refine .ite hs.applyBayLimit (.ite hs.applyLoopStart (.ite hs.applyLoopStop (.ite hs.applyLoopVset ?_)))
  refine .ite hs.applyLoopCoef (.ite hs.applyPhCfg (.ite hs.applyAbcCap (.ite hs.applyRodSet ?_)))
  refine .ite hs.applyHldSet (.ite hs.applyBatLearn (.ite hs.applyBatRest (.ite hs.applyTiePolicy ?_)))
  refine .ite hs.applyTieRequest (.ite hs.applyFlightRun (.ite hs.applyGalFreeze (.ite hs.applyGalClear ?_)))
  exact .ite (hs.applyBist ho) (.ite hs.applyLanRun (.ite hs.applyImgSelect hs.refuseCmd))

theorem execNop_ends {inst : BitVec 8} {h : CmdHdr} (hs : Keeps s₀ s) : Ends s₀ (execNop inst h s) :=
  .next (hs.command fun _ _ _ ih => ih.applyNop)

theorem execGlbWarmreset_ends {inst : BitVec 8} {h : CmdHdr} (hs : Keeps s₀ s) : Ends s₀ (execGlbWarmreset inst h s) :=
  .next (hs.command fun _ _ _ ih => ih.applyWarmreset)

theorem execBenchEnter_ends {inst : BitVec 8} {h : CmdHdr} (hs : Keeps s₀ s) : Ends s₀ (execBenchEnter inst h s) :=
  .next (hs.command fun ho _ _ ih => ih.applyBenchEnter ho)

theorem execBenchLeave_ends {inst : BitVec 8} {h : CmdHdr} (hs : Keeps s₀ s) : Ends s₀ (execBenchLeave inst h s) :=
  .next (hs.command fun ho _ _ ih => ih.applyBenchLeave ho)

theorem execPageSet_ends {inst : BitVec 8} {h : CmdHdr} {args : List Word} (hs : Keeps s₀ s) :
    Ends s₀ (execPageSet inst h args s) :=
  .next (hs.command fun _ _ _ ih => ih.applyPageSet)

theorem Keeps.ringEntry {i : Nat} (hs : Keeps s₀ s) : Keeps s₀ (s.ringEntry i).2 := by
  unfold State.ringEntry
  split
  · exact hs
  · exact hs.same

theorem Keeps.fetch {n bad : Nat} (hs : Keeps s₀ s) : Keeps s₀ (State.fetch n bad s) := by
  induction n generalizing bad s with
  | zero => exact hs
  | succ n ih =>
    unfold State.fetch
    exact .ite (ih (hs.ringEntry.check fun ho _ _ h => h.applyCommand ho).wr) hs

theorem Keeps.fetchAll {bad : Nat} (hs : Keeps s₀ s) : Keeps s₀ (s.fetchAll bad) := hs.fetch

theorem Keeps.issued {seq : Nat} (hs : Keeps s₀ s) : Keeps s₀ (s.issued seq) := by
  unfold State.issued
  split
  · exact hs
  · refine .ite hs ?_
    extract_lets +onlyGivenNames a b
    have hb : Keeps s₀ b := hs.jMod.wr.wr.raise
    exact .ite hb.same hb

theorem Keeps.ringDrain {n : Nat} (hs : Keeps s₀ s) : Keeps s₀ (State.ringDrain n s) := by
  induction n generalizing s with
  | zero => exact hs
  | succ n ih =>
    unfold State.ringDrain
    split
    · exact hs
    · refine .ite ?_ hs
      extract_lets a b kept
      have hb : Keeps s₀ b := .ite (hs.same (t := a)).writeTw (hs.same (t := a)).writeRing
      refine ih ?_
      split
      · exact .ite hb hb.issued
      · exact hb

theorem Keeps.drain (hs : Keeps s₀ s) : Keeps s₀ s.drain := hs.ringDrain

theorem execCmdRtailWrite_ends {idx : BitVec 12} {entries : List (BitVec 12 × List Word)} {jbad : BitVec 3} (hs : Keeps s₀ s) :
    Ends s₀ (execCmdRtailWrite idx entries jbad s) :=
  .ite (.next hs) (.next hs.same.wr.fetchAll)

theorem execCmdPheadWrite_ends {idx : BitVec 12} {jbad : BitVec 3} (hs : Keeps s₀ s) : Ends s₀ (execCmdPheadWrite idx jbad s) :=
  .next (.ite hs.wr.ringFollow.drain.fetchAll hs)

theorem Keeps.cmdCfg {v : Nat} (hs : Keeps s₀ s) : Keeps s₀ (s.cmdCfg v) := by
  unfold State.cmdCfg
  extract_lets was a
  have ha : Keeps s₀ a := hs.wr.wr.wr
  exact .ite ha.wr.wr.wr.ringFollow.drain.fetchAll ha.ringFollow

theorem execRingenSet_ends {v : Word} (hs : Keeps s₀ s) : Ends s₀ (execRingenSet v s) := .next (.ite hs.barWrite.cmdCfg hs)

theorem Keeps.ringDone {own : Bool} {words : List Nat} (hs : Keeps s₀ s) : Keeps s₀ (s.ringDone own words) :=
  .ite (.ite hs.writeTw.issued hs.writeTw) (.ite (.ite hs.writeRing.issued hs.writeRing) hs.same)

theorem Keeps.twDone {own : Bool} {words : List Nat} (hs : Keeps s₀ s) : Keeps s₀ (s.twDone own words) :=
  .ite hs.writeTw.issued hs.writeTw

theorem execDoneReport_ends {jbad : BitVec 3} (hs : Keeps s₀ s) : Ends s₀ (execDoneReport s jbad) := by
  unfold execDoneReport
  refine .ite (.next hs) ?_
  split
  · exact .next hs
  · extract_lets s words a
    have hs : Keeps s₀ s := .foldl hs fun _ _ ih => ih.macroFail
    have ha : Keeps s₀ a := .ite hs.twDone hs.ringDone
    exact .next (.ite (.ite ha.ringDone ha.twDone) ha)

theorem Keeps.boundFail {e : JEntry} (hs : Keeps s₀ s) : Keeps s₀ (s.boundFail e) := .ite hs.setStatus.newNonce hs.setStatus

theorem execDoneBoundExpiry_ends {seq : Word} (hs : Keeps s₀ s) : Ends s₀ (execDoneBoundExpiry seq s) := by
  unfold execDoneBoundExpiry
  split
  · exact .next (.ite hs.boundFail hs)
  · exact .next hs

theorem live_of_lUp_and {b : Bool} (h : (s.lUp && b) = true) : s.mode.live = true := live_of_lUp (Bool.and_eq_true_iff.mp h).1

theorem execWarmresetStart_ends (hs : Keeps s₀ s) : Ends s₀ (execWarmresetStart s) := by
  refine .next ?_
  split
  case isTrue hup => exact (hs.enterHold (hs.origin_live (live_of_lUp_and hup))).bootBegin
  case isFalse => exact hs

theorem Keeps.twCheck {bad : Nat} (hs : Keeps s₀ s) : Keeps s₀ (s.twCheck bad) := by
  unfold State.twCheck
  extract_lets a
  have ha : Keeps s₀ a := hs.same.check fun ho _ _ h => h.applyCommand ho
  exact .ite ha ha.twFree

theorem Keeps.doorbell {bad : Nat} (hs : Keeps s₀ s) : Keeps s₀ (s.doorbell bad) := .ite hs (.ite hs.wr.same hs.wr.twCheck)

theorem execDoorbell_ends {jbad : BitVec 3} (hs : Keeps s₀ s) : Ends s₀ (execDoorbell jbad s) := .next (.ite hs.doorbell hs)

theorem Keeps.twDrain {n : Nat} (hs : Keeps s₀ s) : Keeps s₀ (State.twDrain n s) := by
  induction n generalizing s with
  | zero => exact hs
  | succ n ih =>
    unfold State.twDrain
    split
    · exact hs
    · split
      case isFalse => exact hs
      case isTrue hroom =>
        extract_lets a own b answer
        have ha : Keeps s₀ a := by
          refine hs.upd fun h => ⟨h.regs, h.act, h.mem, h.evq, ?_, h.offers, h.islBuf⟩
          rw [List.length_append]
          exact hroom
        have hb : Keeps s₀ b := .ite ha.issued ha
        exact ih (.ite hb.wr hb)

theorem Keeps.reportPop (hs : Keeps s₀ s) : Keeps s₀ s.reportPop := by
  unfold State.reportPop
  refine .twDrain (hs.upd fun h => ⟨h.regs, h.act, h.mem, h.evq, ?_, h.offers, h.islBuf⟩)
  exact (List.length_drop ▸ Nat.sub_le ..).trans h.twq

theorem execReportPop_ends (hs : Keeps s₀ s) : Ends s₀ (execReportPop s) := .next (.ite hs.reportPop hs)

theorem execRebuilt_ends {fail : Bool} (hs : Keeps s₀ s) : Ends s₀ (execRebuilt s fail) := by
  unfold execRebuilt
  refine .ite (.next (.foldl hs fun _ _ ih => ih.macroFail)) ?_
  split
  case isFalse => exact .next hs
  case isTrue hup =>
    have ho := hs.origin_live (live_of_lUp_and hup)
    extract_lets +onlyGivenNames c b a
    have hb : Keeps s₀ b := (hs.same (t := c)).wr.wr
    have ha : Keeps s₀ a := .raise (.ite hb.wr hb)
    split
    · exact .next ha
    · extract_lets +onlyGivenNames d
      have hd : Keeps s₀ d := ha.same.accept.applyBy fun _ _ h => h.applyCommand ho
      exact .next (.ite hd.twFree hd)

/-! ### Boot and RUN entry -/

theorem Keeps.redirectFollow (hs : Keeps s₀ s) : Keeps s₀ s.redirectFollow :=
  .ite hs.same.raise.drain (.ite hs.same.drain.fetchAll hs)

theorem Keeps.scan {half : Bool} {bad : Nat} (hs : Keeps s₀ s) : Keeps s₀ (s.scan half bad) := by
  unfold State.scan
  extract_lets n a b
  have hb : Keeps s₀ b := .foldl hs.inc.sysMod fun _ _ ih => ih.macroFail
  exact .ite hb.wr hb

theorem Keeps.replay (hs : Keeps s₀ s) (ho : s₀.mode.live = true) : Keeps s₀ s.replay := by
  unfold State.replay
  extract_lets l a b c
  have ha : Keeps s₀ a := .foldl hs.wr fun _ _ ih => ih.jMod.applyBy fun _ _ h => h.applyCommand ho
  have hc : Keeps s₀ c := .ite ha.wr ha.wr.raise
  exact .ite hc.fltMod.holdToken hc

theorem Keeps.loadPages (hs : Keeps s₀ s) : Keeps s₀ s.loadPages := by
  unfold State.loadPages
  refine .foldl (hs.upd fun h => ?_) fun _ _ ih => ih.bayRetryLeft
  exact ⟨Store.sorted_copy h.regs, h.act, h.mem, h.evq, h.twq, h.offers, h.islBuf⟩

theorem Keeps.loopRestart {n : Nat} (hs : Keeps s₀ s) : Keeps s₀ (s.loopRestart n) := .ite hs.wrBit hs.loopMod.loopStart

theorem Keeps.loopsRestart (hs : Keeps s₀ s) : Keeps s₀ s.loopsRestart := .foldl hs fun _ _ ih => ih.loopRestart

theorem Keeps.loadImage (hs : Keeps s₀ s) : Keeps s₀ s.loadImage := by
  unfold State.loadImage
  refine .ite ?_ hs.loadPages
  extract_lets a
  have ha : Keeps s₀ a := hs.imgBoot.loadPages.forceFollow
  exact .ite ha.loopsRestart ha

theorem Keeps.keepQueue (hs : Keeps s₀ s) (hold : Keeps s₀ old) : Keeps s₀ (old.keepQueue s) where
  inv hi := ⟨(hs.inv hi).regs, (hs.inv hi).act, (hs.inv hi).mem, (hold.inv hi).evq, (hs.inv hi).twq, (hs.inv hi).offers,
      (hs.inv hi).islBuf⟩
  mode := hs.mode
  pending := hs.pending
  us := hs.us

theorem Keeps.islEntry {t : Tok} (hs : Keeps s₀ s) : Keeps s₀ (s.islEntry t) := by
  unfold State.islEntry
  extract_lets a
  have ha : Keeps s₀ a := hs.galAccept.keepQueue hs
  split
  · exact ha.setEvt
  · exact ha

theorem Keeps.islDrain (hs : Keeps s₀ s) : Keeps s₀ s.islDrain := by
  unfold State.islDrain
  extract_lets l a b c toks
  have hb : Keeps s₀ b := .foldl hs.wr.wr fun _ _ ih => ih.islEntry
  have hc : Keeps s₀ c := .ite hb (hb.galAccept.keepQueue hb)
  exact hc.upd fun h => ⟨h.regs, h.act, h.mem, h.evq, h.twq, h.offers, Nat.zero_le _⟩

theorem Keeps.bootRecords {kind replays : Nat} (hs : Keeps s₀ s) : Keeps s₀ (s.bootRecords kind replays) :=
  (hs.galRun.galAccept.keepQueue hs).islDrain

theorem Keeps.baysResume (hs : Keeps s₀ s) : Keeps s₀ s.baysResume := by
  unfold State.baysResume
  extract_lets a b
  have ha : Keeps s₀ a := .foldl hs fun _ _ ih => .ite ih.orderStep ih
  have hb : Keeps s₀ b := .foldl ha fun _ _ ih => ih.restStop
  refine .foldl hb fun t n ih => ?_
  split
  · dsimp only
    split
    · exact .ite ih.bayMod.batInsert ih.bayMod
    · exact ih.bayMod
  · exact ih

theorem Keeps.abcResume (hs : Keeps s₀ s) : Keeps s₀ s.abcResume := by
  unfold State.abcResume
  extract_lets +onlyGivenNames a b
  have ha : Keeps s₀ a := .foldl hs fun _ _ ih => ih.wr.wr.wr.wr
  exact .ite ha.same.wr ha.same.wr.inc

theorem Keeps.phasesResume (hs : Keeps s₀ s) : Keeps s₀ s.phasesResume := .foldl hs fun _ _ ih => .ite ih.phJoinNext ih

theorem Keeps.twResume {n : Nat} (hs : Keeps s₀ s) : Keeps s₀ (s.twResume n) := by
  unfold State.twResume
  extract_lets t a c
  have ha : Keeps s₀ a := by
    unfold a
    split
    · exact .ite hs.bayCycleEnd.inc hs
    · exact hs
  exact .ite ha.twMod.twMod ha.twMod

theorem Keeps.tieResume {n : Nat} (hs : Keeps s₀ s) : Keeps s₀ (s.tieResume n) := by
  unfold State.tieResume
  extract_lets +onlyGivenNames b st
  refine .ite hs ?_
  refine .ite (.ite hs.tieAdvertise hs) ?_
  refine .ite hs.tieLeave ?_
  extract_lets +onlyGivenNames a
  have ha : Keeps s₀ a := hs.tieEndContract.setTie
  exact .ite (.ite ha.bayCycleEnd.tieMod ha.bayCycleEnd) (.ite ha (.ite ha.tieOffer (.ite ha.tieClose.tieMod ha.tieClose.tieOffer)))

theorem Keeps.flightResume {f : Nat} (hs : Keeps s₀ s) : Keeps s₀ (s.flightResume f) := by
  unfold State.flightResume
  extract_lets ret a
  have ha : Keeps s₀ a := .ite hs.flMod (.ite hs.flMod hs)
  exact .ite ha.wr.deviceStart ha

theorem Keeps.entResume {e : Nat} (hs : Keeps s₀ s) : Keeps s₀ (s.entResume e) :=
  .ite (.ite hs.wrB.entBecomesGood (.ite hs.wrB.entLosesGood hs.wrB)) (.ite hs.wrB.setEst (.ite hs.wrB.entFalls hs.wrB))

theorem Keeps.unitsResume (hs : Keeps s₀ s) : Keeps s₀ s.unitsResume :=
  .recCommitDue (.foldl (.foldl (.foldl hs.capRun.abcResume.baysResume.phasesResume fun _ _ ih => ih.twResume) fun _ _ ih =>
      ih.tieResume) fun _ _ ih => ih.entResume)

theorem Keeps.runMarks {kind start : Nat} (hs : Keeps s₀ s) : Keeps s₀ (s.runMarks kind start) := by
  unfold State.runMarks
  extract_lets a b c
  have ha : Keeps s₀ a := hs.wr.wr.inc
  exact .capMod (.wrB (.ite ha.wr.wr ha.wr.wr.wr))

theorem Keeps.powerUpBist (hs : Keeps s₀ s) : Keeps s₀ s.powerUpBist := by
  unfold State.powerUpBist
  split
  · exact hs.wrB.bistResult
  · exact hs

theorem Keeps.nvmBoot {nvm : Nat} (hs : Keeps s₀ s) : Keeps s₀ (s.nvmBoot nvm) := .foldl hs fun _ _ ih => ih.nvcFail

theorem runMode_live : s.runMode.live = true := by
  unfold State.runMode
  split
  · rfl
  · split <;> rfl

theorem Keeps.enterRun {half : Bool} {bad nvm start : Nat} (hs : Keeps s₀ s) (hm : s.mode = .hold) :
    Keeps s₀ (s.enterRun half bad nvm start) := by
  have ho := hs.origin_live (live_of_eq hm rfl)
  unfold State.enterRun
  extract_lets +onlyGivenNames kind a b n r c d e f g h
  have ha : Keeps s₀ a := .runMarks (hs.move ho runMode_live).same
  have hr : Keeps s₀ r := ha.sysMod.bootRecords
  have hd : Keeps s₀ d := hr.scan.wr.nvmBoot.fwBoot.loadImage.powerUpBist
  have he : Keeps s₀ e := hd.unitsResume.raise
  have hf : Keeps s₀ f := .keepQueue (.ite he he.raise) hr
  have hg : Keeps s₀ g := (Keeps.foldl hf fun _ _ ih => ih.flightResume).redirectFollow.replay ho
  have hh : Keeps s₀ h := .ite hg.deviceStart hg
  exact hh.follow.sysMod

theorem execRunEntry_ends {half : Bool} {bad : BitVec 3} {nvm : BitVec 2} (hs : Keeps s₀ s) :
    Ends s₀ (execRunEntry half bad s nvm) := by
  unfold execRunEntry
  split
  · refine .next ?_
    split
    case isTrue hm => exact hs.enterRun hm
    case isFalse => exact hs
  · exact .next hs

/-! ### Resets -/

theorem Keeps.showRetired (hs : Keeps s₀ s) : Keeps s₀ s.showRetired :=
  .foldl (.foldl (.foldl (.foldl (.foldl (.foldl hs fun _ _ ih => .ite ih.wr ih) fun _ _ ih => .ite ih.wr ih) fun _ _ ih => .ite
      ih.wr.wr ih) fun _ _ ih => .ite ih.wr ih) fun _ _ ih => .ite ih.wr ih) fun _ _ ih => .ite ih.wr.wrBit ih

theorem Keeps.coldLearn {old : State} (hs : Keeps s₀ s) : Keeps s₀ (old.coldLearn s) :=
  .foldl hs fun _ _ ih => .ite ih.setLst.batDq ih

theorem execRegloss_ends {hv : Bool} (hs : Keeps s₀ s) : Ends s₀ (execRegloss hv s) := .ite (.next hs.wr.inc.tokenEv) (.next hs)

theorem execRegback_ends {hv : Bool} (hs : Keeps s₀ s) : Ends s₀ (execRegback hv s) := .next (.ite hs.wr.raise hs)

theorem execSupplyOut_ends {sup : BitVec 3} (hs : Keeps s₀ s) : Ends s₀ (execSupplyOut sup s) :=
  .ite (.next hs.holdCause.sysMod) (.next hs)

theorem execLdieResetRelease_ends (hs : Keeps s₀ s) : Ends s₀ (execLdieResetRelease s) := .next (.ite hs.sysMod.bootBegin hs)

theorem execWarmReset_ends (hs : Keeps s₀ s) : Ends s₀ (execWarmReset s) := .next (.ite hs.holdCause.sysMod hs)

theorem execHardReset_ends (hs : Keeps s₀ s) : Ends s₀ (execHardReset s) := by
  unfold execHardReset
  split
  case isTrue hup => exact .next (hs.enterHold (hs.origin_live (live_of_lUp hup))).pdieReset.sysMod.sysMod
  case isFalse =>
    exact .ite (.next hs.inc.setCause.ldieStop.pdieReset.sysMod.sysMod) (.ite (.next hs.inc.ldieStop.sysMod) (.next hs))

theorem execResetNRelease_ends {late : Bool} (hs : Keeps s₀ s) : Ends s₀ (execResetNRelease late s) :=
  .ite (.next hs) (.ite (.next (.ite hs.sysMod.late.bootBegin hs.sysMod.bootBegin)) (.next hs.inc))

theorem execHeartbeat_ends (hs : Keeps s₀ s) : Ends s₀ (execHeartbeat s) := .next (.ite hs.sysMod hs)

theorem execHeartbeatTimeout_ends {late : Bool} (hs : Keeps s₀ s) : Ends s₀ (execHeartbeatTimeout late s) := by
  unfold execHeartbeatTimeout
  split
  case isTrue hup =>
    have ha := hs.enterHold (cause := 7) (hs.origin_live (live_of_lUp hup))
    exact .next (.ite ha.late.bootBegin ha.bootBegin)
  case isFalse => exact .next hs

theorem execBridgeTransfer_ends {ok : Bool} (hs : Keeps s₀ s) : Ends s₀ (execBridgeTransfer ok s) := by
  unfold execBridgeTransfer
  refine .ite (.next hs) ?_
  extract_lets +onlyGivenNames inj n a
  have ha : Keeps s₀ a := .ite hs.injected hs
  exact .ite (.next ha.sysMod) (.next (.ite ha.inc.sysMod.tokenEv ha.inc.sysMod))

theorem execHoldOrder_ends (hs : Keeps s₀ s) : Ends s₀ (execHoldOrder s) := by
  refine .next ?_
  split
  case isTrue hup => exact (hs.enterHold (hs.origin_live (live_of_lUp_and hup))).bootBegin
  case isFalse => exact hs

theorem execHoldWindowExpiry_ends (hs : Keeps s₀ s) : Ends s₀ (execHoldWindowExpiry s) := .next (.ite hs.fltMod hs)

theorem execPowerFailWarning_ends (hs : Keeps s₀ s) : Ends s₀ (execPowerFailWarning s) :=
  .ite (.next hs) (.next (.ite hs.inc.wr.same.wr hs.inc.wr))

theorem Keeps.flushTail {n : Nat} (hs : Keeps s₀ s) : Keeps s₀ (State.flushTail n s) := by
  induction n generalizing s with
  | zero => exact hs
  | succ n ih =>
    unfold State.flushTail
    exact .ite hs (ih hs.galPage)

theorem execPfwWritesComplete_ends {fail0 fail1 : Bool} (hs : Keeps s₀ s) : Ends s₀ (execPfwWritesComplete fail0 fail1 s) :=
  .ite (.next (.raise (.wr (.ite (.ite hs.galMod.galSave.flushTail.clearRetry (.foldl hs.galMod.galSave fun _ _ ih => ih.nvmFail))
      hs.galMod.galSave)))) (.next hs)

theorem execPowerFailWarningEnd_ends (hs : Keeps s₀ s) : Ends s₀ (execPowerFailWarningEnd s) :=
  .ite (.next (.ite hs.wr.same.fetchAll.twCheck hs.wr.same.fetchAll)) (.next (.ite hs.wr hs))

/-! ### Registers -/

theorem Keeps.rcClear {pg off set : Nat} (hs : Keeps s₀ s) : Keeps s₀ (s.rcClear pg off set) := .foldl hs fun _ _ ih => ih.wr

theorem Keeps.readLatch {pg off : Nat} (hs : Keeps s₀ s) : Keeps s₀ (s.readLatch pg off) :=
  .ite hs.usLatch (.ite hs.wr (.ite hs.wr (.ite hs.wr hs)))

theorem Keeps.afterRead {pg off set : Nat} (hs : Keeps s₀ s) : Keeps s₀ (s.afterRead pg off set) := by
  unfold State.afterRead
  refine .ite (hs.upd fun h => ⟨h.regs, h.act, h.mem, ?_, h.twq, h.offers, h.islBuf⟩) (.ite hs.readLatch.rcClear hs)
  exact (List.length_drop ▸ Nat.sub_le ..).trans h.evq

theorem Keeps.pageRead {pg off set : Nat} (hs : Keeps s₀ s) : Keeps s₀ (s.pageRead pg off set).2 := hs.afterRead

theorem Keeps.evtEnable {pg v : Nat} (hs : Keeps s₀ s) : Keeps s₀ (s.evtEnable pg v) := by
  unfold State.evtEnable
  extract_lets +onlyGivenNames a live c
  refine .foldl hs.wr.same fun _ _ ih => .ite ?_ ih
  split
  · exact ih.pend
  · exact ih

theorem Keeps.settingsFollow {pg : Nat} {old : State} (hs : Keeps s₀ s) : Keeps s₀ (old.settingsFollow s pg) :=
  .ite hs.forceFollow (.ite hs.dueNew.releaseAll (.ite hs.capShow (.ite hs.strShow hs)))

theorem Keeps.evtReset {pg : Nat} (hs : Keeps s₀ s) : Keeps s₀ (s.evtReset pg) := by
  unfold State.evtReset
  refine .ite hs.same (.ite hs.same (.ite (hs.upd fun h => ?_) hs))
  exact ⟨h.regs, h.act, h.mem, Nat.zero_le _, h.twq, h.offers, h.islBuf⟩

theorem Keeps.blockReset {pg : Nat} (hs : Keeps s₀ s) : Keeps s₀ (s.blockReset pg) := by
  unfold State.blockReset
  extract_lets a
  have ha : Keeps s₀ a := hs.upd fun h =>
    ⟨Store.sorted_filter h.regs, Store.sorted_filter h.act, h.mem, h.evq, h.twq, h.offers, h.islBuf⟩
  exact ha.evtReset.clearEvt.evtEnable.settingsFollow

theorem Keeps.writeCtl {pg v : Nat} (hs : Keeps s₀ s) : Keeps s₀ (s.writeCtl pg v) := by
  unfold State.writeCtl
  extract_lets jrnl differs a b c
  have ha : Keeps s₀ a := .ite hs hs.wr
  have hb : Keeps s₀ b := .ite ha.commit ha
  have hc : Keeps s₀ c := .ite hb.blockReset hb
  exact .ite hc.jrej hc

theorem Keeps.writeHeader {pg off v : Nat} (hs : Keeps s₀ s) : Keeps s₀ (s.writeHeader pg off v) :=
  .ite hs.writeCtl (.ite hs.clearEvt (.ite hs.evtEnable (.ite (.ite hs.wr hs) hs)))

theorem Keeps.writeField {f : Fld} {v : Nat} (hs : Keeps s₀ s) : Keeps s₀ (s.writeField f v) := by
  unfold State.writeField
  extract_lets x
  split
  · exact hs.wr
  · exact .ite hs hs.wr
  · exact hs.wr
  · exact hs.wr
  · exact hs
  · exact hs
  · exact hs
  · exact hs

theorem Keeps.writeFields {pg off v : Nat} (hs : Keeps s₀ s) : Keeps s₀ (s.writeFields pg off v) :=
  .foldl hs fun _ _ ih => ih.writeField

/-- The state, if there is one, keeps what `Keeps` names. -/
def KeepsAny (s₀ : State) (o : Option State) : Prop := ∀ t, o = some t → Keeps s₀ t

theorem KeepsAny.some (hs : Keeps s₀ s) : KeepsAny s₀ (some s) := by
  rintro t ⟨⟩
  exact hs

theorem KeepsAny.ite {c : Prop} {_ : Decidable c} {o q : Option State} (ho : KeepsAny s₀ o) (hq : KeepsAny s₀ q) :
    KeepsAny s₀ (if c then o else q) := by
  split
  · exact ho
  · exact hq

theorem KeepsAny.getD {o : Option State} (ho : KeepsAny s₀ o) (ht : Keeps s₀ t) : Keeps s₀ (o.getD t) := by
  cases o with
  | none => exact ht
  | some u => exact ho u rfl

theorem Keeps.writeAction {pg off v : Nat} (hs : Keeps s₀ s) : KeepsAny s₀ (s.writeAction pg off v) := by
  have hw : Keeps s₀ (s.writeFields pg off v) := hs.writeFields
  have hn : Keeps s₀ (if bitOf v 0 then s.nvcGo else s) := .ite hs.nvcGo hs
  unfold State.writeAction
  refine .ite (.some hs.tmbCfg) (.ite (.some (.ite hs.due hs))
      (.ite (.some hs.cmdCfg) (.ite (.some hs) (.ite (.some hs.hostPass) ?_))))
  refine .ite (.some hs.bankRequest) (.ite (.some hs.capCtl) (.ite (.some hs.strCfg) (.ite (.some (.ite hs hs.fltInj)) ?_)))
  refine .ite (.some hs.fltAck) (.ite (.some (.ite hs.fltAckAll hs)) (.ite (.some hs.galCur) (.ite (.some hs.galTcur) ?_)))
  refine .ite (.some hs.lockrej) (.ite (.some (.ite hs.keyLoad hs))
      (.ite (.some (.ite hw.mbxGo hw)) (.ite (.some (.ite hn.nvcVerify hn)) ?_)))
  rintro t ⟨⟩

theorem Keeps.writeBlock {pg off v : Nat} (hs : Keeps s₀ s) : Keeps s₀ (s.writeBlock pg off v) := by
  unfold State.writeBlock
  extract_lets fs old jr lr a b c
  have ha : Keeps s₀ a := hs.writeAction.getD hs.writeFields
  have hb : Keeps s₀ b := .ite ha ha.settingsFollow
  have hc : Keeps s₀ c := .ite hb.jrej hb
  exact .ite hs (.ite hc.lockrej hc)

theorem Keeps.pageWrite {pg off v : Nat} (hs : Keeps s₀ s) : Keeps s₀ (s.pageWrite pg off v) := .ite hs.writeHeader hs.writeBlock

theorem Keeps.unlock {target : Nat} (hs : Keeps s₀ s) : Keeps s₀ (s.unlock target) := .foldl hs fun _ _ ih => ih.wr

theorem Keeps.lockKey {path key : Nat} (hs : Keeps s₀ s) : Keeps s₀ (s.lockKey path key) :=
  .ite hs (.ite (.ite hs.same.wr hs) (.ite hs.lockAbort (.ite (.ite hs.wr hs.lockAbort) (.ite hs.unlock.wr.wr hs.lockAbort))))

theorem Keeps.regWrite {path addr v : Nat} (hs : Keeps s₀ s) : Keeps s₀ (s.regWrite path addr v) := by
  unfold State.regWrite
  extract_lets +onlyGivenNames pg off
  refine .ite hs.lockKey ?_
  extract_lets a
  have ha : Keeps s₀ a := .ite hs.barWrite hs
  exact .ite ha.pageWrite ha.accessErr

theorem Keeps.bar4Write {addr v : Nat} (hs : Keeps s₀ s) : Keeps s₀ (s.bar4Write addr v) :=
  .ite hs.wr.fetchAll (.ite hs.wr.ringFollow.drain.fetchAll (.ite (.ite hs.same hs.same.release) hs))

theorem Keeps.bar2Read {m w ecc : Nat} (hs : Keeps s₀ s) : Keeps s₀ (s.bar2Read m w ecc) :=
  .ite hs.same.inc.raise (.ite hs.same.eccUnc (.ite hs.same.eccCorr hs.same))

theorem Keeps.bar2Write {m w data be ecc : Nat} (hs : Keeps s₀ s) : Keeps s₀ (s.bar2Write m w data be ecc) := by
  unfold State.bar2Write
  refine .ite hs.inc.raise ?_
  extract_lets bad old a
  have ha : Keeps s₀ a := .ite hs.eccUnc (.ite hs.eccCorr hs)
  exact .touched (ha.putMem Memory.wf_putWords)

theorem Keeps.bar2 {addr data be ecc : Nat} {write : Bool} (hs : Keeps s₀ s) : Keeps s₀ (s.bar2 addr write data be ecc) :=
  .ite (.accessErr (.ite hs hs.same)) (.ite hs.bar2Write hs.bar2Read)

theorem Keeps.partialWrite {addr n : Nat} (hs : Keeps s₀ s) : Keeps s₀ (s.partialWrite addr n) := hs.inc.raise.accessErr

theorem Keeps.unserved {path : Nat} (hs : Keeps s₀ s) : Keeps s₀ (s.unserved path) := .ite hs.answer hs

theorem Keeps.hostWrite {path addr v be : Nat} (hs : Keeps s₀ s) : Keeps s₀ (s.hostWrite path addr v be) :=
  .ite hs (.ite (.ite hs.bar2 hs.bar2) (.ite (.ite hs.regWrite hs.partialWrite)
      (.ite (.accessErr (.ite hs.barWrite hs)) (.ite hs.bar4Write (.ite hs.regWrite hs)))))

theorem Keeps.hostRead {path addr set : Nat} (hs : Keeps s₀ s) : Keeps s₀ (s.hostRead path addr set) :=
  .ite hs.unserved (.ite hs.bar2 (.ite hs.answer (.ite hs.pageRead.answer hs.answer)))

theorem execRegisterWrite_ends {path : BitVec 2} {addr : BitVec 26} {v : Word} {be : BitVec 4} (hs : Keeps s₀ s) :
    Ends s₀ (execRegisterWrite path addr v be s) :=
  .next hs.hostWrite

theorem execRcRead_ends {path : BitVec 2} {addr : BitVec 26} {set : Word} (hs : Keeps s₀ s) :
    Ends s₀ (execRcRead path addr set s) :=
  .next hs.hostRead

theorem execBlkrst_ends {pg : BitVec 9} (hs : Keeps s₀ s) : Ends s₀ (execBlkrst pg s) := .next hs.hostWrite

theorem execLockSet_ends {pg : BitVec 9} (hs : Keeps s₀ s) : Ends s₀ (execLockSet pg s) := .next hs.hostWrite

theorem execPgEvtClear_ends {pg : BitVec 9} {mask set : Word} (hs : Keeps s₀ s) : Ends s₀ (execPgEvtClear pg mask set s) := by
  unfold execPgEvtClear
  extract_lets p a
  refine .next ?_
  refine .ite ?_ hs.hostWrite
  refine .foldl hs.hostWrite fun _ _ ih => .ite ?_ ih
  split
  · exact ih.raiseBit
  · exact ih

theorem execEvtEoi_ends {vec : BitVec 5} {src : Option (BitVec 10)} (hs : Keeps s₀ s) : Ends s₀ (execEvtEoi vec s src) := by
  unfold execEvtEoi
  extract_lets a
  have ha : Keeps s₀ a := by
    unfold a
    refine .barWrite ?_
    split
    · exact hs.raise
    · exact hs
  exact .next (.ite ha ha.hostWrite)

theorem execMsixUnmask_ends {vec : BitVec 5} (hs : Keeps s₀ s) : Ends s₀ (execMsixUnmask vec s) := .next hs.hostWrite

theorem execEvtGenSet_ends (hs : Keeps s₀ s) : Ends s₀ (execEvtGenSet s) := .next hs.hostWrite

theorem execMsiGapEnd_ends {vec : BitVec 5} (hs : Keeps s₀ s) : Ends s₀ (execMsiGapEnd vec s) := .next (.ite hs.same.release hs)

theorem execEvtQpop_ends (hs : Keeps s₀ s) : Ends s₀ (execEvtQpop s) := .next hs.hostRead

theorem execGlbLockkey_ends {path : BitVec 2} {key : Word} (hs : Keeps s₀ s) : Ends s₀ (execGlbLockkey path key s) :=
  .next hs.hostWrite

theorem execLockKeyTimeout_ends {late : Bool} (hs : Keeps s₀ s) : Ends s₀ (execLockKeyTimeout late s) :=
  .ite (.next (.ite hs.lockAbort.late hs.lockAbort)) (.next hs)

theorem execLockoutEnd_ends (hs : Keeps s₀ s) : Ends s₀ (execLockoutEnd s) := .ite (.next hs.wr.wr) (.next hs)

theorem execBar2Access_ends {addr : BitVec 26} {write : Bool} {data : BitVec 64} {be : Byte} {ecc : BitVec 2} (hs : Keeps s₀ s) :
    Ends s₀ (execBar2Access addr write data be ecc s) :=
  .next (.ite hs.bar2 (.ite hs.same hs))

theorem execFltInj_ends {v : Word} (hs : Keeps s₀ s) : Ends s₀ (execFltInj v s) := .next hs.hostWrite

/-! ### The PCIe link -/

theorem Keeps.pcieFollow (hs : Keeps s₀ s) : Keeps s₀ s.pcieFollow := .ite hs.redirectFollow.releaseAll.strShow hs

theorem Keeps.putLink {speed width l0 l1 rev ltssm : Nat} (hs : Keeps s₀ s) : Keeps s₀ (s.putLink speed width l0 l1 rev ltssm) :=
  hs.wr.wr.wr.wr.wr.wrB.wr

theorem execPcieLinkChange_ends {speed width : BitVec 2} {l0 l1 reversed : Bool} {ltssm : BitVec 4} (hs : Keeps s₀ s) :
    Ends s₀ (execPcieLinkChange speed width l0 l1 reversed ltssm s) := by
  unfold execPcieLinkChange
  refine .ite (.next hs) ?_
  extract_lets trains sp a was now shape left code b c d
  have hb : Keeps s₀ b := .ite hs.putLink.inc hs.putLink
  have hc : Keeps s₀ c := .ite hb.inc hb
  exact .next (.pcieFollow (.ite hc.raise hc))

theorem execPcieAerError_ends {unc cor : Word} {fatal : Bool} (hs : Keeps s₀ s) : Ends s₀ (execPcieAerError unc cor fatal s) :=
  .ite (.next hs) (.next (.pcieFollow (.ite hs.wr.wr.inc.inc.raise.same hs.wr.wr.inc.inc.raise)))

theorem execPcieConfigRequest_ends {cmd : Option (BitVec 5)} {unc cor : Word} (hs : Keeps s₀ s) :
    Ends s₀ (execPcieConfigRequest cmd unc cor s) := by
  unfold execPcieConfigRequest
  refine .ite ?_ (.ite (.next hs.emit) (.next hs))
  extract_lets +onlyGivenNames a b c
  have ha : Keeps s₀ a := by
    unfold a
    split
    · exact hs
    · exact hs.wr.wr.wr.wr.wr
  exact .next (.ite ha.wr.wr.same.pcieFollow.answer ha.wr.wr.same.pcieFollow)

/-! ### The two-wire target -/

theorem Keeps.pecBad (hs : Keeps s₀ s) : Keeps s₀ s.pecBad := hs.inc.raise

theorem Keeps.regPointer {bytes : List Byte} (hs : Keeps s₀ s) : Keeps s₀ (s.regPointer bytes) := by
  unfold State.regPointer
  split
  · exact .ite hs.same.inc.raise hs.same
  · exact hs

theorem Keeps.applyDword {base : Nat} {d : Nat × List (Nat × Byte)} (hs : Keeps s₀ s) : Keeps s₀ (s.applyDword base d) :=
  .ite hs.regWrite hs.partialWrite

theorem Keeps.commitBytes {p : Nat} {data : List Byte} (hs : Keeps s₀ s) : Keeps s₀ (s.commitBytes p data) :=
  .ite hs (.inc (.foldl hs fun _ _ ih => ih.applyDword))

theorem Keeps.regTargetWrite {bytes : List Byte} (hs : Keeps s₀ s) : Keeps s₀ (s.regTargetWrite bytes) := by
  unfold State.regTargetWrite
  split
  · exact hs
  · exact hs.inc
  · exact hs.regPointer.commitBytes

theorem execRegisterTargetWrite_ends {bytes : List Byte} (hs : Keeps s₀ s) : Ends s₀ (execRegisterTargetWrite bytes s) := by
  unfold execRegisterTargetWrite
  refine .ite (.next hs) ?_
  refine .ite (.next hs.regTargetWrite) ?_
  refine .ite (.next hs.regPointer) ?_
  split
  · exact .next hs
  · exact .ite (.next hs.regTargetWrite) (.next hs.regPointer.pecBad)

theorem Keeps.readByte {base p i : Nat} {x : State × Nat} (hx : Keeps s₀ x.1) : Keeps s₀ (State.readByte base p x i).1 := by
  unfold State.readByte
  extract_lets a q r
  have hr : Keeps s₀ r.1 := by
    unfold r
    split
    · exact hx.pageRead
    · exact hx
  exact hr.same

theorem Keeps.foldl_readByte {base p : Nat} {l : List Nat} {x : State × Nat} (hx : Keeps s₀ x.1) :
    Keeps s₀ (l.foldl (State.readByte base p) x).1 := by
  induction l generalizing x with
  | nil => exact hx
  | cons i l ih => exact ih hx.readByte

theorem Keeps.regTargetRead {n : Nat} (hs : Keeps s₀ s) : Keeps s₀ (s.regTargetRead n) := by
  unfold State.regTargetRead
  extract_lets p base a
  have ha : Keeps s₀ a := Keeps.foldl_readByte hs.same
  exact ha.same.inc

theorem execRegisterTargetRead_ends {ptr : List Byte} {n : Byte} (hs : Keeps s₀ s) : Ends s₀ (execRegisterTargetRead ptr n s) :=
  .ite (.next hs) (.next (.regTargetRead (.ite hs.inc hs.regPointer)))

theorem Keeps.fastNak {a : Nat} (hs : Keeps s₀ s) : Keeps s₀ (s.fastNak a) := .ite hs.inc hs.inc

theorem Keeps.fastCommit {jbad : Nat} {w : List (Nat × Byte)} (hs : Keeps s₀ s) : Keeps s₀ (s.fastCommit jbad w) := by
  unfold State.fastCommit
  refine .ite hs ?_
  extract_lets a b
  have ha : Keeps s₀ a := .foldl hs fun _ _ ih => .ite ih.wr (.ite ih ih.same)
  exact .ite ha.inc.doorbell ha.inc

theorem Keeps.fastPointer {bytes : List Byte} (hs : Keeps s₀ s) : Keeps s₀ (s.fastPointer bytes) := by
  unfold State.fastPointer
  split
  · exact hs
  · exact .ite hs.same.fastNak hs.same

theorem Keeps.fastTargetWrite {jbad : Nat} {bytes : List Byte} (hs : Keeps s₀ s) : Keeps s₀ (s.fastTargetWrite jbad bytes) := by
  unfold State.fastTargetWrite
  split
  · exact hs
  · exact hs.fastPointer.fastCommit

theorem execFastTargetWrite_ends {bytes : List Byte} {jbad : BitVec 3} (hs : Keeps s₀ s) :
    Ends s₀ (execFastTargetWrite bytes jbad s) := by
  unfold execFastTargetWrite
  refine .ite (.next hs) ?_
  refine .ite (.next hs.fastTargetWrite) ?_
  refine .ite (.next hs.fastPointer) ?_
  split
  · exact .next hs
  · exact .ite (.next hs.fastTargetWrite) (.next hs.fastPointer.pecBad)

theorem Keeps.fastReadByte {p i : Nat} (hs : Keeps s₀ s) : Keeps s₀ (s.fastReadByte p i) :=
  .ite hs.same.reportPop (.ite hs.same.galAdvance hs.same)

theorem execSummaryStatusRead_ends {ptr n : Byte} (hs : Keeps s₀ s) : Ends s₀ (execSummaryStatusRead ptr n s) := by
  unfold execSummaryStatusRead
  refine .ite (.next hs) (.next (.inc ?_))
  have ha : Keeps s₀ ((List.range n.toNat).foldl (State.fastReadByte ptr.toNat) { s with rbytes := [] }) :=
    .foldl hs.same fun _ _ ih => ih.fastReadByte
  exact ha.same

theorem Keeps.targetAbort {fast : Bool} {bytes : List Byte} (hs : Keeps s₀ s) : Keeps s₀ (s.targetAbort fast bytes) :=
  .ite hs.fastPointer hs.regPointer

theorem execBuserr_ends {fast : Bool} {bytes : List Byte} (hs : Keeps s₀ s) : Ends s₀ (execBuserr fast bytes s) :=
  .next (.ite hs.targetAbort.inc.raise hs)

theorem execTwtTimeout_ends {fast late : Bool} {bytes : List Byte} (hs : Keeps s₀ s) :
    Ends s₀ (execTwtTimeout fast bytes late s) := by
  unfold execTwtTimeout
  refine .ite ?_ (.next hs)
  extract_lets a
  have ha : Keeps s₀ a := hs.targetAbort.inc.raise
  exact .next (.ite ha.late ha)

/-! ### Every command -/

/-- The commands that may change the device state into or out of OFF and BOOT: COLD_RESET, ISLAND_LOSS, HARD_TRIP and the two
conditions under which a boot of the P-die ends. -/
def startsOrStops : Instr → Bool
  | .coldReset _ _ _ _ _ | .islandLoss | .hardTrip | .pdieBistEnd _ _ | .bootPresenceDebounceEnd _ => true
  | _ => false

/-- Every other command keeps what `Keeps` names. -/
theorem exec_ends {c : Instr} (hc : startsOrStops c = false) (hs : Keeps s₀ s) : Ends s₀ (exec c s) := by
  cases c with
  | coldReset => cases hc
  | islandLoss => cases hc
  | regloss => exact execRegloss_ends hs
  | regback => exact execRegback_ends hs
  | supplyOut => exact execSupplyOut_ends hs
  | ldieResetRelease => exact execLdieResetRelease_ends hs
  | warmReset => exact execWarmReset_ends hs
  | hardReset => exact execHardReset_ends hs
  | resetNRelease => exact execResetNRelease_ends hs
  | powerFailWarning => exact execPowerFailWarning_ends hs
  | powerFailWarningEnd => exact execPowerFailWarningEnd_ends hs
  | pllLock => exact execPllLock_ends hs
  | pdieBistEnd => cases hc
  | runEntry => exact execRunEntry_ends hs
  | heartbeat => exact execHeartbeat_ends hs
  | heartbeatTimeout => exact execHeartbeatTimeout_ends hs
  | bridgeTransfer => exact execBridgeTransfer_ends hs
  | xtalQualified => exact execXtalQualified_ends hs
  | xtalReturn => exact execXtalReturn_ends hs
  | xtalEdgeTimeout => exact execXtalEdgeTimeout_ends hs
  | xtalCountWindow => exact execXtalCountWindow_ends hs
  | pllUnlock => exact execPllUnlock_ends hs
  | slewDone => exact execSlewDone_ends hs
  | interpolatorCalibration => exact execInterpolatorCalibration_ends hs
  | handshakeMeasurement => exact execHandshakeMeasurement_ends hs
  | tmbUsLoRead => exact execTmbUsLoRead_ends hs
  | registerWrite => exact execRegisterWrite_ends hs
  | rcRead => exact execRcRead_ends hs
  | commit => exact execCommit_ends hs
  | snapshotApply => exact execSnapshotApply_ends hs
  | blkrst => exact execBlkrst_ends hs
  | lockSet => exact execLockSet_ends hs
  | pgEvtClear => exact execPgEvtClear_ends hs
  | evtEoi => exact execEvtEoi_ends hs
  | msixUnmask => exact execMsixUnmask_ends hs
  | evtGenSet => exact execEvtGenSet_ends hs
  | msiGapEnd => exact execMsiGapEnd_ends hs
  | evtQpop => exact execEvtQpop_ends hs
  | glbLockkey => exact execGlbLockkey_ends hs
  | lockKeyTimeout => exact execLockKeyTimeout_ends hs
  | lockoutEnd => exact execLockoutEnd_ends hs
  | pcieLinkChange => exact execPcieLinkChange_ends hs
  | pcieAerError => exact execPcieAerError_ends hs
  | pcieConfigRequest => exact execPcieConfigRequest_ends hs
  | bar2Access => exact execBar2Access_ends hs
  | nop => exact execNop_ends hs
  | glbWarmreset => exact execGlbWarmreset_ends hs
  | warmresetStart => exact execWarmresetStart_ends hs
  | benchEnter => exact execBenchEnter_ends hs
  | benchLeave => exact execBenchLeave_ends hs
  | pageSet => exact execPageSet_ends hs
  | bayArm => exact execBayArm_ends hs
  | bayOpen => exact execBayOpen_ends hs
  | bayToggle => exact execBayToggle_ends hs
  | bayLimit => exact execBayLimit_ends hs
  | loopStart => exact execLoopStart_ends hs
  | loopStop => exact execLoopStop_ends hs
  | loopVset => exact execLoopVset_ends hs
  | loopCoef => exact execLoopCoef_ends hs
  | phCfg => exact execPhCfg_ends hs
  | abcCap => exact execAbcCap_ends hs
  | rodSet => exact execRodSet_ends hs
  | hldSet => exact execHldSet_ends hs
  | batLearn => exact execBatLearn_ends hs
  | batLearnAbort => exact execBatLearnAbort_ends hs
  | batRest => exact execBatRest_ends hs
  | batRestAbort => exact execBatRestAbort_ends hs
  | tiePolicy => exact execTiePolicy_ends hs
  | tieRequest => exact execTieRequest_ends hs
  | tieRequestSwap => exact execTieRequestSwap_ends hs
  | tieRequestHardreset => exact execTieRequestHardreset_ends hs
  | tieRequestCaps => exact execTieRequestCaps_ends hs
  | flightRun => exact execFlightRun_ends hs
  | flightContinue => exact execFlightContinue_ends hs
  | flightAbort => exact execFlightAbort_ends hs
  | galFreeze => exact execGalFreeze_ends hs
  | galThaw => exact execGalThaw_ends hs
  | galClear => exact execGalClear_ends hs
  | bistLogic => exact execBistLogic_ends hs
  | bistMemory => exact execBistMemory_ends hs
  | bistPdie => exact execBistPdie_ends hs
  | lanRun => exact execLanRun_ends hs
  | lanAbort => exact execLanAbort_ends hs
  | imgSelect => exact execImgSelect_ends hs
  | doneReport => exact execDoneReport_ends hs
  | doneBoundExpiry => exact execDoneBoundExpiry_ends hs
  | cmdRtailWrite => exact execCmdRtailWrite_ends hs
  | cmdPheadWrite => exact execCmdPheadWrite_ends hs
  | ringenSet => exact execRingenSet_ends hs
  | doorbell => exact execDoorbell_ends hs
  | reportPop => exact execReportPop_ends hs
  | rebuilt => exact execRebuilt_ends hs
  | presenceChange => exact execPresenceChange_ends hs
  | urgent => exact execUrgent_ends hs
  | urgentEnd => exact execUrgentEnd_ends hs
  | extraction => exact execExtraction_ends hs
  | throttleTrainEnd => exact execThrottleTrainEnd_ends hs
  | throttleRepeat => exact execThrottleRepeat_ends hs
  | rampComplete => exact execRampComplete_ends hs
  | adopted => exact execAdopted_ends hs
  | gateOff => exact execGateOff_ends hs
  | limitEntry => exact execLimitEntry_ends hs
  | limitExit => exact execLimitExit_ends hs
  | fastTrip => exact execFastTrip_ends hs
  | slow => exact execSlow_ends hs
  | ramptime => exact execRamptime_ends hs
  | reverse => exact execReverse_ends hs
  | gatelow => exact execGatelow_ends hs
  | senseopen => exact execSenseopen_ends hs
  | togdlyEnd => exact execTogdlyEnd_ends hs
  | timedOpenEnd => exact execTimedOpenEnd_ends hs
  | loopSample => exact execLoopSample_ends hs
  | latchPoint => exact execLatchPoint_ends hs
  | ondelayEnd => exact execOndelayEnd_ends hs
  | offdelayEnd => exact execOffdelayEnd_ends hs
  | offLevelReached => exact execOffLevelReached_ends hs
  | pgoodSet => exact execPgoodSet_ends hs
  | pgoodClear => exact execPgoodClear_ends hs
  | senseLoss => exact execSenseLoss_ends hs
  | senseLossHigh => exact execSenseLossHigh_ends hs
  | loopOv => exact execLoopOv_ends hs
  | loopUv => exact execLoopUv_ends hs
  | overload => exact execOverload_ends hs
  | peakCrossing => exact execPeakCrossing_ends hs
  | stageFault => exact execStageFault_ends hs
  | imonopen => exact execImonopen_ends hs
  | rejoin => exact execRejoin_ends hs
  | dwellEnd => exact execDwellEnd_ends hs
  | parkEnd => exact execParkEnd_ends hs
  | imbalanceWindow => exact execImbalanceWindow_ends hs
  | abacusSettle => exact execAbacusSettle_ends hs
  | enforcementIssue => exact execEnforcementIssue_ends hs
  | feedTrim => exact execFeedTrim_ends hs
  | holdupTrigger => exact execHoldupTrigger_ends hs
  | handover => exact execHandover_ends hs
  | recoverStart => exact execRecoverStart_ends hs
  | recoverBreak => exact execRecoverBreak_ends hs
  | episodeEnd => exact execEpisodeEnd_ends hs
  | balanceCycle => exact execBalanceCycle_ends hs
  | balanceWindow => exact execBalanceWindow_ends hs
  | telemetryRead => exact execTelemetryRead_ends hs
  | socUpdate => exact execSocUpdate_ends hs
  | restPoint => exact execRestPoint_ends hs
  | chargeTermination => exact execChargeTermination_ends hs
  | cutoff => exact execCutoff_ends hs
  | pseudoOcv => exact execPseudoOcv_ends hs
  | stale => exact execStale_ends hs
  | rotationDue => exact execRotationDue_ends hs
  | learningPause => exact execLearningPause_ends hs
  | offsetCalStart => exact execOffsetCalStart_ends hs
  | offsetCalEnd => exact execOffsetCalEnd_ends hs
  | identityTry => exact execIdentityTry_ends hs
  | histogramUpdate => exact execHistogramUpdate_ends hs
  | recordCommit => exact execRecordCommit_ends hs
  | rotationRequest => exact execRotationRequest_ends hs
  | learnAdmissionTimeout => exact execLearnAdmissionTimeout_ends hs
  | restAdmissionTimeout => exact execRestAdmissionTimeout_ends hs
  | gdisHoldExpiry => exact execGdisHoldExpiry_ends hs
  | drpToggle => exact execDrpToggle_ends hs
  | attach => exact execAttach_ends hs
  | accessoryAttach => exact execAccessoryAttach_ends hs
  | detach => exact execDetach_ends hs
  | moistureMeasurement => exact execMoistureMeasurement_ends hs
  | receipt => exact execReceipt_ends hs
  | caps => exact execCaps_ends hs
  | request => exact execRequest_ends hs
  | accept => exact execAccept_ends hs
  | reject => exact execReject_ends hs
  | ready => exact execReady_ends hs
  | swap => exact execSwap_ends hs
  | getcaps => exact execGetcaps_ends hs
  | reservedMessage => exact execReservedMessage_ends hs
  | tieHardReset => exact execTieHardReset_ends hs
  | frameSent => exact execFrameSent_ends hs
  | receiptTimeout => exact execReceiptTimeout_ends hs
  | responseTimeout => exact execResponseTimeout_ends hs
  | capsRepeat => exact execCapsRepeat_ends hs
  | transitionTimeout => exact execTransitionTimeout_ends hs
  | collisionBackoffEnd => exact execCollisionBackoffEnd_ends hs
  | breach => exact execBreach_ends hs
  | breachLimitEnd => exact execBreachLimitEnd_ends hs
  | breachRecovery => exact execBreachRecovery_ends hs
  | slot => exact execSlot_ends hs
  | landing => exact execLanding_ends hs
  | upDeadline => exact execUpDeadline_ends hs
  | downDeadline => exact execDownDeadline_ends hs
  | railGood => exact execRailGood_ends hs
  | railGoodLost => exact execRailGoodLost_ends hs
  | railOv => exact execRailOv_ends hs
  | railFallen => exact execRailFallen_ends hs
  | returnWaitEnd => exact execReturnWaitEnd_ends hs
  | syncPulse => exact execSyncPulse_ends hs
  | syncEdge => exact execSyncEdge_ends hs
  | syncEdgeMissed => exact execSyncEdgeMissed_ends hs
  | iddexSlot => exact execIddexSlot_ends hs
  | masterFrame => exact execMasterFrame_ends hs
  | slaveFrame => exact execSlaveFrame_ends hs
  | orderAckDeadline => exact execOrderAckDeadline_ends hs
  | peerLost => exact execPeerLost_ends hs
  | pgraceEnd => exact execPgraceEnd_ends hs
  | registerTargetWrite => exact execRegisterTargetWrite_ends hs
  | registerTargetRead => exact execRegisterTargetRead_ends hs
  | buserr => exact execBuserr_ends hs
  | twtTimeout => exact execTwtTimeout_ends hs
  | fastTargetWrite => exact execFastTargetWrite_ends hs
  | summaryStatusRead => exact execSummaryStatusRead_ends hs
  | galleryWindowAdvance => exact execGalleryWindowAdvance_ends hs
  | transactionEnd => exact execTransactionEnd_ends hs
  | transactionRetry => exact execTransactionRetry_ends hs
  | arbitrationLoss => exact execArbitrationLoss_ends hs
  | stretch => exact execStretch_ends hs
  | hang => exact execHang_ends hs
  | segmentRelease => exact execSegmentRelease_ends hs
  | skipRetry => exact execSkipRetry_ends hs
  | skipwaitEnd => exact execSkipwaitEnd_ends hs
  | lineJudgementEnd => exact execLineJudgementEnd_ends hs
  | hostPassThrough => exact execHostPassThrough_ends hs
  | frameStart => exact execFrameStart_ends hs
  | bankOwnerRequest => exact execBankOwnerRequest_ends hs
  | ownershipGrant => exact execOwnershipGrant_ends hs
  | transparentTestRegion => exact execTransparentTestRegion_ends hs
  | comparatorTrigger => exact execComparatorTrigger_ends hs
  | swtrig => exact execSwtrig_ends hs
  | rel => exact execRel_ends hs
  | holdtExpiry => exact execHoldtExpiry_ends hs
  | vaultWriteEnd => exact execVaultWriteEnd_ends hs
  | stepInstant => exact execStepInstant_ends hs
  | streamRead => exact execStreamRead_ends hs
  | bufferFlush => exact execBufferFlush_ends hs
  | strDtailWrite => exact execStrDtailWrite_ends hs
  | strCheadWrite => exact execStrCheadWrite_ends hs
  | streamEnable => exact execStreamEnable_ends hs
  | token => exact execToken_ends hs
  | bucketLeak => exact execBucketLeak_ends hs
  | holdOrder => exact execHoldOrder_ends hs
  | fltAck => exact execFltAck_ends hs
  | fltAckall => exact execFltAckall_ends hs
  | faultPairSwap => exact execFaultPairSwap_ends hs
  | pnfail => exact execPnfail_ends hs
  | fltInj => exact execFltInj_ends hs
  | recordOffer => exact execRecordOffer_ends hs
  | flush => exact execFlush_ends hs
  | galCur => exact execGalCur_ends hs
  | galTcur => exact execGalTcur_ends hs
  | freezeTimeout => exact execFreezeTimeout_ends hs
  | mergeDone => exact execMergeDone_ends hs
  | keyLoad => exact execKeyLoad_ends hs
  | ophStep => exact execOphStep_ends hs
  | dieTempSample => exact execDieTempSample_ends hs
  | ldiePowerDown => exact execLdiePowerDown_ends hs
  | hardTrip => cases hc
  | thermistorUpdate => exact execThermistorUpdate_ends hs
  | analyzerPointEnd => exact execAnalyzerPointEnd_ends hs
  | devAbort => exact execDevAbort_ends hs
  | impedancePointStart => exact execImpedancePointStart_ends hs
  | logicBistEnd => exact execLogicBistEnd_ends hs
  | memoryBistEnd => exact execMemoryBistEnd_ends hs
  | coreHeartbeatTimeout => exact execCoreHeartbeatTimeout_ends hs
  | mailboxVersion => exact execMailboxVersion_ends hs
  | mailboxGroupRequests => exact execMailboxGroupRequests_ends hs
  | mailboxGroupEnergy => exact execMailboxGroupEnergy_ends hs
  | mailboxFeedWeights => exact execMailboxFeedWeights_ends hs
  | mailboxAnswer => exact execMailboxAnswer_ends hs
  | mailboxTimeout => exact execMailboxTimeout_ends hs
  | nvcTransfer => exact execNvcTransfer_ends hs
  | nvcTransferDone => exact execNvcTransferDone_ends hs
  | nvcVerify => exact execNvcVerify_ends hs
  | pllRelock => exact execPllRelock_ends hs
  | surveySample => exact execSurveySample_ends hs
  | altClassChange => exact execAltClassChange_ends hs
  | tsClassChange => exact execTsClassChange_ends hs
  | bootPresenceDebounceEnd => cases hc
  | retryWindowExpiry => exact execRetryWindowExpiry_ends hs
  | holdWindowExpiry => exact execHoldWindowExpiry_ends hs
  | restartWindowExpiry => exact execRestartWindowExpiry_ends hs
  | winready => exact execWinready_ends hs
  | verifyDone => exact execVerifyDone_ends hs
  | pfwWritesComplete => exact execPfwWritesComplete_ends hs
  | tieFrameDiscarded => exact execTieFrameDiscarded_ends hs
  | iddexFrameDiscarded => exact execIddexFrameDiscarded_ends hs

/-! ### The commands that start or stop the device -/

/-- What lies between the ends of a command: the invariant stands, a change of the device state is one of Table 1.5, and the queue is
as it was. -/
structure Steps (s t : State) : Prop where
  inv : s.Inv → t.Inv
  mode : t.mode = s.mode ∨ (s.mode, t.mode) ∈ modeMoves
  pending : t.pending = s.pending

/-- The outcome, if it is a next state, is a step as Table 1.5 has it. -/
def EndsStep (s : State) (r : Res) : Prop := ∀ t, r = .next t → Steps s t

theorem EndsStep.next (h : Steps s t) : EndsStep s (.next t) := by
  rintro u ⟨⟩
  exact h

theorem modeMoves_of_live {m n : Mode} (hm : m.live = true) (hn : n.live = true) : n = m ∨ (m, n) ∈ modeMoves := by
  revert hm hn
  cases m <;> cases n <;> decide

theorem off_moves (m : Mode) : .off = m ∨ (m, .off) ∈ modeMoves := by
  cases m <;> decide

theorem hold_moves {m : Mode} (hm : m ≠ .off) : .hold = m ∨ (m, .hold) ∈ modeMoves := by
  cases m with
  | off => exact absurd rfl hm
  | _ => decide

theorem Keeps.steps (h : Keeps s t) : Steps s t where
  inv := h.inv
  mode := h.mode.elim .inl fun hl => modeMoves_of_live hl.1 hl.2
  pending := h.pending

theorem Ends.step {r : Res} (h : Ends s r) : EndsStep s r := fun t ht => (h t ht).steps

/-- The device state set to one that Table 1.5 lists after that in which the command began. -/
theorem Keeps.steps_move {m : Mode} (h : Keeps s t) (hm : m = s.mode ∨ (s.mode, m) ∈ modeMoves) : Steps s { t with mode := m } where
  inv hi := (h.inv hi).setMode
  mode := hm
  pending := h.pending

/-- A step goes on with anything that `Keeps` allows and that leaves the device state. -/
theorem Steps.keeps {u : State} (h : Steps s t) (hu : Keeps t u) (hm : u.mode = t.mode) : Steps s u where
  inv hi := hu.inv (h.inv hi)
  mode := hm ▸ h.mode
  pending := hu.pending.trans h.pending

theorem raise_mode {n : Nat} : (s.raise n).mode = s.mode := by
  rw [(raise_signals s n []).1]

theorem bootBegin_mode : s.bootBegin.mode = s.mode := by
  unfold State.bootBegin
  split <;> rfl

/-- Boot ends in hold. -/
theorem Keeps.bootHold (hs : Keeps s t) (hb : s.mode = .boot) : Steps s t.bootHold := by
  unfold State.bootHold
  extract_lets a b
  have ha : Keeps s a := .foldl hs fun _ _ ih => .ite ih.bayClose ih
  have hm : Steps s { a with mode := .hold } := ha.steps_move (by rw [hb]; decide)
  exact hm.keeps (Keeps.refl _).same.wr.wr.wr.bootBegin bootBegin_mode

theorem execPdieBistEnd_step {sig : Option (BitVec 64)} {dur : Word} : EndsStep s (execPdieBistEnd sig dur s) := by
  have hs := Keeps.refl s
  unfold execPdieBistEnd
  extract_lets x pass
  split
  case isTrue hb =>
    split
    · exact .next hs.steps
    · refine .next ?_
      split
      · exact hs.sysMod.bootHold hb
      · exact hs.sysMod.steps
  case isFalse =>
    refine Ends.step ?_
    split
    · exact .ite (.next hs.wrB.bistResult.bistDone) (.next hs)
    · exact .next hs

theorem execBootPresenceDebounceEnd_step {vins : List (BitVec 5 × BitVec 16)} : EndsStep s (execBootPresenceDebounceEnd s vins) := by
  unfold execBootPresenceDebounceEnd
  split
  case isFalse => exact .next (Keeps.refl s).steps
  case isTrue hb =>
    extract_lets a
    have ha : Keeps s a := .foldl (Keeps.refl s).sysMod fun _ _ ih => .ite ih ih.bayPresent.bayMod
    refine .next ?_
    split
    · exact ha.bootHold hb.1
    · exact ha.steps

theorem execHardTrip_step : EndsStep s (execHardTrip s) := by
  have hs := Keeps.refl s
  unfold execHardTrip
  split
  case isTrue => exact .next hs.steps
  case isFalse hup =>
    have hon : s.mode ≠ .off := by
      rintro hoff
      simp [State.islandUp, hoff] at hup
    extract_lets a b c
    have ha : Keeps s a := by
      refine .powerKill ?_
      split
      case isTrue hl => exact hs.enterHold (live_of_lUp hl)
      case isFalse => exact hs.ldieStop
    have hb : Keeps s b := .foldl ha fun _ _ ih => .ite ih.bayOpenGate ih
    have hc : Keeps s c := hb.wr.wr.wr.capWipe
    exact .next ((hc.steps_move (hold_moves hon)).keeps (Keeps.refl _).sysMod.raise raise_mode)

theorem execIslandLoss_step : EndsStep s (execIslandLoss s) := by
  unfold execIslandLoss
  extract_lets a b c
  have ha : Keeps s a := (Keeps.refl s).galHold.ldieStop.powerKill.capWipe
  have hb : Keeps s b := .foldl ha fun _ _ ih => .ite ih ih.setArm.bayToOpen
  have hc : Keeps s c := hb.wr.wr
  refine .next ((hc.steps_move (off_moves s.mode)).keeps ((Keeps.refl _).upd fun h => ?_) rfl)
  exact ⟨h.regs, h.act, h.mem, h.evq, h.twq, h.offers, Nat.zero_le _⟩

theorem coldBase_inv (h : s.Inv) : s.coldBase.Inv :=
  ⟨Store.sorted_filter h.regs, Store.sorted_filter h.act, rfl, Nat.zero_le _, Nat.zero_le _, Nat.zero_le _, Nat.zero_le _⟩

theorem Keeps.coldReset {idxAddr twtAddr : Nat} {aux hv : Bool} : Keeps s.coldBase (s.coldReset idxAddr twtAddr aux hv) := by
  unfold State.coldReset
  extract_lets a b c
  have hc : Keeps s.coldBase c := (Keeps.refl _).wr.wrB.wr.wrB.wrB.wr.wr
  exact hc.showRetired.galShow.coldLearn.imgFactory.forceFollow

theorem off_boot_moves : (Mode.off, Mode.boot) ∈ modeMoves := by decide

/-- A cold reset ends in BOOT, with the queue as it was. -/
theorem coldReset_step {idxAddr twtAddr : Nat} {aux hv : Bool} (hm : s.mode = .off) : Steps s (s.coldReset idxAddr twtAddr aux hv) := by
  have h : Keeps s.coldBase (s.coldReset idxAddr twtAddr aux hv) := .coldReset
  refine ⟨fun hi => h.inv (coldBase_inv hi), .inr ?_, h.pending⟩
  rcases h.mode with e | ⟨hl, -⟩
  · rw [hm, e]
    exact off_boot_moves
  · cases hl

theorem execColdReset_step {testMode : Bool} {idxAddr : BitVec 4} {twtAddr : BitVec 2} {aux hv : Bool} :
    EndsStep s (execColdReset testMode idxAddr twtAddr aux hv s) := by
  unfold execColdReset
  split
  case isFalse => exact .next (Keeps.refl s).steps
  case isTrue hoff =>
    split
    · rintro t ⟨⟩
    · exact .next (coldReset_step hoff.1)

/-- Every command keeps the invariant and the queue, and changes the device state as Table 1.5 has it. -/
theorem exec_step (c : Instr) : EndsStep s (exec c s) := by
  cases hc : startsOrStops c with
  | false => exact (exec_ends hc (Keeps.refl s)).step
  | true =>
    cases c with
    | coldReset => exact execColdReset_step
    | islandLoss => exact execIslandLoss_step
    | hardTrip => exact execHardTrip_step
    | pdieBistEnd => exact execPdieBistEnd_step
    | bootPresenceDebounceEnd vins => exact execBootPresenceDebounceEnd_step (vins := vins)
    | _ => cases hc

end

/-! ### The obligations -/

/-- Settles O3: no store, queue or buffer of the reset state holds more than its bound, and its stores are in order. -/
theorem resetInv : Obligations.ResetInv where
  regs := rfl
  act := rfl
  mem := rfl
  evq := Nat.zero_le 64
  twq := Nat.zero_le 64
  offers := Nat.zero_le 64
  islBuf := Nat.zero_le 256

/-- Settles O4: the command at the front of the queue keeps the invariant, and so does the time that passes on an empty one. -/
theorem stepKeepsInv : Obligations.StepKeepsInv := by
  intro s t hi hst
  unfold step at hst
  split at hst
  · cases hst
    unfold State.idle
    split
    · exact hi
    · exact ⟨hi.regs, hi.act, hi.mem, hi.evq, hi.twq, hi.offers, hi.islBuf⟩
  · exact (exec_step _ t hst).inv ⟨hi.regs, hi.act, hi.mem, hi.evq, hi.twq, hi.offers, hi.islBuf⟩

/-- Settles O7: what every command keeps, and the five that start or stop the device. -/
theorem modeMovesObligation : Obligations.ModeMoves := fun c _ t h => (exec_step c t h).mode

end Sys2Proof.Machine

/-!
PROOFS. The survey sample and the thermal commands. First, what a step leaves: the fields of a range of pages (`Leaves`), and what a
fold does that meets an element once (`foldl_once`); then one part for each command.
-/

namespace Sys2Proof.Machine

section

set_option Elab.async false

variable {old s t : State} {f : Fld}

/-! ### Pages that a step leaves -/

/-- What raises events, sends tokens or offers records leaves every field that is on none of their places. -/
theorem signals_rd (h : onlySignals s t []) (he : ¬ evtKey f.key) (hp : f.key / 131072 ≠ 0x0F8) : t.rd f = s.rd f := by
  refine h.2 f he fun g hg e => hp ?_
  simp only [signalFields, List.append_nil, List.mem_cons, List.not_mem_nil, or_false] at hg
  rw [e]
  rcases hg with rfl | rfl <;> rfl

/-- The pages `a` to `b - 1`, but for their events. -/
def onPages (a b k : Nat) : Prop := a ≤ k / 131072 ∧ k / 131072 < b ∧ ¬ evtKey k

/-- Every field on the pages `a` to `b - 1`, but for their events, reads in `s` as in `old`. -/
def Leaves (a b : Nat) (old s : State) : Prop := ∀ f : Fld, onPages a b f.key → s.rd f = old.rd f

/-- The `i`th place of the row lies within a page. -/
abbrev Row.fits (r : Row) (i : Nat) : Prop := r.off + r.stride * i < 4096 ∧ r.lo < 32

theorem Row.page_at {r : Row} {pg i : Nat} (h : r.fits i) : (r.at pg i).key / 131072 = pg := by
  obtain ⟨hoff, hlo⟩ := h
  simp only [Row.at, Fld.key]
  omega

theorem Row.onPages_at {r : Row} {pg i a b : Nat} (h : r.off + r.stride * i < 4096 ∧ r.lo < 32 ∧ r.off + r.stride * i ≠ 0x014)
    (hp : a ≤ pg ∧ pg < b) : onPages a b (r.at pg i).key := by
  obtain ⟨hoff, hlo, hevt⟩ := h
  simp only [onPages, evtKey, Row.at, Fld.key]
  omega

/-- Two fields of one page at different places. -/
theorem Row.at_key_ne {r q : Row} {pg i j : Nat} (h : (r.off + r.stride * i) * 32 + r.lo ≠ (q.off + q.stride * j) * 32 + q.lo) :
    (r.at pg i).key ≠ (q.at pg j).key := by
  simp only [Row.at, Fld.key]
  omega

section

variable {a b : Nat}

theorem Leaves.refl (s : State) : Leaves a b s s := fun _ _ => rfl

theorem Leaves.same (h : Leaves a b old s) (e : t.regs = s.regs := by rfl) : Leaves a b old t := fun f hf => by
  rw [← h f hf, State.rd, State.rd, e]

theorem Leaves.wr {v : Nat} (h : Leaves a b old s) (hf : f.key / 131072 < a ∨ b ≤ f.key / 131072) : Leaves a b old (s.wr f v) :=
  fun g hg => (State.rd_wr_ne (fun e => by rw [← e] at hf; have := hg.1; have := hg.2.1; omega) v).trans (h g hg)

theorem Leaves.wrAt {r : Row} {pg i v : Nat} (h : Leaves a b old s) (hr : r.fits i)
    (hp : pg < a ∨ b ≤ pg) : Leaves a b old (s.wr (r.at pg i) v) := h.wr (by rwa [Row.page_at hr])

theorem Leaves.ite {p : Prop} [Decidable p] (h : Leaves a b old s) (h' : Leaves a b old t) :
    Leaves a b old (if p then s else t) := by
  split
  · exact h
  · exact h'

theorem Leaves.foldl {α : Type} {g : State → α → State} {l : List α} (h : Leaves a b old s)
    (hg : ∀ s, ∀ x ∈ l, Leaves a b old s → Leaves a b old (g s x)) : Leaves a b old (l.foldl g s) :=
  List.foldlRecOn l g h fun s hs x hx => hg s x hx hs

theorem Leaves.raise {n : Nat} (h : Leaves a b old s) (hb : b ≤ 0x0F8) : Leaves a b old (s.raise n) := fun g hg =>
  (signals_rd (raise_signals s n []) hg.2.2 (by have := hg.2.1; omega)).trans (h g hg)

theorem Leaves.token {src kind detail : Nat} (h : Leaves a b old s) (hb : b ≤ 0x0F8) : Leaves a b old (s.token src kind detail) :=
  fun g hg => (signals_rd (token_signals s src kind detail []) hg.2.2 (by have := hg.2.1; omega)).trans (h g hg)

theorem Leaves.late {src detail : Nat} (h : Leaves a b old s) (ha : 0x002 < a) (hb : b ≤ 0x0F8) :
    Leaves a b old (s.late src detail) :=
  (h.wrAt (r := Reg.fabRacelateCnt) (pg := 0x002) (i := 0) (by decide) (.inl ha)).token hb

end

/-- A late event changes no more of the state than its registers and what carries tokens. -/
theorem late_signals (s : State) (src detail : Nat) : onlySignals (s.incWrap (fabF Reg.fabRacelateCnt 0)) (s.late src detail) [] :=
  token_signals _ src 0x2E detail []

/-- A fold that meets `x` once: what stands before it holds up to there, what its step gives holds from there on. -/
theorem foldl_once {α : Type} {g : State → α → State} {l : List α} {x : α} {A B : State → Prop} (hx : x ∈ l) (hl : l.Nodup)
    (hA : A s) (keepA : ∀ s, ∀ y ∈ l, y ≠ x → A s → A (g s y)) (meet : ∀ s, A s → B (g s x))
    (keepB : ∀ s, ∀ y ∈ l, y ≠ x → B s → B (g s y)) : B (l.foldl g s) := by
  induction l generalizing s with
  | nil => exact absurd hx List.not_mem_nil
  | cons y l ih =>
    obtain ⟨hy, hl⟩ := List.nodup_cons.mp hl
    rcases List.mem_cons.mp hx with rfl | hx
    · exact List.foldlRecOn l g (meet s hA) fun s hB z hz => keepB s z (.tail _ hz) (fun e => hy (e ▸ hz)) hB
    · exact ih hx hl (keepA s y (.head l) (fun e => hy (e ▸ hx)) hA) (fun s z hz => keepA s z (.tail y hz))
        fun s z hz => keepB s z (.tail y hz)

/-! ### Die temperature (R477 to R480) -/

theorem sx_toNat (v : BitVec 16) : sx 16 v.toNat = v.toInt := by
  have hlt := v.isLt
  rw [BitVec.toInt_eq_toNat_cond]
  simp only [sx, bitOf]
  split_ifs <;> simp_all <;> omega

/-- A conversion that leaves a sensor whole: no failures, the reading, and the highest one. -/
def State.reads (s : State) (i v m g : Nat) : State :=
  let a := (s.wr (thmF (thmFails i) 0) 0).wr (thmF (thmTemp i) 0) v
  let b := if s.retired 2 (382 + i) then a else a.wr (srvF Reg.srvValSample (382 + i)) v
  (b.wr (thmF (thmMax i) 0) m).setGood i g

theorem setBroken_of_eq {i : Nat} {x : Bool} (h : s.broken i = x) : s.setBroken i x = s := if_pos h

theorem reads_rd {i v m g : Nat} (hf : f.key ≠ (thmF (thmFails i) 0).key) (ht : f.key ≠ (thmF (thmTemp i) 0).key)
    (hm : f.key ≠ (thmF (thmMax i) 0).key) (hs : f.key ≠ (srvF Reg.srvValSample (382 + i)).key) :
    (s.reads i v m g).rd f = s.rd f := by
  have hsrv (a : State) (c : Prop) [Decidable c] :
      State.rd (if c then a else a.wr (srvF Reg.srvValSample (382 + i)) v) f = a.rd f := by
    split
    · rfl
    · exact State.rd_wr_ne hs v
  unfold State.reads State.setGood
  rw [State.sysMod_rd, State.rd_wr_ne hm, hsrv, State.rd_wr_ne ht, State.rd_wr_ne hf]

theorem reads_rd_temp {i v m g : Nat} (hi : s.Inv) (hm : (thmF (thmTemp i) 0).key ≠ (thmF (thmMax i) 0).key)
    (hs : (thmF (thmTemp i) 0).key ≠ (srvF Reg.srvValSample (382 + i)).key) (hw : (thmF (thmTemp i) 0).width = 16) :
    (s.reads i v m g).rd (thmF (thmTemp i) 0) = v % 2 ^ 16 := by
  have hself : ((s.wr (thmF (thmFails i) 0) 0).wr (thmF (thmTemp i) 0) v).rd (thmF (thmTemp i) 0) = v % 2 ^ 16 := by
    rw [State.rd_wr_self (State.wr_sorted hi.regs _ _), hw]
  have hsrv (a : State) (c : Prop) [Decidable c] :
      State.rd (if c then a else a.wr (srvF Reg.srvValSample (382 + i)) v) (thmF (thmTemp i) 0) = a.rd (thmF (thmTemp i) 0) := by
    split
    · rfl
    · exact State.rd_wr_ne hs v
  unfold State.reads State.setGood
  rw [State.sysMod_rd, State.rd_wr_ne hm, hsrv, hself]

theorem convert_reads {i : Nat} {v : BitVec 16} (hb : s.broken i = false) (hlo : -480 ≤ v.toInt) (hhi : v.toInt ≤ 1600)
    (hbrk : (thmF (thmBrk i) 0).key ≠ (thmF (thmFails i) 0).key ∧ (thmF (thmBrk i) 0).key ≠ (thmF (thmTemp i) 0).key
      ∧ (thmF (thmBrk i) 0).key ≠ (thmF (thmMax i) 0).key ∧ (thmF (thmBrk i) 0).key ≠ (srvF Reg.srvValSample (382 + i)).key) :
    ∃ m g, s.convert i (some v) = s.reads i v.toNat m g := by
  obtain ⟨hf, ht, hm, hs⟩ := hbrk
  have hrange : ¬ (v.toInt < -480 ∨ 1600 < v.toInt) := by omega
  have hwhole (m g : Nat) : (s.reads i v.toNat m g).broken i = false := by
    unfold State.broken State.rdB
    rw [reads_rd hf ht hm hs]
    exact hb
  unfold State.convert
  dsimp only
  rw [if_neg hrange]
  exact ⟨_, _, (if_congr Iff.rfl (setBroken_of_eq (hwhole _ _)) rfl).trans (ite_self _)⟩

/-- The fields of THM_STAT that a reading of a whole sensor leaves: the level, and which sensor is broken. -/
def thmKept : List Row := [Reg.thmStatLevel, Reg.thmStatLbrk, Reg.thmStatPbrk]

/-- `s` has measured since `old`: the values in effect and the kept status stand as they stood. -/
structure Measured (old s : State) : Prop where
  inv : s.Inv
  act : s.act = old.act
  kept : ∀ r ∈ thmKept, s.rd (thmF r 0) = old.rd (thmF r 0)

theorem Measured.refl (hi : s.Inv) : Measured s s := ⟨hi, rfl, fun _ _ => rfl⟩

theorem Measured.level (h : Measured old s) : s.thmLevel = old.thmLevel := h.kept _ (by simp [thmKept])

theorem Measured.broken (h : Measured old s) (i : Nat) : s.broken i = old.broken i := by
  refine congrArg (· != 0) (h.kept _ ?_)
  unfold thmBrk
  split <;> simp [thmKept]

theorem Measured.anyBroken (h : Measured old s) : s.anyBroken = old.anyBroken := by
  unfold State.anyBroken
  rw [h.broken, h.broken]

theorem Measured.lvl8 (h : Measured old s) {r : Row} (hr : r.staged = true) : s.lvl8 r = old.lvl8 r := by
  have heff : s.eff (thmF r 0) = old.eff (thmF r 0) := by
    unfold State.eff
    rw [show (thmF r 0).staged = true from hr, h.act]
    rfl
  exact congrArg (fun n : Nat => (8 * n : Int)) heff

theorem reads_inv {i v m g : Nat} (hi : s.Inv) : (s.reads i v m g).Inv := by
  have hw := (Keeps.refl s).wr (f := thmF (thmFails i) 0) (v := 0) |>.wr (f := thmF (thmTemp i) 0) (v := v)
  unfold State.reads
  dsimp only
  split
  · exact hw.wr.sysMod.inv hi
  · exact hw.wr.wr.sysMod.inv hi

/-- The readings of a sensor lie apart from the kept status. -/
theorem thmKept_keys {i : Nat} (hi : i < 2) {r : Row} (hr : r ∈ thmKept) :
    (thmF r 0).key ≠ (thmF (thmFails i) 0).key ∧ (thmF r 0).key ≠ (thmF (thmTemp i) 0).key
      ∧ (thmF r 0).key ≠ (thmF (thmMax i) 0).key ∧ (thmF r 0).key ≠ (srvF Reg.srvValSample (382 + i)).key := by
  revert i r
  decide

theorem Measured.reads (h : Measured old s) {i v m g : Nat} (hi : i < 2) : Measured old (s.reads i v m g) where
  inv := reads_inv h.inv
  act := by
    unfold State.reads
    split <;> exact h.act
  kept r hr := by
    obtain ⟨hf, ht, hm, hs⟩ := thmKept_keys hi hr
    exact (reads_rd hf ht hm hs).trans (h.kept r hr)

theorem Measured.convert (h : Measured old s) {i : Nat} (hi : i < 2) {v : BitVec 16} (hb : old.broken i = false)
    (hlo : -480 ≤ v.toInt) (hhi : v.toInt ≤ 1600) :
    Measured old (s.convert i (some v)) ∧ (s.convert i (some v)).dieTemp i = v.toInt
      ∧ ∀ j < 2, j ≠ i → (s.convert i (some v)).dieTemp j = s.dieTemp j := by
  have hbrk : thmBrk i ∈ thmKept := by
    unfold thmBrk
    split <;> simp [thmKept]
  obtain ⟨m, g, e⟩ := convert_reads (h.broken i ▸ hb) hlo hhi (thmKept_keys hi hbrk)
  rw [e]
  refine ⟨h.reads hi, ?_, fun j hj hji => ?_⟩
  · unfold State.dieTemp
    have hcase : i = 0 ∨ i = 1 := by omega
    rw [reads_rd_temp h.inv, Nat.mod_eq_of_lt v.isLt, sx_toNat]
    all_goals rcases hcase with rfl | rfl <;> decide
  · unfold State.dieTemp
    have hcase : i = 0 ∧ j = 1 ∨ i = 1 ∧ j = 0 := by omega
    rw [reads_rd]
    all_goals rcases hcase with ⟨rfl, rfl⟩ | ⟨rfl, rfl⟩ <;> decide

theorem Measured.late (h : Measured old s) : Measured old (s.late 851) := by
  refine ⟨(Keeps.refl s).late.inv h.inv, ?_, fun r hr => ?_⟩
  · rw [(late_signals s 851 0).1]
    exact h.act
  · have hoff : r.off + r.stride * 0 < 4096 ∧ r.lo < 32 ∧ r.off + r.stride * 0 ≠ 0x014 := by
      clear * - hr
      revert r
      decide
    exact ((Leaves.refl s).late (a := 0x0B0) (b := 0x0B1) (by decide) (by decide) _ (Row.onPages_at hoff (by decide))).trans
      (h.kept r hr)

/-- Both sensors whole and read within their range, at level 0: the next level is 1 if the hotter reaches WARN, else 0. -/
theorem nextLevel_whole {l p : Bool} (hb : s.anyBroken = false) (hl : s.thmLevel = 0) :
    s.nextLevel l p = if s.lvl8 Reg.thmLvlWarn ≤ max (s.dieTemp 0) (s.dieTemp 1) then 1 else 0 := by
  obtain ⟨h0, h1⟩ := Bool.or_eq_false_iff.mp hb
  have hhot : s.hotter = some (max (s.dieTemp 0) (s.dieTemp 1)) := by
    simp only [State.hotter, List.filter, h0, h1, Bool.not_false, List.map, List.max?_cons', List.foldl]
  simp only [State.nextLevel, hl, if_true, State.reached, hb, hhot, Bool.false_or, decide_eq_true_eq]

theorem raise_thm {r : Row} {k n : Nat} (h : r.off + r.stride * k < 4096 ∧ r.lo < 32 ∧ r.off + r.stride * k ≠ 0x014) :
    (s.raise n).rd (thmF r k) = s.rd (thmF r k) :=
  (Leaves.refl s).raise (by decide) _ (Row.onPages_at h (a := 0x0B0) (b := 0x0B1) (by decide))

/-- From level 0 the level moves to 1 or stays, and neither reading moves with it. -/
theorem Measured.goLevel (h : Measured old s) (hl : old.thmLevel = 0) {c : Prop} [Decidable c] :
    let u := s.goLevel (if c then 1 else 0)
    u.thmLevel = (if c then 1 else 0) ∧ ∀ i < 2, u.dieTemp i = s.dieTemp i := by
  intro u
  have hlev : s.thmLevel = 0 := h.level.trans hl
  unfold u
  split
  case isFalse =>
    have e : s.goLevel 0 = s := by
      unfold State.goLevel
      rw [hlev]
      rfl
    rw [e]
    exact ⟨hlev, fun _ _ => rfl⟩
  case isTrue =>
    have e : s.goLevel 1 = (s.wr (thmF Reg.thmStatLevel 0) 1).raise 848 := by
      unfold State.goLevel
      rw [hlev]
      rfl
    rw [e]
    refine ⟨?_, fun i hi => ?_⟩
    · unfold State.thmLevel
      rw [raise_thm (by decide), State.rd_wr_self h.inv.regs]
      rfl
    · have htemp : ((thmTemp i).off + (thmTemp i).stride * 0 < 4096 ∧ (thmTemp i).lo < 32 ∧
          (thmTemp i).off + (thmTemp i).stride * 0 ≠ 0x014) ∧ (thmF (thmTemp i) 0).key ≠ (thmF Reg.thmStatLevel 0).key := by
        unfold thmTemp
        split <;> decide
      obtain ⟨hplace, hkey⟩ := htemp
      unfold State.dieTemp
      rw [raise_thm hplace, State.rd_wr_ne hkey]

/-- The judgement of the sample period writes FAST alone (R477). -/
theorem sampleRate_rd (hf : f.key ≠ (thmF Reg.thmStatFast 0).key) : s.sampleRate.rd f = s.rd f := by
  unfold State.sampleRate
  extract_lets f hot cool
  split
  · exact State.rd_wr_ne hf 1
  · split
    · rfl
    · split
      · split
        · exact State.rd_wr_ne hf 0
        · rfl
      · rfl

/-- The state after both conversions of a sample that gave two readings. -/
def State.bothRead (s : State) (a b : BitVec 16) (late : Bool) : State :=
  ((if late then s.late 851 else s).convert 0 (some a)).convert 1 (some b)

theorem Measured.bothRead {a b : BitVec 16} {late : Bool} (hi : s.Inv) (hb : s.anyBroken = false)
    (ha : -480 ≤ a.toInt ∧ a.toInt ≤ 1600) (hb' : -480 ≤ b.toInt ∧ b.toInt ≤ 1600) :
    Measured s (s.bothRead a b late) ∧ (s.bothRead a b late).dieTemp 0 = a.toInt ∧ (s.bothRead a b late).dieTemp 1 = b.toInt := by
  obtain ⟨h0, h1⟩ := Bool.or_eq_false_iff.mp hb
  have m0 : Measured s (if late then s.late 851 else s) := by
    split
    · exact (Measured.refl hi).late
    · exact .refl hi
  obtain ⟨m1, ta, -⟩ := m0.convert (i := 0) (by decide) h0 ha.1 ha.2
  obtain ⟨m2, tb, tab⟩ := m1.convert (i := 1) (by decide) h1 hb'.1 hb'.2
  exact ⟨m2, (tab 0 (by decide) (by decide)).trans ta, tb⟩

/-- DIE_TEMP_SAMPLE with both sensors whole and within their range, from level 0 (R477 to R480). -/
theorem execDieTempSample_whole {a b : BitVec 16} {late : Bool} (hi : s.Inv) (hup : s.islandUp = true)
    (hcb : s.rdB (hdr Reg.pgCbusy 0x0B0) = false) (hb : s.anyBroken = false) (hl : s.thmLevel = 0)
    (ha : -480 ≤ a.toInt ∧ a.toInt ≤ 1600) (hb' : -480 ≤ b.toInt ∧ b.toInt ≤ 1600) :
    ∃ u, exec (.dieTempSample (some a) (some b) late) s = .next (s.follow u) ∧ u.dieTemp 0 = a.toInt ∧ u.dieTemp 1 = b.toInt
      ∧ u.thmLevel = if s.lvl8 Reg.thmLvlWarn ≤ max a.toInt b.toInt then 1 else 0 := by
  obtain ⟨m, ta, tb⟩ := Measured.bothRead (late := late) hi hb ha hb'
  have hnext := nextLevel_whole (l := true) (p := true) (m.anyBroken.trans hb) (m.level.trans hl)
  rw [m.lvl8 rfl, ta, tb] at hnext
  obtain ⟨gl, gt⟩ := m.goLevel hl (c := s.lvl8 Reg.thmLvlWarn ≤ max a.toInt b.toInt)
  rw [← hnext] at gt gl
  have htemp (i : Nat) : (thmF (thmTemp i) 0).key ≠ (thmF Reg.thmStatFast 0).key := by
    unfold thmTemp
    split <;> decide
  refine ⟨((s.bothRead a b late).goLevel ((s.bothRead a b late).nextLevel true true)).sampleRate, ?_, ?_, ?_, ?_⟩
  · show execDieTempSample (some a) (some b) late s = _
    unfold execDieTempSample
    rw [hup, hcb]
    exact if_neg Bool.false_ne_true
  · exact (congrArg (sx 16) (sampleRate_rd (htemp 0))).trans ((gt 0 (by decide)).trans ta)
  · exact (congrArg (sx 16) (sampleRate_rd (htemp 1))).trans ((gt 1 (by decide)).trans tb)
  · exact (sampleRate_rd (by decide)).trans (gl.trans hnext)

/-! ### Power of the L-die and the hard trip (R482, R483) -/

theorem execLdiePowerDown_grace {late : Bool} (hi : s.Inv) (hg : s.sys.grace.isSome = true) :
    ∃ t, exec (.ldiePowerDown late) s = .next t ∧ t.rd (thmF Reg.thmStatLoff 0) = 1 ∧ t.sys.grace = none ∧ t.mem = [] := by
  have hoff : (s.wr (thmF Reg.thmStatLoff 0) 1).rd (thmF Reg.thmStatLoff 0) = 1 := State.rd_wr_self hi.regs _ 1
  refine ⟨_, if_pos hg, ?_⟩
  split
  · have hlate := (Leaves.refl (State.sysMod (s.wr (thmF Reg.thmStatLoff 0) 1).capWipe fun x => { x with grace := none })).late
      (a := 0x0B0) (b := 0x0B1) (src := 850) (detail := 0) (by decide) (by decide)
    obtain ⟨e, -⟩ := late_signals (State.sysMod (s.wr (thmF Reg.thmStatLoff 0) 1).capWipe fun x => { x with grace := none }) 850 0
    exact ⟨(hlate _ (Row.onPages_at (by decide) (by decide))).trans hoff, by rw [e]; rfl, by rw [e]; rfl⟩
  · exact ⟨hoff, rfl, rfl⟩

/-- A bay's state code is the one written. -/
theorem setBay_bayState {n st : Nat} (hs : s.regs.sorted = true) : (s.setBay n st).bayState n = st % 16 := by
  have hother {a : State} {r : Row} {v : Nat} (hr : (r.off + r.stride * 0) * 32 + r.lo ≠ 0x70 * 32) :
      (a.wr (bayF r n) v).rd (bayF Reg.bayStatState n) = a.rd (bayF Reg.bayStatState n) :=
    State.rd_wr_ne (Row.at_key_ne (Ne.symm hr)) v
  have hstate (a : State) (ha : a.regs = s.regs) : (a.wr (bayF Reg.bayStatState n) st).rd (bayF Reg.bayStatState n) = st % 16 :=
    State.rd_wr_self (ha ▸ hs) _ st
  unfold State.setBay State.bayState State.wrB
  dsimp only
  split_ifs <;> simp (disch := decide) only [hother] <;> exact hstate _ rfl


section

variable {a b : Nat}

theorem Leaves.wrBay {r : Row} {n v : Nat} (h : Leaves a b old s) (hr : r.fits 0)
    (hn : 0x010 + n < a ∨ b ≤ 0x010 + n) : Leaves a b old (s.wr (bayF r n) v) := h.wrAt hr hn

theorem Leaves.setBay {n st : Nat} (h : Leaves a b old s) (hn : 0x010 + n < a ∨ b ≤ 0x010 + n) :
    Leaves a b old (s.setBay n st) := by
  have hslow : Leaves a b old (if s.bayState n = 4 ∨ st = 4 then s.slowCount n else s) := .ite h.same h
  have hstat := (((hslow.wrBay (v := st) (r := Reg.bayStatState) (by decide) hn).wrBay (v := b2n (st == 4))
    (r := Reg.bayStatLimiting) (by decide) hn).wrBay (v := b2n (st == 5 || st == 6)) (r := Reg.bayStatTripped) (by decide)
    hn).wrBay (v := b2n (st == 9)) (r := Reg.bayStatRetired) (by decide) hn
  have hgood := Leaves.ite (p := (st == 3 || st == 4) = true) hstat (hstat.wrBay (v := 0) (r := Reg.bayStatPgood) (by decide) hn)
  exact .ite hgood (hgood.wrBay (by decide) hn)

theorem Leaves.bayOpenGate {n : Nat} {fast : Bool} (h : Leaves a b old s) (hn : 0x010 + n < a ∨ b ≤ 0x010 + n) :
    Leaves a b old (s.bayOpenGate n fast) := ((h.wrBay (r := Reg.bayCtlArm) (by decide) hn).setBay hn).same

theorem Leaves.phKill {j : Nat} (h : Leaves a b old s) (hj : 0x050 + j / 4 < a ∨ b ≤ 0x050 + j / 4) :
    Leaves a b old (s.phKill j) := by
  have hst : Leaves a b old { s with ph := vmod s.ph j fun _ => {} } := h.same
  exact .ite hst (hst.wrAt (r := Reg.phStatState) (by simp only [Row.fits, Reg.phStatState]; omega) hj)

theorem Leaves.powerDone (h : Leaves a b old s) (ha : 0x020 ≤ a) (hb : b ≤ 0x050) :
    Leaves a b old ((((List.range 64).foldl State.phKill s).wr (hldF Reg.hldStatState 0) 0).wr (abc0F Reg.abcStatHoldup 0) 0) := by
  have hph : Leaves a b old ((List.range 64).foldl State.phKill s) := h.foldl fun s j hj hs => hs.phKill (by omega)
  exact (hph.wrAt (r := Reg.hldStatState) (pg := 0x066) (i := 0) (by decide) (by omega)).wrAt (r := Reg.abcStatHoldup)
    (by decide) (by omega)

end

theorem bayOpenGate_bayState {n : Nat} {fast : Bool} (hi : s.Inv) : (s.bayOpenGate n fast).bayState n = 8 :=
  setBay_bayState (s := s.setArm n false) (wr_inv hi _ _).regs

/-- What the hard trip does to a bay: its gate falls if the bay conducts or opens (R483). -/
def State.tripBay (s : State) (n : Nat) : State := if s.bayClosed n || s.bayState n == 7 then s.bayOpenGate n true else s

theorem tripBay_inv {n : Nat} (hi : s.Inv) : (s.tripBay n).Inv := (Keeps.ite (Keeps.refl s).bayOpenGate (.refl s)).inv hi

theorem tripBay_open {n : Nat} (hi : s.Inv) : (s.tripBay n).bayClosed n = false := by
  unfold State.tripBay
  split
  · exact congrArg bayClosedCode (bayOpenGate_bayState hi)
  · rename_i hc
    rw [Bool.or_eq_true, not_or] at hc
    exact Bool.eq_false_iff.mpr hc.1

theorem tripBay_bayState_ne {m n : Nat} (h : m ≠ n) : (s.tripBay m).bayState n = s.bayState n := by
  have hl : Leaves (0x010 + n) (0x011 + n) s (s.tripBay m) := .ite ((Leaves.refl s).bayOpenGate (by omega)) (.refl s)
  exact hl _ (Row.onPages_at (by decide) (by omega))

/-- After every bay has been met, none conducts. -/
theorem tripBays_open {n : Nat} (hi : s.Inv) (hn : n < 48) : ((List.range 48).foldl State.tripBay s).bayClosed n = false := by
  have keep (s : State) (m : Nat) (_ : m ∈ List.range 48) (hm : m ≠ n) (h : s.Inv ∧ s.bayClosed n = false) :
      (s.tripBay m).Inv ∧ (s.tripBay m).bayClosed n = false :=
    ⟨tripBay_inv h.1, (congrArg bayClosedCode (tripBay_bayState_ne hm)).trans h.2⟩
  have hall := foldl_once (g := State.tripBay) (l := List.range 48) (B := fun s => s.Inv ∧ s.bayClosed n = false)
    (List.mem_range.mpr hn) List.nodup_range hi (fun s m _ _ h => tripBay_inv h) (fun s h => ⟨tripBay_inv h, tripBay_open h⟩) keep
  exact hall.2

theorem Leaves.tripBays {a b : Nat} (h : Leaves a b old s) (ha : 0x040 ≤ a) :
    Leaves a b old ((List.range 48).foldl State.tripBay s) :=
  h.foldl fun s n hn hs => .ite (hs.bayOpenGate (by have := List.mem_range.mp hn; omega)) hs

theorem rd_of_regs (e : t.regs = s.regs) : t.rd f = s.rd f := by rw [State.rd, State.rd, e]

theorem wrPwr_loopSt {n v : Nat} {r : Row} (hr : r.fits 0) :
    (s.wr (pwrF r n) v).loopSt n = s.loopSt n := by
  refine State.rd_wr_ne (fun e => ?_) v
  have hp := congrArg (· / 131072) e
  simp only [pwrF, loopF, Row.page_at hr, Row.page_at (r := Reg.loopStatState) (i := 0) (by decide)] at hp
  omega

theorem wrLoop_loopSt {n v : Nat} {r : Row} (hr : (r.off + r.stride * 0) * 32 + r.lo ≠ 0xC0 * 32) :
    (s.wr (loopF r n) v).loopSt n = s.loopSt n := State.rd_wr_ne (Row.at_key_ne (Ne.symm hr)) v

/-- The fields of a loop's page that its end without power clears. -/
def loopCleared : List Row :=
  [Reg.loopStatState, Reg.loopStatPgood, Reg.loopStatIlimit, Reg.loopStatLocalsns, Reg.loopStatBank, Reg.loopStatSwpend,
    Reg.loopVrefVref, Reg.loopDnowDuty, Reg.loopImeasIout]

/-- The fields of its power page that it clears. -/
def pwrCleared : List Row := [Reg.phPinPin, Reg.phPlossPloss, Reg.phPnowPnow]

theorem loopCleared_loopSt {n : Nat} (hi : s.Inv) : (loopCleared.foldl (fun t r => t.wr (loopF r n) 0) s).loopSt n = 0 := by
  refine foldl_once (x := Reg.loopStatState) (A := State.Inv) (B := fun t => t.loopSt n = 0) (by decide) (by decide) hi
    (fun t r _ _ ht => wr_inv ht _ 0) (fun t ht => State.rd_wr_self ht.regs _ 0) fun t r hr hne ht => (wrLoop_loopSt ?_).trans ht
  revert r
  decide

theorem pwrCleared_loopSt {n : Nat} (h : s.loopSt n = 0) : (pwrCleared.foldl (fun t r => t.wr (pwrF r n) 0) s).loopSt n = 0 := by
  refine List.foldlRecOn (motive := fun t : State => t.loopSt n = 0) _ _ h fun t ht r hr => (wrPwr_loopSt ?_).trans ht
  revert r
  decide

theorem withLoop_loopSt {n : Nat} (v : Vector LoopS 16) (h : s.loopSt n = 0) : State.loopSt { s with loop := v } n = 0 :=
  (rd_of_regs rfl).trans h

theorem loopKill_loopSt {n : Nat} (hi : s.Inv) : (s.loopKill n).loopSt n = 0 :=
  withLoop_loopSt _ (pwrCleared_loopSt (loopCleared_loopSt hi))

theorem Leaves.loopKill {a b n : Nat} (h : Leaves a b old s) (hn : 0x040 + n < a ∨ b ≤ 0x040 + n)
    (hp : 0x050 + n < a ∨ b ≤ 0x050 + n) :
    Leaves a b old (s.loopKill n) := by
  have hloop {t : State} {r : Row} (ht : Leaves a b old t) (hr : r.fits 0) :
      Leaves a b old (t.wr (loopF r n) 0) := ht.wrAt hr hn
  have hpower {t : State} {r : Row} (ht : Leaves a b old t) (hr : r.fits 0) :
      Leaves a b old (t.wr (pwrF r n) 0) := ht.wrAt hr hp
  unfold State.loopKill
  extract_lets z c d
  have hc : Leaves a b old c := h.foldl fun s r hr hs => hloop hs (by revert hr; revert r; decide)
  have hd : Leaves a b old d := hc.foldl fun s r hr hs => hpower hs (by revert hr; revert r; decide)
  exact hd.same

theorem powerKill_loopSt {n : Nat} (hi : s.Inv) (hn : n < 16) : s.powerKill.loopSt n = 0 := by
  have keep (s : State) (m : Nat) (hm : m ∈ List.range 16) (hne : m ≠ n) (h : s.Inv ∧ s.loopSt n = 0) :
      (s.loopKill m).Inv ∧ (s.loopKill m).loopSt n = 0 := by
    have hl : Leaves (0x040 + n) (0x041 + n) s (s.loopKill m) := (Leaves.refl s).loopKill (by omega) (by omega)
    exact ⟨(Keeps.refl s).loopKill.inv h.1, (hl _ (Row.onPages_at (by decide) (by omega))).trans h.2⟩
  have hall := foldl_once (g := State.loopKill) (l := List.range 16) (B := fun s => s.Inv ∧ s.loopSt n = 0)
    (List.mem_range.mpr hn) List.nodup_range hi (fun s m _ _ h => (Keeps.refl s).loopKill.inv h)
    (fun s h => ⟨(Keeps.refl s).loopKill.inv h, loopKill_loopSt h⟩) keep
  exact ((Leaves.refl _).powerDone (a := 0x040) (b := 0x050) (by decide) (by decide) _
    (Row.onPages_at (by decide) (by omega))).trans hall.2

/-- The L-die stops, every phase with it, and every gate falls. -/
def State.tripped (s : State) : State :=
  (List.range 48).foldl State.tripBay (if s.lUp then s.enterHold 6 else s.ldieStop).powerKill

theorem stopped_inv (hi : s.Inv) : (if s.lUp then s.enterHold 6 else s.ldieStop).Inv := by
  split
  case isTrue hup => exact ((Keeps.refl s).enterHold (live_of_lUp hup)).inv hi
  case isFalse => exact (Keeps.refl s).ldieStop.inv hi

theorem tripped_inv (hi : s.Inv) : s.tripped.Inv :=
  List.foldlRecOn _ _ ((Keeps.refl _).powerKill.inv (stopped_inv hi)) fun _ h _ _ => tripBay_inv h

theorem tripped_bayClosed {n : Nat} (hi : s.Inv) (hn : n < 48) : s.tripped.bayClosed n = false :=
  tripBays_open ((Keeps.refl _).powerKill.inv (stopped_inv hi)) hn

/-- The end of the hard trip: level 4 and HARDTRIP, the L-die without power (R483). -/
def State.tripShown (s : State) : State :=
  State.raise ({ (((s.wr (thmF Reg.thmStatLevel 0) 4).wr (thmF Reg.thmStatHardtrip 0) 1).wr (thmF Reg.thmStatLoff 0) 1).capWipe with
    mode := .hold }.sysMod fun x => { x with grace := none }) 852

theorem Leaves.tripShown {a b : Nat} (h : Leaves a b old s) (hb : b ≤ 0x0B0) : Leaves a b old s.tripShown := by
  have hthm {t : State} {r : Row} {v : Nat} (ht : Leaves a b old t) (hr : r.fits 0) :
      Leaves a b old (t.wr (thmF r 0) v) := ht.wrAt hr (.inr hb)
  have hw := hthm (r := Reg.thmStatLoff) (v := 1) (hthm (r := Reg.thmStatHardtrip) (v := 1)
    (hthm (r := Reg.thmStatLevel) (v := 4) h (by decide)) (by decide)) (by decide)
  exact (hw.same (t := State.sysMod { (State.capWipe _) with mode := .hold } _)).raise (by omega)

theorem tripShown_mode : s.tripShown.mode = .hold := by
  unfold State.tripShown
  rw [(raise_signals _ 852 []).1]
  rfl

theorem tripShown_rd {r : Row} (hr : r.off + r.stride * 0 < 4096 ∧ r.lo < 32 ∧ r.off + r.stride * 0 ≠ 0x014) :
    s.tripShown.rd (thmF r 0)
      = (((s.wr (thmF Reg.thmStatLevel 0) 4).wr (thmF Reg.thmStatHardtrip 0) 1).wr (thmF Reg.thmStatLoff 0) 1).rd (thmF r 0) :=
  (raise_thm hr).trans (rd_of_regs rfl)

theorem tripShown_hardtrip (hi : s.Inv) : s.tripShown.rd (thmF Reg.thmStatHardtrip 0) = 1 := by
  rw [tripShown_rd (by decide), State.rd_wr_ne (by decide), State.rd_wr_self (State.wr_sorted hi.regs _ _)]
  rfl

theorem tripShown_level (hi : s.Inv) : s.tripShown.thmLevel = 4 := by
  rw [State.thmLevel, tripShown_rd (by decide), State.rd_wr_ne (by decide), State.rd_wr_ne (by decide), State.rd_wr_self hi.regs]
  rfl

/-- HARD_TRIP where it has not struck yet (R483). -/
theorem execHardTrip_up (hi : s.Inv) (hup : s.islandUp = true) (ht : s.rdB (thmF Reg.thmStatHardtrip 0) = false) :
    ∃ t, exec .hardTrip s = .next t ∧ t.mode = .hold ∧ t.rd (thmF Reg.thmStatHardtrip 0) = 1 ∧ t.thmLevel = 4
      ∧ (∀ n < 48, t.bayClosed n = false) ∧ (∀ n < 16, t.loopRunning n = false) := by
  have hti := tripped_inv hi
  refine ⟨s.tripped.tripShown, ?_, tripShown_mode, tripShown_hardtrip hti, tripShown_level hti, fun n hn => ?_, fun n hn => ?_⟩
  · exact if_neg (by rw [hup, ht]; decide)
  · have hbay := (Leaves.refl s.tripped).tripShown (a := 0x010) (b := 0x040) (by decide) _
      (Row.onPages_at (r := Reg.bayStatState) (i := 0) (by decide) ⟨Nat.le_add_right _ n, by omega⟩)
    exact (congrArg bayClosedCode hbay).trans (tripped_bayClosed hi hn)
  · have hloop := ((Leaves.refl (if s.lUp then s.enterHold 6 else s.ldieStop).powerKill).tripBays (by decide)).tripShown
      (a := 0x040) (b := 0x050) (by decide) _ (Row.onPages_at (r := Reg.loopStatState) (i := 0) (by decide)
        ⟨Nat.le_add_right _ n, by omega⟩)
    exact congrArg loopRunCode (hloop.trans (powerKill_loopSt (stopped_inv hi) hn))

/-! ### Thermistors (R484) -/

theorem raise_act (s : State) (n : Nat) : (s.raise n).act = s.act := by rw [(raise_signals s n []).1]

theorem raise_rd {n : Nat} (he : ¬ evtKey f.key) (hp : f.key / 131072 ≠ 0x0F8) : (s.raise n).rd f = s.rd f :=
  signals_rd (raise_signals s n []) he hp

theorem eff_of_act (hf : f.staged = true) (h : s.act = old.act) : s.eff f = old.eff f := by
  rw [State.eff, State.eff, h, hf]
  rfl

section

variable {v : List (BitVec 22)} {m n : Nat}

theorem thermUpdate_act : (State.thermUpdate v s n).act = s.act := by
  unfold State.thermUpdate
  split
  · rfl
  · dsimp only
    split
    · exact raise_act _ _
    · split
      · split
        · rfl
        · exact raise_act _ _
      · split <;> rfl

/-- The report of one thermistor writes its own reading alone. -/
theorem thermUpdate_rd (hv : f.key ≠ (thmF Reg.thmMonValid m).key) (ho : f.key ≠ (thmF Reg.thmMonOver m).key)
    (ht : f.key ≠ (thmF Reg.thmMonTemp m).key) (he : ¬ evtKey f.key) (hp : f.key / 131072 ≠ 0x0F8) :
    (State.thermUpdate v s m).rd f = s.rd f := by
  unfold State.thermUpdate
  split
  · rw [State.rd_wr_ne ho, State.rd_wr_ne hv]
  · dsimp only
    split
    · rw [raise_rd he hp, State.rd_wr_ne hv]
    · split
      · split
        · rw [State.rd_wr_ne hv, State.rd_wr_ne ht]
        · rw [raise_rd he hp, State.rd_wr_ne ho, State.rd_wr_ne hv, State.rd_wr_ne ht]
      · split
        · rw [State.rd_wr_ne ho, State.rd_wr_ne hv, State.rd_wr_ne ht]
        · rw [State.rd_wr_ne hv, State.rd_wr_ne ht]

/-- The row of a reading of the thermistors. -/
abbrev Row.isMon (r : Row) : Prop := r.off = 0x84 ∧ r.stride = 8 ∧ r.lo < 32

theorem thmMon_key_ne {r q : Row} (hr : r.isMon) (hq : q.isMon) (h : m ≠ n) :
    (thmF r n).key ≠ (thmF q m).key := by
  obtain ⟨ro, rs, rl⟩ := hr
  obtain ⟨qo, qs, ql⟩ := hq
  simp only [thmF, Row.at, Fld.key, ro, rs, qo, qs]
  omega

theorem thermUpdate_mon_ne {r : Row} (hr : r.isMon) (hn : n < 32) (h : m ≠ n) :
    (State.thermUpdate v s m).rd (thmF r n) = s.rd (thmF r n) := by
  refine thermUpdate_rd (thmMon_key_ne hr (by decide) h) (thmMon_key_ne hr (by decide) h) (thmMon_key_ne hr (by decide) h) ?_ ?_
  all_goals
    obtain ⟨ro, rs, rl⟩ := hr
    simp only [evtKey, thmF, Row.at, Fld.key, ro, rs]
    omega

theorem retBit_survey (k : Nat) : retBit 2 k = (flt1F Reg.fltRsvRet (k / 32), k % 32) := rfl

theorem thermUpdate_retired {k : Nat} (hm : m < 32) (hk : k < 384) : (State.thermUpdate v s m).retired 2 k = s.retired 2 k := by
  have hret : Reg.fltRsvRet.off + Reg.fltRsvRet.stride * (k / 32) < 4096 ∧ Reg.fltRsvRet.lo < 32 := by
    simp only [Reg.fltRsvRet]
    omega
  have hpage : (flt1F Reg.fltRsvRet (k / 32)).key / 131072 = 0x0F1 := Row.page_at hret
  have hkey {r : Row} (hr : r.isMon) : (flt1F Reg.fltRsvRet (k / 32)).key ≠ (thmF r m).key := by
    intro e
    have hp := Row.page_at (r := r) (pg := 0x0B0) (i := m) ⟨by rw [hr.1, hr.2.1]; omega, hr.2.2⟩
    rw [e] at hpage
    exact absurd (hpage.symm.trans hp) (by decide)
  have hevt : ¬ evtKey (flt1F Reg.fltRsvRet (k / 32)).key := by
    simp only [evtKey, flt1F, Row.at, Fld.key, Reg.fltRsvRet]
    omega
  unfold State.retired
  rw [retBit_survey, thermUpdate_rd (hkey (by decide)) (hkey (by decide)) (hkey (by decide)) hevt (by omega)]

/-- What a sample of its ball gives a thermistor with the constants in effect. -/
def State.thermRead (s : State) (v : List (BitVec 22)) (n : Nat) : Option Int :=
  thermistor ((v.getD n 0).toNat) (s.eff (thmF Reg.thmCfgR26 n)) (s.eff (thmF Reg.thmCfgBeta n))

theorem wrOver_mon {r : Row} (hr : r.isMon) (ho : r.lo ≠ 17) (x : Nat) :
    (s.wr (thmF Reg.thmMonOver n) x).rd (thmF r n) = s.rd (thmF r n) := by
  refine State.rd_wr_ne (Row.at_key_ne ?_) x
  obtain ⟨ro, rs, rl⟩ := hr
  simp only [ro, rs, Reg.thmMonOver]
  omega

theorem raise_mon {r : Row} {k : Nat} (hr : r.isMon) (hn : n < 32) :
    (s.raise k).rd (thmF r n) = s.rd (thmF r n) := by
  obtain ⟨ro, rs, rl⟩ := hr
  exact raise_thm (by rw [ro, rs]; omega)

/-- The report of a thermistor that reads outside the valid ranges. -/
theorem thermUpdate_none (hi : s.Inv) (hn : n < 32) (hen : s.effB (thmF Reg.thmCfgEn n) = true)
    (hret : s.retired 2 (304 + n) = false) (hd : s.thermRead v n = none) :
    (State.thermUpdate v s n).rd (thmF Reg.thmMonValid n) = 0 := by
  unfold State.thermRead at hd
  unfold State.thermUpdate
  simp only [hen, hret, hd, Bool.not_true, Bool.false_eq_true, if_false]
  rw [raise_mon (by decide) hn]
  exact State.rd_wr_self hi.regs _ 0

/-- The report of a thermistor that reads `d`: beyond its reading it writes OVER, and raises the event of OVER. -/
theorem thermUpdate_some {d : Int} {r : Row} (hr : r.isMon) (ho : r.lo ≠ 17) (hn : n < 32)
    (hen : s.effB (thmF Reg.thmCfgEn n) = true) (hret : s.retired 2 (304 + n) = false) (hd : s.thermRead v n = some d) :
    (State.thermUpdate v s n).rd (thmF r n)
      = ((s.wr (thmF Reg.thmMonTemp n) (tw 16 d)).wr (thmF Reg.thmMonValid n) 1).rd (thmF r n) := by
  unfold State.thermRead at hd
  unfold State.thermUpdate
  simp only [hen, hret, hd, Bool.not_true, Bool.false_eq_true, if_false]
  split_ifs
  · rfl
  · exact (raise_mon hr hn).trans (wrOver_mon hr ho _)
  · exact wrOver_mon hr ho _
  · rfl

theorem tw16_mod (d : Int) : tw 16 d % 2 ^ 16 = tw 16 d := by
  unfold tw
  omega

/-- What a thermistor's report rests on stands in `s` as in `old`. -/
structure Unreported (old : State) (n : Nat) (s : State) : Prop where
  inv : s.Inv
  act : s.act = old.act
  retired : s.retired 2 (304 + n) = old.retired 2 (304 + n)

/-- After every thermistor has been met, each shows what its own report gave. -/
theorem thermUpdates_rd {P : Nat → Prop} {r : Row} (hi : s.Inv) (hr : r.isMon) (hn : n < 32)
    (hP : ∀ t, Unreported s n t → P ((State.thermUpdate v t n).rd (thmF r n))) :
    P (((List.range 32).foldl (State.thermUpdate v) s).rd (thmF r n)) := by
  refine foldl_once (g := State.thermUpdate v) (l := List.range 32) (A := Unreported s n) (B := fun t => P (t.rd (thmF r n)))
    (List.mem_range.mpr hn) List.nodup_range ⟨hi, rfl, rfl⟩ (fun t m hm hne h => ?_) hP fun t m _ hne h => ?_
  · exact ⟨(Keeps.refl t).thermUpdate.inv h.inv, thermUpdate_act.trans h.act,
      (thermUpdate_retired (List.mem_range.mp hm) (by omega)).trans h.retired⟩
  · rwa [thermUpdate_mon_ne hr hn hne]

theorem Unreported.thermRead (h : Unreported s n t) : t.thermRead v n = s.thermRead v n := by
  unfold State.thermRead
  rw [eff_of_act (f := thmF Reg.thmCfgR26 n) rfl h.act, eff_of_act (f := thmF Reg.thmCfgBeta n) rfl h.act]

theorem Unreported.enabled (h : Unreported s n t) (hen : s.effB (thmF Reg.thmCfgEn n) = true) :
    t.effB (thmF Reg.thmCfgEn n) = true :=
  (congrArg (· != 0) (eff_of_act rfl h.act)).trans hen

/-- THERMISTOR_UPDATE of an enabled thermistor whose channel is in use (R484). -/
theorem execThermistorUpdate_up (hi : s.Inv) (hup : s.islandUp = true) (hn : n < 32) (hen : s.effB (thmF Reg.thmCfgEn n) = true)
    (hret : s.retired 2 (304 + n) = false) :
    ∃ t, exec (.thermistorUpdate v) s = .next t
      ∧ (∀ d, s.thermRead v n = some d → t.rd (thmF Reg.thmMonTemp n) = tw 16 d ∧ t.rd (thmF Reg.thmMonValid n) = 1)
      ∧ (s.thermRead v n = none → t.rd (thmF Reg.thmMonValid n) = 0) := by
  refine ⟨(List.range 32).foldl (State.thermUpdate v) s, congrArg Host.Outcome.next (if_pos hup),
    fun d hd => ⟨?_, ?_⟩, fun hd => ?_⟩
  · refine thermUpdates_rd (P := (· = tw 16 d)) hi (by decide) hn fun t h => ?_
    rw [thermUpdate_some (by decide) (by decide) hn (h.enabled hen) (h.retired.trans hret) (h.thermRead.trans hd)]
    refine (State.rd_wr_ne (Row.at_key_ne (r := Reg.thmMonTemp) (q := Reg.thmMonValid) ?_) 1).trans
      ((State.rd_wr_self h.inv.regs _ _).trans (tw16_mod d))
    simp only [Reg.thmMonTemp, Reg.thmMonValid]
    omega
  · refine thermUpdates_rd (P := (· = 1)) hi (by decide) hn fun t h => ?_
    rw [thermUpdate_some (by decide) (by decide) hn (h.enabled hen) (h.retired.trans hret) (h.thermRead.trans hd)]
    exact State.rd_wr_self (State.wr_sorted h.inv.regs _ _) _ 1
  · exact thermUpdates_rd (P := (· = 0)) hi (by decide) hn fun t h =>
      thermUpdate_none h.inv hn (h.enabled hen) (h.retired.trans hret) (h.thermRead.trans hd)

end

/-! ### The coulomb count of a string (R258) -/

section

variable {a b m n : Nat}

theorem Leaves.wrBat {r : Row} {v : Nat} (h : Leaves a b old s) (hr : r.fits 0)
    (hm : 0x070 + m < a ∨ b ≤ 0x070 + m) : Leaves a b old (s.wr (batF r m) v) := h.wrAt hr hm

theorem Leaves.setLst {st : Nat} (h : Leaves a b old s) (hm : 0x070 + m < a ∨ b ≤ 0x070 + m) : Leaves a b old (s.setLst m st) :=
  h.wrBat (r := Reg.batStatLstate) (by decide) hm

theorem Leaves.disqualify {cause : Nat} (h : Leaves a b old s) (hm : 0x070 + m < a ∨ b ≤ 0x070 + m) (hb : b ≤ 0x0F8) :
    Leaves a b old (((s.wr (batF Reg.batStatLdq m) cause).setLst m 4).batLearnEv m) :=
  ((h.wrBat (r := Reg.batStatLdq) (by decide) hm).setLst hm).raise hb

theorem Leaves.batBegin (h : Leaves a b old s) (hm : 0x070 + m < a ∨ b ≤ 0x070 + m) (hb : b ≤ 0x0F8) :
    Leaves a b old (s.batBegin m) := by
  have hrun : Leaves a b old
      (((s.batMod m fun b => { b with cnt0 := b.count, cntMax := b.count }).setLst m 2).batLearnEv m) := (h.same.setLst hm).raise hb
  unfold State.batBegin
  exact .ite (.ite (.ite (.ite (hrun.disqualify hm hb) hrun) hrun) (h.disqualify hm hb)) h

theorem Leaves.batCoulomb (h : Leaves a b old s) (hm : 0x070 + m < a ∨ b ≤ 0x070 + m) (hb : b ≤ 0x0F8) :
    Leaves a b old (s.batCoulomb m) :=
  .ite h (Leaves.batBegin h.same hm hb)

theorem raise_bt (k : Nat) : (s.raise k).bt n = s.bt n := by rw [(raise_signals s k []).1]; rfl

theorem batMod_bt_ne {g : BatS → BatS} (h : m ≠ n) : (s.batMod m g).bt n = s.bt n := vget_vmod_ne _ m n g h

theorem batMod_bt_self {g : BatS → BatS} (hn : n < 24) : (s.batMod n g).bt n = g (s.bt n) := vget_vmod_self _ n g hn

/-- A discharge that begins leaves the count and its residue. -/
theorem batBegin_count (hn : n < 24) : ((s.batBegin n).bt n).count = (s.bt n).count ∧ ((s.batBegin n).bt n).res = (s.bt n).res := by
  have hrun : (((s.batMod n fun b => { b with cnt0 := b.count, cntMax := b.count }).setLst n 2).batLearnEv n).bt n
      = { s.bt n with cnt0 := (s.bt n).count, cntMax := (s.bt n).count } := (raise_bt _).trans (batMod_bt_self hn)
  have hdq {t : State} : ((t.wr (batF Reg.batStatLdq n) 8).setLst n 4 |>.batLearnEv n).bt n = t.bt n := raise_bt _
  have hends {t : State} (ht : t.bt n = s.bt n ∨ t.bt n = { s.bt n with cnt0 := (s.bt n).count, cntMax := (s.bt n).count }) :
      (t.bt n).count = (s.bt n).count ∧ (t.bt n).res = (s.bt n).res := by
    rcases ht with ht | ht <;> rw [ht] <;> exact ⟨rfl, rfl⟩
  apply hends
  unfold State.batBegin State.batDq
  dsimp only
  split_ifs
  · exact .inr (hdq.trans hrun)
  · exact .inr hrun
  · exact .inr hrun
  · exact .inl (raise_bt _)
  · exact .inl rfl

theorem batBegin_bt_ne (h : m ≠ n) : (s.batBegin m).bt n = s.bt n := by
  have hrun : (((s.batMod m fun b => { b with cnt0 := b.count, cntMax := b.count }).setLst m 2).batLearnEv m).bt n = s.bt n :=
    (raise_bt _).trans (batMod_bt_ne h)
  unfold State.batBegin State.batDq
  dsimp only
  split_ifs
  · exact (raise_bt _).trans hrun
  · exact hrun
  · exact hrun
  · exact raise_bt _
  · rfl

theorem batBegin_act : (s.batBegin n).act = s.act := by
  unfold State.batBegin State.batDq
  dsimp only
  split_ifs
  · exact (raise_act _ _).trans (raise_act _ _)
  · exact raise_act _ _
  · exact raise_act _ _
  · exact raise_act _ _
  · rfl

theorem batCoulomb_act : (s.batCoulomb n).act = s.act := by
  unfold State.batCoulomb
  split
  · rfl
  · exact batBegin_act

theorem batCoulomb_bt_ne (h : m ≠ n) : (s.batCoulomb m).bt n = s.bt n := by
  unfold State.batCoulomb
  split
  · rfl
  · exact (batBegin_bt_ne h).trans (batMod_bt_ne h)

/-- An enabled string counts the current of its sample, and carries the residue. -/
theorem batCoulomb_count (hn : n < 24) (hen : s.batEn n = true) :
    ((s.batCoulomb n).bt n).count = iclamp (-(2 ^ 39 - 1)) (2 ^ 39 - 1)
        ((s.bt n).count + Int.tdiv ((s.bt n).res + s.batIx n (s.sv (280 + n))) 16000000000)
      ∧ ((s.batCoulomb n).bt n).res = Int.tmod ((s.bt n).res + s.batIx n (s.sv (280 + n))) 16000000000 := by
  unfold State.batCoulomb
  simp only [hen, Bool.not_true, Bool.false_eq_true, if_false]
  rw [(batBegin_count hn).1, (batBegin_count hn).2, batMod_bt_self hn]
  exact ⟨rfl, rfl⟩

/-- What the count of string `n` rests on stands in `s` as in `old`. -/
structure Uncounted (old : State) (n : Nat) (s : State) : Prop where
  inv : s.Inv
  act : s.act = old.act
  sv : Leaves 0x0C0 0x0C8 old s
  ofs : Leaves (0x070 + n) (0x071 + n) old s
  bt : s.bt n = old.bt n

/-- String `n` has counted the current `x` since `old`, and the samples stand. -/
structure Counted (old : State) (n : Nat) (x : Int) (s : State) : Prop where
  sv : Leaves 0x0C0 0x0C8 old s
  count : (s.bt n).count = iclamp (-(2 ^ 39 - 1)) (2 ^ 39 - 1) ((old.bt n).count + Int.tdiv ((old.bt n).res + x) 16000000000)
  res : (s.bt n).res = Int.tmod ((old.bt n).res + x) 16000000000

theorem Leaves.sv_eq (h : Leaves 0x0C0 0x0C8 old s) {d : Nat} (hd : d < 384) : s.sv d = old.sv d := by
  refine h _ (Row.onPages_at ?_ (by omega))
  simp only [Reg.srvValSample]
  omega

theorem Uncounted.batIx (h : Uncounted old n s) (code : Nat) : s.batIx n code = old.batIx n code := by
  have hofs : s.rd (batF Reg.batOfsOfs n) = old.rd (batF Reg.batOfsOfs n) := h.ofs _ (Row.onPages_at (by decide) (by omega))
  unfold State.batIx
  rw [hofs, eff_of_act (f := batF Reg.batIsclIlsb n) rfl h.act]

theorem Uncounted.batEn (h : Uncounted old n s) : s.batEn n = old.batEn n := congrArg (· != 0) (eff_of_act rfl h.act)

theorem Uncounted.batCoulomb_ne (h : Uncounted old n s) (hn : n < 24) (hm : m < 24) (hne : m ≠ n) :
    Uncounted old n (s.batCoulomb m) where
  inv := (Keeps.refl s).batCoulomb.inv h.inv
  act := batCoulomb_act.trans h.act
  sv := h.sv.batCoulomb (by omega) (by decide)
  ofs := h.ofs.batCoulomb (by omega) (by omega)
  bt := (batCoulomb_bt_ne hne).trans h.bt

theorem Uncounted.batCoulomb (h : Uncounted old n s) (hn : n < 24) (hen : old.batEn n = true) :
    Counted old n (old.batIx n (old.sv (280 + n))) (s.batCoulomb n) := by
  have hx : s.batIx n (s.sv (280 + n)) = old.batIx n (old.sv (280 + n)) := by rw [h.batIx, h.sv.sv_eq (by omega)]
  have hcount := batCoulomb_count hn (h.batEn.trans hen)
  rw [hx, h.bt] at hcount
  exact ⟨h.sv.batCoulomb (by omega) (by decide), hcount.1, hcount.2⟩

theorem Counted.batCoulomb_ne {x : Int} (h : Counted old n x s) (hm : m < 24) (hne : m ≠ n) : Counted old n x (s.batCoulomb m) where
  sv := h.sv.batCoulomb (by omega) (by decide)
  count := by rw [batCoulomb_bt_ne hne]; exact h.count
  res := by rw [batCoulomb_bt_ne hne]; exact h.res

/-- After every string has been met, an enabled one has counted its current once. -/
theorem batCoulombs_counted (hi : s.Inv) (hn : n < 24) (hen : s.batEn n = true) :
    Counted s n (s.batIx n (s.sv (280 + n))) ((List.range 24).foldl State.batCoulomb s) :=
  foldl_once (g := State.batCoulomb) (l := List.range 24) (A := Uncounted s n) (B := Counted s n (s.batIx n (s.sv (280 + n))))
    (List.mem_range.mpr hn) List.nodup_range ⟨hi, rfl, .refl s, .refl s, rfl⟩
    (fun _ _ hm hne h => h.batCoulomb_ne hn (List.mem_range.mp hm) hne)
    (fun _ h => h.batCoulomb hn hen) fun _ _ hm hne h => h.batCoulomb_ne (List.mem_range.mp hm) hne

end

/-! ### What the other samples leave -/

/-- Neither a survey code nor what a string has counted changed since `old`. -/
structure Apart (old s : State) : Prop where
  sv : Leaves 0x0C0 0x0C8 old s
  bat : s.bat = old.bat

theorem Apart.refl (s : State) : Apart s s := ⟨.refl s, rfl⟩

theorem Apart.same (h : Apart old s) (e : (t.bat, t.regs) = (s.bat, s.regs) := by rfl) : Apart old t := by
  obtain ⟨hb, hr⟩ := Prod.mk.inj e
  exact ⟨h.sv.same hr, hb.trans h.bat⟩

theorem Apart.wrAt {r : Row} {pg i v : Nat} (h : Apart old s) (hr : r.fits i) (hp : pg < 0x0C0) :
    Apart old (s.wr (r.at pg i) v) := ⟨h.sv.wrAt hr (.inl hp), h.bat⟩

theorem Apart.ite {p : Prop} [Decidable p] (h : Apart old s) (h' : Apart old t) : Apart old (if p then s else t) := by
  split
  · exact h
  · exact h'

theorem Apart.foldl {α : Type} {g : State → α → State} {l : List α} (h : Apart old s)
    (hg : ∀ s, ∀ x ∈ l, Apart old s → Apart old (g s x)) : Apart old (l.foldl g s) :=
  List.foldlRecOn l g h fun s hs x hx => hg s x hx hs

theorem Apart.bayMod {n : Nat} {g : BayS → BayS} (h : Apart old s) : Apart old (s.bayMod n g) := h.same

theorem Apart.railMod {n : Nat} {g : RailS → RailS} (h : Apart old s) : Apart old (s.railMod n g) := h.same

theorem Apart.wrBay {r : Row} {n v : Nat} (h : Apart old s) (hr : r.fits 0) (hn : n < 64) :
    Apart old (s.wr (bayF r n) v) := h.wrAt hr (by omega)

theorem setBay_bat {n st : Nat} : (s.setBay n st).bat = s.bat := by
  have hslow : (if s.bayState n = 4 ∨ st = 4 then s.slowCount n else s).bat = s.bat := by
    split <;> rfl
  unfold State.setBay
  dsimp only
  split <;> split <;> simp only [State.wr_bat, State.wrB_bat, hslow]

theorem Apart.bayRamp {n : Nat} (h : Apart old s) (hn : n < 64) : Apart old (s.bayRamp n) := by
  have harm := h.wrBay (r := Reg.bayCtlArm) (n := n) (v := b2n true) (by decide) hn
  exact (Apart.mk (harm.sv.setBay (n := n) (st := 2) (.inl (by omega))) (setBay_bat.trans harm.bat)).bayMod

theorem Apart.bayFoldback {n : Nat} (h : Apart old s) (hn : n < 64) : Apart old (s.bayFoldback n) := by
  have hw {t : State} {v : Nat} (ht : Apart old t) : Apart old (t.wr (bayF Reg.bayStatFoldback n) v) := ht.wrBay (by decide) hn
  unfold State.bayFoldback
  exact .ite (.ite (hw h) (.ite (hw h) (hw h.same))) h

theorem Apart.baySample {n : Nat} (h : Apart old s) (hn : n < 64) : Apart old (s.baySample n) := by
  unfold State.baySample
  extract_lets i v a b
  have hv := (h.wrBay (r := Reg.bayVmeasVsys) (n := n) (v := v) (by decide) hn).wrBay (r := Reg.bayVmeasVmod) (n := n)
    (v := s.sv (48 + n)) (by decide) hn
  have ha : Apart old a := (hv.wrBay (r := Reg.bayPeakPeak) (by decide) hn).bayMod
  have hb : Apart old b := ha.bayFoldback hn
  exact .ite (hb.bayRamp hn) hb

theorem Apart.bayMeans {k n : Nat} (h : Apart old s) (hn : n < 64) : Apart old (s.bayMeans k n) := by
  unfold State.bayMeans
  exact ((h.wrBay (r := Reg.bayImeasVsh) (by decide) hn).wrBay (r := Reg.bayPwrPwr) (by decide) hn).bayMod

theorem Apart.railMean {k n : Nat} (h : Apart old s) (hn : n < 96) : Apart old (s.railMean k n) :=
  (h.wrAt (r := Reg.seqRmonMon) (pg := 0x097) (i := n) (by simp only [Row.fits, Reg.seqRmonMon]; omega) (by decide)).railMod

theorem Apart.withSvN {k : Nat} (h : Apart old s) : Apart old { s with svN := k } := h.same

theorem Apart.msEnd (h : Apart old s) : Apart old s.msEnd := by
  unfold State.msEnd
  refine .ite (.withSvN (.foldl (.foldl h fun s n hn hs => hs.bayMeans ?_) fun s n hn hs => hs.railMean (List.mem_range.mp hn))) h
  have := List.mem_range.mp hn
  omega

theorem Apart.busMonitor {bus : List Nat} (h : Apart old s) : Apart old (s.busMonitor bus) := by
  have hw {t : State} {r : Row} {v : Nat} (ht : Apart old t) (hr : r.fits 0) :
      Apart old (t.wr (hldF r 0) v) := ht.wrAt hr (by decide)
  unfold State.busMonitor
  extract_lets v c a b
  have ha : Apart old a := hw h (by decide)
  have hb : Apart old b := .ite ha (hw ha (by decide))
  exact hw (hw (hw hb (by decide)) (by decide)) (by decide)

/-! ### The survey sample (R10, R11, R257, R258) -/

section

variable {c : BitVec 9} {v : BitVec 16} {n : Nat}

/-- A code of a channel in use is held; else it changes the balance window at most. -/
theorem putSample_held (hc : c.toNat < 384) (hr : svReserved c.toNat = false) (hret : s.retired 2 c.toNat = false) :
    ∃ w, s.putSample (c, v) = { s.wr (srvF Reg.srvValSample c.toNat) v.toNat with bal := w } := by
  have hskip : ¬ (384 ≤ c.toNat || svReserved c.toNat || s.retired 2 c.toNat) = true := by
    rw [hr, hret, Bool.or_false, Bool.or_false, decide_eq_true_eq]
    omega
  unfold State.putSample
  dsimp only
  rw [if_neg hskip]
  split
  · exact ⟨_, rfl⟩
  · exact ⟨s.bal, rfl⟩

/-- The state in which the strings count: the code is held, and the phases have taken theirs. -/
def State.heldCode (s : State) (c : BitVec 9) (v : BitVec 16) : State := (List.range 64).foldl State.phSample (s.putSample (c, v))

theorem heldCode_inv (hi : s.Inv) : (s.heldCode c v).Inv := (Keeps.foldl (Keeps.refl s).putSample fun _ _ h => h.phSample).inv hi

/-- Beyond the registers, what the strings count with stands. -/
theorem heldCode_same (hc : c.toNat < 384) (hr : svReserved c.toNat = false) (hret : s.retired 2 c.toNat = false) :
    ((s.heldCode c v).regs, (s.heldCode c v).act, (s.heldCode c v).bat)
      = ((s.wr (srvF Reg.srvValSample c.toNat) v.toNat).regs, s.act, s.bat) := by
  obtain ⟨w, e⟩ := putSample_held (v := v) hc hr hret
  refine List.foldlRecOn (motive := fun t : State => (t.regs, t.act, t.bat) = _) _ _ ?_ fun t ht j _ => ht
  rw [e]
  rfl

section

variable (hi : s.Inv) (hc : c.toNat < 384) (hr : svReserved c.toNat = false) (hret : s.retired 2 c.toNat = false)

include hc hr hret

theorem heldCode_rd : (s.heldCode c v).rd f = (s.wr (srvF Reg.srvValSample c.toNat) v.toNat).rd f := by
  obtain ⟨hregs, -⟩ := Prod.mk.inj (heldCode_same (v := v) hc hr hret)
  exact rd_of_regs hregs

theorem heldCode_sv_ne {d : Nat} (hd : d ≠ c.toNat) : (s.heldCode c v).sv d = s.sv d := by
  refine (heldCode_rd hc hr hret).trans (State.rd_wr_ne ?_ v.toNat)
  simp only [srvF, Row.at, Fld.key, Reg.srvValSample]
  omega

theorem heldCode_batEn : (s.heldCode c v).batEn n = s.batEn n := by
  obtain ⟨-, hrest⟩ := Prod.mk.inj (heldCode_same (v := v) hc hr hret)
  obtain ⟨hact, -⟩ := Prod.mk.inj hrest
  exact congrArg (· != 0) (eff_of_act rfl hact)

theorem heldCode_bt : (s.heldCode c v).bt n = s.bt n := by
  obtain ⟨-, hrest⟩ := Prod.mk.inj (heldCode_same (v := v) hc hr hret)
  obtain ⟨-, hbat⟩ := Prod.mk.inj hrest
  exact congrArg (vget · n) hbat

theorem heldCode_batIx (code : Nat) : (s.heldCode c v).batIx n code = s.batIx n code := by
  obtain ⟨-, hrest⟩ := Prod.mk.inj (heldCode_same (v := v) hc hr hret)
  obtain ⟨hact, -⟩ := Prod.mk.inj hrest
  have hofs : (s.heldCode c v).rd (batF Reg.batOfsOfs n) = s.rd (batF Reg.batOfsOfs n) := by
    refine (heldCode_rd hc hr hret).trans (State.rd_wr_ne ?_ v.toNat)
    simp only [batF, srvF, Row.at, Fld.key, Reg.srvValSample, Reg.batOfsOfs]
    omega
  unfold State.batIx
  rw [hofs, eff_of_act (f := batF Reg.batIsclIlsb n) rfl hact]

include hi

theorem heldCode_sv : (s.heldCode c v).sv c.toNat = v.toNat :=
  (heldCode_rd hc hr hret).trans ((State.rd_wr_self hi.regs _ _).trans (Nat.mod_eq_of_lt v.isLt))

end

theorem Apart.withCycle {k : Nat} {x : AbcS} (h : Apart old s) : Apart old { s with svN := k, abc := x } := h.same

/-- After the strings have counted, a sample leaves their counts and the codes. -/
theorem survey_apart (s : State) (bus : List Nat) :
    Apart ((List.range 24).foldl State.batCoulomb (s.heldCode c v)) ((s.survey [(c, v)]).busMonitor bus) := by
  refine .busMonitor (.msEnd (.withCycle (.foldl (.foldl (.refl _) fun t n hn h => h.baySample ?_) fun t n _ h => h.railMod)))
  have := List.mem_range.mp hn
  omega

theorem busMonitor_vbus {bus : BitVec 10} {lvl slp : List (BitVec 10)} (hi : s.Inv) :
    (s.busMonitor (busSamples bus lvl slp)).rd (hldF Reg.hldVbusVbus 0) = bus.toNat := by
  have hw {t : State} {r : Row} {x : Nat} (hr : (0x9C + 4 * 0) * 32 + 0 ≠ (r.off + r.stride * 0) * 32 + r.lo) :
      (t.wr (hldF r 0) x).rd (hldF Reg.hldVbusVbus 0) = t.rd (hldF Reg.hldVbusVbus 0) := State.rd_wr_ne (Row.at_key_ne hr) x
  have hself : (s.wr (hldF Reg.hldVbusVbus 0) (s.busNow (busSamples bus lvl slp))).rd (hldF Reg.hldVbusVbus 0) = bus.toNat :=
    (State.rd_wr_self hi.regs _ _).trans (Nat.mod_eq_of_lt bus.isLt)
  unfold State.busMonitor State.wrB
  dsimp only
  rw [hw (by decide), hw (by decide), hw (by decide)]
  split
  · exact hself
  · exact (hw (by decide)).trans hself

/-- SURVEY_SAMPLE of one channel in use (R10, R11, R257, R258). -/
theorem execSurveySample_one {bus : BitVec 10} {lvl slp : List (BitVec 10)} (hi : s.Inv) (hup : s.islandUp = true)
    (hc : c.toNat < 384) (hr : svReserved c.toNat = false) (hret : s.retired 2 c.toNat = false) :
    ∃ u, exec (.surveySample [(c, v)] bus lvl slp) s = .next (s.follow u) ∧ u.sv c.toNat = v.toNat
      ∧ (∀ d, d ≠ c.toNat → d < 384 → u.sv d = s.sv d) ∧ u.rd (hldF Reg.hldVbusVbus 0) = bus.toNat
      ∧ ∀ n < 24, c.toNat = 280 + n → s.batEn n = true →
          (u.bt n).count = iclamp (-(2 ^ 39 - 1)) (2 ^ 39 - 1)
            ((s.bt n).count + Int.tdiv ((s.bt n).res + s.batIx n v.toNat) 16000000000)
          ∧ (u.bt n).res = Int.tmod ((s.bt n).res + s.batIx n v.toNat) 16000000000 := by
  have hap := survey_apart (c := c) (v := v) s (busSamples bus lvl slp)
  have hcount : Leaves 0x0C0 0x0C8 (s.heldCode c v) ((List.range 24).foldl State.batCoulomb (s.heldCode c v)) :=
    (Leaves.refl _).foldl fun t n hn h => h.batCoulomb (.inl (by have := List.mem_range.mp hn; omega)) (by decide)
  have hsv {d : Nat} (hd : d < 384) := (hap.sv.sv_eq hd).trans (hcount.sv_eq hd)
  refine ⟨_, if_pos hup, (hsv hc).trans (heldCode_sv hi hc hr hret), fun d hd hlt => (hsv hlt).trans (heldCode_sv_ne hc hr hret hd),
    busMonitor_vbus ((Keeps.refl s).survey.inv hi), fun n hn hcn hen => ?_⟩
  have hstr := batCoulombs_counted (heldCode_inv (c := c) (v := v) hi) hn ((heldCode_batEn hc hr hret).trans hen)
  have hcur : (s.heldCode c v).sv (280 + n) = v.toNat := hcn ▸ heldCode_sv hi hc hr hret
  have hcnt := hstr.count
  have hres := hstr.res
  rw [hcur, heldCode_batIx hc hr hret, heldCode_bt hc hr hret] at hcnt hres
  have hbt : _ = State.bt _ n := congrArg (vget · n) hap.bat
  exact ⟨(congrArg BatS.count hbt).trans hcnt, (congrArg BatS.res hbt).trans hres⟩

end

end

/-! ### The obligation -/

/-- Settles O42: the survey sample, the die temperatures, the L-die's power, the hard trip and the thermistors, each by the lemma
on its command. -/
theorem surveyAndThermal : Obligations.SurveyAndThermal := by
  unfold Obligations.SurveyAndThermal
  refine ⟨fun s c v bus lvl slp hi hup hc hr hret => execSurveySample_one hi hup hc hr hret, fun s hi hup => ⟨?_, ?_, ?_, ?_⟩⟩
  · exact fun a b late hcb hb hl ha ha' hb0 hb1 => execDieTempSample_whole hi hup hcb hb hl ⟨ha, ha'⟩ ⟨hb0, hb1⟩
  · exact fun late hg => execLdiePowerDown_grace hi hg
  · exact fun ht => execHardTrip_up hi hup ht
  · exact fun v n hn hen hret => execThermistorUpdate_up hi hup hn hen hret

end Sys2Proof.Machine

/-!
PROOFS. The queue and the microsecond counter under every command. `exec_ends` gives both for every command but the five that start or
stop the device; the counter of four of these is shown here.
-/

namespace Sys2Proof.Machine

section

variable {s t u : State}

/-! ### The queue and the counter -/

/-- An empty queue: the step is the idle one. -/
theorem step_of_pending_nil (h : s.pending = []) : step s = .next s.idle := by
  unfold step
  rw [h]

/-- Settles O2: on an empty queue the step is the idle one, which counts outside OFF. -/
theorem emptyQueueCountsTime : Obligations.EmptyQueueCountsTime := by
  unfold Obligations.EmptyQueueCountsTime
  intro s hq
  rw [step_of_pending_nil hq]
  exact ⟨fun hm => congrArg _ (if_neg hm), fun hm => congrArg _ (if_pos hm)⟩

/-- The outcome, if it is a next state, has the microsecond counter of `s`. -/
def EndsAt (s : State) (r : Res) : Prop := ∀ t, r = .next t → t.us = s.us

theorem EndsAt.next (h : t.us = s.us) : EndsAt s (.next t) := by
  rintro u ⟨⟩
  exact h

theorem Keeps.endsAt (h : Keeps s t) : EndsAt s (.next t) := .next h.us

theorem Ends.endsAt {r : Res} (h : Ends s r) : EndsAt s r := fun t ht => (h t ht).us

/-- The device state moves between two stretches that each keep the counter. -/
theorem Keeps.us_move {m : Mode} (h : Keeps s t) (hu : Keeps { t with mode := m } u) : u.us = s.us := hu.us.trans h.us

theorem Keeps.bootHold_us (hs : Keeps s t) : t.bootHold.us = s.us := by
  unfold State.bootHold
  extract_lets a b
  have ha : Keeps s a := .foldl hs fun _ _ ih => .ite ih.bayClose ih
  exact ha.us_move (m := .hold) (Keeps.refl _).same.wr.wr.wr.bootBegin

theorem execPdieBistEnd_endsAt {sig : Option (BitVec 64)} {dur : Word} : EndsAt s (execPdieBistEnd sig dur s) := by
  have hs := Keeps.refl s
  unfold execPdieBistEnd
  extract_lets x pass
  split
  case isTrue =>
    split
    · exact hs.endsAt
    · refine .next ?_
      split
      · exact hs.sysMod.bootHold_us
      · exact hs.sysMod.us
  case isFalse =>
    refine Ends.endsAt ?_
    split
    · exact .ite (.next hs.wrB.bistResult.bistDone) (.next hs)
    · exact .next hs

theorem execBootPresenceDebounceEnd_endsAt {vins : List (BitVec 5 × BitVec 16)} :
    EndsAt s (execBootPresenceDebounceEnd s vins) := by
  unfold execBootPresenceDebounceEnd
  split
  case isFalse => exact (Keeps.refl s).endsAt
  case isTrue =>
    extract_lets a
    have ha : Keeps s a := .foldl (Keeps.refl s).sysMod fun _ _ ih => .ite ih ih.bayPresent.bayMod
    refine .next ?_
    split
    · exact ha.bootHold_us
    · exact ha.us

theorem execHardTrip_endsAt : EndsAt s (execHardTrip s) := by
  have hs := Keeps.refl s
  unfold execHardTrip
  split
  case isTrue => exact hs.endsAt
  case isFalse =>
    extract_lets a b c
    have ha : Keeps s a := by
      refine .powerKill ?_
      split
      case isTrue hl => exact hs.enterHold (live_of_lUp hl)
      case isFalse => exact hs.ldieStop
    have hb : Keeps s b := .foldl ha fun _ _ ih => .ite ih.bayOpenGate ih
    exact .next (hb.wr.wr.wr.capWipe.us_move (Keeps.refl _).sysMod.raise)

theorem execIslandLoss_endsAt : EndsAt s (execIslandLoss s) := by
  unfold execIslandLoss
  extract_lets a b c
  have ha : Keeps s a := (Keeps.refl s).galHold.ldieStop.powerKill.capWipe
  have hb : Keeps s b := .foldl ha fun _ _ ih => .ite ih ih.setArm.bayToOpen
  have hc : Keeps s c := hb.wr.wr
  clear_value c
  exact .next hc.us

/-- Every command but COLD_RESET leaves the microsecond counter. -/
theorem exec_endsAt {c : Instr} (hc : ∀ m a w x h, c ≠ .coldReset m a w x h) : EndsAt s (exec c s) := by
  cases hk : startsOrStops c with
  | false => exact (exec_ends hk (Keeps.refl s)).endsAt
  | true =>
    cases c with
    | coldReset => exact absurd rfl (hc _ _ _ _ _)
    | islandLoss => exact execIslandLoss_endsAt
    | hardTrip => exact execHardTrip_endsAt
    | pdieBistEnd => exact execPdieBistEnd_endsAt
    | bootPresenceDebounceEnd vins => exact execBootPresenceDebounceEnd_endsAt (vins := vins)
    | _ => cases hk

/-- Settles O6: what every command keeps of the queue, and of the counter outside COLD_RESET. -/
theorem queueAndClockFrame : Obligations.QueueAndClockFrame := by
  unfold Obligations.QueueAndClockFrame
  exact fun c s t ht => ⟨(exec_step c t ht).pending, fun hc => exec_endsAt hc t ht⟩

end

end Sys2Proof.Machine

/-!
PROOFS. The timebase. First, what a step spares of a list of fields (`Spares`); then one part for the PLL, the calibration, the fabric
and the counter, and one for the crystal.
-/

namespace Sys2Proof.Machine

section

variable {old s t u : State} {f : Fld} {ks : List Fld}

/-! ### Fields that a step spares -/

/-- A key that no event, refused record, LATE event or done point of a command can change. -/
abbrev quietKey (k : Nat) : Prop :=
  k % 131072 / 32 ≠ 0x014 ∧ k / 131072 ≠ 0x0F8 ∧ k / 131072 ≠ 0x00A ∧ k ≠ (fabF Reg.fabRacelateCnt 0).key

/-- The fields read in `s` as in `old`. -/
def Spares (ks : List Fld) (old s : State) : Prop := ∀ f ∈ ks, s.rd f = old.rd f

theorem Spares.refl (s : State) : Spares ks s s := fun _ _ => rfl

theorem Spares.trans (h : Spares ks s t) (h' : Spares ks t u) : Spares ks s u := fun f hf => (h' f hf).trans (h f hf)

theorem Spares.same (h : Spares ks old s) (e : t.regs = s.regs := by rfl) : Spares ks old t :=
  fun g hg => (rd_of_regs e).trans (h g hg)

theorem Spares.wr {v : Nat} (h : Spares ks old s) (hf : ∀ g ∈ ks, g.key ≠ f.key) : Spares ks old (s.wr f v) :=
  fun g hg => (State.rd_wr_ne (hf g hg) v).trans (h g hg)

theorem Spares.ite {c : Prop} {_ : Decidable c} (h : Spares ks old s) (h' : Spares ks old t) :
    Spares ks old (if c then s else t) := by
  split
  · exact h
  · exact h'

theorem Spares.foldl {α : Type} {g : State → α → State} {l : List α} (h : Spares ks old s)
    (hg : ∀ s, ∀ x ∈ l, Spares ks old s → Spares ks old (g s x)) : Spares ks old (l.foldl g s) :=
  List.foldlRecOn l g h fun s hs x hx => hg s x hx hs

theorem Spares.signals (h : Spares ks old s) (hs : onlySignals s t []) (hq : ∀ f ∈ ks, quietKey f.key) : Spares ks old t :=
  fun f hf => (signals_rd hs (hq f hf).1 (hq f hf).2.1).trans (h f hf)

theorem Spares.raise {n : Nat} (h : Spares ks old s) (hq : ∀ f ∈ ks, quietKey f.key) : Spares ks old (s.raise n) :=
  h.signals (raise_signals s n []) hq

theorem Spares.token {src kind detail : Nat} (h : Spares ks old s) (hq : ∀ f ∈ ks, quietKey f.key) :
    Spares ks old (s.token src kind detail) := h.signals (token_signals s src kind detail []) hq

theorem Spares.tokenEv {src kind detail : Nat} (h : Spares ks old s) (hq : ∀ f ∈ ks, quietKey f.key) :
    Spares ks old (s.tokenEv src kind detail) := h.signals (tokenEv_signals s src kind detail []) hq

/-- A LATE event writes FAB_RACELATE beside its token (R47). -/
theorem Spares.late {src detail : Nat} (h : Spares ks old s) (hq : ∀ f ∈ ks, quietKey f.key) :
    Spares ks old (s.late src detail) := by
  refine Spares.token (h.wr fun g hg => ?_) hq
  obtain ⟨-, -, -, hk⟩ := hq g hg
  exact hk

/-! ### Register writes that change nothing else -/

theorem regsBut_wr {v : Nat} (h : regsBut s t ks) (hf : f ∈ ks) : regsBut s (t.wr f v) ks :=
  fun g hg => (State.rd_wr_ne (hg f hf) v).trans (h g hg)

theorem onlyRegs_wr (s : State) (f : Fld) (v : Nat) : onlyRegs s (s.wr f v) [f] :=
  ⟨rfl, regsBut_wr (fun _ _ => rfl) (List.mem_singleton_self f)⟩

/-- A state that reads its own bit of a field of width 1. -/
theorem rd_wr_bit {v : Nat} (hi : s.Inv) (hw : f.width = 1) (hv : v < 2) : (s.wr f v).rd f = v := by
  rw [State.rd_wr_self hi.regs, hw]
  omega

theorem rdB_of_rd {v : Nat} (h : s.rd f = v) : s.rdB f = (v != 0) := congrArg (· != 0) h

/-! ### PLL, calibration, handshake and the microsecond counter (R32 to R39) -/

section

variable (hi : s.Inv) (hup : s.islandUp = true)
include hi hup

theorem execPllLock_up : ∃ t, exec .pllLock s = .next t ∧ t.rd (tmbF Reg.tmbStatPlllock 0) = 1
    ∧ onlyRegs s t [tmbF Reg.tmbStatPlllock 0] :=
  ⟨_, congrArg Host.Outcome.next (if_pos hup), rd_wr_bit hi rfl (by decide), onlyRegs_wr s _ 1⟩

theorem execPllRelock_up : ∃ t, exec .pllRelock s = .next t ∧ t.rd (tmbF Reg.tmbStatPlllock 0) = 1
    ∧ onlyRegs s t [tmbF Reg.tmbStatPlllock 0] :=
  ⟨_, congrArg Host.Outcome.next (if_pos hup), rd_wr_bit hi rfl (by decide), onlyRegs_wr s _ 1⟩

theorem execPllUnlock_locked (hl : s.rdB (tmbF Reg.tmbStatPlllock 0) = true) : ∃ t, exec .pllUnlock s = .next t
    ∧ t.rd (tmbF Reg.tmbStatPlllock 0) = 0 ∧ onlySignals s t [tmbF Reg.tmbStatPlllock 0] := by
  refine ⟨(s.wr (tmbF Reg.tmbStatPlllock 0) 0).raise 10, if_pos (by rw [hup, hl]; rfl), ?_, ?_⟩
  · exact (raise_rd (by unfold evtKey; decide) (by decide)).trans (rd_wr_bit hi rfl (by decide))
  · exact onlySignals_trans (onlySignals_wr (.inr ⟨_, by simp, rfl⟩) 0) (raise_signals _ 10 _)

theorem execSlewDone_up : ∃ t, exec .slewDone s = .next t ∧ t.rd (tmbF Reg.tmbStatSlewing 0) = 0
    ∧ onlyRegs s t [tmbF Reg.tmbStatSlewing 0] :=
  ⟨_, congrArg Host.Outcome.next (if_pos hup), rd_wr_bit hi rfl (by decide), onlyRegs_wr s _ 0⟩

theorem execInterpolatorCalibration_spans : ∃ t, exec (.interpolatorCalibration true) s = .next t
    ∧ t.rd (tmbF Reg.tmbStatCalok 0) = 1
    ∧ t.rd (tmbF Reg.tmbCalCalcnt 0) = (s.rd (tmbF Reg.tmbCalCalcnt 0) + 1) % 2 ^ 16
    ∧ t.rd (tmbF Reg.tmbCalTapcode 0) = (Config.tapCode s.draws).toNat ∧ t = { s with regs := t.regs, draws := s.draws + 1 }
    ∧ regsBut s t [tmbF Reg.tmbCalCalcnt 0, tmbF Reg.tmbCalTapcode 0, tmbF Reg.tmbStatCalok 0] := by
  have hcnt := wr_inv hi (tmbF Reg.tmbCalCalcnt 0) (s.rd (tmbF Reg.tmbCalCalcnt 0) + 1)
  have htap := wr_inv hcnt (tmbF Reg.tmbCalTapcode 0) (Config.tapCode s.draws).toNat
  have he : exec (.interpolatorCalibration true) s = .next { (((s.incWrap (tmbF Reg.tmbCalCalcnt 0)).wr (tmbF Reg.tmbCalTapcode 0)
      (Config.tapCode s.draws).toNat).wr (tmbF Reg.tmbStatCalok 0) 1) with draws := s.draws + 1 } :=
    if_neg (by rw [hup]; decide)
  refine ⟨_, he, rd_wr_bit htap rfl (by decide), ?_, ?_, rfl, ?_⟩
  · exact (State.rd_wr_ne (by decide) 1).trans ((State.rd_wr_ne (by decide) _).trans (State.rd_wr_self hi.regs _ _))
  · exact (State.rd_wr_ne (by decide) 1).trans
      ((State.rd_wr_self hcnt.regs _ _).trans (Nat.mod_eq_of_lt (Config.tapCode s.draws).isLt))
  · exact regsBut_wr (regsBut_wr (regsBut_wr (fun _ _ => rfl) (by simp)) (by simp)) (by simp)

theorem execInterpolatorCalibration_fails : ∃ t, exec (.interpolatorCalibration false) s = .next t
    ∧ t.rd (tmbF Reg.tmbStatCalok 0) = 0 ∧ onlySignals s t [tmbF Reg.tmbStatCalok 0] := by
  refine ⟨(s.wr (tmbF Reg.tmbStatCalok 0) 0).raise 11, if_neg (by rw [hup]; decide), ?_, ?_⟩
  · exact (raise_rd (by unfold evtKey; decide) (by decide)).trans (rd_wr_bit hi rfl (by decide))
  · exact onlySignals_trans (onlySignals_wr (.inr ⟨_, by simp, rfl⟩) 0) (raise_signals _ 11 _)

theorem execHandshakeMeasurement_up (cyc : BitVec 12) : ∃ t, exec (.handshakeMeasurement cyc) s = .next t
    ∧ t.rd (fabF Reg.fabHscycCyc 0) = cyc.toNat ∧ onlyRegs s t [fabF Reg.fabHscycCyc 0] :=
  ⟨_, congrArg Host.Outcome.next (if_pos hup), (State.rd_wr_self hi.regs _ _).trans (Nat.mod_eq_of_lt cyc.isLt), onlyRegs_wr s _ _⟩

omit hup in
theorem execTmbUsLoRead_lUp (hl : s.lUp = true) : ∃ t, exec .tmbUsLoRead s = .next t ∧ t.rdata = s.us % 2 ^ 32
    ∧ t.rd (tmbF Reg.tmbUsHiUs 0) = s.us / 2 ^ 32 % 2 ^ 32 ∧ regsBut s t [tmbF Reg.tmbUsHiUs 0] :=
  ⟨_, congrArg Host.Outcome.next (if_pos hl), Nat.mod_mod _ _, State.rd_wr_self hi.regs _ _, (onlyRegs_wr s _ _).2⟩

end

/-! ### The crystal (R32, R36 to R38) -/

theorem slewTo_rd {int : Bool} (ho : f.key ≠ (tmbF Reg.tmbStatOnint 0).key) (hs : f.key ≠ (tmbF Reg.tmbStatSlewing 0).key) :
    (s.slewTo int).rd f = s.rd f := (State.rd_wr_ne hs 1).trans (State.rd_wr_ne ho _)

theorem slewTo_onInt {int : Bool} (hi : s.Inv) : (s.slewTo int).onInt = int := by
  have h : (s.wrB (tmbF Reg.tmbStatOnint 0) int).rd (tmbF Reg.tmbStatOnint 0) = b2n int :=
    rd_wr_bit hi rfl (by cases int <;> decide)
  unfold State.onInt State.slewTo
  rw [rdB_of_rd ((State.rd_wr_ne (by decide) 1).trans h)]
  cases int <;> rfl

theorem slewTo_slewing {int : Bool} (hi : s.Inv) : (s.slewTo int).rd (tmbF Reg.tmbStatSlewing 0) = 1 :=
  rd_wr_bit (wr_inv hi _ _) rfl (by decide)

/-- The move to the crystal reads as the slew to it but for its event. -/
theorem toCrystal_rd {back : Bool} (hq : quietKey f.key) : (s.toCrystal back).rd f = (s.slewTo false).rd f := by
  unfold State.toCrystal
  dsimp only
  split
  · exact raise_rd hq.1 hq.2.1
  · rfl

theorem toCrystal_onInt {back : Bool} (hi : s.Inv) : (s.toCrystal back).onInt = false :=
  (rdB_of_rd (toCrystal_rd (by decide))).trans (slewTo_onInt hi)

/-- What the PLL does while it runs on the internal oscillator and the crystal is qualified. -/
theorem forceFollow_of_xtalok (ho : s.onInt = true) (hx : s.rd (tmbF Reg.tmbStatXtalok 0) = 1) :
    s.forceFollow = if s.forceInt then s else if s.sys.forced || !s.sys.xtalEver then s.toCrystal false
      else if s.rdB (tmbF Reg.tmbCfgAutoret 0) then s.toCrystal true else s := by
  unfold State.forceFollow
  rw [ho, rdB_of_rd hx]
  rfl

theorem forceFollow_xtalok (ho : s.onInt = true) (hx : s.rd (tmbF Reg.tmbStatXtalok 0) = 1) :
    s.forceFollow.rd (tmbF Reg.tmbStatXtalok 0) = 1 := by
  have hback (back : Bool) : (s.toCrystal back).rd (tmbF Reg.tmbStatXtalok 0) = 1 :=
    (toCrystal_rd (by decide)).trans ((slewTo_rd (by decide) (by decide)).trans hx)
  rw [forceFollow_of_xtalok ho hx]
  split_ifs
  · exact hx
  · exact hback false
  · exact hback true
  · exact hx

/-- The PLL stays on the internal oscillator while FORCEINT acts, and after a loss with AUTORET clear. -/
theorem forceFollow_onInt (hi : s.Inv) (ho : s.onInt = true) (hx : s.rd (tmbF Reg.tmbStatXtalok 0) = 1) :
    s.forceFollow.onInt = (s.forceInt || (!(s.sys.forced || !s.sys.xtalEver) && !s.rdB (tmbF Reg.tmbCfgAutoret 0))) := by
  rw [forceFollow_of_xtalok ho hx]
  split_ifs with hf hn ha
  · rw [hf, ho, Bool.true_or]
  · rw [toCrystal_onInt hi, Bool.eq_false_iff.mpr hf, hn, Bool.not_true, Bool.false_and, Bool.or_false]
  · rw [toCrystal_onInt hi, Bool.eq_false_iff.mpr hf, ha, Bool.not_true, Bool.and_false, Bool.or_false]
  · rw [ho, Bool.eq_false_iff.mpr hn, Bool.eq_false_iff.mpr ha, Bool.not_false, Bool.and_true, Bool.or_true]

/-- The crystal shown as qualified. -/
def State.xtalOk (s : State) : State := s.wr (tmbF Reg.tmbStatXtalok 0) 1

theorem xtalOk_inv (hi : s.Inv) : s.xtalOk.Inv := wr_inv hi _ 1

theorem xtalOk_rd (hi : s.Inv) : s.xtalOk.rd (tmbF Reg.tmbStatXtalok 0) = 1 := rd_wr_bit hi rfl (by decide)

theorem xtalOk_rdB (h : f.key ≠ (tmbF Reg.tmbStatXtalok 0).key) : s.xtalOk.rdB f = s.rdB f := rdB_of_rd (State.rd_wr_ne h 1)

theorem xtalOk_onInt : s.xtalOk.onInt = s.onInt := xtalOk_rdB (by decide)

theorem xtalOk_forceInt : s.xtalOk.forceInt = s.forceInt :=
  congrArg (s.mode == .bench && ·) (xtalOk_rdB (by decide))

section

variable (hi : s.Inv) (hup : s.islandUp = true)
include hi hup

theorem execXtalQualified_first (ho : s.onInt = true) (he : s.sys.xtalEver = false) :
    ∃ t, exec .xtalQualified s = .next t ∧ t.rd (tmbF Reg.tmbStatXtalok 0) = 1 ∧ t.rdB (tmbF Reg.tmbStatOnint 0) = s.forceInt
      ∧ (s.forceInt = false → t.rd (tmbF Reg.tmbStatSlewing 0) = 1 ∧ t.sys.xtalEver = true) := by
  have hx := xtalOk_rd hi
  have ho' := xtalOk_onInt.trans ho
  have he' : s.xtalOk.sys.xtalEver = false := he
  refine ⟨s.xtalOk.forceFollow, if_pos (by rw [hup, ho, he]; rfl), forceFollow_xtalok ho' hx, ?_, fun hf => ?_⟩
  · refine (forceFollow_onInt (xtalOk_inv hi) ho' hx).trans ?_
    rw [he', xtalOk_forceInt, Bool.not_false, Bool.or_true, Bool.not_true, Bool.false_and, Bool.or_false]
  · have hto : s.xtalOk.forceFollow = s.xtalOk.toCrystal false := by
      rw [forceFollow_of_xtalok ho' hx, xtalOk_forceInt, hf, he', Bool.not_false, Bool.or_true]
      rfl
    rw [hto]
    exact ⟨slewTo_slewing (xtalOk_inv hi), rfl⟩

theorem execXtalReturn_later (ho : s.onInt = true) (he : s.sys.xtalEver = true) :
    ∃ t, exec .xtalReturn s = .next t ∧ t.rd (tmbF Reg.tmbStatXtalok 0) = 1
      ∧ t.rdB (tmbF Reg.tmbStatOnint 0) = (s.forceInt || (!s.sys.forced && !s.rdB (tmbF Reg.tmbCfgAutoret 0))) := by
  have hx := xtalOk_rd hi
  have ho' := xtalOk_onInt.trans ho
  have he' : s.xtalOk.sys.xtalEver = true := he
  have hf' : s.xtalOk.sys.forced = s.sys.forced := rfl
  refine ⟨s.xtalOk.forceFollow, if_pos (by rw [hup, ho, he]; rfl), forceFollow_xtalok ho' hx, ?_⟩
  refine (forceFollow_onInt (xtalOk_inv hi) ho' hx).trans ?_
  rw [he', hf', xtalOk_forceInt, xtalOk_rdB (by decide), Bool.not_true, Bool.or_false]

end

/-- What a crystal loss shows: the states of the crystal and the PLL, and the count. -/
def lossFields : List Fld :=
  [tmbF Reg.tmbStatXtalok 0, tmbF Reg.tmbStatOnint 0, tmbF Reg.tmbStatSlewing 0, tmbF Reg.tmbXlossXlosscnt 0]

theorem lossFields_quiet : ∀ f ∈ lossFields, quietKey f.key := by decide

/-- `t` shows a loss that took the PLL of `s` off the crystal (R37). -/
structure LostFrom (s t : State) : Prop where
  xtalok : t.rd (tmbF Reg.tmbStatXtalok 0) = 0
  onint : t.rd (tmbF Reg.tmbStatOnint 0) = 1
  slewing : t.rd (tmbF Reg.tmbStatSlewing 0) = 1
  count : t.rd (tmbF Reg.tmbXlossXlosscnt 0) = sat 16 (s.rd (tmbF Reg.tmbXlossXlosscnt 0) + 1) % 2 ^ 16

theorem LostFrom.spares (h : LostFrom s t) (hu : Spares lossFields t u) : LostFrom s u where
  xtalok := (hu _ (by simp [lossFields])).trans h.xtalok
  onint := (hu _ (by simp [lossFields])).trans h.onint
  slewing := (hu _ (by simp [lossFields])).trans h.slewing
  count := (hu _ (by simp [lossFields])).trans h.count

theorem wrXtalok_onInt {v : Nat} : (s.wr (tmbF Reg.tmbStatXtalok 0) v).onInt = s.onInt := rdB_of_rd (State.rd_wr_ne (by decide) v)

theorem xtalLoss_onXtal (hi : s.Inv) (ho : s.onInt = false) : LostFrom s s.xtalLoss := by
  have he : s.xtalLoss = (((s.wr (tmbF Reg.tmbStatXtalok 0) 0).slewTo true).inc (tmbF Reg.tmbXlossXlosscnt 0)).tokenEv 8 0x01 0 :=
    if_neg (by rw [wrXtalok_onInt, ho]; decide)
  have hx := wr_inv hi (tmbF Reg.tmbStatXtalok 0) 0
  have hslew : ((s.wr (tmbF Reg.tmbStatXtalok 0) 0).slewTo true).Inv := wr_inv (wr_inv hx _ _) _ _
  have hcnt : ((s.wr (tmbF Reg.tmbStatXtalok 0) 0).slewTo true).rd (tmbF Reg.tmbXlossXlosscnt 0) = s.rd (tmbF Reg.tmbXlossXlosscnt 0) :=
    (slewTo_rd (by decide) (by decide)).trans (State.rd_wr_ne (by decide) 0)
  have hon : ((s.wr (tmbF Reg.tmbStatXtalok 0) 0).slewTo true).rd (tmbF Reg.tmbStatOnint 0) = 1 :=
    (State.rd_wr_ne (by decide) 1).trans (rd_wr_bit hx rfl (by decide))
  rw [he]
  refine LostFrom.spares ⟨?_, ?_, ?_, ?_⟩ ((Spares.refl _).tokenEv lossFields_quiet)
  · exact (State.rd_wr_ne (by decide) _).trans ((slewTo_rd (by decide) (by decide)).trans (rd_wr_bit hi rfl (by decide)))
  · exact (State.rd_wr_ne (by decide) _).trans hon
  · exact (State.rd_wr_ne (by decide) _).trans (slewTo_slewing hx)
  · rw [State.inc, hcnt]
    exact State.rd_wr_self hslew.regs _ _

theorem xtalLoss_onInt (ho : s.onInt = true) : s.xtalLoss = s.wr (tmbF Reg.tmbStatXtalok 0) 0 := if_pos (wrXtalok_onInt.trans ho)

section

variable (hi : s.Inv) (hup : s.islandUp = true)
include hi hup

theorem execXtalEdgeTimeout_onXtal (ho : s.onInt = false) (late : Bool) :
    ∃ t, exec (.xtalEdgeTimeout late) s = .next t ∧ LostFrom s t := by
  refine ⟨_, if_pos hup, (xtalLoss_onXtal hi ho).spares ?_⟩
  exact .ite (.late (.refl _) lossFields_quiet) (.refl _)

theorem execXtalEdgeTimeout_onInt (ho : s.onInt = true) : ∃ t, exec (.xtalEdgeTimeout false) s = .next t
    ∧ t.rd (tmbF Reg.tmbStatXtalok 0) = 0 ∧ onlyRegs s t [tmbF Reg.tmbStatXtalok 0] := by
  have he : exec (.xtalEdgeTimeout false) s = .next s.xtalLoss := if_pos hup
  rw [he, xtalLoss_onInt ho]
  exact ⟨_, rfl, rd_wr_bit hi rfl (by decide), onlyRegs_wr s _ 0⟩

variable {xtal osc : BitVec 16}

theorem execXtalCountWindow_loss (hd : 5 * osc.toNat < 100 * ((xtal.toNat - osc.toNat) + (osc.toNat - xtal.toNat)))
    (ho : s.onInt = false) : ∃ t, exec (.xtalCountWindow xtal osc) s = .next t ∧ LostFrom s t :=
  ⟨_, if_pos (by rw [hup, decide_eq_true hd]; rfl), xtalLoss_onXtal hi ho⟩

omit hi hup in
theorem execXtalCountWindow_near (hd : 100 * ((xtal.toNat - osc.toNat) + (osc.toNat - xtal.toNat)) ≤ 5 * osc.toNat) :
    exec (.xtalCountWindow xtal osc) s = .next s :=
  if_neg (by rw [decide_eq_false (Nat.not_lt.mpr hd), Bool.and_false]; decide)

end

/-- Settles O16: the commands of the PLL, the calibration, the fabric and the counter, then those of the crystal. -/
theorem timebase : Obligations.Timebase := by
  unfold Obligations.Timebase
  refine ⟨fun s hi hup => ⟨?_, ?_, ?_, ?_, ?_, ?_, ?_, ?_⟩, fun s hi hup => ⟨?_, ?_, fun ho late => ?_, ?_, fun _ _ hd ho => ?_, ?_⟩⟩
  · exact execPllLock_up hi hup
  · exact execPllUnlock_locked hi hup
  · exact execPllRelock_up hi hup
  · exact execSlewDone_up hi hup
  · exact execInterpolatorCalibration_spans hi hup
  · exact execInterpolatorCalibration_fails hi hup
  · exact execHandshakeMeasurement_up hi hup
  · exact execTmbUsLoRead_lUp hi
  · exact execXtalQualified_first hi hup
  · exact execXtalReturn_later hi hup
  · obtain ⟨t, ht, hl⟩ := execXtalEdgeTimeout_onXtal hi hup ho late
    exact ⟨t, ht, hl.xtalok, hl.onint, hl.slewing, hl.count⟩
  · exact execXtalEdgeTimeout_onInt hi hup
  · obtain ⟨t, ht, hl⟩ := execXtalCountWindow_loss hi hup hd ho
    exact ⟨t, ht, hl.xtalok, hl.onint⟩
  · exact fun _ _ hd => execXtalCountWindow_near hd

end

end Sys2Proof.Machine

/-!
PROOFS. The balance. First, what the done points of commands leave; then the cycles, the end of a window, and the telemetry read.
-/

namespace Sys2Proof.Machine

section

variable {old s t u : State} {f : Fld} {ks : List Fld}

/-! ### What done points leave -/

/-- The parts of the state that no event, token, LATE event or done point of a command changes, of those that the statements
of this chapter speak of. -/
abbrev State.apart (s : State) := (s.act, s.abc, s.bal, s.loop)

theorem apart_of_signals (h : onlySignals s t ks) : t.apart = s.apart := by
  rw [h.1]

theorem raise_apart {n : Nat} : (s.raise n).apart = s.apart := apart_of_signals (raise_signals s n [])

theorem tokenEv_apart {src kind detail : Nat} : (s.tokenEv src kind detail).apart = s.apart :=
  apart_of_signals (tokenEv_signals s src kind detail [])

theorem late_apart {src detail : Nat} : (s.late src detail).apart = s.apart :=
  (apart_of_signals (late_signals s src detail)).trans rfl

theorem setStatus_apart {seq code reason : Nat} : (s.setStatus seq code reason).apart = s.apart := by
  unfold State.setStatus
  dsimp only
  split_ifs
  · rfl
  · exact raise_apart
  · rfl

theorem doneOne_apart {code reason : Nat} {e : JEntry} : (State.doneOne code reason s e).apart = s.apart := by
  unfold State.doneOne
  dsimp only
  split
  · exact setStatus_apart
  · exact late_apart

theorem doneEntries_apart {p : JEntry → Bool} {code reason : Nat} : (s.doneEntries p code reason).apart = s.apart :=
  List.foldlRecOn (motive := fun t : State => t.apart = s.apart) _ _ rfl fun _ h _ _ => doneOne_apart.trans h

theorem commitDone_apart {pg : Nat} : (s.commitDone pg).apart = s.apart := by
  unfold State.commitDone
  split
  · exact (doneEntries_apart (s := s.wr (hdr Reg.pgCbusy pg) 0)).trans rfl
  · exact doneEntries_apart

section

variable (hq : ∀ f ∈ ks, quietKey f.key)
include hq

/-- The counters of commands lie on page 0x00A. -/
theorem Spares.incCmd2 {r : Row} {n : Nat} (h : Spares ks old s) (hr : r.fits 0) : Spares ks old (s.inc (cmd2F r 0) n) :=
  h.wr fun g hg e => by
    obtain ⟨-, -, hpage, -⟩ := hq g hg
    rw [e] at hpage
    exact hpage (Row.page_at hr)

theorem Spares.setStatus {seq code reason : Nat} (h : Spares ks old s) : Spares ks old (s.setStatus seq code reason) := by
  have hj : Spares ks old (s.jMod seq fun e => { e with status := some (code, reason) }) := h.same
  unfold State.setStatus
  dsimp only
  exact .ite (hj.incCmd2 hq (by decide)) (.ite ((hj.incCmd2 hq (by decide)).raise hq) hj)

theorem Spares.doneOne {code reason : Nat} {e : JEntry} (h : Spares ks old s) : Spares ks old (State.doneOne code reason s e) := by
  have hj : Spares ks old (s.jMod e.seq fun x => { x with wait := .none }) := h.same
  unfold State.doneOne
  dsimp only
  exact .ite (hj.setStatus hq) (hj.late hq)

theorem Spares.doneEntries {p : JEntry → Bool} {code reason : Nat} (h : Spares ks old s) :
    Spares ks old (s.doneEntries p code reason) := h.foldl fun _ _ _ ih => ih.doneOne hq

theorem Spares.commitDone {pg : Nat} (h : Spares ks old s) (hb : ∀ g ∈ ks, g.key ≠ (hdr Reg.pgCbusy pg).key)
    (hc : ∀ g ∈ ks, g.key ≠ (hdr Reg.pgCpend pg).key) : Spares ks old (s.commitDone pg) := by
  have hd : Spares ks old ((s.wr (hdr Reg.pgCbusy pg) 0).doneWait (.commit pg)) := (h.wr hb).doneEntries hq
  have hs : Spares ks old ((((s.wr (hdr Reg.pgCbusy pg) 0).doneWait (.commit pg)).wr (hdr Reg.pgCpend pg) 0).takeSnap pg) :=
    (hd.wr hc).same
  unfold State.commitDone
  dsimp only
  exact .ite (Spares.same (hs.wr hb)) hd

end

/-! ### Balance cycles (R41, R42, R247, R248) -/

theorem foldl_wrB_apart {α : Type} {l : List α} {g : α → Fld} {b : α → Bool} :
    (l.foldl (fun t x => t.wrB (g x) (b x)) s).apart = s.apart :=
  List.foldlRecOn (motive := fun t : State => t.apart = s.apart) _ _ rfl fun _ h _ _ => h

/-- The figures of a settle enter the sums of the window and of the candidates, and the settle is used up. -/
theorem balEnter_apart (raw : RawS) : ∃ cand, (s.balEnter raw).apart = (s.act, { s.abc with raw := none },
    { s.bal with n := s.bal.n + raw.weight, sr := s.bal.sr + raw.weight * raw.r, srr := s.bal.srr + raw.weight * raw.r * raw.r,
                 ss := s.bal.ss + raw.weight * raw.s, cand := cand }, s.loop) :=
  ⟨_, foldl_wrB_apart.trans rfl⟩

theorem execBalanceCycle_raw {raw : RawS} (hr : s.balRuns = true) (h : s.abc.raw = some raw) :
    ∃ t, exec (.balanceCycle false) s = .next t ∧ t.bal.n = s.bal.n + raw.weight
      ∧ t.bal.sr = s.bal.sr + raw.weight * raw.r ∧ t.bal.srr = s.bal.srr + raw.weight * raw.r * raw.r
      ∧ t.bal.ss = s.bal.ss + raw.weight * raw.s ∧ t.abc.raw = none := by
  have he : exec (.balanceCycle false) s = .next (s.balEnter raw) := by
    show execBalanceCycle false s = _
    unfold execBalanceCycle
    rw [hr, h]
    rfl
  obtain ⟨cand, hp⟩ := balEnter_apart (s := s) raw
  simp only [State.apart, Prod.mk.injEq] at hp
  obtain ⟨-, habc, hbal, -⟩ := hp
  exact ⟨_, he, by rw [hbal], by rw [hbal], by rw [hbal], by rw [hbal], by rw [habc]⟩

/-- A late cycle is void, and its settle is used up (R41). -/
def State.cycleVoid (s : State) : State :=
  { s with bal := { s.bal with void := s.bal.void + 1 }, abc := { s.abc with raw := none } }

theorem execBalanceCycle_late (hi : s.Inv) (hr : s.balRuns = true) :
    ∃ t, exec (.balanceCycle true) s = .next t ∧ t.bal.void = s.bal.void + 1 ∧ t.bal.n = s.bal.n ∧ t.abc.raw = none
      ∧ t.rd (fabF Reg.fabBallateCnt 0) = (s.rd (fabF Reg.fabBallateCnt 0) + 1) % 2 ^ 32 := by
  have hp : (((s.cycleVoid.incWrap (fabF Reg.fabBallateCnt 0)).raise 22).late 22).apart = s.cycleVoid.apart :=
    late_apart.trans raise_apart
  simp only [State.apart, Prod.mk.injEq] at hp
  obtain ⟨-, habc, hbal, -⟩ := hp
  have hq : ∀ f ∈ [fabF Reg.fabBallateCnt 0], quietKey f.key := by decide
  have hs := ((Spares.refl (s.cycleVoid.incWrap (fabF Reg.fabBallateCnt 0))).raise (n := 22) hq).late (src := 22) (detail := 0) hq
  have hcnt : (s.cycleVoid.incWrap (fabF Reg.fabBallateCnt 0)).rd (fabF Reg.fabBallateCnt 0)
      = (s.rd (fabF Reg.fabBallateCnt 0) + 1) % 2 ^ 32 := State.rd_wr_self hi.regs _ _
  exact ⟨_, if_pos hr, congrArg BalS.void hbal, (congrArg BalS.n hbal).trans rfl, congrArg AbcS.raw habc,
    (hs _ (List.mem_singleton_self _)).trans hcnt⟩

/-! ### The end of a balance window (R248 to R254) -/

/-- What the statement reads of a window that ends. -/
def windowFields : List Fld := [bal0F Reg.balWinusUs 0, bal0F Reg.balStatVoid 0, bal0F Reg.balNwinVoid 0]

theorem windowFields_quiet : ∀ f ∈ windowFields, quietKey f.key := by decide

/-- A field of a candidate lies above the page of the window. -/
theorem Spares.wrBalc {r : Row} {c v : Nat} (h : Spares ks old s) (hp : ∀ g ∈ ks, g.key < 0x065 * 131072) :
    Spares ks old (s.wr (bal1F r c) v) := h.wr fun g hg e => by
  have hlt := hp g hg
  rw [e] at hlt
  simp only [bal1F, Row.at, Fld.key] at hlt
  omega

theorem windowFields_below : ∀ g ∈ windowFields, g.key < 0x065 * 131072 := by decide

theorem Spares.telJudge {c : Nat} (h : Spares windowFields old s) : Spares windowFields old (s.telJudge c) := by
  unfold State.telJudge
  extract_lets +onlyGivenNames b
  refine .ite h ?_
  extract_lets w posted d tol susn set bad good
  have hset (run ok : Nat) : Spares windowFields old (set s run ok) := h.same
  have hwr (run ok v : Nat) : Spares windowFields old ((set s run ok).wr (bal1F Reg.balcStTelsus c) v) :=
    (hset run ok).wrBalc windowFields_below
  exact .ite (.ite ((hwr _ _ 1).tokenEv windowFields_quiet) (hset _ _)) (.ite (hwr _ _ 0) (hset _ _))

/-- One page of the balance at the start of a window: its commit applies (R254). -/
def State.windowApply (s : State) (pg : Nat) : State :=
  if s.rdB (hdr Reg.pgCbusy pg) then (s.applyPart (pageLo pg) (pageHi pg)).commitDone pg else s

theorem windowApply_bal {pg : Nat} : (s.windowApply pg).bal = s.bal := by
  unfold State.windowApply
  split
  · exact congrArg (fun p => p.2.2.1) (commitDone_apart (s := s.applyPart (pageLo pg) (pageHi pg)) (pg := pg))
  · rfl

theorem Spares.windowApply {pg : Nat} (h : Spares windowFields old s) (hpg : pg ∈ [0x064, 0x065]) :
    Spares windowFields old (s.windowApply pg) := by
  refine .ite ?_ h
  have ha : Spares windowFields old (s.applyPart (pageLo pg) (pageHi pg)) := h.same
  refine ha.commitDone windowFields_quiet ?_ ?_ <;>
  · clear * - hpg
    revert pg
    decide

/-- The sums of a window that starts. -/
def State.sumsCleared (s : State) : State :=
  { s with bal := { s.bal with n := 0, void := 0, sr := 0, srr := 0, ss := 0, lo := [], hi := [],
                               cand := s.bal.cand.map fun x => { telRun := x.telRun, telOk := x.telOk } } }

theorem newWindow_eq : s.newWindow = [0x064, 0x065].foldl State.windowApply s.sumsCleared := rfl

theorem newWindow_bal : s.newWindow.bal = s.sumsCleared.bal := by
  rw [newWindow_eq]
  exact List.foldlRecOn (motive := fun t : State => t.bal = s.sumsCleared.bal) _ _ rfl fun _ h _ _ => windowApply_bal.trans h

theorem Spares.newWindow (h : Spares windowFields old s) : Spares windowFields old s.newWindow := by
  rw [newWindow_eq]
  have hc : Spares windowFields old s.sumsCleared := h.same
  exact hc.foldl fun _ _ hpg ih => ih.windowApply hpg

/-- The means of the window that ends, and when it ended (R248). -/
def State.windowMeans (s : State) : State :=
  ((s.wr (bal0F Reg.balWinusUs 0) s.us32).wr (bal0F Reg.balRmeanR 0)
      (tw 32 (qround ((s.bal.sr : ℚ) / ((max 1 s.bal.n : Nat) : ℚ))))).wr
    (bal0F Reg.balSmeanS 0) (tw 32 (qround ((s.bal.ss : ℚ) / ((max 1 s.bal.n : Nat) : ℚ))))

/-- The window is judged (R248). -/
def State.windowJudged (s : State) : Bool :=
  s.bal.n != 0 && decide (s.bal.void ≤ 1000) && decide ((s.eff (bal0F Reg.balCfg2Smin 0) : Int) * (s.bal.n : Int) ≤ s.bal.ss)

/-- A window that is not judged is shown as void and counted. -/
def State.windowVoid (s : State) : State :=
  (((s.wr (bal0F Reg.balStatVoid 0) 1).wr (bal0F Reg.balStatUnbal 0) 0).wr (bal0F Reg.balStatAmbig 0) 0).inc
    (bal0F Reg.balNwinVoid 0)

/-- A window that is judged. -/
def State.windowJudge (old s : State) : State :=
  let c := (s.wr (bal0F Reg.balStatVoid 0) 0).inc (bal0F Reg.balNwinJudged 0)
  if (old.eff (bal0F Reg.balCfgThr 0) : Int) * old.bal.ss < 1000 * (old.bal.sr.natAbs : Int) then c.unbalanced
  else
    (List.range 73).foldl (fun t c => t.wr (bal1F Reg.balcStRun c) 0)
      ((c.wr (bal0F Reg.balStatUnbal 0) 0).wr (bal0F Reg.balStatAmbig 0) 0)

/-- The telemetry of the FEED modules at the end of a window (R252). -/
def State.windowTel (old s : State) : State :=
  if old.effB (bal0F Reg.balCfgTelen 0) then ((List.range 48).filter fun c => old.bayRole c == 0).foldl State.telJudge s else s

/-- What a window that ends shows. -/
def State.windowShown (s : State) : State := if s.windowJudged then s.windowJudge s.windowMeans else s.windowMeans.windowVoid

theorem window_eq : s.window = (s.windowTel s.windowShown).newWindow := rfl

theorem window_bal : s.window.bal = (s.windowTel s.windowShown).sumsCleared.bal := by
  rw [window_eq, newWindow_bal]

/-- When the window ended. -/
def windowEnd : List Fld := [bal0F Reg.balWinusUs 0]

theorem windowEnd_quiet : ∀ f ∈ windowEnd, quietKey f.key := by decide

theorem windowEnd_below : ∀ g ∈ windowEnd, g.key < 0x065 * 131072 := by decide

theorem Spares.becomeSuspect {c eps : Nat} {stuck : Bool} (h : Spares windowEnd old s) :
    Spares windowEnd old (s.becomeSuspect c stuck eps) := by
  have hb := ((h.wrBalc (r := Reg.balcStSuspect) (c := c) (v := 1) windowEnd_below).wrBalc (r := Reg.balcStKind) (c := c)
    (v := b2n stuck) windowEnd_below).wrBalc (r := Reg.balcEpsEps) (c := c) (v := eps) windowEnd_below
  exact (hb.wr (f := bal0F Reg.balStatNsus 0) (by decide)).wr (f := bal0F Reg.balStatMulti 0) (by decide)

theorem Spares.mark {c : Nat} {stuck : Bool} (h : Spares windowEnd old s) : Spares windowEnd old (s.mark c stuck) := by
  unfold State.mark
  extract_lets a b eps
  have ha : Spares windowEnd old a :=
    h.foldl fun _ _ _ ih => .ite (ih.wrBalc windowEnd_below) (ih.wrBalc windowEnd_below)
  have hb : Spares windowEnd old b := ha.wr (by decide)
  exact .ite (.ite hb (hb.wrBalc windowEnd_below)) (.ite (hb.becomeSuspect.tokenEv windowEnd_quiet) hb)

theorem Spares.unbalanced (h : Spares windowEnd old s) : Spares windowEnd old s.unbalanced := by
  unfold State.unbalanced
  extract_lets b a d e
  have ha : Spares windowEnd old a := h.foldl fun _ _ _ ih => ih.wrBalc windowEnd_below
  have hd : Spares windowEnd old d := (((ha.wr (by decide)).wr (by decide)).wr (by decide)).wr (by decide)
  have he : Spares windowEnd old e := (hd.wr (by decide)).raise windowEnd_quiet
  split
  · exact (he.wr (by decide)).mark
  · exact (he.wr (by decide)).raise windowEnd_quiet

theorem Spares.windowJudge {r : State} (h : Spares windowEnd old s) : Spares windowEnd old (r.windowJudge s) := by
  unfold State.windowJudge
  extract_lets c
  have hc : Spares windowEnd old c := (h.wr (by decide)).wr (by decide)
  exact .ite hc.unbalanced (Spares.foldl ((hc.wr (by decide)).wr (by decide)) fun _ _ _ ih => ih.wrBalc windowEnd_below)

theorem Spares.windowVoid (h : Spares windowEnd old s) : Spares windowEnd old s.windowVoid :=
  (((h.wr (by decide)).wr (by decide)).wr (by decide)).wr (by decide)

theorem Spares.windowTel {r : State} (h : Spares windowFields old s) : Spares windowFields old (r.windowTel s) :=
  .ite (h.foldl fun _ _ _ ih => ih.telJudge) h

theorem windowMeans_winus (hi : s.Inv) : s.windowMeans.rd (bal0F Reg.balWinusUs 0) = s.us32 :=
  (State.rd_wr_ne (by decide) _).trans ((State.rd_wr_ne (by decide) _).trans
    ((State.rd_wr_self hi.regs _ _).trans (Nat.mod_mod _ _)))

theorem windowMeans_inv (hi : s.Inv) : s.windowMeans.Inv := wr_inv (wr_inv (wr_inv hi _ _) _ _) _ _

/-- What the window shows in the end is what it showed when it was judged. -/
theorem window_rd (hf : f ∈ windowFields) : s.window.rd f = s.windowShown.rd f := by
  rw [window_eq]
  exact (Spares.refl _).windowTel.newWindow f hf

theorem window_winus (hi : s.Inv) : s.window.rd (bal0F Reg.balWinusUs 0) = s.us32 := by
  have hsp : Spares windowEnd s.windowMeans s.windowShown := .ite (Spares.refl _).windowJudge (Spares.refl _).windowVoid
  rw [window_rd (by simp [windowFields])]
  exact (hsp _ (List.mem_singleton_self _)).trans (windowMeans_winus hi)

/-- A window with no cycle, or with more than 1,000 void ones, is void (R41). -/
theorem windowJudged_void (h : s.bal.n = 0 ∨ 1000 < s.bal.void) : s.windowJudged = false := by
  unfold State.windowJudged
  rcases h with h | h
  · rw [h]
    rfl
  · rw [decide_eq_false (Nat.not_le.mpr h), Bool.and_false, Bool.false_and]

theorem windowVoid_shown (hi : s.Inv) : s.windowVoid.rd (bal0F Reg.balStatVoid 0) = 1 ∧ s.windowVoid.rd (bal0F Reg.balNwinVoid 0)
    = sat 16 (s.rd (bal0F Reg.balNwinVoid 0) + 1) % 2 ^ 16 := by
  have hcnt : (((s.wr (bal0F Reg.balStatVoid 0) 1).wr (bal0F Reg.balStatUnbal 0) 0).wr (bal0F Reg.balStatAmbig 0) 0).rd
      (bal0F Reg.balNwinVoid 0) = s.rd (bal0F Reg.balNwinVoid 0) :=
    (State.rd_wr_ne (by decide) 0).trans ((State.rd_wr_ne (by decide) 0).trans (State.rd_wr_ne (by decide) 1))
  refine ⟨?_, ?_⟩
  · exact (State.rd_wr_ne (by decide) _).trans
      ((State.rd_wr_ne (by decide) 0).trans ((State.rd_wr_ne (by decide) 0).trans (rd_wr_bit hi rfl (by decide))))
  · rw [State.windowVoid, State.inc, hcnt]
    exact State.rd_wr_self (wr_inv (wr_inv (wr_inv hi _ _) _ _) _ _).regs _ _

theorem window_void (hi : s.Inv) (h : s.bal.n = 0 ∨ 1000 < s.bal.void) : s.window.rd (bal0F Reg.balStatVoid 0) = 1
    ∧ s.window.rd (bal0F Reg.balNwinVoid 0) = sat 16 (s.rd (bal0F Reg.balNwinVoid 0) + 1) % 2 ^ 16 := by
  have hcnt : s.windowMeans.rd (bal0F Reg.balNwinVoid 0) = s.rd (bal0F Reg.balNwinVoid 0) :=
    (State.rd_wr_ne (by decide) _).trans ((State.rd_wr_ne (by decide) _).trans (State.rd_wr_ne (by decide) _))
  have hshown : s.windowShown = s.windowMeans.windowVoid := if_neg (by rw [windowJudged_void h]; decide)
  rw [window_rd (by simp [windowFields]), window_rd (by simp [windowFields]), hshown, ← hcnt]
  exact windowVoid_shown (windowMeans_inv hi)

theorem execBalanceWindow_runs (hi : s.Inv) (hr : s.balRuns = true) :
    ∃ t, exec .balanceWindow s = .next t ∧ t.bal.n = 0 ∧ t.bal.void = 0 ∧ t.bal.sr = 0 ∧ t.rd (bal0F Reg.balWinusUs 0) = s.us32
      ∧ ((s.bal.n = 0 ∨ 1000 < s.bal.void) → t.rd (bal0F Reg.balStatVoid 0) = 1
        ∧ t.rd (bal0F Reg.balNwinVoid 0) = sat 16 (s.rd (bal0F Reg.balNwinVoid 0) + 1) % 2 ^ 16) := by
  refine ⟨_, if_pos hr, ?_, ?_, ?_, window_winus hi, window_void hi⟩ <;> rw [window_bal] <;> rfl

/-! ### Telemetry (R252, R387) -/

theorem twModule_port {b p addr : Nat} (h : s.twModule b = some (p, addr)) : p < 8 := by
  obtain ⟨n, hn, he⟩ := List.exists_of_findSome?_eq_some h
  rw [Option.map_eq_some_iff] at he
  obtain ⟨k, -, hk⟩ := he
  simp only [Prod.mk.injEq] at hk
  rw [← hk.1]
  exact List.mem_range.mp (List.mem_filter.mp hn).1

/-- A transaction waits on a port. -/
def State.asked (s : State) (p : Nat) (x : Xact) : State := s.twMod p fun t => { t with queue := t.queue ++ [x] }

/-- A request on a port that is idle goes on the bus at once. -/
theorem xactRequest_idle {p : Nat} {x : Xact} (hp : p < 8) (hcls : x.cls = 2) (hst : s.twSt p = 1) (hrun : (s.twp p).run = none)
    (hq : (s.twp p).queue = []) : ∃ v, s.xactRequest p x = State.xactStart { s with twc := v } p x := by
  have hfails : s.twFails p = none := by simp [State.twFails, hst]
  have hport : (s.asked p x).twp p = { s.twp p with queue := [x] } :=
    (vget_vmod_self s.twc p _ hp).trans (congrArg (fun q => { s.twp p with queue := q ++ [x] }) hq)
  have hfind : ((List.range 4).findSome? fun c => [x].findIdx? fun y => y.cls == c) = some 0 := by
    simp [List.range, List.range.loop, List.findIdx?, List.findIdx?.go, hcls]
  have hreq : s.xactRequest p x = (s.asked p x).twNext p := by
    unfold State.xactRequest
    rw [hfails]
    rfl
  have hidle : ¬ ((s.asked p x).twSt p ≠ 1 ∨ ((s.asked p x).twp p).run.isSome = true) := by
    rw [hport, not_or, hrun]
    exact ⟨fun h => h hst, by decide⟩
  refine ⟨((s.asked p x).twMod p fun t => { t with queue := t.queue.eraseIdx 0 }).twc, ?_⟩
  rw [hreq, State.twNext, if_neg hidle, hport]
  dsimp only
  rw [hfind]
  rfl

/-- A read sends its command code alone. -/
theorem xactStart_read {p : Nat} {x : Xact} (hi : s.Inv) (hw : x.write = false) (hd : x.data = []) :
    (s.xactStart p x).out = s.out ++ [.pmbus p x.addr x.code []] ∧ (s.xactStart p x).twSt p = 2 := by
  have hbytes : s.xactBytes p x = [] := by rw [State.xactBytes, hw, hd]; rfl
  exact ⟨by rw [← hbytes]; rfl, State.rd_wr_self hi.regs _ 2⟩

theorem execTelemetryRead_one {b p addr : Nat} (hi : s.Inv) (hr : s.balRuns = true) (hen : s.effB (bal0F Reg.balCfgTelen 0) = true)
    (hb : (List.range 48).filter (fun n => s.bayRole n == 0) = [b]) (hm : s.twModule b = some (p, addr)) (hst : s.twSt p = 1)
    (hrun : (s.twp p).run = none) (hq : (s.twp p).queue = []) :
    ∃ t, exec .telemetryRead s = .next t ∧ t.out = s.out ++ [.pmbus p addr 0x96 []] ∧ t.twSt p = 2 := by
  obtain ⟨v, hv⟩ := xactRequest_idle (x := { cls := 2, arg := b, addr := addr, code := 0x96 }) (twModule_port hm) rfl hst hrun hq
  have he : exec .telemetryRead s = .next (s.xactRequest p { cls := 2, arg := b, addr := addr, code := 0x96 }) := by
    show execTelemetryRead s = _
    unfold execTelemetryRead
    rw [hr, hen, hb]
    dsimp only [List.foldl]
    rw [hm]
    rfl
  have hi' : State.Inv { s with twc := v } := ⟨hi.regs, hi.act, hi.mem, hi.evq, hi.twq, hi.offers, hi.islBuf⟩
  exact ⟨_, he.trans (congrArg _ hv), xactStart_read hi' rfl rfl⟩

/-- Settles O38: the cycle of a settle and the late one, the end of a window, and the telemetry read. -/
theorem balanceCommands : Obligations.BalanceCommands := by
  unfold Obligations.BalanceCommands
  refine fun s hi hr => ⟨fun raw h => ?_, ?_, ?_, fun b p addr hen hb hm hst hrun hq => ?_⟩
  · exact execBalanceCycle_raw hr h
  · exact execBalanceCycle_late hi hr
  · exact execBalanceWindow_runs hi hr
  · exact execTelemetryRead_one hi hr hen hb hm hst hrun hq

end

end Sys2Proof.Machine

/-!
PROOFS. The sample instant and the latch point of a loop. What a step leaves of the compensator of a loop (`SameLoop`) is shown for each
function that they call.
-/

namespace Sys2Proof.Machine

section

variable {old s t u : State} {f : Fld} {ks : List Fld} {j m n : Nat}

/-! ### Steps that leave the compensators -/

/-- The fields read as in `old`, and the active values and the hidden parts of `State.apart` stand as they stood. -/
structure Calm (ks : List Fld) (old s : State) : Prop where
  spares : Spares ks old s
  apart : s.apart = old.apart

theorem Calm.refl (s : State) : Calm ks s s := ⟨.refl s, rfl⟩

theorem Calm.trans (h : Calm ks s t) (h' : Calm ks t u) : Calm ks s u := ⟨h.spares.trans h'.spares, h'.apart.trans h.apart⟩

theorem Calm.same (h : Calm ks old s) (e : t.regs = s.regs := by rfl) (ea : t.apart = s.apart := by rfl) : Calm ks old t :=
  ⟨h.spares.same e, ea.trans h.apart⟩

theorem Calm.wr {v : Nat} (h : Calm ks old s) (hf : ∀ g ∈ ks, g.key ≠ f.key) : Calm ks old (s.wr f v) := ⟨h.spares.wr hf, h.apart⟩

theorem Calm.ite {c : Prop} {_ : Decidable c} (h : Calm ks old s) (h' : Calm ks old t) : Calm ks old (if c then s else t) := by
  split
  · exact h
  · exact h'

theorem Calm.foldl {α : Type} {g : State → α → State} {l : List α} (h : Calm ks old s)
    (hg : ∀ s, ∀ x ∈ l, Calm ks old s → Calm ks old (g s x)) : Calm ks old (l.foldl g s) :=
  List.foldlRecOn l g h fun s hs x hx => hg s x hx hs

/-- The keys of phase pages and loop-power pages (0x050 to 0x05F). -/
abbrev phaseKey (k : Nat) : Prop := 0x050 ≤ k / 131072 ∧ k / 131072 < 0x060

/-- Fields that no phase command, event or done point can change. -/
def Offside (ks : List Fld) : Prop := ∀ g ∈ ks, quietKey g.key ∧ ¬ phaseKey g.key

theorem Offside.quiet (h : Offside ks) : ∀ g ∈ ks, quietKey g.key := fun g hg => (h g hg).1

/-- A row of the phases of a page. -/
abbrev Row.isPh (r : Row) : Prop := r.off < 0x100 ∧ r.stride = 0x40 ∧ r.lo < 32

theorem mem_loopPhases (h : j ∈ s.loopPhases n) : j < 64 := List.mem_range.mp (List.mem_filter.mp h).1

section

variable (hk : Offside ks)
include hk

theorem Calm.raise {k : Nat} (h : Calm ks old s) : Calm ks old (s.raise k) := ⟨h.spares.raise hk.quiet, raise_apart.trans h.apart⟩

theorem Calm.tokenEv {src kind detail : Nat} (h : Calm ks old s) : Calm ks old (s.tokenEv src kind detail) :=
  ⟨h.spares.tokenEv hk.quiet, tokenEv_apart.trans h.apart⟩

theorem Calm.late {src detail : Nat} (h : Calm ks old s) : Calm ks old (s.late src detail) :=
  ⟨h.spares.late hk.quiet, late_apart.trans h.apart⟩

theorem Calm.doneWait {w : Wait} {code reason : Nat} (h : Calm ks old s) : Calm ks old (s.doneWait w code reason) :=
  ⟨h.spares.doneEntries hk.quiet, doneEntries_apart.trans h.apart⟩

theorem Calm.wrPh {r : Row} {v : Nat} (h : Calm ks old s) (hr : r.isPh) (hj : j < 64) : Calm ks old (s.wr (phF r j) v) :=
  h.wr fun g hg e => by
    obtain ⟨hoff, hstride, hlo⟩ := hr
    have hpage : (phF r j).key / 131072 = 0x050 + j / 4 := Row.page_at ⟨by rw [hstride]; omega, hlo⟩
    have hnot := (hk g hg).2
    rw [e, phaseKey, hpage] at hnot
    omega

theorem Calm.wrPwr {r : Row} {v : Nat} (h : Calm ks old s) (hr : r.fits 0) (hn : n < 16) : Calm ks old (s.wr (pwrF r n) v) :=
  h.wr fun g hg e => by
    have hnot := (hk g hg).2
    rw [e, phaseKey, pwrF, Row.page_at hr] at hnot
    omega

theorem Calm.setPh {st : Nat} (h : Calm ks old s) (hj : j < 64) : Calm ks old (s.setPh j st) := by
  have hmove : Calm ks old (s.movePh j st) := (h.wrPh hk (r := Reg.phStatState) (by decide) hj).same
  exact .ite hmove (.ite (hmove.raise hk) hmove)

theorem Calm.idlePhases (h : Calm ks old s) : Calm ks old (s.idlePhases n) :=
  h.foldl fun _ _ hj ih => .ite (Calm.setPh hk ih.same (mem_loopPhases hj)) ih

end

/-! ### What the work of one loop leaves to the others -/

/-- The fields lie off the page of loop `m`, and no phase command, event or done point changes them. -/
def Away (m : Nat) (ks : List Fld) : Prop := Offside ks ∧ ∀ g ∈ ks, g.key / 131072 ≠ 0x040 + m

/-- From `old` to `s` the hidden part of loop `m` alone may have changed, and no new result waits for its latch point. -/
structure AtLoop (ks : List Fld) (m : Nat) (old s : State) : Prop where
  spares : Spares ks old s
  act : s.act = old.act
  others : ∀ n, n ≠ m → s.lp n = old.lp n
  fresh : (old.lp m).fresh = none → (s.lp m).fresh = none

theorem AtLoop.refl (s : State) : AtLoop ks m s s := ⟨.refl s, rfl, fun _ _ => rfl, id⟩

theorem Calm.loop (h : Calm ks s t) : t.loop = s.loop := congrArg (fun p => p.2.2.2) h.apart

theorem Calm.act (h : Calm ks s t) : t.act = s.act := congrArg (fun p => p.1) h.apart

theorem AtLoop.calm (h : AtLoop ks m old s) (hc : Calm ks s t) : AtLoop ks m old t where
  spares := h.spares.trans hc.spares
  act := hc.act.trans h.act
  others k hk := (congrArg (vget · k) hc.loop).trans (h.others k hk)
  fresh hf := (congrArg (fun v => (vget v m).fresh) hc.loop).trans (h.fresh hf)

theorem Calm.atLoop (h : Calm ks old s) : AtLoop ks m old s := (AtLoop.refl old).calm h

theorem loopMod_lp_self {g : LoopS → LoopS} (hm : m < 16) : (s.loopMod m g).lp m = g (s.lp m) := vget_vmod_self _ m g hm

theorem loopMod_lp_ne {g : LoopS → LoopS} (h : m ≠ n) : (s.loopMod m g).lp n = s.lp n := vget_vmod_ne _ m n g h

theorem AtLoop.loopMod {g : LoopS → LoopS} (h : AtLoop ks m old s) (hm : m < 16)
    (hg : ∀ l, l.fresh = none → (g l).fresh = none) : AtLoop ks m old (s.loopMod m g) where
  spares := h.spares.same
  act := h.act
  others n hn := (loopMod_lp_ne hn.symm).trans (h.others n hn)
  fresh hf := by
    rw [loopMod_lp_self hm]
    exact hg _ (h.fresh hf)

theorem AtLoop.ite {c : Prop} {_ : Decidable c} (h : AtLoop ks m old s) (h' : AtLoop ks m old t) :
    AtLoop ks m old (if c then s else t) := by
  split
  · exact h
  · exact h'

section

variable (hk : Away m ks) (hm : m < 16)
include hk

theorem Calm.wrLoop {r : Row} {v : Nat} (h : Calm ks old s) (hr : r.fits 0) : Calm ks old (s.wr (loopF r m) v) :=
  h.wr fun g hg e => hk.2 g hg (by rw [e, loopF, Row.page_at hr])

theorem Calm.setPgood {x : Bool} (h : Calm ks old s) : Calm ks old (s.setPgood m x) :=
  .ite h ((h.wrLoop hk (by decide)).raise hk.1)

theorem Calm.showRef (h : Calm ks old s) : Calm ks old (s.showRef m) := h.wrLoop hk (by decide)

include hm

theorem AtLoop.loopTri {st : Nat} (h : AtLoop ks m old s) : AtLoop ks m old (s.loopTri m st) := by
  unfold State.loopTri
  extract_lets t u
  have ht : Calm ks s t := (((Calm.refl s).idlePhases hk.1).setPgood hk |>.wrLoop hk (by decide)).wrLoop hk (by decide)
  have hpwr := ((ht.wrPwr hk.1 (r := Reg.phPinPin) (v := 0) (by decide) hm).wrPwr hk.1 (r := Reg.phPlossPloss) (v := 0)
    (by decide) hm).wrPwr hk.1 (r := Reg.phPnowPnow) (v := 0) (by decide) hm
  have hshown := (hpwr.wrLoop hk (r := Reg.loopImeasIout) (v := 0) (by decide)).wrLoop hk (r := Reg.loopDnowDuty) (v := 0) (by decide)
  have hu : AtLoop ks m old u := (h.calm hshown).loopMod hm fun _ _ => rfl
  exact .ite (hu.calm ((Calm.refl u).raise hk.1)) hu

theorem AtLoop.loopFault {kind : Nat} (h : AtLoop ks m old s) : AtLoop ks m old (s.loopFault m kind) := by
  unfold State.loopFault
  refine .ite h ?_
  extract_lets det a b low stopping c d e
  have ha : Calm ks s a := ((Calm.refl s).wrLoop hk (by decide)).wrLoop hk (by decide)
  have hb : Calm ks s b := .ite (ha.wrLoop hk (by decide)) (.ite (ha.wrLoop hk (by decide)) ha)
  have hc : AtLoop ks m old c := ((h.calm hb).loopTri hk hm).loopMod hm fun _ => id
  have hd : AtLoop ks m old d := hc.calm (.ite ((Calm.refl c).raise hk.1) ((Calm.refl c).tokenEv hk.1))
  have he : AtLoop ks m old e := hd.calm ((Calm.refl d).doneWait hk.1)
  exact .ite (he.calm ((Calm.refl e).doneWait hk.1)) he

theorem AtLoop.nophase (h : AtLoop ks m old s) : AtLoop ks m old (s.nophase m) := .ite (h.loopFault hk hm) h

/-- The fields lie off the fabric's page. -/
def OffFabric (ks : List Fld) : Prop := ∀ g ∈ ks, g.key / 131072 ≠ 0x002

omit hk hm in
theorem Calm.wrFab {r : Row} {i v : Nat} (h : Calm ks old s) (hf : OffFabric ks) (hr : r.fits i) :
    Calm ks old (s.wr (fabF r i) v) := h.wr fun g hg e => hf g hg (by rw [e, fabF, Row.page_at hr])

theorem AtLoop.loopBegin (hf : OffFabric ks) (h : AtLoop ks m old s) : AtLoop ks m old (s.loopBegin m) := by
  unfold State.loopBegin
  extract_lets dmin a b
  have ha : AtLoop ks m old a := h.loopMod hm fun _ _ => rfl
  have hb : Calm ks a b := ((Calm.refl a).wrLoop hk (by decide)).foldl fun _ _ hj ih =>
    .ite (ih.setPh hk.1 (mem_loopPhases hj)) ih
  have hrun : Calm ks a (b.wr (fabF Reg.fabLplateRun m) 0) := hb.wrFab hf (by simp only [Row.fits, Reg.fabLplateRun]; omega)
  have hshown := Calm.showRef hk (hrun.wrFab hf (r := Reg.fabLptokStop) (i := 0)
    (v := putBit ((b.wr (fabF Reg.fabLplateRun m) 0).rd (fabF Reg.fabLptokStop 0)) m false) (by decide))
  exact (ha.calm hshown).nophase hk hm

theorem AtLoop.loopStart {delay : Bool} (hf : OffFabric ks) (h : AtLoop ks m old s) : AtLoop ks m old (s.loopStart m delay) := by
  have hmod {d : Option Bool} : AtLoop ks m old (s.loopMod m fun l => { l with deferred := d }) := h.loopMod hm fun _ => id
  unfold State.loopStart
  exact .ite hmod (.ite (hmod.calm ((Calm.refl _).wrLoop hk (by decide))) (h.loopBegin hk hm hf))

theorem AtLoop.loopUndefer (hf : OffFabric ks) (h : AtLoop ks m old s) : AtLoop ks m old (s.loopUndefer m) := by
  unfold State.loopUndefer
  split
  · exact .ite (h.loopStart hk hm hf) h
  · exact h

end

/-! ### What the sample instant of a loop leaves of it -/

/-- What a compensator reads of the registers besides settings in effect, and the states of its loop and of the analyzer. -/
def loopKept (n : Nat) : List Fld := [loopF Reg.loopStatState n, loopF Reg.loopStatBank n, lanF Reg.lanStatState 0]

/-- The history of a compensator, with the result that waits for the latch point. -/
abbrev LoopS.hist (l : LoopS) := (l.e, l.u, l.fresh)

/-- What loop `n` is and what its compensator has stand in `s` as in `old`. -/
structure SameLoop (n : Nat) (old s : State) : Prop where
  spares : Spares (loopKept n) old s
  act : s.act = old.act
  hist : (s.lp n).hist = (old.lp n).hist

theorem SameLoop.refl (s : State) : SameLoop n s s := ⟨.refl s, rfl, rfl⟩

theorem SameLoop.calm (h : SameLoop n old s) (hc : Calm (loopKept n) s t) : SameLoop n old t where
  spares := h.spares.trans hc.spares
  act := hc.act.trans h.act
  hist := (congrArg (fun v => (vget v n).hist) hc.loop).trans h.hist

theorem SameLoop.atLoop (h : SameLoop n old s) (ha : AtLoop (loopKept n) m s t) (hne : n ≠ m) : SameLoop n old t where
  spares := h.spares.trans ha.spares
  act := ha.act.trans h.act
  hist := (congrArg LoopS.hist (ha.others n hne)).trans h.hist

theorem SameLoop.loopMod {g : LoopS → LoopS} (h : SameLoop n old s) (hn : n < 16) (hg : ∀ l, (g l).hist = l.hist) :
    SameLoop n old (s.loopMod n g) where
  spares := h.spares.same
  act := h.act
  hist := by
    rw [loopMod_lp_self hn, hg]
    exact h.hist

theorem SameLoop.ite {c : Prop} {_ : Decidable c} (h : SameLoop n old s) (h' : SameLoop n old t) :
    SameLoop n old (if c then s else t) := by
  split
  · exact h
  · exact h'

theorem SameLoop.loopSt (h : SameLoop n old s) : s.loopSt n = old.loopSt n := h.spares _ (by simp [loopKept])

theorem SameLoop.lanSt (h : SameLoop n old s) : s.lanSt = old.lanSt := h.spares _ (by simp [loopKept])

theorem SameLoop.eff (h : SameLoop n old s) (hf : f.staged = true) : s.eff f = old.eff f := eff_of_act hf h.act

theorem SameLoop.coef (h : SameLoop n old s) (i : Nat) : s.coef n i = old.coef n i := by
  have hbank : s.rd (loopF Reg.loopStatBank n) = old.rd (loopF Reg.loopStatBank n) := h.spares _ (by simp [loopKept])
  have hstaged : (coefF n (old.rd (loopF Reg.loopStatBank n)) i).staged = true := by
    unfold coefF
    split <;> rfl
  unfold State.coef
  rw [hbank, h.eff hstaged]

theorem SameLoop.loopCur (h : SameLoop n old s) : s.loopCur n = old.loopCur n := congrArg (· != 0) (h.eff rfl)

theorem loopKept_offside (hn : n < 16) : Offside (loopKept n) := by
  unfold Offside
  revert n
  decide

theorem loopKept_offFabric (hn : n < 16) : OffFabric (loopKept n) := by
  unfold OffFabric
  revert n
  decide

theorem loopKept_away (hn : n < 16) (hm : m < 16) (hne : n ≠ m) : Away m (loopKept n) := by
  refine ⟨loopKept_offside hn, fun g hg => ?_⟩
  simp only [loopKept, List.mem_cons, List.not_mem_nil, or_false] at hg
  rcases hg with rfl | rfl | rfl
  · rw [loopF, Row.page_at (by decide)]
    omega
  · rw [loopF, Row.page_at (by decide)]
    omega
  · rw [lanF, Row.page_at (by decide)]
    omega

/-- A row of a loop's page away from its state and its bank. -/
abbrev Row.isLoopWork (r : Row) : Prop := r.fits 0 ∧ r.off * 32 + r.lo ≠ 0xC0 * 32 ∧ r.off * 32 + r.lo ≠ 0xC0 * 32 + 6

theorem Calm.wrWork {r : Row} {v : Nat} (h : Calm (loopKept n) old s) (hn : n < 16) (hr : r.isLoopWork) :
    Calm (loopKept n) old (s.wr (loopF r n) v) := h.wr fun g hg => by
  obtain ⟨⟨hoff, hlo⟩, hstate, hbank⟩ := hr
  simp only [loopKept, List.mem_cons, List.not_mem_nil, or_false] at hg
  rcases hg with rfl | rfl | rfl <;>
    simp only [loopF, lanF, Row.at, Fld.key, Reg.loopStatState, Reg.loopStatBank, Reg.lanStatState] <;> omega

section

variable (hn : n < 16)
include hn

theorem Calm.cancelPark (h : Calm (loopKept n) old s) (hj : j < 64) : Calm (loopKept n) old (s.cancelPark j) :=
  .ite ((h.wrPh (loopKept_offside hn) (r := Reg.phCntCancels) (by decide) hj).setPh (loopKept_offside hn) hj) h

theorem Calm.shedPhase {i : Int} (h : Calm (loopKept n) old s) (hj : j < 64) : Calm (loopKept n) old (State.shedPhase n i s j) := by
  have hset {st : Nat} : Calm (loopKept n) old (s.setPh j st) := h.setPh (loopKept_offside hn) hj
  unfold State.shedPhase
  exact .ite (.ite hset h) (.ite (.ite h hset) (.ite (.ite hset (.ite hset h)) h))

theorem Calm.shedding {e i : Int} (h : Calm (loopKept n) old s) : Calm (loopKept n) old (s.shedding n e i) := by
  unfold State.shedding
  extract_lets a
  have ha : Calm (loopKept n) old a := .ite (h.foldl fun _ _ hj ih =>
    .ite (ih.setPh (loopKept_offside hn) (mem_loopPhases hj)) (ih.cancelPark hn (mem_loopPhases hj))) h
  exact ha.foldl fun _ _ hj ih => ih.shedPhase hn (mem_loopPhases (List.mem_reverse.mp hj))

omit hn in
theorem phLoop_lt (h : s.phLoop j = some m) : m < 16 := List.mem_range.mp (List.mem_of_find?_eq_some h)

/-- A phase that joins a running loop may start another loop, which waited for it, but not that one. -/
theorem SameLoop.phJoin (h : SameLoop n old s) (hrun : old.loopRunning n = true) (hj : j < 64) : SameLoop n old (s.phJoin j) := by
  unfold State.phJoin
  extract_lets a
  have hset (st : Nat) : Calm (loopKept n) s (a.setPh j st) := Calm.setPh (loopKept_offside hn) (Calm.refl s).same hj
  split
  case h_2 => exact h.calm (hset 0)
  case h_1 m hm =>
    split
    case isTrue => exact h.calm (hset 1)
    case isFalse hstop =>
      have hne : n ≠ m := by
        rintro rfl
        exact hstop ((congrArg loopRunCode h.loopSt).trans hrun)
      have hlt := phLoop_lt hm
      exact (h.calm (hset 0)).atLoop ((AtLoop.refl _).loopUndefer (loopKept_away hn hlt hne) hlt (loopKept_offFabric hn)) hne

theorem Calm.periodEnd (h : Calm (loopKept n) old s) (hj : j < 64) : Calm (loopKept n) old (s.periodEnd j) := by
  unfold State.periodEnd
  exact .ite h.same (Calm.same (h.wrPh (loopKept_offside hn) (r := Reg.phStatPklim) (v := 0) (by decide) hj))

omit hn in
theorem Calm.setCurrents {imon : List Nat} (h : Calm ks old s) : Calm ks old (s.setCurrents n imon) :=
  h.foldl fun _ _ _ ih => ih.same

omit hn in
theorem Calm.placePhases (h : Calm ks old s) : Calm ks old (s.placePhases n) := h.foldl fun _ _ _ ih => ih.same

/-- The phases of a loop at its sample instant: those that are to join do, periods end, and the new one begins. -/
def State.sampleStart (s : State) (n : Nat) (imon : List Nat) : State :=
  let a := (s.loopPhases n).foldl (fun t j => if (t.phx j).joinNext then t.phJoin j else t) s
  (((a.loopPhases n).foldl State.periodEnd a).setCurrents n imon).placePhases n

theorem SameLoop.sampleStart {imon : List Nat} (hrun : s.loopRunning n = true) : SameLoop n s (s.sampleStart n imon) := by
  unfold State.sampleStart
  extract_lets a
  have ha : SameLoop n s a := List.foldlRecOn _ _ (SameLoop.refl s) fun _ ih _ hj =>
    .ite (ih.phJoin hn hrun (mem_loopPhases hj)) ih
  have hend : Calm (loopKept n) a ((a.loopPhases n).foldl State.periodEnd a) :=
    (Calm.refl a).foldl fun _ _ hj ih => ih.periodEnd hn (mem_loopPhases hj)
  exact ha.calm hend.setCurrents.placePhases

theorem Calm.setIlimit {x : Bool} (h : Calm (loopKept n) old s) : Calm (loopKept n) old (s.setIlimit n x) := by
  have hw : Calm (loopKept n) old (s.wrB (loopF Reg.loopStatIlimit n) x) := h.wrWork hn (by decide)
  exact .ite h (.ite (hw.raise (loopKept_offside hn)) hw)

theorem SameLoop.limitVoltage {i : Int} (h : SameLoop n old s) : SameLoop n old (s.limitVoltage n i) := by
  unfold State.limitVoltage
  extract_lets lim per was set w
  have hmod := (h.calm ((Calm.refl s).setIlimit hn (x := set))).loopMod hn
    (g := fun l => { l with wref := w, ovl := if set then l.ovl + 10 * per else l.ovl - per }) fun _ => rfl
  exact hmod.calm ((Calm.refl _).wrWork hn (by decide))

theorem SameLoop.loopMeans {i v : Int} (h : SameLoop n old s) : SameLoop n old (s.loopMeans n i v) := by
  unfold State.loopMeans
  extract_lets per pt p a l f t _ b
  have hoff := loopKept_offside hn
  have ha : SameLoop n old a := h.loopMod hn fun _ => rfl
  have ht : SameLoop n old t := (ha.calm ((Calm.refl a).wrPwr hoff (by decide) hn)).loopMod hn fun _ => rfl
  have hb : SameLoop n old b := .ite (.ite (ht.calm (Calm.refl t).same) ht) ha
  have hpwr := ((Calm.refl b).wrPwr hoff (r := Reg.phPinPin) (v := meanBeads (b.lp n).pSum (b.lp n).msN) (by decide) hn).wrPwr hoff
    (r := Reg.phPlossPloss) (v := meanBeads (b.lp n).lSum (b.lp n).msN) (by decide) hn
  have hshown := (hpwr.wrWork hn (r := Reg.loopVmeasVout) (v := sat 20 (irdiv (b.lp n).vSum (100 * (b.lp n).msN)).toNat)
    (by decide)).wrWork hn (r := Reg.loopImeasIout) (v := tw 16 (ssat 16 (irdiv (b.lp n).iSum (10 * (b.lp n).msN)))) (by decide)
  exact .ite ((hb.calm hshown).loopMod hn fun _ => rfl) hb

/-! ### The compensator at the sample instant (R139, R145, R146) -/

/-- The duty of a compensator for the error word `e` (R145, R146). -/
def State.dutyFor (s : State) (n : Nat) (e : Int) : Nat :=
  compensatorDuty (compensatorSum (s.coef n) (fun i => s.coef n (4 + i)) e (s.lp n).e (s.lp n).u)
    (s.eff (loopF Reg.loopDutyDmin n)) (s.eff (loopF Reg.loopDutyDmax n))

omit hn in
theorem SameLoop.dutyFor (h : SameLoop n old s) (e : Int) : s.dutyFor n e = old.dutyFor n e := by
  have hcoef : s.coef n = old.coef n := funext h.coef
  have hhist := h.hist
  simp only [LoopS.hist, Prod.mk.injEq] at hhist
  obtain ⟨he, hu, -⟩ := hhist
  unfold State.dutyFor
  rw [hcoef, he, hu, h.eff rfl, h.eff rfl]

/-- The compensator has run on the error word `e`. -/
def State.compensated (s : State) (n : Nat) (e : Int) : State :=
  (s.compensate n e).loopMod n fun l => { l with fresh := l.fresh.map fun u => s.dutyWith n u 0 }

theorem compensated_hist (e : Int) : ((s.compensated n e).lp n).hist = ([e, nth (s.lp n).e 0, nth (s.lp n).e 1],
    [s.dutyFor n e, nth (s.lp n).u 0, nth (s.lp n).u 1], some (s.dutyFor n e)) := by
  unfold State.compensated State.compensate
  rw [loopMod_lp_self hn, loopMod_lp_self hn]
  rfl

/-- What follows the compensator at a sample instant: means, shedding, the limits of the working reference, and the end of a
ramp down in current mode. -/
def State.sampleEnd (s : State) (n : Nat) (e i v r : Int) : State :=
  let c := (s.loopMod n fun l => { l with remote := l.ref + r }).loopMeans n i v
  let d := c.shedding n e i
  let x := if d.loopCur n then d.limitCurrent n else d.limitVoltage n i
  let f := x.loopMod n fun l => { l with lastI := some i }
  if f.loopCur n && f.loopSt n == 5 && (f.lp n).wref == 0 then (f.loopTri n 0).doneWait (.loopOff n) else f

theorem SameLoop.sampleEnd {e i v r : Int} (hcur : s.loopCur n = false) : SameLoop n s (s.sampleEnd n e i v r) := by
  unfold State.sampleEnd
  extract_lets c d x f
  have hr : SameLoop n s (s.loopMod n fun l => { l with remote := l.ref + r }) := (SameLoop.refl s).loopMod hn fun _ => rfl
  have hc : SameLoop n s c := hr.loopMeans hn
  have hd : SameLoop n s d := hc.calm ((Calm.refl c).shedding hn)
  have hx : SameLoop n s x := by
    unfold x
    rw [hd.loopCur, hcur]
    exact hd.limitVoltage hn
  have hf : SameLoop n s f := hx.loopMod hn fun _ => rfl
  rw [hf.loopCur, hcur]
  exact hf

omit hn in
/-- In voltage mode with one conversion to a sample the error word is the conversion, held in the window (R139). -/
theorem loopError_voltage {esum : Int} (hcur : s.loopCur n = false) (havg : s.eff (loopF Reg.loopCfgAvg n) = 0) :
    s.loopError n esum = (iclamp (-2048) 2047 esum, s) := by
  have hmean : s.errorMean n esum = (esum : ℚ) := by
    unfold State.errorMean
    rw [hcur, havg, pow_zero, div_one]
    rfl
  have hfloor : (esum : ℚ).floor = esum := Rat.floor_intCast esum
  unfold State.loopError
  dsimp only
  rw [hmean, hfloor, if_pos rfl]

omit hn in
theorem sampleLoop_voltage {esum remote : Int} {imon : List Nat} (hcur : (s.sampleStart n imon).loopCur n = false)
    (havg : (s.sampleStart n imon).eff (loopF Reg.loopCfgAvg n) = 0) (hlan : (s.sampleStart n imon).lanSt = 0) :
    ∃ i v r, s.sampleLoop n esum imon remote
      = ((s.sampleStart n imon).compensated n (iclamp (-2048) 2047 esum)).sampleEnd n (iclamp (-2048) 2047 esum) i v r := by
  have hadv : (s.sampleStart n imon).lanAdvance n = s.sampleStart n imon := if_pos (.inl hlan)
  have hinj (p unit : Nat) : (s.sampleStart n imon).lanInject n p unit = 0 := if_pos (.inl hlan)
  refine ⟨(s.sampleStart n imon).loopCurrent n, (s.sampleStart n imon).pointUv n (iclamp (-2048) 2047 esum),
    irdiv (remote * 78125 * ((s.sampleStart n imon).loopDiv n : Nat)) 1000, ?_⟩
  have hgen : s.sampleLoop n esum imon remote =
      let b := s.sampleStart n imon
      let er := b.loopError n esum
      let g := er.2.lanAdvance n
      State.sampleEnd ((g.compensate n (er.1 + g.lanInject n 0 1)).loopMod n fun l =>
        { l with fresh := l.fresh.map fun u => g.dutyWith n u (g.lanInject n 1 16384) }) n er.1 (b.loopCurrent n)
        (er.2.pointUv n er.1) (irdiv (remote * 78125 * (er.2.loopDiv n : Nat)) 1000) := rfl
  rw [hgen]
  dsimp only
  rw [loopError_voltage hcur havg]
  dsimp only
  rw [hadv, hinj, hinj, add_zero]
  rfl

/-- The result of the compensator and the state of the loop stand to the end of the sample instant. -/
theorem sampleEnd_compensated {e i v r : Int} (h : SameLoop n old s) (hcur : old.loopCur n = false) :
    (((s.compensated n e).sampleEnd n e i v r).lp n).e = [e, nth (old.lp n).e 0, nth (old.lp n).e 1]
      ∧ (((s.compensated n e).sampleEnd n e i v r).lp n).fresh = some (old.dutyFor n e)
      ∧ ((s.compensated n e).sampleEnd n e i v r).loopSt n = old.loopSt n := by
  have hcomp : (s.compensated n e).loopCur n = false := h.loopCur.trans hcur
  have hend : SameLoop n (s.compensated n e) ((s.compensated n e).sampleEnd n e i v r) := .sampleEnd hn hcomp
  have hhist := hend.hist.trans (compensated_hist hn e)
  have hold := h.hist
  simp only [LoopS.hist, Prod.mk.injEq] at hhist hold
  obtain ⟨he, -, hf⟩ := hhist
  obtain ⟨ho, -, -⟩ := hold
  have hst : (s.compensated n e).loopSt n = s.loopSt n := rd_of_regs rfl
  exact ⟨by rw [he, ho], by rw [hf, h.dutyFor], hend.loopSt.trans (hst.trans h.loopSt)⟩

/-- The sample instant of a running loop in voltage mode with one conversion to a sample, no measurement under way (R139, R145,
R146). -/
theorem sampleLoop_compensates {esum remote : Int} {imon : List Nat} (hrun : s.loopRunning n = true) (hcur : s.loopCur n = false)
    (hlan : s.lanSt = 0) (havg : s.eff (loopF Reg.loopCfgAvg n) = 0) :
    ((s.sampleLoop n esum imon remote).lp n).e = [iclamp (-2048) 2047 esum, nth (s.lp n).e 0, nth (s.lp n).e 1]
      ∧ ((s.sampleLoop n esum imon remote).lp n).fresh = some (s.dutyFor n (iclamp (-2048) 2047 esum))
      ∧ (s.sampleLoop n esum imon remote).loopSt n = s.loopSt n := by
  have hb : SameLoop n s (s.sampleStart n imon) := .sampleStart hn hrun
  obtain ⟨i, v, r, he⟩ := sampleLoop_voltage (esum := esum) (remote := remote) (hb.loopCur.trans hcur) ((hb.eff rfl).trans havg)
    (hb.lanSt.trans hlan)
  rw [he]
  exact sampleEnd_compensated hn hb hcur

omit hn in
theorem execLoopSample_running {c : BitVec 4} {esum : BitVec 16} {imon : List (BitVec 12)} {remote : BitVec 12}
    (hrun : s.loopRunning c.toNat = true) : exec (.loopSample c esum imon remote) s
      = .next (s.follow (s.sampleLoop c.toNat esum.toInt (imon.map (·.toNat)) remote.toInt)) := if_pos hrun

/-! ### The latch point (R40 to R46) -/

/-- The count of late results of a loop. -/
def lateCount (n : Nat) : List Fld := [fabF Reg.fabLplateLatecnt n]

theorem lateCount_away : Away n (lateCount n) := by
  unfold Away Offside
  revert n
  decide

omit hn in
/-- A field of the fabric's page at another place than the count. -/
theorem Calm.wrFabNe {r : Row} {i v : Nat} (h : Calm (lateCount n) old s)
    (hr : (r.off + r.stride * i) * 32 + r.lo ≠ (0x80 + 4 * n) * 32) : Calm (lateCount n) old (s.wr (fabF r i) v) :=
  h.wr fun g hg => by
    rw [List.mem_singleton.mp hg]
    exact Row.at_key_ne (Ne.symm hr)

/-- A late result counts (R42), and after it nothing waits for the latch point (R41). -/
theorem loopLate_counts (hi : s.Inv) : ((s.loopLate n).lp n).fresh = none ∧ (s.loopLate n).rd (fabF Reg.fabLplateLatecnt n)
    = sat 16 (s.rd (fabF Reg.fabLplateLatecnt n) + 1) % 2 ^ 16 := by
  have hk := lateCount_away hn
  unfold State.loopLate
  extract_lets run a b c
  have hcount : (s.inc (fabF Reg.fabLplateLatecnt n)).rd (fabF Reg.fabLplateLatecnt n)
      = sat 16 (s.rd (fabF Reg.fabLplateLatecnt n) + 1) % 2 ^ 16 := State.rd_wr_self hi.regs _ _
  have ha : Calm (lateCount n) (s.inc (fabF Reg.fabLplateLatecnt n)) a :=
    ((Calm.refl _).wrFabNe (by simp only [Reg.fabLplateRun]; omega)).wrFabNe (by simp only [Reg.fabLpminMinslack]; omega)
  have hb : Spares (lateCount n) (s.inc (fabF Reg.fabLplateLatecnt n)) b :=
    Spares.same (Calm.late hk.1 (src := 16) (detail := n) (.ite (ha.raise hk.1) ha)).spares
  have hfresh : (b.lp n).fresh = none := congrArg LoopS.fresh (loopMod_lp_self hn)
  have hc : AtLoop (lateCount n) n b c := Calm.atLoop
    (.ite (((Calm.refl b).wrFabNe (by simp only [Reg.fabLptokTok]; omega)).tokenEv hk.1) (.refl b))
  have hstop : AtLoop (lateCount n) n b (((c.wrBit (fabF Reg.fabLptokStop 0) n true).raise 18).loopFault n 5) :=
    (hc.calm (((Calm.refl c).wrFabNe (by simp only [Reg.fabLptokStop]; omega)).raise hk.1)).loopFault hk hn
  have hend : AtLoop (lateCount n) n b
      (if run = 32 then ((c.wrBit (fabF Reg.fabLptokStop 0) n true).raise 18).loopFault n 5 else c) := .ite hstop hc
  exact ⟨hend.fresh hfresh, ((hb.trans hend.spares) _ (List.mem_singleton_self _)).trans hcount⟩

end

/-- LATCH_POINT with a result that is late (R41 to R44). -/
theorem execLatchPoint_late {n : BitVec 4} {d : Nat} {slack : BitVec 14} (hi : s.Inv) (hrun : s.loopRunning n.toNat = true)
    (hf : (s.lp n.toNat).fresh = some d) : ∃ u, exec (.latchPoint n true slack) s = .next (s.follow u)
      ∧ (u.lp n.toNat).fresh = none
      ∧ u.rd (fabF Reg.fabLplateLatecnt n.toNat) = sat 16 (s.rd (fabF Reg.fabLplateLatecnt n.toNat) + 1) % 2 ^ 16 := by
  refine ⟨s.loopLate n.toNat, ?_, loopLate_counts n.isLt hi⟩
  show execLatchPoint n true slack s = _
  unfold execLatchPoint
  dsimp only
  rw [hrun, hf]
  rfl

/-- What shows that a result is in force: the duty of the loop, and the run of late results. -/
def latchFields (n : Nat) : List Fld := [loopF Reg.loopDnowDuty n, fabF Reg.fabLplateRun n]

/-- A result in force from its latch point, `m` being the least slack seen. -/
def State.latched (s : State) (n d m : Nat) : State :=
  State.wr (((s.wr (fabF Reg.fabLplateRun n) 0).wr (fabF Reg.fabLpminMinslack n) m).loopMod n fun l =>
    { l with duty := d, fresh := none }) (loopF Reg.loopDnowDuty n) (d / 2 ^ 14)

theorem latched_shown {d m : Nat} (hi : s.Inv) (hn : n < 16) : (s.latched n d m).rd (loopF Reg.loopDnowDuty n) = d / 2 ^ 14 % 2 ^ 16
    ∧ (s.latched n d m).rd (fabF Reg.fabLplateRun n) = 0 := by
  have hpage : (fabF Reg.fabLplateRun n).key ≠ (loopF Reg.loopDnowDuty n).key := fun e => by
    have hp := congrArg (· / 131072) e
    simp only [fabF, loopF, Row.page_at (r := Reg.loopDnowDuty) (i := 0) (by decide),
      Row.page_at (r := Reg.fabLplateRun) (i := n) (by simp only [Row.fits, Reg.fabLplateRun]; omega)] at hp
    omega
  have hplace : (fabF Reg.fabLplateRun n).key ≠ (fabF Reg.fabLpminMinslack n).key :=
    Row.at_key_ne (by simp only [Reg.fabLplateRun, Reg.fabLpminMinslack]; omega)
  have hrun : (s.wr (fabF Reg.fabLplateRun n) 0).rd (fabF Reg.fabLplateRun n) = 0 := State.rd_wr_self hi.regs _ 0
  have hreg : State.Inv (((s.wr (fabF Reg.fabLplateRun n) 0).wr (fabF Reg.fabLpminMinslack n) m).loopMod n fun l =>
      { l with duty := d, fresh := none }) := ((Keeps.refl s).wr.wr.loopMod).inv hi
  exact ⟨State.rd_wr_self hreg.regs _ _,
    (State.rd_wr_ne hpage _).trans ((rd_of_regs rfl).trans ((State.rd_wr_ne hplace _).trans hrun))⟩

theorem latchFields_offside (hn : n < 16) : Offside (latchFields n) := by
  unfold Offside
  revert n
  decide

/-- A slack below FAB_CFG.LPWARN raises LPWARN (R46). -/
def State.slackWarned (s : State) (slack : Nat) : State := if slack < s.rd (fabF Reg.fabCfgLpwarn 0) then s.raise 19 else s

theorem Calm.slackWarned {slack : Nat} (hk : Offside ks) (h : Calm ks old s) : Calm ks old (s.slackWarned slack) :=
  .ite (h.raise hk) h

/-- LATCH_POINT with a result that is on time (R40, R43, R46). -/
theorem execLatchPoint_onTime {n : BitVec 4} {d : Nat} {slack : BitVec 14} (hi : s.Inv) (hrun : s.loopRunning n.toNat = true)
    (hf : (s.lp n.toNat).fresh = some d) : ∃ t, exec (.latchPoint n false slack) s = .next t ∧ (t.lp n.toNat).duty = d
      ∧ (t.lp n.toNat).fresh = none ∧ t.rd (loopF Reg.loopDnowDuty n.toNat) = d / 2 ^ 14 % 2 ^ 16
      ∧ t.rd (fabF Reg.fabLplateRun n.toNat) = 0 := by
  obtain ⟨m, he⟩ : ∃ m, exec (.latchPoint n false slack) s = .next ((s.latched n.toNat d m).slackWarned slack.toNat) := by
    refine ⟨min (s.rd (fabF Reg.fabLpminMinslack n.toNat)) slack.toNat, ?_⟩
    show execLatchPoint n false slack s = _
    unfold execLatchPoint
    dsimp only
    rw [hrun, hf]
    rfl
  have hwarn : Calm (latchFields n.toNat) (s.latched n.toNat d m) ((s.latched n.toNat d m).slackWarned slack.toNat) :=
    (Calm.refl _).slackWarned (latchFields_offside n.isLt)
  have hlp : (s.latched n.toNat d m).lp n.toNat = { s.lp n.toNat with duty := d, fresh := none } := loopMod_lp_self n.isLt
  have hlp' := (congrArg (vget · n.toNat) hwarn.loop).trans hlp
  obtain ⟨hduty, hlate⟩ := latched_shown (d := d) (m := m) hi n.isLt
  exact ⟨_, he, congrArg LoopS.duty hlp', congrArg LoopS.fresh hlp', (hwarn.spares _ (by simp [latchFields])).trans hduty,
    (hwarn.spares _ (by simp [latchFields])).trans hlate⟩

/-- Settles O32: the sample instant of a voltage loop, and the latch point of a result that is on time and of one that is late. -/
theorem loopSampling : Obligations.LoopSampling := by
  unfold Obligations.LoopSampling
  refine fun s n hi => ⟨fun esum imon remote hrun hcur hlan havg => ?_, fun d slack hrun hf => ⟨?_, ?_⟩⟩
  · exact ⟨_, execLoopSample_running hrun, sampleLoop_compensates n.isLt hrun hcur hlan havg⟩
  · exact execLatchPoint_onTime hi hrun hf
  · exact execLatchPoint_late hi hrun hf

end

end Sys2Proof.Machine

/-!
PROOFS. The register pages: what a host access over BAR0 or the register target comes to, the events that a write raises, and the
statements on the event queue and on empty offsets.
-/

namespace Sys2Proof.Machine

section

variable {s t u old : State} {f : Fld} {n pg off b : Nat}

/-! ### Host accesses to the pages (R49, R61) -/

theorem lUp_of_serves {path : Nat} (h : s.serves path = true) : s.lUp = true := by
  unfold State.serves State.barOn at h
  split at h
  · exact h
  · simp only [Bool.and_eq_true] at h
    exact h.1.1

theorem hostPath_cases (s : State) : s.hostPath = 0 ∨ s.hostPath = 3 := by
  unfold State.hostPath
  split
  · exact .inl rfl
  · exact .inr rfl

theorem hostPath_serves (hl : s.lUp = true) : s.serves s.hostPath = true := by
  unfold State.serves State.hostPath
  by_cases hb : s.barOn = true
  · simp [hb]
  · simp [hb, hl]

/-- A read of a page over BAR0 or the register target. -/
theorem hostRead_page {path addr set : Nat} (hp : path = 0 ∨ path = 3) (hs : s.serves path = true) (ha : addr % 4 = 0)
    (hb : addr < 0x200000) : s.hostRead path addr set
      = (s.afterRead (addr / 4096) (addr % 4096) set).answer (s.pageWord (addr / 4096) (addr % 4096)) := by
  have hal : addr / 4 * 4 = addr := by omega
  unfold State.hostRead
  rw [hal]
  rcases hp with rfl | rfl <;> simp [hs, hb, State.pageRead]

/-- A write of a whole word to a page over BAR0 or the register target. -/
theorem hostWrite_page {path addr v : Nat} (hp : path = 0 ∨ path = 3) (hs : s.serves path = true) (ha : addr % 4 = 0)
    (hb : addr < 0x200000) : s.hostWrite path addr v 15 = s.regWrite path addr v := by
  unfold State.hostWrite
  rcases hp with rfl | rfl <;> simp [hs, ha, hb]

/-- The path of the access as the model's functions take it. -/
theorem pagePath_toNat {path : BitVec 2} (hp : path = 0 ∨ path = 3) : path.toNat = 0 ∨ path.toNat = 3 := by
  rcases hp with rfl | rfl
  · exact .inl rfl
  · exact .inr rfl

/-- The state in which a write of a register other than GLB_LOCKKEY acts: over BAR0 it aborts a key sequence first (R72). -/
def State.heard (s : State) (path : BitVec 2) : State := if path = 0 then s.barWrite else s

/-- The byte offset of a register. -/
theorem addr_toNat (hpg : pg < 512) (hoff : off < 0x1000) : (BitVec.ofNat 26 (pg * 4096 + off)).toNat = pg * 4096 + off := by
  rw [BitVec.toNat_ofNat]
  omega

section

variable {path : BitVec 2} (hp : path = 0 ∨ path = 3) (hs : s.serves path.toNat = true) (hpg : pg < 512) (hoff : off < 0x1000)
  (h4 : off % 4 = 0)
include hp hs hpg hoff h4

theorem execRcRead_page : exec (.rcRead path (BitVec.ofNat 26 (pg * 4096 + off)) 0) s
    = .next ((s.afterRead pg off 0).answer (s.pageWord pg off)) := by
  have h := hostRead_page (set := 0) (pagePath_toNat hp) hs (addr := pg * 4096 + off) (by omega) (by omega)
  rw [show (pg * 4096 + off) / 4096 = pg by omega, show (pg * 4096 + off) % 4096 = off by omega] at h
  show Host.Outcome.next (s.hostRead path.toNat (BitVec.ofNat 26 (pg * 4096 + off)).toNat _) = _
  rw [addr_toNat hpg hoff]
  exact congrArg _ h

theorem execRegisterWrite_page (v : Word) : exec (.registerWrite path (BitVec.ofNat 26 (pg * 4096 + off)) v 15) s
    = .next (s.regWrite path.toNat (pg * 4096 + off) v.toNat) := by
  show Host.Outcome.next (s.hostWrite path.toNat (BitVec.ofNat 26 (pg * 4096 + off)).toNat v.toNat 15) = _
  rw [addr_toNat hpg hoff]
  exact congrArg _ (hostWrite_page (pagePath_toNat hp) hs (by omega) (by omega))

end

theorem heard_eq {path : BitVec 2} (hp : path = 0 ∨ path = 3) : (if path.toNat = 0 then s.barWrite else s) = s.heard path := by
  rcases hp with rfl | rfl <;> rfl

theorem regWrite_listed {path : BitVec 2} {v : Nat} (hp : path = 0 ∨ path = 3) (hoff : off < 0x1000) (hk : (pg, off) ≠ (0x000, 0x044))
    (hl : pageListed pg = true) : s.regWrite path.toNat (pg * 4096 + off) v = (s.heard path).pageWrite pg off v := by
  have hk' : ¬(pg = 0x000 ∧ off = 0x044) := fun h => hk (by rw [h.1, h.2])
  unfold State.regWrite
  simp only [show (pg * 4096 + off) / 4096 = pg by omega, show (pg * 4096 + off) % 4096 = off by omega, if_neg hk', hl, if_true,
    heard_eq hp]

theorem regWrite_unlisted {path : BitVec 2} {v : Nat} (hp : path = 0 ∨ path = 3) (hoff : off < 0x1000)
    (hl : pageListed pg = false) :
    s.regWrite path.toNat (pg * 4096 + off) v = (s.heard path).accessErr (pg * 4096 + off) path.toNat true := by
  have hk : ¬(pg = 0x000 ∧ off = 0x044) := fun h => by rw [h.1] at hl; exact absurd hl (by decide)
  unfold State.regWrite
  simp only [show (pg * 4096 + off) / 4096 = pg by omega, show (pg * 4096 + off) % 4096 = off by omega, if_neg hk, hl,
    heard_eq hp, Bool.false_eq_true, if_false]

/-! ### Events that rise (R67) -/

theorem bitOf_eq_testBit (v b : Nat) : bitOf v b = v.testBit b := by
  rw [Nat.testBit_eq_decide_div_mod_eq, bitOf, beq_eq_decide]

/-- Bit `b` of the lower `w` bits. -/
theorem bitOf_mod {v w b : Nat} (hb : b < w) : bitOf (v % 2 ^ w) b = bitOf v b := by
  simp [bitOf_eq_testBit, Nat.testBit_mod_two_pow, hb]

theorem bitOf_setBit_self (v b : Nat) : bitOf (setBit v b) b = true := by
  unfold setBit
  split
  case isTrue h => exact h
  case isFalse h =>
    rw [bitOf_eq_testBit] at h ⊢
    rw [Nat.add_comm, Nat.testBit_two_pow_add_eq]
    simpa using h

theorem bitOf_setBit_ne {v b c : Nat} (h : c ≠ b) : bitOf (setBit v b) c = bitOf v c := by
  unfold setBit
  split
  case isTrue => rfl
  case isFalse hv =>
    simp only [bitOf, beq_iff_eq] at hv ⊢
    rcases Nat.lt_or_gt_of_ne h with hc | hc
    · obtain ⟨d, rfl⟩ := Nat.exists_eq_add_of_lt hc
      rw [show 2 ^ (c + d + 1) = 2 ^ c * (2 * 2 ^ d) by ring, Nat.add_mul_div_left _ _ (Nat.two_pow_pos c), Nat.add_mul_mod_self_left]
    · obtain ⟨d, rfl⟩ := Nat.exists_eq_add_of_lt hc
      have hdiv : ∀ x, x / 2 ^ (b + d + 1) = x / 2 ^ b / 2 / 2 ^ d := fun x => by
        rw [Nat.div_div_eq_div_mul, Nat.div_div_eq_div_mul]
        ring_nf
      rw [hdiv, hdiv, Nat.add_div_right _ (Nat.two_pow_pos b)]
      congr 3
      omega


theorem wrBit_rd_self (hi : s.Inv) (f : Fld) (b : Nat) (x : Bool) : (s.wrBit f b x).rd f = putBit (s.rd f) b x % 2 ^ f.width :=
  State.rd_wr_self hi.regs f _

/-- A bit of PG_EVT that rises, and the ones that stand. -/
theorem wrBit_evtSet_self (hi : s.Inv) (hb : b < 32) : (s.wrBit (hdr Reg.pgEvt pg) b true).evtSet pg b = true := by
  unfold State.evtSet
  rw [wrBit_rd_self hi]
  exact (bitOf_mod hb).trans (bitOf_setBit_self _ b)

theorem hdr_key_ne {r q : Row} {pg p : Nat} (h : pg ≠ p) (hr : r.off < 4096 ∧ r.lo < 32 ∧ r.stride = 0)
    (hq : q.off < 4096 ∧ q.lo < 32 ∧ q.stride = 0) : (hdr r pg).key ≠ (hdr q p).key := by
  obtain ⟨hr, hr', hr0⟩ := hr
  obtain ⟨hq, hq', hq0⟩ := hq
  simp only [hdr, Row.at, Fld.key, hr0, hq0]
  omega

theorem wrBit_evtSet {p c : Nat} (hi : s.Inv) (h : s.evtSet pg b = true) : (s.wrBit (hdr Reg.pgEvt p) c true).evtSet pg b = true := by
  by_cases hp : pg = p
  · subst hp
    by_cases hb : b < 32
    · by_cases hc : b = c
      · subst hc
        exact wrBit_evtSet_self hi hb
      · unfold State.evtSet at h ⊢
        rw [wrBit_rd_self hi]
        exact (bitOf_mod hb).trans ((bitOf_setBit_ne hc).trans h)
    · have hlt : s.rd (hdr Reg.pgEvt pg) < 2 ^ b :=
        (Nat.mod_lt _ (Nat.two_pow_pos 32)).trans_le (Nat.pow_le_pow_right (by decide) (Nat.le_of_not_lt hb))
      rw [State.evtSet, bitOf_eq_testBit, Nat.testBit_lt_two_pow hlt] at h
      cases h
  · exact (congrArg (bitOf · b) (State.rd_wr_ne (hdr_key_ne hp (by decide) (by decide)) _)).trans h

/-- Between `old` and `s` no event of a page has been cleared and no source has ceased to be pending. -/
structure Raised (old s : State) : Prop where
  inv : old.Inv → s.Inv
  evt : old.Inv → ∀ pg b, old.evtSet pg b = true → s.evtSet pg b = true
  pend : ∀ n ∈ old.evPend, n ∈ s.evPend

theorem Raised.refl (s : State) : Raised s s := ⟨id, fun _ _ _ => id, fun _ => id⟩

theorem Raised.ite {c : Prop} {_ : Decidable c} (hs : Raised old s) (ht : Raised old t) : Raised old (if c then s else t) := by
  split
  · exact hs
  · exact ht

theorem Raised.same (h : Raised old s) (hi : s.Inv → t.Inv) (hr : t.regs = s.regs := by rfl) (hp : t.evPend = s.evPend := by rfl) :
    Raised old t :=
  ⟨fun ho => hi (h.inv ho), fun ho pg b hb => (congrArg (bitOf · b) (rd_of_regs hr)).trans (h.evt ho pg b hb),
    fun n hn => hp ▸ h.pend n hn⟩

theorem Raised.wr {v : Nat} (h : Raised old s) (hf : ¬ evtKey f.key) : Raised old (s.wr f v) where
  inv ho := wr_inv (h.inv ho) f v
  evt ho pg b hb :=
    (congrArg (bitOf · b) (State.rd_wr_ne (fun e => hf (e ▸ evtKey_pgEvt pg)) v)).trans (h.evt ho pg b hb)
  pend := h.pend

theorem Raised.wrEvt {p c : Nat} (h : Raised old s) : Raised old (s.wrBit (hdr Reg.pgEvt p) c true) where
  inv ho := wr_inv (h.inv ho) _ _
  evt ho pg b hb := wrBit_evtSet (h.inv ho) (h.evt ho pg b hb)
  pend := h.pend

theorem due_regs (s : State) (v : Nat) : (s.due v).regs = s.regs := by
  unfold State.due
  split <;> rfl

theorem due_evPend (s : State) (v : Nat) : (s.due v).evPend = s.evPend := by
  unfold State.due
  split <;> rfl

theorem queueEv_regs (s : State) (n us : Nat) : (s.queueEv n us).regs = s.regs := by
  unfold State.queueEv
  split <;> rfl

theorem pend_regs (s : State) (n us : Nat) : (s.pend n us).regs = s.regs := by
  unfold State.pend
  split
  · rfl
  · dsimp only
    split
    · exact (due_regs _ _).trans (queueEv_regs s n us)
    · exact queueEv_regs s n us

/-- The sources that are pending once `n` is. -/
theorem pend_evPend (s : State) (n us : Nat) :
    (s.pend n us).evPend = if s.evPend.contains n then s.evPend else s.evPend ++ [n] := by
  unfold State.pend
  split
  · rfl
  · dsimp only
    split
    · exact due_evPend _ _
    · rfl

theorem Raised.pendSource {us : Nat} (h : Raised old s) : Raised old (s.pend n us) where
  inv ho := pend_inv (h.inv ho) n us
  evt ho pg b hb := (congrArg (bitOf · b) (rd_of_regs (pend_regs s n us))).trans (h.evt ho pg b hb)
  pend m hm := by
    rw [pend_evPend]
    split
    · exact h.pend m hm
    · exact List.mem_append_left _ (h.pend m hm)

theorem mem_pend (s : State) (n us : Nat) : n ∈ (s.pend n us).evPend := by
  rw [pend_evPend]
  split
  case isTrue h => exact List.contains_iff_mem.mp h
  case isFalse => exact List.mem_append_right _ (List.mem_singleton_self n)

theorem Raised.setEvt {p c us : Nat} (h : Raised old s) : Raised old (s.setEvt p c n us) := .ite h.wrEvt.pendSource h.wrEvt

theorem Raised.refused {len : Bool} (h : Raised old s) : Raised old (s.refused len) := by
  unfold State.refused State.inc
  refine .ite ((h.wr (f := gal0F Reg.galNrefLen 0) (by unfold evtKey; decide)).same ?_)
    ((h.wr (f := gal0F Reg.galNrefSpace 0) (by unfold evtKey; decide)).same ?_)
  all_goals exact fun hi => ⟨hi.regs, hi.act, hi.mem, hi.evq, hi.twq, hi.offers, hi.islBuf⟩

theorem Raised.refuse {len : Bool} (h : Raised old s) : Raised old (s.refuse len) := .ite h.refused.setEvt.refused h.refused.setEvt

theorem Raised.offer {o : Offer} (h : Raised old s) : Raised old (s.offer o) := by
  unfold State.offer
  refine .ite h (.ite h.refuse ?_)
  split
  case isTrue hroom =>
    refine h.same fun hi => ⟨hi.regs, hi.act, hi.mem, hi.evq, hi.twq, ?_, hi.islBuf⟩
    simp only [List.length_append, List.length_singleton]
    omega
  case isFalse => exact h.refuse

/-- The state in which a bit of PG_EVT has been set and no record has been offered. -/
theorem raiseBit_raised (hl : s.lUp = true) : Raised (s.setEvt pg b n s.us) (s.raiseBit pg b n) := by
  unfold State.raiseBit
  rw [if_pos hl]
  exact .ite (Raised.refl _).offer (.refl _)

theorem setEvt_evtSet {us : Nat} (hi : s.Inv) (hb : b < 32) : (s.setEvt pg b n us).evtSet pg b = true := by
  have h := wrBit_evtSet_self (pg := pg) hi hb
  unfold State.setEvt
  dsimp only
  split
  · exact (congrArg (bitOf · b) (rd_of_regs (pend_regs _ n us))).trans h
  · exact h

theorem mem_setEvt {us : Nat} (hen : bitOf (s.rd (hdr Reg.pgEvten pg)) b = true) : n ∈ (s.setEvt pg b n us).evPend := by
  unfold State.setEvt
  rw [if_pos hen]
  exact mem_pend _ n us

theorem raiseBit_evtSet (hi : s.Inv) (hl : s.lUp = true) (hb : b < 32) : (s.raiseBit pg b n).evtSet pg b = true :=
  (raiseBit_raised hl).evt (setEvt_inv hi pg b n s.us) pg b (setEvt_evtSet hi hb)

theorem mem_raiseBit (hl : s.lUp = true) (hen : bitOf (s.rd (hdr Reg.pgEvten pg)) b = true) : n ∈ (s.raiseBit pg b n).evPend :=
  (raiseBit_raised hl).pend n (mem_setEvt hen)

theorem raise_raiseBit (he : evBit n = some (pg, b)) : s.raise n = s.raiseBit pg b n := by
  unfold State.raise
  rw [he]

theorem raise_evtSet (he : evBit n = some (pg, b)) (hi : s.Inv) (hl : s.lUp = true) (hb : b < 32) : (s.raise n).evtSet pg b = true :=
  raise_raiseBit he ▸ raiseBit_evtSet hi hl hb

theorem mem_raise (he : evBit n = some (pg, b)) (hl : s.lUp = true) (hen : bitOf (s.rd (hdr Reg.pgEvten pg)) b = true) :
    n ∈ (s.raise n).evPend :=
  raise_raiseBit he ▸ mem_raiseBit hl hen

/-! ### The event queue (R70) -/

theorem queueEv_room (h : s.evq.length < 64) (n us : Nat) : s.queueEv n us
    = { s with evq := s.evq ++ [{ src := n, ovf := s.evqOvf, stamp := us % 2 ^ 20 }], evqOvf := false } := if_pos h

theorem queueEv_full (h : 64 ≤ s.evq.length) (n us : Nat) : s.queueEv n us = { s with evqOvf := true } :=
  if_neg (Nat.not_lt.mpr h)

/-- The word that an entry of the queue reads as. -/
theorem queueWord_cons {e : QEntry} {r : List QEntry} (h : s.evq = e :: r) :
    s.queueWord = e.src + 1024 + 2048 * b2n e.ovf + 4096 * e.stamp := by
  unfold State.queueWord
  rw [h]

theorem queueWord_nil (h : s.evq = []) : s.queueWord = 0 := by
  unfold State.queueWord
  rw [h]

/-- A read of EVT_QPOP. -/
theorem execEvtQpop_lUp (hl : s.lUp = true) :
    exec .evtQpop s = .next (State.answer { s with evq := s.evq.drop 1 } s.queueWord) :=
  congrArg Host.Outcome.next (hostRead_page (addr := 0x7040) (set := 0) (hostPath_cases s) (hostPath_serves hl) rfl (by decide))

/-- The fields of an entry, in the word that it reads as. -/
theorem queueWord_fields {src stamp : Nat} {ovf : Bool} (hs : src < 1024) (ht : stamp < 2 ^ 20) :
    let w := (src + 1024 + 2048 * b2n ovf + 4096 * stamp) % 2 ^ 32
    bitOf w 10 = true ∧ bits w 0 10 = src ∧ bitOf w 11 = ovf ∧ bits w 12 20 = stamp := by
  cases ovf <;> simp only [bitOf, bits, b2n, beq_iff_eq, beq_eq_false_iff_ne, Bool.false_eq_true, if_true, if_false] <;> omega

/-- Settles O10: an entry is added where there is room, none where there is not, and EVT_QPOP takes the oldest one. -/
theorem eventQueue : Obligations.EventQueue := by
  unfold Obligations.EventQueue
  refine fun s n us => ⟨fun h => ?_, fun h => ?_, fun h => ?_, fun hl => ⟨fun e r hq => ?_, fun hq => ?_⟩⟩
  · rw [queueEv_room h]
    exact ⟨rfl, rfl⟩
  · rw [queueEv_full h]
    exact ⟨rfl, rfl⟩
  · rcases Nat.lt_or_ge s.evq.length 64 with hroom | hfull
    · simp [queueEv_room hroom]
      omega
    · rw [queueEv_full hfull]
      exact h
  · refine ⟨_, execEvtQpop_lUp hl, congrArg (List.drop 1) hq, fun hs ht => ?_⟩
    rw [queueWord_cons hq]
    exact queueWord_fields hs ht
  · refine ⟨_, execEvtQpop_lUp hl, congrArg (List.drop 1) hq, ?_⟩
    rw [queueWord_nil hq]
    exact (by decide : bitOf (0 % 2 ^ 32) 10 = false)

/-! ### Offsets without a register (R50) -/

theorem accessErr_evtSet {addr path : Nat} {write : Bool} (hi : s.Inv) (hl : s.lUp = true) :
    (s.accessErr addr path write).evtSet 0x000 4 = true :=
  raise_evtSet rfl (wr_inv (wr_inv (wr_inv hi _ _) _ _) _ _) hl (by decide)

theorem mem_accessErr {addr path : Nat} {write : Bool} (hl : s.lUp = true) (hen : bitOf (s.rd (hdr Reg.pgEvten 0)) 4 = true) :
    4 ∈ (s.accessErr addr path write).evPend := by
  refine mem_raise rfl hl ((congrArg (bitOf · 4) ?_).trans hen)
  exact (State.rd_wr_ne (by decide) _).trans ((State.rd_wr_ne (by decide) _).trans (State.rd_wr_ne (by decide) _))

theorem accessErr_addr {addr path : Nat} {write : Bool} (hi : s.Inv) (ha : addr < 2 ^ 26) :
    (s.accessErr addr path write).rd (glbF Reg.glbErraddrAddr 0) = addr := by
  refine (raise_rd (by unfold evtKey; decide) (by decide)).trans ?_
  refine (State.rd_wr_ne (by decide) _).trans ((State.rd_wr_ne (by decide) _).trans ((State.rd_wr_self hi.regs _ _).trans ?_))
  exact Nat.mod_eq_of_lt ha

theorem accessErr_signals (addr path : Nat) (write : Bool) : onlySignals s (s.accessErr addr path write)
    [glbF Reg.glbErraddrAddr 0, glbF Reg.glbErraddrPath 0, glbF Reg.glbErraddrWrite 0] := by
  refine onlySignals_trans (onlySignals_trans (onlySignals_trans (onlySignals_wr (.inr ⟨_, ?_, rfl⟩) _)
    (onlySignals_wr (.inr ⟨_, ?_, rfl⟩) _)) (onlySignals_wr (.inr ⟨_, ?_, rfl⟩) _)) (raise_signals _ 4 _)
  all_goals simp

/-- The fields of GLB_LOCKSTAT, which show the key sequence. -/
def lockstatFields : List Fld := [glbF Reg.glbLockstatStage 0, glbF Reg.glbLockstatFails 0, glbF Reg.glbLockstatLockout 0]

theorem onlySignals_wrLockstat {v : Nat} (hf : f ∈ lockstatFields) : onlySignals s (s.wr f v) lockstatFields :=
  onlySignals_wr (.inr ⟨f, List.mem_append_right _ hf, rfl⟩) v

theorem lockAbort_signals (s : State) : onlySignals s s.lockAbort lockstatFields := by
  unfold State.lockAbort
  refine onlySignals_trans ?_ (raise_signals _ 5 _)
  have hw := onlySignals_trans (onlySignals_wrLockstat (s := s) (v := 0) (f := glbF Reg.glbLockstatStage 0) (by decide))
    (onlySignals_wrLockstat (f := glbF Reg.glbLockstatFails 0) (v := s.rd (glbF Reg.glbLockstatFails 0) + 1) (by decide))
  split
  · exact onlySignals_trans hw (onlySignals_wrLockstat (by decide))
  · exact hw

theorem barWrite_signals (s : State) : onlySignals s s.barWrite lockstatFields := by
  unfold State.barWrite
  split
  · exact lockAbort_signals s
  · exact onlySignals_refl s _

theorem lUp_of_signals {ks : List Fld} (h : onlySignals s t ks) : t.lUp = s.lUp := by
  have hm : t.mode = s.mode := by rw [h.1]
  unfold State.lUp
  rw [hm]

section

variable {path : BitVec 2}

theorem heard_signals (s : State) (path : BitVec 2) : onlySignals s (s.heard path) lockstatFields := by
  unfold State.heard
  split
  · exact barWrite_signals s
  · exact onlySignals_refl s _

theorem heard_inv (hi : s.Inv) : (s.heard path).Inv := (Keeps.ite (Keeps.refl s).barWrite (.refl s)).inv hi

theorem heard_lUp : (s.heard path).lUp = s.lUp := lUp_of_signals (heard_signals s path)

/-- A field that neither shows the key sequence nor is an event or a count of refused records. -/
theorem heard_rd (he : ¬ evtKey f.key) (hk : ∀ g ∈ signalFields ++ lockstatFields, f.key ≠ g.key) : (s.heard path).rd f = s.rd f :=
  (heard_signals s path).2 f he hk

end

theorem ite_some_eq_none {c : Prop} {_ : Decidable c} {x : State} {o : Option State} :
    (if c then some x else o) = none ↔ ¬ c ∧ o = none := by
  split <;> simp [*]

/-- Which registers start an action depends on the state in CMD_CFG.RINGEN and GAL_STAT.KEYSET only. -/
theorem writeAction_none_congr {v : Nat} (hr : t.rdB (cmd0F Reg.cmdCfgRingen 0) = s.rdB (cmd0F Reg.cmdCfgRingen 0))
    (hk : t.rdB (gal0F Reg.galStatKeyset 0) = s.rdB (gal0F Reg.galStatKeyset 0)) (h : s.writeAction pg off v = none) :
    t.writeAction pg off v = none := by
  unfold State.writeAction at h ⊢
  simp only [ite_some_eq_none, hr, hk] at h ⊢
  exact h

theorem heard_writeAction_none {path : BitVec 2} {v : Nat} (h : s.writeAction pg off v = none) :
    (s.heard path).writeAction pg off v = none := by
  exact writeAction_none_congr (congrArg (· != 0) (heard_rd (path := path) (by unfold evtKey; decide) (by decide)))
    (congrArg (· != 0) (heard_rd (path := path) (by unfold evtKey; decide) (by decide))) h

/-- A header offset that holds no register. -/
theorem pageWrite_headerGap {v : Nat} (h : 0x028 ≤ off ∧ off < 0x040) : s.pageWrite pg off v = s := by
  unfold State.pageWrite State.writeHeader
  rw [if_pos h.2, if_neg, if_neg, if_neg, if_neg] <;> omega

/-- A block offset that holds no register. -/
theorem pageWrite_empty {v : Nat} (h : 0x040 ≤ off) (hf : fieldsAt pg off = []) (ha : s.writeAction pg off v = none) :
    s.pageWrite pg off v = s := by
  unfold State.pageWrite State.writeBlock
  simp only [if_neg (Nat.not_lt.mpr h), hf, ha]
  rfl

theorem headerWord_gap (h : 0x028 ≤ off) : s.headerWord pg off = 0 := by
  unfold State.headerWord
  rw [if_neg, if_neg, if_neg, if_neg, if_neg, if_neg, if_neg, if_neg, if_neg, if_neg] <;> omega

theorem pageWord_headerGap (h : 0x028 ≤ off ∧ off < 0x040) : s.pageWord pg off = 0 := by
  unfold State.pageWord
  rw [if_pos h.2, headerWord_gap h.1, ite_self]

theorem pageWord_empty (h : 0x040 ≤ off) (hf : fieldsAt pg off = []) (ha : s.liveWord pg off = none) : s.pageWord pg off = 0 := by
  unfold State.pageWord State.storedWord
  rw [if_neg (Nat.not_lt.mpr h), ha, hf]
  exact ite_self 0

theorem pageWord_unlisted (h : pageListed pg = false) : s.pageWord pg off = 0 := by
  unfold State.pageWord
  rw [h]
  rfl

section

variable {path : BitVec 2} (hp : path = 0 ∨ path = 3) (hs : s.serves path.toNat = true) (hpg : pg < 512) (hoff : off < 0x1000)
  (h4 : off % 4 = 0)
include hp hs hpg hoff h4

/-- A register that reads 0. -/
theorem execRcRead_zero (h : s.pageWord pg off = 0) :
    ∃ t, exec (.rcRead path (BitVec.ofNat 26 (pg * 4096 + off)) 0) s = .next t ∧ t.rdata = 0 := by
  refine ⟨_, execRcRead_page hp hs hpg hoff h4, ?_⟩
  rw [h]
  rfl

theorem execRegisterWrite_listed (hk : (pg, off) ≠ (0x000, 0x044)) (hl : pageListed pg = true) (v : Word) :
    exec (.registerWrite path (BitVec.ofNat 26 (pg * 4096 + off)) v 15) s = .next ((s.heard path).pageWrite pg off v.toNat) :=
  (execRegisterWrite_page hp hs hpg hoff h4 v).trans (congrArg _ (regWrite_listed hp hoff hk hl))

theorem execRegisterWrite_unlisted (hi : s.Inv) (hl : pageListed pg = false) (v : Word) :
    ∃ t, exec (.registerWrite path (BitVec.ofNat 26 (pg * 4096 + off)) v 15) s = .next t ∧ t.evtSet 0x000 4 = true
      ∧ (bitOf (s.rd (hdr Reg.pgEvten 0)) 4 = true → 4 ∈ t.evPend) ∧ t.rd (glbF Reg.glbErraddrAddr 0) = pg * 4096 + off
      ∧ onlySignals (s.heard path) t [glbF Reg.glbErraddrAddr 0, glbF Reg.glbErraddrPath 0, glbF Reg.glbErraddrWrite 0] := by
  have hup : (s.heard path).lUp = true := heard_lUp.trans (lUp_of_serves hs)
  have hen : (s.heard path).rd (hdr Reg.pgEvten 0) = s.rd (hdr Reg.pgEvten 0) := heard_rd (by unfold evtKey; decide) (by decide)
  refine ⟨_, (execRegisterWrite_page hp hs hpg hoff h4 v).trans (congrArg _ (regWrite_unlisted hp hoff hl)),
    accessErr_evtSet (heard_inv hi) hup, fun h => mem_accessErr hup (hen ▸ h), accessErr_addr (heard_inv hi) (by omega),
    accessErr_signals _ _ _⟩

end

/-- Settles O12: the page is not listed, or the offset holds no register, of the header or of the block. -/
theorem emptyOffsets : Obligations.EmptyOffsets := by
  unfold Obligations.EmptyOffsets
  intro s pg off path v hi hp hs hpg hoff h4
  refine ⟨fun hl => ⟨execRcRead_zero hp hs hpg hoff h4 (pageWord_unlisted hl), execRegisterWrite_unlisted hp hs hpg hoff h4 hi hl v⟩,
    fun hl => ?_⟩
  rintro (hgap | ⟨hblk, hf, hlive, hact⟩)
  · have hk : (pg, off) ≠ (0x000, 0x044) := by simp; omega
    exact ⟨execRcRead_zero hp hs hpg hoff h4 (pageWord_headerGap hgap),
      (execRegisterWrite_listed hp hs hpg hoff h4 hk hl v).trans (congrArg _ (pageWrite_headerGap hgap))⟩
  · have hk : (pg, off) ≠ (0x000, 0x044) := by
      rintro ⟨⟩
      exact absurd hf (by decide)
    exact ⟨execRcRead_zero hp hs hpg hoff h4 (pageWord_empty hblk hf hlive),
      (execRegisterWrite_listed hp hs hpg hoff h4 hk hl v).trans
        (congrArg _ (pageWrite_empty hblk hf (heard_writeAction_none hact)))⟩

end

end Sys2Proof.Machine

/-!
PROOFS. The lock key sequence and the page locks. The statement on the page locks fails: a state may show STAGE = 3, which no
sequence reaches and which the model takes for the stage before the last word.
-/

namespace Sys2Proof.Machine

section

variable {s t : State} {f : Fld} {pg key : Nat}

/-! ### An aborted sequence (R72, R73) -/

theorem lockstat_key_ne (pg : Nat) : ∀ g ∈ lockstatFields, (hdr Reg.pgLock pg).key ≠ g.key := by
  simp only [lockstatFields, List.mem_cons, List.not_mem_nil, or_false, forall_eq_or_imp, forall_eq, hdr, glbF, Row.at, Fld.key,
    Reg.pgLock, Reg.glbLockstatStage, Reg.glbLockstatFails, Reg.glbLockstatLockout]
  omega

theorem lockstat_quiet : ∀ g ∈ lockstatFields, quietKey g.key := by decide

/-- The fields of GLB_LOCKSTAT as an abort writes them. -/
def State.lockFailed (s : State) : State :=
  let n := s.rd (glbF Reg.glbLockstatFails 0) + 1
  let a := (s.wr (glbF Reg.glbLockstatStage 0) 0).wr (glbF Reg.glbLockstatFails 0) n
  if 4 ≤ n then a.wr (glbF Reg.glbLockstatLockout 0) 1 else a

theorem lockFailed_inv (hi : s.Inv) : s.lockFailed.Inv :=
  (Keeps.ite (Keeps.refl s).wr.wr.wr (Keeps.refl s).wr.wr).inv hi

theorem lockFailed_lUp : s.lockFailed.lUp = s.lUp := by
  unfold State.lockFailed
  dsimp only
  split <;> rfl

theorem lockAbort_rd (hf : f ∈ lockstatFields) : s.lockAbort.rd f = s.lockFailed.rd f :=
  (Spares.refl s.lockFailed).raise (n := 5) lockstat_quiet f hf

theorem lockFailed_stage (hi : s.Inv) : s.lockFailed.rd (glbF Reg.glbLockstatStage 0) = 0 := by
  have h0 : ((s.wr (glbF Reg.glbLockstatStage 0) 0).wr (glbF Reg.glbLockstatFails 0) (s.rd (glbF Reg.glbLockstatFails 0) + 1)).rd
      (glbF Reg.glbLockstatStage 0) = 0 := (State.rd_wr_ne (by decide) _).trans (State.rd_wr_self hi.regs _ 0)
  unfold State.lockFailed
  dsimp only
  split
  · exact (State.rd_wr_ne (by decide) _).trans h0
  · exact h0

theorem lockFailed_fails (hi : s.Inv) :
    s.lockFailed.rd (glbF Reg.glbLockstatFails 0) = (s.rd (glbF Reg.glbLockstatFails 0) + 1) % 16 := by
  have h0 := State.rd_wr_self (wr_inv hi (glbF Reg.glbLockstatStage 0) 0).regs (glbF Reg.glbLockstatFails 0)
    (s.rd (glbF Reg.glbLockstatFails 0) + 1)
  unfold State.lockFailed
  dsimp only
  split
  · exact (State.rd_wr_ne (by decide) _).trans h0
  · exact h0

theorem lockFailed_lockout (hi : s.Inv) (h3 : s.rd (glbF Reg.glbLockstatFails 0) = 3) :
    s.lockFailed.rd (glbF Reg.glbLockstatLockout 0) = 1 := by
  unfold State.lockFailed
  dsimp only
  rw [if_pos (by omega)]
  exact rd_wr_bit (wr_inv (wr_inv hi _ _) _ _) rfl (by decide)

theorem lockAbort_evtSet (hi : s.Inv) (hl : s.lUp = true) : s.lockAbort.evtSet 0x000 5 = true :=
  raise_evtSet rfl (lockFailed_inv hi) (lockFailed_lUp.trans hl) (by decide)

/-! ### The words of the sequence (R71) -/

theorem unlock_inv (hi : s.Inv) (target : Nat) : (s.unlock target).Inv := (Keeps.refl s).unlock.inv hi

/-- The target page of the sequence is unlocked. -/
theorem unlock_rd (hi : s.Inv) (hpg : pg < 512) (hl : pageLockable pg = true) : (s.unlock pg).rd (hdr Reg.pgLock pg) = 0 := by
  refine (foldl_once (A := State.Inv) (B := fun s => s.Inv ∧ s.rd (hdr Reg.pgLock pg) = 0) (x := pg) ?_
    (List.nodup_range.filter _) hi (fun s p _ _ h => wr_inv h _ 0)
    (fun s h => ⟨wr_inv h _ 0, State.rd_wr_self h.regs _ 0⟩) fun s p _ hp h => ⟨wr_inv h.1 _ 0, ?_⟩).2
  · simp [hpg, hl]
  · exact (State.rd_wr_ne (hdr_key_ne (Ne.symm hp) (by decide) (by decide)) 0).trans h.2

/-- The state in which the last word of a sequence has been taken. -/
def State.unlocked (s : State) (target : Nat) : State :=
  ((s.unlock target).wr (glbF Reg.glbLockstatStage 0) 0).wr (glbF Reg.glbLockstatFails 0) 0

theorem unlocked_rd (hi : s.Inv) (hpg : pg < 512) (hl : pageLockable pg = true) : (s.unlocked pg).rd (hdr Reg.pgLock pg) = 0 :=
  (State.rd_wr_ne (lockstat_key_ne pg _ (by decide)) 0).trans
    ((State.rd_wr_ne (lockstat_key_ne pg _ (by decide)) 0).trans (unlock_rd hi hpg hl))

theorem unlocked_stage (hi : s.Inv) (target : Nat) : (s.unlocked target).rd (glbF Reg.glbLockstatStage 0) = 0 :=
  (State.rd_wr_ne (by decide) 0).trans (State.rd_wr_self (unlock_inv hi target).regs _ 0)

theorem unlocked_fails (hi : s.Inv) (target : Nat) : (s.unlocked target).rd (glbF Reg.glbLockstatFails 0) = 0 :=
  State.rd_wr_self (wr_inv (unlock_inv hi target) _ 0).regs _ 0

section

variable {path : Nat} (ho : s.rdB (glbF Reg.glbLockstatLockout 0) = false)
include ho

theorem lockKey_first (h0 : s.rd (glbF Reg.glbLockstatStage 0) = 0) : s.lockKey path 0xA5C3
    = State.wr { s with sys := { s.sys with lockPath := path } } (glbF Reg.glbLockstatStage 0) 1 := by
  unfold State.lockKey
  simp [ho, h0]

theorem lockKey_second (h1 : s.rd (glbF Reg.glbLockstatStage 0) = 1) (hp : s.sys.lockPath = path) :
    s.lockKey path 0x3C5A = s.wr (glbF Reg.glbLockstatStage 0) 2 := by
  unfold State.lockKey
  simp [ho, h1, hp]

theorem lockKey_wrong (h1 : s.rd (glbF Reg.glbLockstatStage 0) = 1) (hp : s.sys.lockPath = path) (hk : key ≠ 0x3C5A) :
    s.lockKey path key = s.lockAbort := by
  unfold State.lockKey
  simp [ho, h1, hp, hk]

theorem lockKey_otherPath (h0 : s.rd (glbF Reg.glbLockstatStage 0) ≠ 0) (hp : s.sys.lockPath ≠ path) :
    s.lockKey path key = s.lockAbort := by
  unfold State.lockKey
  simp [ho, h0, Ne.symm hp]

/-- Every stage past the second one takes the target word. -/
theorem lockKey_target (h0 : s.rd (glbF Reg.glbLockstatStage 0) ≠ 0) (h1 : s.rd (glbF Reg.glbLockstatStage 0) ≠ 1)
    (hp : s.sys.lockPath = path) (hpg : pg < 512) :
    s.lockKey path (BitVec.ofNat 32 (0xC3A50000 + pg)).toNat = s.unlocked pg := by
  have hk : (BitVec.ofNat 32 (0xC3A50000 + pg)).toNat = 0xC3A50000 + pg := by
    rw [BitVec.toNat_ofNat]
    omega
  have hhi : bits (0xC3A50000 + pg) 16 16 = 0xC3A5 := by
    unfold bits
    omega
  have hlo : bits (0xC3A50000 + pg) 0 16 = pg := by
    unfold bits
    omega
  unfold State.lockKey State.unlocked
  simp [ho, h0, h1, hp, hk, hhi, hlo]

end

theorem lockKey_lockout {path : Nat} (ho : s.rdB (glbF Reg.glbLockstatLockout 0) = true) : s.lockKey path key = s := by
  unfold State.lockKey
  simp [ho]

theorem execGlbLockkey_served {path : BitVec 2} (hp : path = 0 ∨ path = 3) (hs : s.serves path.toNat = true) (key : Word) :
    exec (.glbLockkey path key) s = .next (s.lockKey path.toNat key.toNat) :=
  congrArg Host.Outcome.next (hostWrite_page (addr := 0x44) (pagePath_toNat hp) hs rfl (by decide))

/-- During the lockout a key word does nothing, whether its path is served or not (R73). -/
theorem execGlbLockkey_lockout {path : BitVec 2} (hp : path = 0 ∨ path = 3) (ho : s.rdB (glbF Reg.glbLockstatLockout 0) = true)
    (key : Word) : exec (.glbLockkey path key) s = .next s := by
  by_cases hs : s.serves path.toNat = true
  · rw [execGlbLockkey_served hp hs, lockKey_lockout ho]
  · refine congrArg Host.Outcome.next ?_
    unfold State.hostWrite
    rw [if_pos (by simpa using hs)]

theorem execLockKeyTimeout_runs (hl : s.lUp = true) (h0 : s.rd (glbF Reg.glbLockstatStage 0) ≠ 0) (late : Bool) :
    exec (.lockKeyTimeout late) s = .next (if late then s.lockAbort.late 5 else s.lockAbort) :=
  if_pos (by simp [hl, h0])

/-- A late key word leaves the fields as the abort has written them. -/
theorem lockTimeout_rd {late : Bool} (hf : f ∈ lockstatFields) :
    (if late then s.lockAbort.late 5 else s.lockAbort).rd f = s.lockFailed.rd f := by
  have h := (Spares.refl s.lockFailed).raise (n := 5) lockstat_quiet
  exact Spares.ite (h.late (src := 5) (detail := 0) lockstat_quiet) h f hf

theorem execLockoutEnd_runs (hl : s.lUp = true) (ho : s.rdB (glbF Reg.glbLockstatLockout 0) = true) : exec .lockoutEnd s
    = .next ((s.wr (glbF Reg.glbLockstatLockout 0) 0).wr (glbF Reg.glbLockstatFails 0) 0) :=
  if_pos (by simp [hl, ho])

/-- Settles O21: each word of the sequence, its abort, the timeout and the end of the lockout. -/
theorem lockKey : Obligations.LockKey := by
  unfold Obligations.LockKey
  intro s hi hl
  refine ⟨fun path hp hs ho => ⟨fun h0 => ?first, fun h1 hpath => ?second, fun h2 hpath pg hpg hlk => ?target,
    fun h1 hpath key hk => ?wrong, fun h0 hpath key => ?other⟩, fun ho h0 h3 late => ?timeout, fun ho => ⟨?unlock, ?ignored⟩⟩
  case first =>
    refine ⟨_, (execGlbLockkey_served hp hs _).trans (congrArg _ (lockKey_first ho h0)), ?_, rfl⟩
    exact State.rd_wr_self (s := { s with sys := { s.sys with lockPath := path.toNat } }) hi.regs _ 1
  case second =>
    exact ⟨_, (execGlbLockkey_served hp hs _).trans (congrArg _ (lockKey_second ho h1 hpath)), onlyRegs_wr s _ 2,
      State.rd_wr_self hi.regs _ 2⟩
  case target =>
    exact ⟨_, (execGlbLockkey_served hp hs _).trans (congrArg _ (lockKey_target ho (by omega) (by omega) hpath hpg)),
      unlocked_rd hi hpg hlk, unlocked_stage hi pg, unlocked_fails hi pg⟩
  case wrong =>
    have hk' : key.toNat ≠ 0x3C5A := fun h => hk (BitVec.eq_of_toNat_eq h)
    exact ⟨_, (execGlbLockkey_served hp hs _).trans (congrArg _ (lockKey_wrong ho h1 hpath hk')),
      (lockAbort_rd (by decide)).trans (lockFailed_stage hi), (lockAbort_rd (by decide)).trans (lockFailed_fails hi),
      lockAbort_evtSet hi hl⟩
  case other =>
    exact ⟨_, (execGlbLockkey_served hp hs _).trans (congrArg _ (lockKey_otherPath ho h0 hpath)),
      (lockAbort_rd (by decide)).trans (lockFailed_stage hi), lockAbort_evtSet hi hl⟩
  case timeout =>
    exact ⟨_, execLockKeyTimeout_runs hl h0 late, (lockTimeout_rd (by decide)).trans (lockFailed_stage hi),
      (lockTimeout_rd (by decide)).trans (lockFailed_lockout hi h3)⟩
  case unlock =>
    exact ⟨_, execLockoutEnd_runs hl ho, (State.rd_wr_ne (by decide) 0).trans (State.rd_wr_self hi.regs _ 0),
      State.rd_wr_self (wr_inv hi _ 0).regs _ 0, rfl, regsBut_wr (regsBut_wr (fun _ _ => rfl) (by simp)) (by simp)⟩
  case ignored => exact fun path key hp => execGlbLockkey_lockout hp ho key

/-! ### A lock that a key word clears with STAGE = 3 (O14) -/

/-- Page 0x0A0 is locked, and STAGE reads 3 with the register target as the path of the sequence. -/
def State.pastStages : State :=
  { mode := .run, sys := { lockPath := 3 },
    regs := [((glbF Reg.glbLockstatStage 0).key, 3), ((hdr Reg.pgLock 0x0A0).key, 1)] }

theorem pastStages_inv : State.pastStages.Inv where
  regs := by decide
  act := by decide
  mem := by decide
  evq := Nat.zero_le 64
  twq := Nat.zero_le 64
  offers := Nat.zero_le 64
  islBuf := Nat.zero_le 256

/-- Refutes O14: with STAGE = 3, which the invariant admits, the word 0xC3A500A0 over the register target clears the lock of page
0x0A0, though the sequence does not stand at STAGE 2. -/
theorem not_lockBits : ¬ Obligations.LockBits := by
  unfold Obligations.LockBits
  intro h
  have hexec : exec (.glbLockkey 3 (BitVec.ofNat 32 (0xC3A50000 + 0x0A0))) State.pastStages
      = .next (State.pastStages.unlocked 0x0A0) :=
    (execGlbLockkey_served (.inr rfl) rfl _).trans
      (congrArg _ (lockKey_target rfl (by decide) (by decide) rfl (by decide)))
  obtain ⟨-, hkept⟩ := h State.pastStages 0x0A0 3 pastStages_inv (by decide) rfl
  obtain ⟨hstays, -⟩ := hkept rfl (State.pastStages.unlocked 0x0A0)
  have hlock := hstays _ (by decide) hexec
  rw [unlocked_rd pastStages_inv (by decide) rfl] at hlock
  exact absurd hlock (by decide)

end

end Sys2Proof.Machine

/-!
PROOFS. BAR2: runs of bytes and words of the memory, and what an access to a bank changes.
-/

namespace Sys2Proof.Machine

section

variable {s t : State} {m w n a v : Nat}

/-! ### Words as bytes (R60) -/

/-- A run of bytes reads back what it wrote. -/
theorem Memory.byte_putRun_in {i : Nat} {l : List Byte} {mem : Memory} (hw : mem.wf = true) (hi : i < l.length) :
    (mem.putRun a l).byte (a + i) = l[i] := by
  induction l generalizing a i mem with
  | nil => exact absurd hi (Nat.not_lt_zero i)
  | cons b l ih =>
    unfold Memory.putRun
    cases i with
    | zero => rw [Memory.byte_putRun_out (.inl (by omega))]; exact Memory.byte_put_self hw
    | succ i =>
      rw [show a + (i + 1) = a + 1 + i by omega]
      exact ih (Memory.wf_put hw) (Nat.lt_of_succ_lt_succ hi)

@[simp] theorem length_natToBytes (n v : Nat) : (natToBytes n v).length = n := by
  induction n generalizing v with
  | zero => rfl
  | succ n ih => simp [natToBytes, ih]

/-- The bytes of a number stand for the number. -/
theorem bytesToNat_natToBytes (h : v < 256 ^ n) : bytesToNat (natToBytes n v) = v := by
  induction n generalizing v with
  | zero => rw [Nat.pow_zero] at h; exact (Nat.lt_one_iff.mp h).symm
  | succ n ih =>
    rw [Nat.pow_succ] at h
    simp only [natToBytes, bytesToNat, ih (Nat.div_lt_of_lt_mul (Nat.mul_comm _ _ ▸ h)), BitVec.toNat_ofNat]
    omega

/-- One word written is the word that stands there after. -/
theorem Memory.word_putWords {mem : Memory} (hw : mem.wf = true) (hv : v < 2 ^ 64) : (mem.putWords a [v]).word a = v := by
  have hbytes : ((List.range 8).map fun i => (mem.putRun a (natToBytes 8 v)).byte (a + i)) = natToBytes 8 v := by
    refine List.ext_getElem (by simp) fun i hi hj => ?_
    rw [List.getElem_map, List.getElem_range]
    exact Memory.byte_putRun_in hw hj
  unfold Memory.word Memory.putWords
  rw [List.flatMap_singleton, hbytes]
  exact bytesToNat_natToBytes hv

/-- One word written leaves the bytes outside it. -/
theorem Memory.byte_putWords_out {j : Nat} {mem : Memory} (h : j < a ∨ a + 8 ≤ j) : (mem.putWords a [v]).byte j = mem.byte j := by
  unfold Memory.putWords
  rw [List.flatMap_singleton]
  exact Memory.byte_putRun_out (by simpa using h)

/-- The lowest bytes of a number, each in its place, are its remainder. -/
theorem sumN_bytes (v n : Nat) : sumN ((List.range n).map fun i => bits v (8 * i) 8 * 2 ^ (8 * i)) = v % 2 ^ (8 * n) := by
  induction n with
  | zero => simp [sumN, Nat.mod_one]
  | succ n ih =>
    unfold sumN at ih ⊢
    rw [List.range_succ, List.map_append, List.foldl_append, ih, Nat.mul_succ, Nat.pow_add, Nat.mod_mul]
    exact congrArg _ (Nat.mul_comm _ _)

/-- With every byte enabled, the word written replaces the old one (R62). -/
theorem mergeBytes_full {old new : Nat} (h : new < 2 ^ 64) : mergeBytes old new 255 = new := by
  have hall : ∀ i ∈ List.range 8, bits (if bitOf 255 i then new else old) (8 * i) 8 * 2 ^ (8 * i) = bits new (8 * i) 8 * 2 ^ (8 * i) := by
    intro i hi
    have hon : ∀ j ∈ List.range 8, bitOf 255 j = true := by decide
    rw [if_pos (hon i hi)]
  unfold mergeBytes
  rw [List.map_congr_left hall, sumN_bytes]
  exact Nat.mod_eq_of_lt h

/-! ### Accesses to a bank (R62, R409) -/

theorem raise_mem (s : State) (n : Nat) : (s.raise n).mem = s.mem := by rw [(raise_signals s n []).1]

theorem raise_rdata (s : State) (n : Nat) : (s.raise n).rdata = s.rdata := by rw [(raise_signals s n []).1]

theorem token_mem (s : State) (src kind detail : Nat) : (s.token src kind detail).mem = s.mem := by
  rw [(token_signals s src kind detail []).1]

theorem accessErr_mem (s : State) (addr path : Nat) (write : Bool) : (s.accessErr addr path write).mem = s.mem := raise_mem _ 4

theorem touched_mem (s : State) (segs : List (Nat × Nat × Nat)) : (s.touched segs).mem = s.mem := by
  unfold State.touched
  split
  · split
    · exact raise_mem _ 951
    · rfl
  · rfl

theorem eccCorr_mem (s : State) (m w : Nat) : (s.eccCorr m w).mem = s.mem := raise_mem _ 898

theorem eccCorr_rdata (s : State) (m w : Nat) : (s.eccCorr m w).rdata = s.rdata := raise_rdata _ 898

theorem eccUnc_mem (s : State) (m w : Nat) : (s.eccUnc m w).mem = s.mem := (token_mem _ 899 _ _).trans (raise_mem _ 899)

theorem bar2Write_full_mem (hd : v < 2 ^ 64) : (s.bar2Write m w v 255 0).mem = s.mem.putWords (wordAddr m w) [v] := by
  unfold State.bar2Write
  simp [touched_mem, mergeBytes_full hd]

theorem bar2Read_mem : (s.bar2Read m w 0).mem = s.mem := by
  unfold State.bar2Read
  rw [if_neg (by decide)]
  split
  · exact eccUnc_mem _ m w
  · split
    · exact eccCorr_mem _ m w
    · rfl

/-- A word that is not uncorrectable is returned as it stands, corrected or not. -/
theorem bar2Read_rdata (hb : s.memBad.contains (m, w, true) = false) : (s.bar2Read m w 0).rdata = s.mem.word (wordAddr m w) := by
  unfold State.bar2Read
  rw [if_neg (by decide), if_neg (by simp only [hb]; decide)]
  split
  · exact eccCorr_rdata _ m w
  · rfl

/-- A BAR2 access to a whole word, by what the owner of its bank lets it come to. -/
theorem execBar2Access_word {write : Bool} {data : BitVec 64} (hb : s.barOn = true) (hm : m < 64) (hw : w < 0x20000) :
    exec (.bar2Access (BitVec.ofNat 26 (m * 0x100000 + 8 * w)) write data 255 0) s
      = .next (if s.owner m ≠ 3 then
          State.accessErr (if write then s else { s with rdata := 0 }) (m * 0x100000 + 8 * w) 1 write
        else if write then s.bar2Write m w data.toNat 255 0
        else s.bar2Read m w 0) := by
  have haddr : (BitVec.ofNat 26 (m * 0x100000 + 8 * w)).toNat = m * 0x100000 + 8 * w := by
    rw [BitVec.toNat_ofNat]
    omega
  have hbank : (m * 0x100000 + 8 * w) / 0x100000 = m := by omega
  have hword : (m * 0x100000 + 8 * w) % 0x100000 / 8 = w := by omega
  change execBar2Access _ _ _ _ _ s = _
  unfold execBar2Access State.bar2
  rw [if_pos hb, haddr, hbank, hword]
  rfl

/-- Settles O22: the word written is read back, the bytes beside it stand, and a bank of another owner is not served. -/
theorem bar2Words : Obligations.Bar2Words := by
  unfold Obligations.Bar2Words
  intro s m w data hi hb hm hw
  refine ⟨fun ho => ⟨⟨s.bar2Write m w data.toNat 255 0, ?_, ?_, ?_⟩, s.bar2Read m w 0, ?_, bar2Read_mem, bar2Read_rdata⟩,
    fun ho => ⟨s.accessErr (m * 0x100000 + 8 * w) 1 true, ?_, ?_, ?_⟩⟩
  · rw [execBar2Access_word hb hm hw, if_neg (not_not.mpr ho), if_pos rfl]
  · rw [bar2Write_full_mem data.isLt]
    exact Memory.word_putWords hi.mem data.isLt
  · intro a ha
    rw [bar2Write_full_mem data.isLt]
    exact Memory.byte_putWords_out ha
  · rw [execBar2Access_word hb hm hw, if_neg (not_not.mpr ho), if_neg (by decide)]
  · rw [execBar2Access_word hb hm hw, if_pos ho, if_pos rfl]
  · exact accessErr_mem s _ 1 true
  · exact accessErr_evtSet hi (lUp_of_serves (path := 0) hb)

end

end Sys2Proof.Machine

/-!
PROOFS. The fields of one register: they lie beside one another, so that each keeps the value that a write of the register gives it.
-/

namespace Sys2Proof.Machine

section

variable {s t : State} {f g : Fld} {r q : Row} {pg off x i : Nat}

/-! ### Rows of one page (chapter 3) -/

/-- Two rows that share no bit of a register: other bits, other ranges of offsets, or offsets that interleave. -/
def Row.apart (r q : Row) : Bool :=
  r.lo + r.width ≤ q.lo || q.lo + q.width ≤ r.lo || r.off + r.stride * (r.count - 1) < q.off
    || q.off + q.stride * (q.count - 1) < r.off || (r.stride == q.stride && r.off % r.stride != q.off % q.stride)

/-- A row of registers of a block: behind the page header, within the page, with its field in the 32 bits. The offsets of BAR4 run on
over more than one page. -/
def Row.inBlock (r : Row) : Bool :=
  0x040 ≤ r.off % 4096 && r.off % 4096 + r.stride * (r.count - 1) < 4096 && 0 < r.width && r.lo + r.width ≤ 32

/-- Every row lies in its block, and no two share a bit. -/
def rowsApart : List Row → Bool
  | [] => true
  | r :: l => r.inBlock && l.all r.apart && rowsApart l

/-- The rows of each kind of page. -/
def rowTables : List (List Row) :=
  [Reg.glbRows, Reg.tmbRows, Reg.fabRows, Reg.evt0Rows, Reg.evt1Rows, Reg.evt2Rows, Reg.evt3Rows, Reg.cmd0Rows, Reg.cmd1Rows,
    Reg.cmd2Rows, Reg.cmd3Rows, Reg.bayRows, Reg.loopRows, Reg.phRows, Reg.abc0Rows, Reg.abc1Rows, Reg.abc2Rows, Reg.abc3Rows,
    Reg.bal0Rows, Reg.bal1Rows, Reg.hldRows, Reg.batRows, Reg.tieRows, Reg.seq0Rows, Reg.seq1Rows, Reg.trdRows, Reg.seq6Rows,
    Reg.seq7Rows, Reg.idxRows, Reg.twtRows, Reg.twcRows, Reg.thmRows, Reg.srvRows ++ Reg.srvlRows, Reg.srvRows,
    Reg.memRows ++ Reg.memtRows, Reg.memRows, Reg.cap0Rows, Reg.cap1Rows, Reg.cap2Rows, Reg.cap3Rows, Reg.str0Rows, Reg.flt0Rows,
    Reg.flt1Rows, Reg.flt2Rows, Reg.flt3Rows, Reg.gal0Rows, Reg.gal1Rows, Reg.lanRows, Reg.bistRows, Reg.polRows ++ Reg.pol0Rows,
    Reg.polRows, Reg.nvcRows, Reg.pexRows, Reg.kaiRows, Reg.cmdfRows, []]

theorem mem_ite {α : Type} {c : Prop} {_ : Decidable c} {a b : α} {l : List α} (ha : a ∈ l) (hb : b ∈ l) :
    (if c then a else b) ∈ l := by
  split
  · exact ha
  · exact hb

theorem pageRows_mem (pg : Nat) : pageRows pg ∈ rowTables := by
  unfold pageRows
  repeat' apply mem_ite
  all_goals simp only [rowTables, List.mem_cons, true_or, or_true]

theorem rowTables_apart : ∀ l ∈ rowTables, rowsApart l = true := by decide +kernel

theorem inBlock_of_rowsApart {l : List Row} (h : rowsApart l = true) (hr : r ∈ l) : r.inBlock = true := by
  induction l with
  | nil => exact absurd hr List.not_mem_nil
  | cons a l ih =>
    simp only [rowsApart, Bool.and_eq_true] at h
    obtain ⟨⟨hin, -⟩, hrest⟩ := h
    rcases List.mem_cons.mp hr with rfl | hr
    · exact hin
    · exact ih hrest hr

theorem apart_of_rowsApart {l : List Row} (h : rowsApart l = true) (hr : r ∈ l) (hq : q ∈ l) (hne : r ≠ q) :
    r.apart q = true ∨ q.apart r = true := by
  induction l with
  | nil => exact absurd hr List.not_mem_nil
  | cons a l ih =>
    simp only [rowsApart, Bool.and_eq_true, List.all_eq_true] at h
    obtain ⟨⟨-, hhead⟩, hrest⟩ := h
    rcases List.mem_cons.mp hr with rfl | hr' <;> rcases List.mem_cons.mp hq with rfl | hq'
    · exact absurd rfl hne
    · exact .inl (hhead q hq')
    · exact .inr (hhead r hr')
    · exact ih hrest hr' hq'

theorem inBlock_of_mem (hr : r ∈ pageRows pg) : r.inBlock = true := inBlock_of_rowsApart (rowTables_apart _ (pageRows_mem pg)) hr

theorem apart_of_mem (hr : r ∈ pageRows pg) (hq : q ∈ pageRows pg) (hne : r ≠ q) : r.apart q = true ∨ q.apart r = true :=
  apart_of_rowsApart (rowTables_apart _ (pageRows_mem pg)) hr hq hne

theorem indexAt_off (h : r.indexAt x = some i) : x = r.off + r.stride * i ∧ i ≤ r.count - 1 := by
  unfold Row.indexAt at h
  split_ifs at h with hlt h0 hx hin
  · cases h
    exact ⟨by rw [h0, hx]; omega, Nat.zero_le _⟩
  · cases h
    obtain ⟨hmod, hcount⟩ := hin
    have hdiv := Nat.div_add_mod (x - r.off) r.stride
    exact ⟨by omega, by omega⟩

/-- Of two rows that share no bit, those of one register have other bits. -/
theorem bits_apart {j : Nat} (h : r.apart q = true) (hr : r.indexAt x = some i) (hq : q.indexAt x = some j) :
    r.lo + r.width ≤ q.lo ∨ q.lo + q.width ≤ r.lo := by
  obtain ⟨hxr, hir⟩ := indexAt_off hr
  obtain ⟨hxq, hjq⟩ := indexAt_off hq
  have hir' := Nat.mul_le_mul_left r.stride hir
  have hjq' := Nat.mul_le_mul_left q.stride hjq
  simp only [Row.apart, Bool.or_eq_true, decide_eq_true_eq, Bool.and_eq_true, beq_iff_eq, bne_iff_ne] at h
  rcases h with (((h | h) | h) | h) | ⟨hs, h⟩
  · exact .inl h
  · exact .inr h
  · omega
  · omega
  · refine absurd ?_ h
    calc r.off % r.stride = x % r.stride := by rw [hxr, Nat.add_mul_mod_self_left]
      _ = x % q.stride := by rw [hs]
      _ = q.off % q.stride := by rw [hxq, Nat.add_mul_mod_self_left]

/-! ### Fields at one offset -/

theorem fieldsAt_row (h : f ∈ fieldsAt pg off) : ∃ r ∈ pageRows pg, ∃ i, r.indexAt off = some i ∧ f.page = pg ∧ f.off = off
    ∧ f.lo = r.lo ∧ f.width = r.width := by
  obtain ⟨r, hr, hf⟩ := List.mem_filterMap.mp h
  obtain ⟨i, hi, rfl⟩ := Option.map_eq_some_iff.mp hf
  refine ⟨r, hr, i, hi, ?_⟩
  have hoff := (indexAt_off hi).1
  split_ifs <;> exact ⟨rfl, hoff.symm, rfl, rfl⟩

/-- Where the fields of a register lie. -/
theorem fieldsAt_place (h : f ∈ fieldsAt pg off) :
    f.page = pg ∧ f.off = off ∧ 0x040 ≤ off % 4096 ∧ 0 < f.width ∧ f.lo + f.width ≤ 32 := by
  obtain ⟨r, hr, i, hi, hpage, hoff, hlo, hwidth⟩ := fieldsAt_row h
  have hin := inBlock_of_mem hr
  simp only [Row.inBlock, Bool.and_eq_true, decide_eq_true_eq] at hin
  obtain ⟨hx, hcount⟩ := indexAt_off hi
  have hle := Nat.mul_le_mul_left r.stride hcount
  exact ⟨hpage, hoff, by omega, by omega, by omega⟩

/-- Two fields of one register have no bit in common. -/
theorem fieldsAt_apart (hf : f ∈ fieldsAt pg off) (hg : g ∈ fieldsAt pg off) (hne : f ≠ g) :
    f.lo + f.width ≤ g.lo ∨ g.lo + g.width ≤ f.lo := by
  obtain ⟨r, hr, er⟩ := List.mem_filterMap.mp hf
  obtain ⟨q, hq, eq⟩ := List.mem_filterMap.mp hg
  have hrq : r ≠ q := by
    rintro rfl
    exact hne (Option.some.inj (er.symm.trans eq))
  obtain ⟨i, hi, rfl⟩ := Option.map_eq_some_iff.mp er
  obtain ⟨j, hj, rfl⟩ := Option.map_eq_some_iff.mp eq
  have h : r.lo + r.width ≤ q.lo ∨ q.lo + q.width ≤ r.lo :=
    (apart_of_mem hr hq hrq).elim (fun h => bits_apart h hi hj) fun h => (bits_apart h hj hi).symm
  split_ifs <;> exact h

theorem fieldsAt_key_ne (hf : f ∈ fieldsAt pg off) (hg : g ∈ fieldsAt pg off) (hne : f ≠ g) : f.key ≠ g.key := by
  obtain ⟨hfp, hfo, -, hfw, -⟩ := fieldsAt_place hf
  obtain ⟨hgp, hgo, -, hgw, -⟩ := fieldsAt_place hg
  have h := fieldsAt_apart hf hg hne
  simp only [Fld.key]
  omega

/-- A field of the page header lies at no register of a block. -/
theorem fieldsAt_key_ne_hdr {p : Nat} (hf : f ∈ fieldsAt pg off) (hr : r.off < 0x040 ∧ r.lo < 32 ∧ r.stride = 0) :
    f.key ≠ (hdr r p).key := by
  obtain ⟨hfp, hfo, hlo, hfw, hbits⟩ := fieldsAt_place hf
  obtain ⟨hro, hrl, hrs⟩ := hr
  simp only [hdr, Row.at, Fld.key, hrs]
  omega

theorem bits_mod (v lo w : Nat) : bits v lo w % 2 ^ w = bits v lo w := Nat.mod_mod _ _

/-- A run of writes gives a field what its own write gives it. -/
theorem foldl_wr_rd {l : List Fld} {v : Fld → Nat} (hs : s.regs.sorted = true) (hl : ∀ g ∈ l, g ≠ f → f.key ≠ g.key)
    (h : f ∈ l ∨ s.rd f = v f % 2 ^ f.width) : (l.foldl (fun t g => t.wr g (v g)) s).rd f = v f % 2 ^ f.width := by
  induction l generalizing s with
  | nil => exact h.resolve_left (List.not_mem_nil)
  | cons g l ih =>
    refine ih (State.wr_sorted hs _ _) (fun q hq => hl q (List.mem_cons_of_mem g hq)) ?_
    by_cases he : g = f
    · exact .inr (he ▸ State.rd_wr_self hs g (v g))
    · rw [State.rd_wr_ne (hl g List.mem_cons_self he)]
      exact h.imp_left fun h => (List.mem_cons.mp h).resolve_left (Ne.symm he)

/-- The RWJ fields of a register take their bits of a value (R78). -/
theorem putWord_rd {v : Nat} (hs : s.regs.sorted = true) (hf : f ∈ fieldsAt pg off) (hj : f.acc = .rwj) :
    (s.putWord pg off v).rd f = bits v f.lo f.width := by
  refine (foldl_wr_rd hs (fun g hg hne => ?_) (.inl ?_)).trans (bits_mod _ _ _)
  · exact fieldsAt_key_ne hf (List.mem_filter.mp hg).1 (Ne.symm hne)
  · exact List.mem_filter.mpr ⟨hf, by rw [hj]; rfl⟩

end

end Sys2Proof.Machine

/-!
PROOFS. Staged settings. First, what the arrival and the acceptance of a command leave; then PAGE_SET, COMMIT, and the apply points.
-/

namespace Sys2Proof.Machine

section

variable {old s t u : State} {f : Fld} {pg off v seq bad : Nat} {ws : List Nat} {tw : Bool} {ap : JEntry → State → State}

/-! ### What a command leaves before it is applied (R80, R88) -/

/-- The fields before PG_EVT in the page headers read in `s` as in `old`. -/
def HeadersStand (old s : State) : Prop := ∀ f : Fld, f.key % 131072 / 32 < 0x014 → s.rd f = old.rd f

theorem HeadersStand.refl (s : State) : HeadersStand s s := fun _ _ => rfl

theorem HeadersStand.same (h : HeadersStand old s) (e : t.regs = s.regs := by rfl) : HeadersStand old t :=
  fun f hf => (rd_of_regs e).trans (h f hf)

theorem HeadersStand.wr (h : HeadersStand old s) (hf : 0x014 ≤ f.key % 131072 / 32) : HeadersStand old (s.wr f v) :=
  fun g hg => (State.rd_wr_ne (fun e => by rw [e] at hg; omega) v).trans (h g hg)

theorem HeadersStand.ite {c : Prop} {_ : Decidable c} (h : HeadersStand old s) (h' : HeadersStand old t) :
    HeadersStand old (if c then s else t) := by
  split
  · exact h
  · exact h'

theorem HeadersStand.signals {ks : List Fld} (h : HeadersStand old s) (hs : onlySignals s t ks)
    (hk : ∀ g ∈ signalFields ++ ks, 0x014 ≤ g.key % 131072 / 32) : HeadersStand old t := fun f hf =>
  (hs.2 f (fun he => by unfold evtKey at he; omega) fun g hg e => by have := hk g hg; rw [← e] at this; omega).trans (h f hf)

theorem HeadersStand.raise {n : Nat} (h : HeadersStand old s) : HeadersStand old (s.raise n) :=
  h.signals (raise_signals s n []) (by decide)

theorem HeadersStand.ringFollow (h : HeadersStand old s) : HeadersStand old s.ringFollow := by
  unfold State.ringFollow
  exact .ite (.ite h h.raise.same) h.same

theorem HeadersStand.report {w0 htag : Nat} (h : HeadersStand old s) : HeadersStand old (s.report tw w0 seq htag) := by
  unfold State.report State.writeTw State.writeRing
  dsimp only
  refine .ite (.ite h.same h.same) (.ite (.ite h.same h.same) (.ite (.ringFollow (.ite ?_ ?_)) h.same))
  · exact .wr (.wr (h.same (t := s.emit _)) (by decide)) (by decide)
  · exact .wr (h.same (t := s.emit _)) (by decide)

theorem HeadersStand.arrive (h : HeadersStand old s) : HeadersStand old (s.arrive tw) := by
  unfold State.arrive
  dsimp only
  exact .ite h (.wr (.ite (.wr h (by decide)) h) (by decide))

theorem HeadersStand.accept (h : HeadersStand old s) : HeadersStand old (s.accept ws tw) := by
  unfold State.accept
  extract_lets seq e t u v
  have ht : HeadersStand old t := h.same
  have hv : HeadersStand old v := .report (.wr (.wr ht (by decide)) (by decide))
  exact .ite hv.raise hv

/-! ### An accepted command (R80, R85, R93) -/

theorem arrive_frame : s.arrive tw = { s with regs := (s.arrive tw).regs } := by
  unfold State.arrive
  dsimp only
  split_ifs <;> rfl

theorem arrive_jnl : (s.arrive tw).jnl = s.jnl := by rw [arrive_frame]

theorem arrive_lUp : (s.arrive tw).lUp = s.lUp := by rw [arrive_frame]; rfl

theorem arrive_pfwOn : (s.arrive tw).pfwOn = s.pfwOn := by rw [arrive_frame]

theorem arrive_jFill : (s.arrive tw).jFill = s.jFill := congrArg (fun l => (l.filter fun e => !e.issued).length) arrive_jnl

/-- The arrival moves the indexes of the command ring alone. -/
theorem arrive_rd (hr : f.key ≠ (cmd0F Reg.cmdRheadIdx 0).key) (ht : f.key ≠ (cmdfF Reg.cmdRtailIdx 0).key) :
    (s.arrive tw).rd f = s.rd f := by
  unfold State.arrive
  dsimp only
  split_ifs
  · rfl
  · rw [State.rd_wr_ne hr, State.rd_wr_ne ht]
  · exact State.rd_wr_ne hr _

theorem arrive_cmd1 {r : Row} (hr : r.fits 0) : (s.arrive tw).rd (cmd1F r 0) = s.rd (cmd1F r 0) := by
  have hpage : (cmd1F r 0).key / 131072 = 0x009 := Row.page_at hr
  exact arrive_rd (fun e => absurd (hpage.symm.trans (congrArg (· / 131072) e)) (by decide))
    fun e => absurd (hpage.symm.trans (congrArg (· / 131072) e)) (by decide)

theorem arrive_macros : (s.arrive tw).macros = s.macros := by
  have hok (m : Nat) : (s.arrive tw).macroOk m = s.macroOk m := by
    unfold State.macroOk State.rdB
    simp only [arrive_cmd1 (r := Reg.cmdJstatJm0ok) (by decide), arrive_cmd1 (r := Reg.cmdJstatJm1ok) (by decide),
      arrive_cmd1 (r := Reg.cmdJstatJmsused) (by decide)]
  unfold State.macros
  simp only [hok]

theorem arrive_macroBad : (s.arrive tw).macroBad bad = s.macroBad bad := by
  have hj : (s.arrive tw).jInject = s.jInject := by rw [arrive_frame]
  unfold State.macroBad
  rw [arrive_macros, hj]

/-- The checks of R80 let the command pass. -/
theorem check_accepts (h : s.accepts ws tw bad) :
    State.check ap ws tw bad (s.arrive tw) = State.applyBy ap (nth ws 1) ((s.arrive tw).accept ws tw) := by
  obtain ⟨-, hup, hpfw, hchk, hver, hseq, hfill, hreb, hlost, hbad⟩ := h
  have hlast : s.rd (cmd1F Reg.cmdLastSeq 0) < 2 ^ 32 := Nat.mod_lt _ (by decide)
  unfold State.check
  rw [arrive_lUp, arrive_pfwOn, arrive_jFill, arrive_cmd1 (by decide), arrive_macroBad]
  have hreb' : (s.arrive tw).rebuilding = false := (congrArg (· != 0) (arrive_cmd1 (by decide))).trans hreb
  have hlost' : (s.arrive tw).mirrorLost = false := (congrArg (· != 0) (arrive_cmd1 (by decide))).trans hlost
  have hnext : (nth ws 1 + 2 ^ 32 - s.rd (cmd1F Reg.cmdLastSeq 0)) % 2 ^ 32 = 1 := by omega
  dsimp only
  rw [if_neg (by simp [hup, hpfw]), if_neg (by simp [hchk]), if_neg (by simp [hver]), hnext, if_neg (by decide), if_neg (by decide),
    if_neg (Nat.not_le.mpr hfill), if_neg (by simp [hreb']), if_neg (by simp [hlost']), hbad]

theorem ringFollow_jnl : s.ringFollow.jnl = s.jnl := by
  unfold State.ringFollow
  split_ifs
  · rfl
  · rw [(raise_signals s 40 []).1]
  · rfl

theorem writeTw_jnl {l : List Nat} : (s.writeTw l).jnl = s.jnl := by
  unfold State.writeTw
  split <;> rfl

theorem writeRing_jnl {l : List Nat} : (s.writeRing l).jnl = s.jnl := by
  unfold State.writeRing
  refine ringFollow_jnl.trans ?_
  split <;> rfl

theorem report_jnl {w0 htag : Nat} : (s.report tw w0 seq htag).jnl = s.jnl := by
  unfold State.report
  dsimp only
  split_ifs
  · exact writeTw_jnl
  · exact writeTw_jnl
  · exact writeRing_jnl
  · rfl

/-- An accepted command takes the position of its SEQ in the journal (R93). -/
theorem accept_jnl : (s.accept ws tw).jnl = (s.jnl.filter fun x => x.seq % 32768 != nth ws 1 % 32768)
    ++ [{ seq := nth ws 1, words := journalWords ws, twoWire := tw, copies := s.copyMask }] := by
  unfold State.accept
  extract_lets seq e t u v
  have hv : v.jnl = t.jnl := report_jnl
  split
  · exact (congrArg State.jnl (raise_signals v 35 []).1).trans hv
  · exact hv

theorem accept_jFind : (s.accept ws tw).jFind (nth ws 1)
    = some { seq := nth ws 1, words := journalWords ws, twoWire := tw, copies := s.copyMask } := by
  have hnone : (s.jnl.filter fun x => x.seq % 32768 != nth ws 1 % 32768).find? (fun e => e.seq == nth ws 1) = none := by
    refine List.find?_eq_none.mpr fun x hx hseq => ?_
    have hne := (List.mem_filter.mp hx).2
    rw [beq_iff_eq.mp hseq] at hne
    simp at hne
  unfold State.jFind
  rw [accept_jnl, List.find?_append, hnone]
  simp

/-- A change of the entry of a SEQ is found at that SEQ. -/
theorem jFind_jMod {g : JEntry → JEntry} (hg : ∀ e, (g e).seq = e.seq) : (s.jMod seq g).jFind seq = (s.jFind seq).map g := by
  have hseq (e : JEntry) : ((if e.seq = seq then g e else e).seq == seq) = (e.seq == seq) := by
    split
    · rw [hg]
    · rfl
  unfold State.jFind State.jMod
  simp only [List.find?_map, Function.comp_def, hseq]
  cases h : s.jnl.find? (fun e => e.seq == seq) with
  | none => rfl
  | some e => exact congrArg some (if_pos (beq_iff_eq.mp (List.find?_some (p := fun e : JEntry => e.seq == seq) h)))

theorem arrive_copyMask : (s.arrive tw).copyMask = s.copyMask := congrArg (List.foldl setBit 0) arrive_macros

/-- The accepted command is found in the journal, marked as applied. -/
theorem applied_jFind : (((s.arrive tw).accept ws tw).jMod (nth ws 1) fun e => { e with applied := true }).jFind (nth ws 1)
    = some (s.appliedEntry ws tw) := by
  refine (jFind_jMod (g := fun e => { e with applied := true }) fun _ => rfl).trans ?_
  rw [accept_jFind, arrive_copyMask]
  rfl

/-- An accepted command is applied to the state in which it stands in the journal (R85, R86). -/
theorem command_accepts {opc inst : Nat} {h : CmdHdr} {args : List Nat}
    (ha : s.accepts (cmdWords opc inst h args) h.twoWire h.jbad.toNat) :
    s.command ap opc inst h args
      = ap (s.appliedEntry (cmdWords opc inst h args) h.twoWire) (s.accepted (cmdWords opc inst h args) h.twoWire) := by
  refine (if_pos ha.1).trans ((check_accepts ha).trans ?_)
  unfold State.applyBy
  dsimp only
  rw [applied_jFind]
  rfl

theorem accepted_inv (hi : s.Inv) : (s.accepted ws tw).Inv := (Keeps.refl s).arrive.accept.jMod.supersede.inv hi

/-- A command of no class supersedes none. -/
theorem accepted_eq (hc : opClass (s.appliedEntry ws tw).opc = 0) :
    s.accepted ws tw = ((s.arrive tw).accept ws tw).jMod (nth ws 1) fun e => { e with applied := true } := if_pos hc

/-! ### The words of a command (R77, Table 4.1) -/

/-- A command of twelve arguments is journaled with all its words. -/
theorem cmdWords_args {opc inst : Nat} {h : CmdHdr} {args : List Nat} (hlen : args.length = 12) :
    ∃ c, cmdWords opc inst h args = [opc + h.ver.toNat * 4096 + inst * 65536, h.seq.toNat, h.htag.toNat, c] ++ args := by
  unfold cmdWords
  rw [hlen]
  cases h.chk with
  | none => exact ⟨_, by simp; rfl⟩
  | some c => exact ⟨c.toNat, by simp⟩

/-! ### PAGE_SET of one register (R78) -/

/-- PAGE_SET of the registers that the checks let pass. -/
theorem applyPageSet_passes {e : JEntry} (hn : bits (e.arg 0) 16 3 = 1) (hp : e.pairs = [(off, v)])
    (hreg : rwjReg e.page off = true) (hrange : rangeOk e.page off v = true) (hoff : 0x040 ≤ off)
    (hbay : 0x010 ≤ e.page ∧ e.page ≤ 0x03F → off ≠ 0x060) (hchk : s.pageCheck (s.putPair e.page off v) e.page = none) :
    State.applyPageSet e s = if bitOf (e.arg 11) 0 && pageStaged e.page then
        ((((s.putWord e.page off v).lseq e.page e).setWait e.seq (s.commitWait e.page)).commit e.page)
      else ((s.putWord e.page off v).lseq e.page e).done e.seq := by
  have hput : s.putPair e.page off v = s.putWord e.page off v := if_neg (by omega)
  have hbay' : (decide (0x010 ≤ e.page) && decide (e.page ≤ 0x03F) && (off == 0x060)) = false := by
    simp only [Bool.and_eq_false_iff, decide_eq_false_iff_not, beq_eq_false_iff_ne]
    by_cases h : 0x010 ≤ e.page ∧ e.page ≤ 0x03F
    · exact .inr (hbay h)
    · omega
  unfold State.applyPageSet
  dsimp only
  rw [hp, hn]
  rw [hput] at hchk
  simp [firstReason, hreg, hrange, hbay', hput, hchk]

theorem putWord_jnl : (s.putWord pg off v).jnl = s.jnl :=
  List.foldlRecOn (motive := fun t : State => t.jnl = s.jnl) _ _ rfl fun _ h _ _ => h

theorem commit_jnl : (s.commit pg).jnl = s.jnl := by
  unfold State.commit
  split <;> rfl

/-- A commit writes CBUSY or CPEND alone. -/
theorem commit_rd (hb : f.key ≠ (hdr Reg.pgCbusy pg).key) (hp : f.key ≠ (hdr Reg.pgCpend pg).key) : (s.commit pg).rd f = s.rd f := by
  unfold State.commit
  split
  · exact State.rd_wr_ne hp 1
  · exact State.rd_wr_ne hb 1

section

variable {e : JEntry} (hf : s.jFind seq = some e) (hs : e.status = none)
include hf hs

/-- The done point of a command that has no status yet. -/
theorem done_eq : s.done seq = (s.jMod seq fun x => { x with status := some (0, 0) }).jMod seq fun x => { x with wait := .none } := by
  unfold State.done
  rw [hf]
  exact if_pos (by rw [hs]; rfl)

theorem done_statusOf : (s.done seq).statusOf seq = some (0, 0) := by
  unfold State.statusOf
  rw [done_eq hf hs, jFind_jMod, jFind_jMod, hf]
  · rfl
  all_goals exact fun _ => rfl

theorem done_rd : (s.done seq).rd f = s.rd f := by
  rw [done_eq hf hs]
  rfl

theorem setWait_waitsFor {w : Wait} (ha : e.applied = true) : (s.setWait seq w).waitsFor seq w := by
  refine ⟨{ e with wait := w }, ?_, ha, hs, rfl⟩
  unfold State.setWait
  rw [jFind_jMod, hf]
  · rfl
  · exact fun _ => rfl

end

theorem waitsFor_of_jnl {w : Wait} (h : s.waitsFor seq w) (hj : t.jnl = s.jnl) : t.waitsFor seq w := by
  unfold State.waitsFor State.jFind at h ⊢
  rwa [hj]

section

variable {inst : Nat} {h : CmdHdr} {args : List Nat} (hlen : args.length = 12)
include hlen

/-- The journal holds a PAGE_SET whole. -/
theorem pageSet_words (s : State) (tw : Bool) :
    (s.appliedEntry (cmdWords 0x010 inst h args) tw).words = cmdWords 0x010 inst h args := by
  obtain ⟨c, hc⟩ := cmdWords_args (opc := 0x010) (inst := inst) (h := h) hlen
  have hopc : bits (nth (cmdWords 0x010 inst h args) 0) 0 12 = 0x010 := by
    rw [hc]
    simp only [nth, bits, List.cons_append, List.getD_cons_zero]
    omega
  change journalWords _ = _
  unfold journalWords
  rw [hopc]
  have hsize : (cmdWords 0x010 inst h args).length = 16 := by rw [hc]; simp [hlen]
  simp [opArgs, List.take_of_length_le, hsize]

theorem pageSet_opc (s : State) (tw : Bool) : (s.appliedEntry (cmdWords 0x010 inst h args) tw).opc = 0x010 := by
  obtain ⟨c, hc⟩ := cmdWords_args (opc := 0x010) (inst := inst) (h := h) hlen
  unfold JEntry.opc
  rw [pageSet_words hlen, hc]
  simp only [nth, bits, List.cons_append, List.getD_cons_zero]
  omega

theorem pageSet_arg (s : State) (tw : Bool) (i : Nat) : (s.appliedEntry (cmdWords 0x010 inst h args) tw).arg i = nth args i := by
  obtain ⟨c, hc⟩ := cmdWords_args (opc := 0x010) (inst := inst) (h := h) hlen
  unfold JEntry.arg
  rw [pageSet_words hlen, hc, Nat.add_comm 4 i]
  rfl

theorem pageSet_seq : nth (cmdWords 0x010 inst h args) 1 = h.seq.toNat := by
  obtain ⟨c, hc⟩ := cmdWords_args (opc := 0x010) (inst := inst) (h := h) hlen
  rw [hc]
  rfl

end

/-- What a PAGE_SET of one register leaves: its RWJ fields hold the value, PG_LSEQ the SEQ, and the command is done or waits for its
commit. -/
structure PageSetDone (s t : State) (pg off v seq : Nat) (commit : Bool) : Prop where
  fields : ∀ f ∈ fieldsAt pg off, f.acc = .rwj → t.rd f = bits v f.lo f.width
  lseq : t.rd (hdr Reg.pgLseq pg) = seq
  done : commit = false → t.statusOf seq = some (0, 0)
  waits : commit = true → pageStaged pg = true → t.waitsFor seq (s.commitWait pg)

/-- PAGE_SET, as the accepted state `u` takes it. -/
theorem applyPageSet_done {e : JEntry} (hi : u.Inv) (hf : u.jFind e.seq = some e) (ha : e.applied = true) (hs : e.status = none)
    (hseq : e.seq < 2 ^ 32) (hb : u.rdB (hdr Reg.pgCbusy e.page) = s.rdB (hdr Reg.pgCbusy e.page)) (ht : State.applyPageSet e u
      = if bitOf (e.arg 11) 0 && pageStaged e.page then
        ((((u.putWord e.page off v).lseq e.page e).setWait e.seq (u.commitWait e.page)).commit e.page)
      else ((u.putWord e.page off v).lseq e.page e).done e.seq) :
    PageSetDone s (State.applyPageSet e u) e.page off v e.seq (bitOf (e.arg 11) 0) := by
  have hsorted : (u.putWord e.page off v).regs.sorted = true := (Keeps.refl u).putWord.inv hi |>.regs
  have hwait : u.commitWait e.page = s.commitWait e.page := by
    unfold State.commitWait
    rw [hb]
  have hset : ((u.putWord e.page off v).lseq e.page e).jFind e.seq = some e := by
    unfold State.jFind at hf ⊢
    rwa [show ((u.putWord e.page off v).lseq e.page e).jnl = u.jnl from putWord_jnl]
  have hlseq : ((u.putWord e.page off v).lseq e.page e).rd (hdr Reg.pgLseq e.page) = e.seq :=
    (State.rd_wr_self hsorted _ _).trans (Nat.mod_eq_of_lt hseq)
  have hfield : ∀ f ∈ fieldsAt e.page off, f.acc = .rwj →
      ((u.putWord e.page off v).lseq e.page e).rd f = bits v f.lo f.width := fun f hf hj =>
    (State.rd_wr_ne (fieldsAt_key_ne_hdr hf (by decide)) _).trans (putWord_rd hi.regs hf hj)
  rw [ht]
  split
  case isTrue hc =>
    obtain ⟨hc, -⟩ := Bool.and_eq_true_iff.mp hc
    refine ⟨fun f hf hj => ?_, ?_, fun h => ?_, fun _ _ => ?_⟩
    · exact (commit_rd (fieldsAt_key_ne_hdr hf (by decide)) (fieldsAt_key_ne_hdr hf (by decide))).trans (hfield f hf hj)
    · exact (commit_rd (Row.at_key_ne (by decide)) (Row.at_key_ne (by decide))).trans hlseq
    · rw [hc] at h
      cases h
    · rw [← hwait]
      exact waitsFor_of_jnl (setWait_waitsFor hset hs ha) commit_jnl
  case isFalse hc =>
    refine ⟨fun f hf hj => (done_rd hset hs).trans (hfield f hf hj), (done_rd hset hs).trans hlseq, fun _ => done_statusOf hset hs,
      fun h hst => absurd ?_ hc⟩
    rw [h, hst]
    rfl

/-- The one pair of a PAGE_SET, and its page. -/
theorem pair_of_args {e : JEntry} (hpg : pg < 512) (h0 : e.arg 0 = pg + 0x10000) (h1 : e.arg 1 = off) (h2 : e.arg 2 = v) :
    e.page = pg ∧ bits (e.arg 0) 16 3 = 1 ∧ e.pairs = [(off, v)] := by
  have hn : bits (e.arg 0) 16 3 = 1 := by
    rw [h0, bits]
    omega
  refine ⟨?_, hn, ?_⟩
  · rw [JEntry.page, h0, bits]
    omega
  · rw [JEntry.pairs, hn, ← h1, ← h2]
    rfl

/-- The arguments of a PAGE_SET of one register. -/
def pageSetArgs (pg off v c : Word) : List Word := [pg + 0x10000, off, v, 0, 0, 0, 0, 0, 0, 0, 0, c]

theorem pageSetArgs_nth (pg off v c : Word) : nth ((pageSetArgs pg off v c).map (·.toNat)) 0 = (pg + 0x10000).toNat
    ∧ nth ((pageSetArgs pg off v c).map (·.toNat)) 1 = off.toNat ∧ nth ((pageSetArgs pg off v c).map (·.toNat)) 2 = v.toNat
    ∧ nth ((pageSetArgs pg off v c).map (·.toNat)) 11 = c.toNat := by
  simp only [pageSetArgs, nth, List.map_cons, List.getD_cons_zero, List.getD_cons_succ, and_self]

/-- PAGE_SET of one register that the checks let pass. -/
theorem execPageSet_one {inst : BitVec 8} {h : CmdHdr} {pg off v c : Word} (hi : s.Inv) (hpg : pg.toNat < 512)
    (ha : s.accepts (cmdWords 0x010 inst.toNat h ((pageSetArgs pg off v c).map (·.toNat))) h.twoWire h.jbad.toNat)
    (hreg : rwjReg pg.toNat off.toNat = true) (hrange : rangeOk pg.toNat off.toNat v.toNat = true) (hoff : 0x040 ≤ off.toNat)
    (hbay : 0x010 ≤ pg.toNat ∧ pg.toNat ≤ 0x03F → off.toNat ≠ 0x060)
    (hchk : (s.accepted (cmdWords 0x010 inst.toNat h ((pageSetArgs pg off v c).map (·.toNat))) h.twoWire).pageCheck
      ((s.accepted (cmdWords 0x010 inst.toNat h ((pageSetArgs pg off v c).map (·.toNat))) h.twoWire).putPair
        pg.toNat off.toNat v.toNat) pg.toNat = none) :
    ∃ t, exec (.pageSet inst h (pageSetArgs pg off v c)) s = .next t
      ∧ PageSetDone s t pg.toNat off.toNat v.toNat h.seq.toNat (bitOf c.toNat 0) := by
  have hlen : ((pageSetArgs pg off v c).map (·.toNat)).length = 12 := rfl
  generalize hws : cmdWords 0x010 inst.toNat h ((pageSetArgs pg off v c).map (·.toNat)) = ws at ha hchk
  have hopc : (s.appliedEntry ws h.twoWire).opc = 0x010 := hws ▸ pageSet_opc hlen s h.twoWire
  have hseq : (s.appliedEntry ws h.twoWire).seq = h.seq.toNat := hws ▸ pageSet_seq hlen
  have harg (i : Nat) : (s.appliedEntry ws h.twoWire).arg i = nth ((pageSetArgs pg off v c).map (·.toNat)) i :=
    hws ▸ pageSet_arg hlen s h.twoWire i
  have h0 : (pg + 0x10000).toNat = pg.toNat + 0x10000 := by
    rw [BitVec.toNat_add, show (0x10000 : Word).toNat = 0x10000 by decide]
    omega
  obtain ⟨ha0, ha1, ha2, ha11⟩ := pageSetArgs_nth pg off v c
  obtain ⟨hpage, hn, hpairs⟩ := pair_of_args hpg ((harg 0).trans (ha0.trans h0)) ((harg 1).trans ha1) ((harg 2).trans ha2)
  have hu : s.accepted ws h.twoWire = ((s.arrive h.twoWire).accept ws h.twoWire).jMod (nth ws 1) fun e => { e with applied := true } :=
    accepted_eq (by rw [hopc]; rfl)
  have hfind : (s.accepted ws h.twoWire).jFind (s.appliedEntry ws h.twoWire).seq = some (s.appliedEntry ws h.twoWire) := by
    rw [hu]
    exact applied_jFind
  have hstand : HeadersStand s (s.accepted ws h.twoWire) := by
    rw [hu]
    exact (HeadersStand.refl s).arrive.accept.same
  have hbusy := congrArg (· != 0) (hstand (hdr Reg.pgCbusy pg.toNat) (by simp only [hdr, Row.at, Fld.key, Reg.pgCbusy]; omega))
  refine ⟨State.applyPageSet (s.appliedEntry ws h.twoWire) (s.accepted ws h.twoWire), ?_, ?_⟩
  · exact congrArg Host.Outcome.next (hws ▸ command_accepts (hws ▸ ha))
  · have hp := applyPageSet_passes hn hpairs (hpage.symm ▸ hreg) (hpage.symm ▸ hrange) hoff (hpage.symm ▸ hbay) (hpage.symm ▸ hchk)
    have hd := applyPageSet_done (s := s) (accepted_inv hi) hfind rfl rfl (hseq.symm ▸ h.seq.isLt) (hpage.symm ▸ hbusy) hp
    rw [hpage, hseq, harg 11, ha11] at hd
    exact hd

/-! ### COMMIT (R58) -/

theorem barWrite_inv (hi : s.Inv) : s.barWrite.Inv := (Keeps.refl s).barWrite.inv hi

theorem barWrite_header (hk : f.key % 131072 / 32 < 0x014) : s.barWrite.rd f = s.rd f :=
  (HeadersStand.refl s).signals (barWrite_signals s) (by decide) f hk

theorem hdr_before_evt {r : Row} (hr : r.off < 0x014 ∧ r.lo < 32 ∧ r.stride = 0) : (hdr r pg).key % 131072 / 32 < 0x014 := by
  obtain ⟨hro, hrl, hrs⟩ := hr
  simp only [hdr, Row.at, Fld.key, hrs]
  omega

section

variable {pg : BitVec 9} (hup : s.lUp = true) (hl : pageListed pg.toNat = true) (hst : pageStaged pg.toNat = true)
include hup hl hst

theorem execCommit_staged : exec (.commit pg) s = .next (s.barWrite.commit pg.toNat) := by
  change execCommit pg s = _
  unfold execCommit
  rw [if_neg (by rw [hup]; decide), if_neg (by rw [hl]; decide), if_pos hst]

variable (hi : s.Inv)
include hi

/-- A commit with no other in progress. -/
theorem execCommit_free (hb : s.rdB (hdr Reg.pgCbusy pg.toNat) = false) :
    ∃ t, exec (.commit pg) s = .next t ∧ t.rd (hdr Reg.pgCbusy pg.toNat) = 1 ∧ (pg.toNat, s.us) ∈ t.snapUs
      ∧ t.snap = Store.copy stagedKey (pageLo pg.toNat) (pageHi pg.toNat) s.barWrite.regs s.snap ∧ t.act = s.act := by
  have hheard := (barWrite_signals s).1
  have hbusy : s.barWrite.rdB (hdr Reg.pgCbusy pg.toNat) = false :=
    (congrArg (· != 0) (barWrite_header (hdr_before_evt (by decide)))).trans hb
  have hc : s.barWrite.commit pg.toNat = (s.barWrite.takeSnap pg.toNat).wr (hdr Reg.pgCbusy pg.toNat) 1 :=
    if_neg (by rw [hbusy]; decide)
  refine ⟨_, execCommit_staged hup hl hst, ?_⟩
  rw [hc]
  refine ⟨State.rd_wr_self (s := s.barWrite.takeSnap pg.toNat) (barWrite_inv hi).regs _ 1, ?_, ?_, ?_⟩
  · exact List.mem_append_right _ (by rw [hheard]; exact List.mem_singleton_self _)
  · exact congrArg (Store.copy stagedKey _ _ s.barWrite.regs) (by rw [hheard])
  · rw [hheard]
    rfl

/-- A commit behind one in progress. -/
theorem execCommit_busy (hb : s.rdB (hdr Reg.pgCbusy pg.toNat) = true) :
    ∃ t, exec (.commit pg) s = .next t ∧ t.rd (hdr Reg.pgCpend pg.toNat) = 1 ∧ t.snap = s.snap ∧ t.act = s.act := by
  have hheard := (barWrite_signals s).1
  have hbusy : s.barWrite.rdB (hdr Reg.pgCbusy pg.toNat) = true :=
    (congrArg (· != 0) (barWrite_header (hdr_before_evt (by decide)))).trans hb
  have hc : s.barWrite.commit pg.toNat = s.barWrite.wr (hdr Reg.pgCpend pg.toNat) 1 := if_pos hbusy
  refine ⟨_, execCommit_staged hup hl hst, ?_⟩
  rw [hc]
  refine ⟨State.rd_wr_self (barWrite_inv hi).regs _ 1, ?_, ?_⟩
  · rw [hheard]
    rfl
  · rw [hheard]
    rfl

end

/-! ### Apply points (R58, R116) -/

theorem commitDone_act : (s.commitDone pg).act = s.act := congrArg Prod.fst commitDone_apart

/-- With no commit waiting, the page is free after its apply point. -/
theorem commitDone_cbusy (hi : s.Inv) (hp : s.rdB (hdr Reg.pgCpend pg) = false) (hq : quietKey (hdr Reg.pgCbusy pg).key) :
    (s.commitDone pg).rd (hdr Reg.pgCbusy pg) = 0 := by
  have hc : s.commitDone pg = (s.wr (hdr Reg.pgCbusy pg) 0).doneWait (.commit pg) := if_neg (by rw [hp]; decide)
  have hd := (Spares.refl (ks := [hdr Reg.pgCbusy pg]) (s.wr (hdr Reg.pgCbusy pg) 0)).doneEntries (by simpa using hq)
    (p := fun e => e.wait == .commit pg) (code := 0) (reason := 0) _ (List.mem_singleton_self _)
  rw [hc]
  exact hd.trans (State.rd_wr_self hi.regs _ 0)

theorem hdr_quiet {r : Row} (hr : r.off < 0x014 ∧ r.lo < 32 ∧ r.stride = 0) (hp : pg ≠ 0x0F8 ∧ pg ≠ 0x00A ∧ pg ≠ 0x002) :
    quietKey (hdr r pg).key := by
  obtain ⟨hro, hrl, hrs⟩ := hr
  simp only [quietKey, hdr, fabF, Row.at, Fld.key, hrs, Reg.fabRacelateCnt]
  omega

/-- The status of a bay lies behind its page header. -/
theorem HeadersStand.wrBay {r : Row} {n : Nat} (h : HeadersStand old s) (hr : 0x014 ≤ r.off ∧ r.off < 4096 ∧ r.lo < 32) :
    HeadersStand old (s.wr (bayF r n) v) := h.wr (by
  obtain ⟨hlo, hhi, hrl⟩ := hr
  simp only [bayF, Row.at, Fld.key]
  omega)

theorem HeadersStand.setBay {n st : Nat} (h : HeadersStand old s) : HeadersStand old (s.setBay n st) := by
  unfold State.setBay
  extract_lets s' t u
  have hs' : HeadersStand old s' := .ite h.same h
  have ht : HeadersStand old t :=
    .wrBay (.wrBay (.wrBay (.wrBay hs' (by decide)) (by decide)) (by decide)) (by decide)
  have hu : HeadersStand old u := .ite ht (ht.wrBay (by decide))
  exact .ite hu (hu.wrBay (by decide))

theorem setBay_act {n st : Nat} : (s.setBay n st).act = s.act := by
  have hslow : (if s.bayState n = 4 ∨ st = 4 then s.slowCount n else s).act = s.act := by
    split <;> rfl
  unfold State.setBay
  dsimp only
  split <;> split <;> simp only [State.wr_act, State.wrB_act, hslow]

/-- The state in which the settings of a bay's page are in effect, before the page is free again. -/
def State.bayPart (s : State) (n : Nat) : State :=
  ((s.applyPart (pageLo (0x010 + n)) (pageHi (0x010 + n))).bayRetryLeft n).bayLimitNow n

theorem HeadersStand.bayPart {n : Nat} (h : HeadersStand old s) : HeadersStand old (s.bayPart n) := by
  have hr : HeadersStand old ((s.applyPart (pageLo (0x010 + n)) (pageHi (0x010 + n))).bayRetryLeft n) :=
    (h.same (t := s.applyPart _ _)).wrBay (by decide)
  exact .ite hr.setBay hr

theorem bayPart_act {n : Nat} : (s.bayPart n).act = Store.copy stagedKey (pageLo (0x010 + n)) (pageHi (0x010 + n)) s.snap s.act := by
  unfold State.bayPart State.bayLimitNow
  split
  · exact setBay_act
  · rfl

section

variable {pg : BitVec 9} {part : BitVec 3} (hi : s.Inv) (hup : s.lUp = true) (hb : s.rdB (hdr Reg.pgCbusy pg.toNat) = true)
  (haged : s.snapAged pg.toNat (applyDelay pg.toNat) = true) (hp : s.rdB (hdr Reg.pgCpend pg.toNat) = false)

include hup hb haged in
/-- The apply point of a page has come. -/
theorem execSnapshotApply_due : exec (.snapshotApply pg part) s = .next (s.snapApply pg.toNat part.toNat) :=
  congrArg Host.Outcome.next (if_pos (by rw [hup, hb, haged]; rfl))

include hi hup hb haged hp

/-- The HLD page outside an episode (R235). -/
theorem execSnapshotApply_hld (hpg : pg.toNat = 0x066) (hst : s.hldSt = 0) :
    ∃ t, exec (.snapshotApply pg part) s = .next t ∧ t.rd (hdr Reg.pgCbusy 0x066) = 0
      ∧ t.act = Store.copy stagedKey (pageLo 0x066) (pageHi 0x066) s.snap s.act := by
  have happly : s.snapApply pg.toNat part.toNat = s.applyPlain 0x066 := by
    unfold State.snapApply
    rw [hpg, if_neg (by decide), if_neg (by decide), if_neg (by decide), if_pos rfl, if_pos hst]
  rw [hpg] at hp
  exact ⟨_, (execSnapshotApply_due hup hb haged).trans (congrArg _ happly),
    commitDone_cbusy ((Keeps.refl s).applyPart.inv hi) hp (by decide), commitDone_act⟩

/-- A bay's page (R116). -/
theorem execSnapshotApply_bay (hpg : 0x010 ≤ pg.toNat ∧ pg.toNat ≤ 0x03F) :
    ∃ u, exec (.snapshotApply pg part) s = .next (s.follow u) ∧ u.rd (hdr Reg.pgCbusy pg.toNat) = 0
      ∧ u.act = Store.copy stagedKey (pageLo pg.toNat) (pageHi pg.toNat) s.snap s.act := by
  obtain ⟨n, hn⟩ : ∃ n, pg.toNat = 0x010 + n := ⟨pg.toNat - 0x010, by omega⟩
  have happly : s.snapApply pg.toNat part.toNat = s.follow (s.applyBayPage n) := by
    unfold State.snapApply
    rw [if_pos hpg, hn, Nat.add_sub_cancel_left]
  have hpend : (s.bayPart n).rdB (hdr Reg.pgCpend (0x010 + n)) = false :=
    (congrArg (· != 0) ((HeadersStand.refl s).bayPart _ (hdr_before_evt (by decide)))).trans (hn ▸ hp)
  refine ⟨s.applyBayPage n, (execSnapshotApply_due hup hb haged).trans (congrArg _ happly), ?_, ?_⟩
  · rw [hn]
    exact commitDone_cbusy ((Keeps.refl s).applyPart.bayRetryLeft.bayLimitNow.inv hi) hpend (hdr_quiet (by decide) (by omega))
  · rw [hn]
    exact commitDone_act.trans bayPart_act

end

/-- Settles O26: one register of a PAGE_SET, a commit, and the apply points of the HLD page and of a bay's page. -/
theorem stagedSettings : Obligations.StagedSettings := by
  unfold Obligations.StagedSettings
  refine ⟨fun s inst h pg off v c hi => ?_, fun s pg hi hup => ⟨fun hl hst => ⟨fun hb => ?_, fun hb => ?_⟩,
    fun hb haged hp => ⟨fun hpg hst part => ?_, fun hpg part => ?_⟩⟩⟩
  · intro args ws u hpg ha hreg hrange hoff hbay hchk
    obtain ⟨t, ht, hd⟩ := execPageSet_one hi hpg ha hreg hrange hoff hbay hchk
    exact ⟨t, ht, hd.fields, hd.lseq, hd.done, hd.waits⟩
  · exact execCommit_free hup hl hst hi hb
  · exact execCommit_busy hup hl hst hi hb
  · exact execSnapshotApply_hld hi hup hb haged hp hpg hst
  · exact execSnapshotApply_bay hi hup hb haged hp hpg

end

end Sys2Proof.Machine

/-!
PROOFS. Steps that report no rejected write: JREJ of no page below a bound rises, and the detail of EV2 stands (R52, R67).
-/

namespace Sys2Proof.Machine

section

variable {old s t : State} {f : Fld} {b n v : Nat}

/-! ### Marks of rejected writes -/

/-- Between `old` and `s` no rejected write was reported on a page below `b`. -/
structure Unmarked (b : Nat) (old s : State) : Prop where
  sorted : old.regs.sorted = true → s.regs.sorted = true
  detail : s.jrejDetail = old.jrejDetail
  evt : old.regs.sorted = true → ∀ pg < b, s.evtSet pg 31 = true → old.evtSet pg 31 = true

/-- A write of the field reaches PG_EVT of no page below `b`. -/
def clearOfEvt (b : Nat) (f : Fld) : Prop := b * 131072 ≤ f.key ∨ ¬ evtKey f.key

theorem Unmarked.refl (s : State) : Unmarked b s s := ⟨id, rfl, fun _ _ _ => id⟩

theorem Unmarked.trans (h : Unmarked b old s) (k : Unmarked b s t) : Unmarked b old t :=
  ⟨k.sorted ∘ h.sorted, k.detail.trans h.detail, fun ho pg hp ht => h.evt ho pg hp (k.evt (h.sorted ho) pg hp ht)⟩

theorem Unmarked.ite {c : Prop} {_ : Decidable c} (hs : Unmarked b old s) (ht : Unmarked b old t) :
    Unmarked b old (if c then s else t) := by
  split
  · exact hs
  · exact ht

theorem Unmarked.foldl {α : Type} {g : State → α → State} {l : List α} (h : Unmarked b old s)
    (hg : ∀ t x, Unmarked b old t → Unmarked b old (g t x)) : Unmarked b old (l.foldl g s) :=
  List.foldlRecOn l g h fun t ht x _ => hg t x ht

/-- A change of anything but the registers and the detail of EV2. -/
theorem Unmarked.same (h : Unmarked b old s) (e : (t.regs, t.jrejDetail) = (s.regs, s.jrejDetail) := by with_reducible rfl) :
    Unmarked b old t := by
  obtain ⟨hregs, hdetail⟩ := Prod.mk.inj e
  refine ⟨fun ho => hregs ▸ h.sorted ho, hdetail.trans h.detail, fun ho pg hp ht => h.evt ho pg hp ?_⟩
  rwa [State.evtSet, rd_of_regs hregs] at ht

/-- A change of registers that sets no JREJ. -/
theorem Unmarked.regs (h : Unmarked b old s) (hs : s.regs.sorted = true → t.regs.sorted = true) (hd : t.jrejDetail = s.jrejDetail)
    (he : s.regs.sorted = true → ∀ pg < b, t.evtSet pg 31 = true → s.evtSet pg 31 = true) : Unmarked b old t :=
  h.trans ⟨hs, hd, he⟩

theorem key_ne_of_clearOfEvt {pg : Nat} (hf : clearOfEvt b f) (hp : pg < b) : (hdr Reg.pgEvt pg).key ≠ f.key := fun e => by
  rcases hf with hf | hf
  · rw [← e] at hf
    simp only [hdr, Row.at, Fld.key, Reg.pgEvt] at hf
    omega
  · exact hf (e ▸ evtKey_pgEvt pg)

theorem flF_key (r : Row) (n : Nat) : (flF r n).key = (r.at 0x096 n).key := by
  unfold flF
  split <;> rfl

theorem memF_key (r : Row) (m : Nat) : (memF r m).key = (r.at (0x0D0 + m / 5) (m % 5)).key := by
  unfold memF
  split <;> rfl

/-- A write of a field. Most fields show by their page and offset that they are none of PG_EVT. -/
theorem Unmarked.wr (h : Unmarked b old s) (hf : clearOfEvt b f := by
    simp only [clearOfEvt, flF_key, memF_key]
    simp only [evtKey, Fld.key, Row.at, coefF, hdr, bayF, loopF, batF, tieF, twcF, polF, phF, pwrF, pwrFk, batFk, tieFk, twcFk,
      polFk, trdF, srvF, landF, glbF, tmbF, fabF, evt0F, evt1F, evt3F, cmd0F, cmd1F, cmd2F, cmd3F, cmdfF, abc0F, abc1F, abc2F,
      abc3F, bal0F, bal1F, hldF, seq0F, seq1F, seq7F, idxF, twtF, thmF, memtF, cap0F, cap1F, cap2F, cap3F, str0F, flt0F, flt1F,
      flt2F, gal0F, gal1F, lanF, bistF, pol0F, nvcF, pexF, kaiF, Reg.pgEnable, Reg.pgCbusy, Reg.pgCpend, Reg.pgLseq]
    omega) : Unmarked b old (s.wr f v) :=
  h.regs (fun hs => State.wr_sorted hs f v) rfl fun _ pg hp ht => by
    rwa [State.evtSet, State.rd_wr_ne (key_ne_of_clearOfEvt hf hp)] at ht

theorem Unmarked.wrAt {r : Row} {pg i : Nat} (h : Unmarked b old s) (hr : r.fits i ∧ r.off + r.stride * i ≠ 0x014 := by decide) :
    Unmarked b old (s.wr (r.at pg i) v) := h.wr (.inr (by
  obtain ⟨⟨hoff, hlo⟩, hevt⟩ := hr
  simp only [evtKey, Row.at, Fld.key]
  omega))

/-- Another bit of PG_EVT than JREJ rises. -/
theorem Unmarked.wrEvt {p c : Nat} (h : Unmarked b old s) (hc : c < 31) : Unmarked b old (s.wrBit (hdr Reg.pgEvt p) c true) := by
  refine h.regs (fun hs => State.wr_sorted hs _ _) rfl fun hs pg _ ht => ?_
  by_cases hp : pg = p
  · subst hp
    rw [State.evtSet, State.wrBit, State.rd_wr_self hs] at ht
    rw [State.evtSet, ← bitOf_setBit_ne (c := 31) (b := c) (by omega)]
    exact (bitOf_mod (show 31 < 32 by decide)).symm.trans ht
  · rwa [State.evtSet, State.wrBit, State.rd_wr_ne (hdr_key_ne hp (by decide) (by decide))] at ht

/-! ### Events, tokens and records (R17, R66 to R70, R459) -/

theorem Unmarked.pend {us : Nat} (h : Unmarked b old s) : Unmarked b old (s.pend n us) := by
  refine h.same (Prod.ext (pend_regs s n us) ?_)
  unfold State.pend State.due State.queueEv
  dsimp only
  split_ifs <;> rfl

theorem Unmarked.setEvt {p c us : Nat} (h : Unmarked b old s) (hc : c < 31) : Unmarked b old (s.setEvt p c n us) :=
  .ite (h.wrEvt hc).pend (h.wrEvt hc)

theorem Unmarked.refused {len : Bool} (h : Unmarked b old s) : Unmarked b old (s.refused len) := by
  have hkey (f : Fld) (hf : f ∈ signalFields) : clearOfEvt b f := .inr (by revert f; unfold evtKey; decide)
  exact .ite ((h.wr (hkey _ (List.mem_cons_self))).same rfl) ((h.wr (hkey _ (List.mem_cons_of_mem _ List.mem_cons_self))).same rfl)

theorem Unmarked.refuse {len : Bool} (h : Unmarked b old s) : Unmarked b old (s.refuse len) :=
  .ite (h.refused.setEvt (by decide)).refused (h.refused.setEvt (by decide))

theorem Unmarked.offer {o : Offer} (h : Unmarked b old s) : Unmarked b old (s.offer o) :=
  .ite h (.ite h.refuse (.ite h.same h.refuse))

theorem Unmarked.islPush {k : Tok} (h : Unmarked b old s) : Unmarked b old (s.islPush k) := .ite h.same h.same

theorem Unmarked.raiseBit {p c : Nat} (h : Unmarked b old s) (hc : c < 31) : Unmarked b old (s.raiseBit p c n) :=
  .ite (.ite (h.setEvt hc).offer (h.setEvt hc)) (.ite h.islPush h)

theorem lt_of_mem_ite {c : Prop} {_ : Decidable c} {x : Nat × Nat} {o : Option (Nat × Nat)} {m : Nat} (hx : c → x.2 < m)
    (ho : ∀ y ∈ o, y.2 < m) : ∀ y ∈ (if c then some x else o), y.2 < m := by
  split
  case isTrue hc =>
    rintro y ⟨⟩
    exact hx hc
  case isFalse => exact ho

/-- No event source sets bit 30 or 31 of PG_EVT (R52, R55). -/
theorem evBit_lt : ∀ y ∈ evBit n, y.2 < 31 := by
  unfold evBit
  iterate 39 refine lt_of_mem_ite (fun _ => by dsimp only; omega) ?_
  exact fun y h => absurd h (Option.not_mem_none y)

theorem Unmarked.raise (h : Unmarked b old s) : Unmarked b old (s.raise n) := by
  unfold State.raise
  split
  case h_1 he => exact h.raiseBit (evBit_lt _ he)
  case h_2 => exact h

theorem Unmarked.token {src kind detail : Nat} (h : Unmarked b old s) : Unmarked b old (s.token src kind detail) :=
  .ite h.same (.ite h.islPush h)

theorem Unmarked.tokenEv {src kind detail : Nat} (h : Unmarked b old s) : Unmarked b old (s.tokenEv src kind detail) :=
  .ite h.raise.token h.token

theorem Unmarked.late {src detail : Nat} (h : Unmarked b old s) : Unmarked b old (s.late src detail) := by
  have hw : Unmarked b old (s.incWrap (fabF Reg.fabRacelateCnt 0)) := h.wr (.inr (by unfold evtKey; decide))
  exact hw.token

theorem Unmarked.lockrej {p off : Nat} (h : Unmarked b old s) : Unmarked b old (s.lockrej p off) :=
  (h.raiseBit (p := p) (c := 30) (n := 3) (by decide)).same rfl

/-! ### Registers that return to their reset values, or are loaded -/

theorem get_filter_cases {p : Nat × Nat → Bool} {m : Store} {k d : Nat} (hm : m.sorted = true) :
    Store.get (m.filter p) k d = m.get k d ∨ Store.get (m.filter p) k d = d := by
  induction m with
  | nil => exact .inl rfl
  | cons q m ih =>
    obtain ⟨a, x⟩ := q
    obtain ⟨habove, hm⟩ := Store.sorted_cons.mp hm
    rw [List.filter_cons]
    split
    · by_cases ha : a = k
      · exact .inl (by rw [Store.get, Store.get, if_pos ha, if_pos ha])
      · rw [Store.get, Store.get, if_neg ha, if_neg ha]
        exact ih hm
    · by_cases ha : a = k
      · exact .inr (Store.get_above fun q hq => ha ▸ habove q (List.mem_of_mem_filter hq))
      · rw [show Store.get ((a, x) :: m) k d = Store.get m k d from if_neg ha]
        exact ih hm

theorem Unmarked.filter {p : Nat × Nat → Bool} (h : Unmarked b old s) (hr : t.regs = s.regs.filter p)
    (hd : t.jrejDetail = s.jrejDetail) : Unmarked b old t := by
  refine h.regs (fun hs => hr ▸ Store.sorted_filter hs) hd fun hs pg _ ht => ?_
  rw [State.evtSet, State.rd, hr] at ht
  rcases get_filter_cases (p := p) (k := (hdr Reg.pgEvt pg).key) (d := (hdr Reg.pgEvt pg).reset) hs with e | e
  · rwa [e] at ht
  · rw [e] at ht
    exact absurd ht (by simp [hdr, Row.at, Reg.pgEvt, bitOf])

theorem get_default_cases (m : Store) (k d e : Nat) : m.get k d = m.get k e ∨ (m.get k d = d ∧ m.get k e = e) := by
  induction m with
  | nil => exact .inr ⟨rfl, rfl⟩
  | cons q m ih =>
    obtain ⟨a, x⟩ := q
    unfold Store.get
    split
    · exact .inl rfl
    · exact ih

/-- A write of 0 sets no event, wherever it lands. -/
theorem Unmarked.wrZero (h : Unmarked b old s) : Unmarked b old (s.wr f 0) := by
  refine h.regs (fun hs => State.wr_sorted hs f 0) rfl fun hs pg _ ht => ?_
  by_cases hk : (hdr Reg.pgEvt pg).key = f.key
  · have hself := Store.get_put_self (k := f.key) (d := f.reset) (v := 0 % 2 ^ f.width) hs
    rw [State.evtSet, State.rd, hk] at ht
    have hzero : (s.wr f 0).regs.get f.key (hdr Reg.pgEvt pg).reset = 0 := by
      rcases get_default_cases (s.wr f 0).regs f.key (hdr Reg.pgEvt pg).reset f.reset with e | ⟨e, -⟩
      · exact e.trans (hself.trans (Nat.zero_mod _))
      · exact e
    rw [hzero] at ht
    exact absurd ht (by simp [bitOf])
  · rwa [State.evtSet, State.rd_wr_ne hk] at ht

theorem get_ins_ne {m : Store} {j k d x : Nat} (hj : j ≠ k) : (m.ins k x).get j d = m.get j d := by
  have hk : ¬ k = j := fun e => hj e.symm
  induction m with
  | nil => exact if_neg hk
  | cons q m ih =>
    obtain ⟨a, y⟩ := q
    unfold Store.ins
    split_ifs with hlt he
    · exact if_neg hk
    · subst he
      simp only [Store.get, hk, if_false]
    · simp only [Store.get, ih]

theorem get_foldr_ins {r m : Store} {j c d : Nat} (hj : j < c) :
    Store.get (r.foldr (fun p m => Store.ins (p.1 + c) p.2 m) m) j d = m.get j d := by
  induction r with
  | nil => rfl
  | cons p r ih => exact (get_ins_ne (by omega)).trans ih

/-- The fields of a register lie behind the page header. -/
theorem clearOfEvt_fieldsAt {pg off : Nat} (hf : f ∈ fieldsAt pg off) : clearOfEvt b f := by
  obtain ⟨hpage, hoff, hblock, -, hbits⟩ := fieldsAt_place hf
  have hwidth := (fieldsAt_place hf).2.2.2.1
  simp only [clearOfEvt, evtKey, Fld.key]
  omega

theorem Unmarked.putWord {pg off : Nat} (h : Unmarked b old s) : Unmarked b old (s.putWord pg off v) :=
  List.foldlRecOn _ _ h fun _ ht _ hf => ht.wr (clearOfEvt_fieldsAt (List.mem_filter.mp hf).1)

end

end Sys2Proof.Machine

/-!
PROOFS. No command of the journal reports a rejected write of a page below 0x009, so none that the ring brings does.
-/

namespace Sys2Proof.Machine

section

set_option Elab.async false

variable {s₀ s t : State}

theorem Unmarked.wrA {f : Fld} {v : Nat} (hs : Unmarked 9 s₀ s) : Unmarked 9 s₀ (s.wrA f v) := hs.same rfl

theorem Unmarked.emit {o : Out} (hs : Unmarked 9 s₀ s) : Unmarked 9 s₀ (s.emit o) := hs.same rfl

theorem Unmarked.record {b : Nat} {typ src : Nat} {payload : List Nat} (hs : Unmarked b s₀ s) :
    Unmarked b s₀ (s.record typ src payload) := hs.offer

theorem Unmarked.injected (hs : Unmarked 9 s₀ s) : Unmarked 9 s₀ s.injected :=
  .raise (.wr (hs.same (t := { s with flt := { s.flt with injUs := some s.us } })))

theorem Unmarked.nvcIdle (hs : Unmarked 9 s₀ s) : Unmarked 9 s₀ s.nvcIdle := hs.wr.wr.wr

theorem Unmarked.takeSnap {pg : Nat} (hs : Unmarked 9 s₀ s) : Unmarked 9 s₀ (s.takeSnap pg) := hs.same rfl

theorem Unmarked.commit {pg : Nat} (hs : Unmarked 9 s₀ s) : Unmarked 9 s₀ (s.commit pg) := .ite hs.wr hs.takeSnap.wr

theorem Unmarked.applyPart {lo hi : Nat} (hs : Unmarked 9 s₀ s) : Unmarked 9 s₀ (s.applyPart lo hi) := hs.same rfl

theorem Unmarked.ringFollow (hs : Unmarked 9 s₀ s) : Unmarked 9 s₀ s.ringFollow := .ite (.ite hs hs.raise.same) hs.same

theorem Unmarked.writeRing {words : List Nat} (hs : Unmarked 9 s₀ s) : Unmarked 9 s₀ (s.writeRing words) :=
  .ringFollow (.ite hs.emit.wrAt.wrAt hs.emit.wrAt)

theorem Unmarked.writeTw {words : List Nat} (hs : Unmarked 9 s₀ s) : Unmarked 9 s₀ (s.writeTw words) := .ite hs.same hs.same

theorem Unmarked.report {twoWire : Bool} {w0 seq htag : Nat} (hs : Unmarked 9 s₀ s) :
    Unmarked 9 s₀ (s.report twoWire w0 seq htag) :=
  .ite hs.writeTw (.ite hs.writeTw (.ite hs.writeRing hs.same))

theorem Unmarked.jMod {seq : Nat} {f : JEntry → JEntry} (hs : Unmarked 9 s₀ s) : Unmarked 9 s₀ (s.jMod seq f) := hs.same rfl

theorem Unmarked.setStatus {seq code reason : Nat} (hs : Unmarked 9 s₀ s) : Unmarked 9 s₀ (s.setStatus seq code reason) :=
  .ite hs.jMod.wr (.ite hs.jMod.wr.raise hs.jMod)

theorem Unmarked.done {seq code reason : Nat} (hs : Unmarked 9 s₀ s) : Unmarked 9 s₀ (s.done seq code reason) := by
  unfold State.done
  split
  · exact .ite hs.setStatus.jMod hs
  · exact hs

theorem Unmarked.doneOne {code reason : Nat} {e : JEntry} (hs : Unmarked 9 s₀ s) : Unmarked 9 s₀ (s.doneOne code reason e) :=
  .ite hs.jMod.setStatus hs.jMod.late

theorem Unmarked.doneEntries {p : JEntry → Bool} {code reason : Nat} (hs : Unmarked 9 s₀ s) :
    Unmarked 9 s₀ (s.doneEntries p code reason) :=
  .foldl hs fun _ _ ih => ih.doneOne

theorem Unmarked.supersede {e : JEntry} (hs : Unmarked 9 s₀ s) : Unmarked 9 s₀ (s.supersede e) :=
  .ite hs (.foldl hs fun _ _ ih => .jMod (.ite ih.setStatus ih))

theorem Unmarked.commitDone {pg : Nat} (hs : Unmarked 9 s₀ s) : Unmarked 9 s₀ (s.commitDone pg) := by
  unfold State.commitDone
  extract_lets t u
  have ht : Unmarked 9 s₀ t := hs.wr.doneEntries
  have hu : Unmarked 9 s₀ u := ht.wr.takeSnap.wr
  exact .ite hu.same ht

theorem Unmarked.reject {ws : List Nat} {twoWire : Bool} {code : Nat} (hs : Unmarked 9 s₀ s) :
    Unmarked 9 s₀ (s.reject ws twoWire code) := by
  unfold State.reject
  extract_lets t
  have ht : Unmarked 9 s₀ t := hs.report.wr.raise
  exact .ite ht.raise ht

theorem Unmarked.twFree (hs : Unmarked 9 s₀ s) : Unmarked 9 s₀ s.twFree := .ite hs.wr hs

theorem Unmarked.macroFail {m : Nat} (hs : Unmarked 9 s₀ s) : Unmarked 9 s₀ (s.macroFail m) := by
  unfold State.macroFail
  extract_lets +onlyGivenNames t u
  have ht : Unmarked 9 s₀ t := hs.same.tokenEv
  have hu : Unmarked 9 s₀ u := .ite ht.wr (.ite ht.wr ht)
  refine .ite hu ?_
  refine .ite ?_ hu.wr
  extract_lets +onlyGivenNames spilled w v
  have hv : Unmarked 9 s₀ v := .raise (.wr (.wr (.ite hu.wr hu)))
  split
  · exact .ite hv.reject.same.twFree hv.reject.same
  · exact hv

theorem Unmarked.macroInject (hs : Unmarked 9 s₀ s) : Unmarked 9 s₀ s.macroInject := .ite hs.same.injected hs

theorem Unmarked.dupRead {ws : List Nat} {bad : Nat} (hs : Unmarked 9 s₀ s) : Unmarked 9 s₀ (s.dupRead ws bad) :=
  .ite (.foldl hs fun _ _ ih => ih.macroFail) hs

theorem Unmarked.duplicate {ws : List Nat} {twoWire : Bool} (hs : Unmarked 9 s₀ s) : Unmarked 9 s₀ (s.duplicate ws twoWire) := by
  unfold State.duplicate
  exact hs.report.wr.raise

theorem Unmarked.accept {ws : List Nat} {twoWire : Bool} (hs : Unmarked 9 s₀ s) : Unmarked 9 s₀ (s.accept ws twoWire) :=
  .ite hs.same.wr.wr.report.raise hs.same.wr.wr.report

theorem Unmarked.applyBy {ap : JEntry → State → State} {seq : Nat} (hs : Unmarked 9 s₀ s)
    (hap : ∀ e t, Unmarked 9 s₀ t → Unmarked 9 s₀ (ap e t)) : Unmarked 9 s₀ (State.applyBy ap seq s) := by
  unfold State.applyBy
  extract_lets t
  have ht : Unmarked 9 s₀ t := hs.jMod
  split
  · exact hap _ _ ht.supersede
  · exact ht

theorem Unmarked.check {ap : JEntry → State → State} {ws : List Nat} {twoWire : Bool} {bad : Nat} (hs : Unmarked 9 s₀ s)
    (hap : ∀ e t, Unmarked 9 s₀ t → Unmarked 9 s₀ (ap e t)) : Unmarked 9 s₀ (State.check ap ws twoWire bad s) := by
  unfold State.check
  extract_lets seq d
  refine .ite hs (.ite hs.reject (.ite hs.reject (.ite hs.dupRead.duplicate
      (.ite hs.reject (.ite hs.reject (.ite hs.reject (.ite hs.reject ?_)))))))
  split
  · exact hs.accept.applyBy hap
  · extract_lets t
    have ht : Unmarked 9 s₀ t := .foldl hs.macroInject fun _ _ ih => ih.macroFail
    exact .ite ht.reject ht.same

theorem Unmarked.capMod {b : Nat} {f : CapS → CapS} (hs : Unmarked b s₀ s) : Unmarked b s₀ (s.capMod f) := hs.same rfl

theorem Unmarked.trigRecord {b : Nat} {src win t : Nat} (hs : Unmarked b s₀ s) : Unmarked b s₀ (s.trigRecord src win t) := hs.record

theorem Unmarked.trigMissed {b src t : Nat} (hs : Unmarked b s₀ s) : Unmarked b s₀ (s.trigMissed src t) :=
  hs.wrAt.raise.trigRecord

theorem Unmarked.capTrigger {b src t : Nat} (hs : Unmarked b s₀ s) (hb : b ≤ 0x0E1 := by decide) :
    Unmarked b s₀ (s.capTrigger src t) := by
  unfold State.capTrigger
  refine .ite hs ?_
  extract_lets +onlyGivenNames a
  have ha : Unmarked b s₀ a := hs.wrAt.raise.capMod
  refine .ite ha.wrAt.wr.trigRecord ?_
  split
  · exact ha.wr.wr.wr.wr.wr.wr.wr.wr.capMod.trigRecord
  · exact ha.trigMissed

theorem Unmarked.loopMod {n : Nat} {f : LoopS → LoopS} (hs : Unmarked 9 s₀ s) : Unmarked 9 s₀ (s.loopMod n f) := hs.same rfl

theorem Unmarked.phMod {j : Nat} {f : PhS → PhS} (hs : Unmarked 9 s₀ s) : Unmarked 9 s₀ (s.phMod j f) := hs.same rfl

theorem Unmarked.movePh {j st : Nat} (hs : Unmarked 9 s₀ s) : Unmarked 9 s₀ (s.movePh j st) := hs.wr.phMod

theorem Unmarked.setPh {j st : Nat} (hs : Unmarked 9 s₀ s) : Unmarked 9 s₀ (s.setPh j st) :=
  .ite hs.movePh (.ite hs.movePh.raise hs.movePh)

theorem Unmarked.setPgood {n : Nat} {x : Bool} (hs : Unmarked 9 s₀ s) : Unmarked 9 s₀ (s.setPgood n x) := .ite hs hs.wr.raise

theorem Unmarked.idlePhases {n : Nat} (hs : Unmarked 9 s₀ s) : Unmarked 9 s₀ (s.idlePhases n) :=
  .foldl hs fun _ _ ih => .ite ih.phMod.setPh ih

theorem Unmarked.loopTri {n st : Nat} (hs : Unmarked 9 s₀ s) : Unmarked 9 s₀ (s.loopTri n st) := by
  unfold State.loopTri
  extract_lets t u
  have hu : Unmarked 9 s₀ u := hs.idlePhases.setPgood.wr.wr.wr.wr.wr.wr.wr.loopMod
  exact .ite hu.raise hu

theorem Unmarked.loopFault {n kind : Nat} (hs : Unmarked 9 s₀ s) : Unmarked 9 s₀ (s.loopFault n kind) := by
  unfold State.loopFault
  refine .ite hs ?_
  extract_lets det a b low stopping c d e
  have ha : Unmarked 9 s₀ a := hs.wr.wr
  have hb : Unmarked 9 s₀ b := .ite ha.wr (.ite ha.wr ha)
  have hd : Unmarked 9 s₀ d := .ite hb.loopTri.loopMod.raise hb.loopTri.loopMod.tokenEv
  exact .ite hd.doneEntries.doneEntries hd.doneEntries

theorem Unmarked.nophase {n : Nat} (hs : Unmarked 9 s₀ s) : Unmarked 9 s₀ (s.nophase n) := .ite hs.loopFault hs

theorem Unmarked.loopBegin {n : Nat} (hs : Unmarked 9 s₀ s) : Unmarked 9 s₀ (s.loopBegin n) :=
  .nophase (.wrAt (.wrAt (.wrZero (.foldl hs.loopMod.wrAt fun _ _ ih => .ite ih.setPh ih))))

theorem Unmarked.loopStart {n : Nat} {delay : Bool} (hs : Unmarked 9 s₀ s) : Unmarked 9 s₀ (s.loopStart n delay) :=
  .ite hs.loopMod (.ite hs.loopMod.wr hs.loopBegin)

theorem Unmarked.loopRetarget {n up dn : Nat} {target : Int} (hs : Unmarked 9 s₀ s) :
    Unmarked 9 s₀ (s.loopRetarget n target up dn) :=
  .ite hs.loopMod.wr (.wr (.ite hs.loopMod hs.loopMod.setPgood))

theorem Unmarked.loopOffEnd {n : Nat} (hs : Unmarked 9 s₀ s) : Unmarked 9 s₀ (s.loopOffEnd n) :=
  .ite (.ite hs.loopTri.doneEntries hs.loopTri) (.ite hs.loopTri.doneEntries hs.setPgood.wr)

theorem Unmarked.loopStop {n dn : Nat} {delay coast : Bool} (hs : Unmarked 9 s₀ s) :
    Unmarked 9 s₀ (s.loopStop n delay coast dn) := by
  unfold State.loopStop
  extract_lets +onlyGivenNames st a
  refine .ite (.ite hs.loopMod.wr hs.loopMod.loopOffEnd) ?_
  refine .ite (.ite hs.loopMod.loopOffEnd hs.loopMod) ?_
  extract_lets low b
  have hb : Unmarked 9 s₀ b := .ite hs.loopMod.wr.raise hs.loopMod
  exact .ite hb.doneEntries hb

theorem Unmarked.returnPhases {n : Nat} (hs : Unmarked 9 s₀ s) : Unmarked 9 s₀ (s.returnPhases n) :=
  .foldl hs fun _ _ ih => .ite ih.setPh ih

theorem Unmarked.bayMod {n : Nat} {f : BayS → BayS} (hs : Unmarked 9 s₀ s) : Unmarked 9 s₀ (s.bayMod n f) := hs.same rfl

theorem Unmarked.setBay {n st : Nat} (hs : Unmarked 9 s₀ s) : Unmarked 9 s₀ (s.setBay n st) := by
  unfold State.setBay
  extract_lets s t u
  have ht : Unmarked 9 s₀ t := .wr (.wr (.wr (.wr (.ite hs.bayMod hs))))
  have hu : Unmarked 9 s₀ u := .ite ht ht.wr
  exact .ite hu hu.wr

theorem Unmarked.bayOpenGate {n : Nat} {fast : Bool} (hs : Unmarked 9 s₀ s) : Unmarked 9 s₀ (s.bayOpenGate n fast) :=
  hs.wr.setBay.bayMod

theorem Unmarked.bayRamp {n : Nat} (hs : Unmarked 9 s₀ s) : Unmarked 9 s₀ (s.bayRamp n) := hs.wr.setBay.bayMod

theorem Unmarked.bayClose {n : Nat} {adopt : Bool} (hs : Unmarked 9 s₀ s) : Unmarked 9 s₀ (s.bayClose n adopt) :=
  .ite hs.wr.setBay.bayMod hs.bayRamp

theorem Unmarked.bayTimedOpen {n owner : Nat} (hs : Unmarked 9 s₀ s) : Unmarked 9 s₀ (s.bayTimedOpen n owner) :=
  .ite hs.setBay.bayMod hs

theorem Unmarked.bayCycleEnd {n : Nat} (hs : Unmarked 9 s₀ s) : Unmarked 9 s₀ (s.bayCycleEnd n) := .ite hs.setBay.bayMod hs

theorem Unmarked.bayAbort {n : Nat} (hs : Unmarked 9 s₀ s) : Unmarked 9 s₀ (s.bayAbort n) := .ite hs.bayMod hs

theorem Unmarked.openingEnds {n : Nat} (hs : Unmarked 9 s₀ s) : Unmarked 9 s₀ (s.openingEnds n) := .ite hs.raise hs

theorem Unmarked.bayArm {n : Nat} {adopt : Bool} (hs : Unmarked 9 s₀ s) : Unmarked 9 s₀ (s.bayArm n adopt) :=
  .ite (.ite hs.bayAbort.setBay.wr hs.wr) (.ite hs.bayClose (.ite hs.bayAbort.openingEnds.bayRamp hs))

theorem Unmarked.bayOpen {n : Nat} {fast : Bool} (hs : Unmarked 9 s₀ s) : Unmarked 9 s₀ (s.bayOpen n fast) :=
  .ite hs.bayAbort.bayOpenGate (.ite hs.wr.bayMod (.ite hs.wr.setBay hs.wr))

theorem Unmarked.bayPortClose {n : Nat} (hs : Unmarked 9 s₀ s) : Unmarked 9 s₀ (s.bayPortClose n) := .ite hs.openingEnds.bayRamp hs

theorem Unmarked.bayPortOpen {n : Nat} {fast : Bool} (hs : Unmarked 9 s₀ s) : Unmarked 9 s₀ (s.bayPortOpen n fast) :=
  .ite hs.setBay.bayMod (.ite hs.bayMod hs)

theorem Unmarked.railMod {n : Nat} {f : RailS → RailS} (hs : Unmarked 9 s₀ s) : Unmarked 9 s₀ (s.railMod n f) := hs.same rfl

theorem Unmarked.flMod {f : Nat} {g : FlightS → FlightS} (hs : Unmarked 9 s₀ s) : Unmarked 9 s₀ (s.flMod f g) := hs.same rfl

theorem Unmarked.setEst {e st : Nat} (hs : Unmarked 9 s₀ s) : Unmarked 9 s₀ (s.setEst e st) := .ite hs.wr.raise hs.wr

theorem Unmarked.entSwitchOff {e : Nat} (hs : Unmarked 9 s₀ s) : Unmarked 9 s₀ (s.entSwitchOff e) :=
  .ite hs.railMod (.ite hs.loopStop hs.bayOpen)

theorem Unmarked.markPgt {f e : Nat} (hs : Unmarked 9 s₀ s) : Unmarked 9 s₀ (s.markPgt f e) := by
  unfold State.markPgt
  split
  · exact hs.wr
  · exact hs

theorem Unmarked.sendOrder {op f action t0 : Nat} (hs : Unmarked 9 s₀ s) : Unmarked 9 s₀ (s.sendOrder op f action t0) := by
  unfold State.sendOrder
  extract_lets +onlyGivenNames id t o
  have ht : Unmarked 9 s₀ t := hs.wr.wr.wr.wr
  exact .raise (.flMod ht.same)

theorem Unmarked.gstat (hs : Unmarked 9 s₀ s) : Unmarked 9 s₀ s.gstat := .foldl hs fun _ _ ih => ih.wr.wr

theorem Unmarked.flCommandDone {f : Nat} (hs : Unmarked 9 s₀ s) : Unmarked 9 s₀ (s.flCommandDone f) := by
  unfold State.flCommandDone
  extract_lets +onlyGivenNames x
  split
  · exact hs
  · exact .ite hs (.doneEntries (.ite hs.flMod.raise.token hs.flMod))

theorem Unmarked.flAck {f result : Nat} (hs : Unmarked 9 s₀ s) : Unmarked 9 s₀ (s.flAck f result) := by
  unfold State.flAck
  refine .ite ?_ hs
  split
  · exact .ite hs.same.wr hs
  · exact hs

theorem Unmarked.flStamp {f : Nat} (hs : Unmarked 9 s₀ s) : Unmarked 9 s₀ (s.flStamp f) := .ite hs.wr hs

theorem Unmarked.flCheck {f : Nat} (hs : Unmarked 9 s₀ s) : Unmarked 9 s₀ (s.flCheck f) := by
  unfold State.flCheck
  extract_lets +onlyGivenNames st x
  refine .ite ?_ hs
  extract_lets nbad pend a b
  have ha : Unmarked 9 s₀ a := hs.flStamp.wr.wr.raise
  exact .gstat (.ite ha.flAck.flMod.flCommandDone ha.flAck.flMod)

theorem Unmarked.flCheckAll (hs : Unmarked 9 s₀ s) : Unmarked 9 s₀ s.flCheckAll := .foldl hs fun _ _ ih => ih.flCheck

theorem Unmarked.flStop {f : Nat} (hs : Unmarked 9 s₀ s) : Unmarked 9 s₀ (s.flStop f) := .ite hs hs.flStamp.wr.wr.flMod.raise.gstat

theorem Unmarked.flBegin {f t0 : Nat} {down rev dev : Bool} {treads : List Tread} (hs : Unmarked 9 s₀ s) :
    Unmarked 9 s₀ (s.flBegin f down rev dev treads t0) :=
  .flMod (.foldl hs.wr.wr.wr.wr.wr.wr.wr fun _ _ ih => .ite ih.wr.setEst ih.wr)

theorem Unmarked.flRun {f t0 : Nat} {down dev order : Bool} {seq : Option Nat} {slaves : List (Nat × Nat)} (hs : Unmarked 9 s₀ s) :
    Unmarked 9 s₀ (s.flRun f down dev order seq t0 slaves) := by
  unfold State.flRun
  exact hs.flMod.wr.wr.flBegin.raise.gstat.flCheck

theorem Unmarked.flRecord {f src origin action op id t0 : Nat} (hs : Unmarked 9 s₀ s) :
    Unmarked 9 s₀ (s.flRecord f src origin action op id t0) :=
  hs.record

theorem Unmarked.deviceStart {f : Nat} {down : Bool} (hs : Unmarked 9 s₀ s) : Unmarked 9 s₀ (s.deviceStart f down) :=
  .ite hs (.flRecord (.flRun (.foldl hs fun _ _ ih => .ite ih.flStop.doneEntries.token.raise ih.flStop)))

theorem Unmarked.dropEnts {es : List Nat} (hs : Unmarked 9 s₀ s) : Unmarked 9 s₀ (s.dropEnts es) := by
  unfold State.dropEnts
  refine .foldl hs fun _ _ ih => .ite ih (.foldl ih.setEst.entSwitchOff fun _ _ ih' => ?_)
  split
  · exact .ite (.ite ih'.flMod ih') (.ite ih'.flMod ih')
  · exact ih'

theorem Unmarked.settleDrop {e : Nat} (hs : Unmarked 9 s₀ s) : Unmarked 9 s₀ (s.settleDrop e) := by
  unfold State.settleDrop
  refine .ite ?_ hs
  extract_lets a
  refine .foldl hs.setEst fun _ _ ih => ?_
  split
  · exact .ite ih.flMod.markPgt (.ite ih.flMod ih)
  · exact ih

theorem Unmarked.settleDrops {es : List Nat} (hs : Unmarked 9 s₀ s) : Unmarked 9 s₀ (s.settleDrops es) :=
  .foldl hs fun _ _ ih => ih.settleDrop

theorem Unmarked.flFail {f e : Nat} (hs : Unmarked 9 s₀ s) : Unmarked 9 s₀ (s.flFail f e) := by
  unfold State.flFail
  extract_lets deps a b c
  refine .flCheckAll (.settleDrops (.foldl hs.setEst.token.flMod.entSwitchOff.dropEnts fun _ _ ih => ?_))
  split
  · exact .ite ih.setEst.flMod ih
  · exact ih

theorem Unmarked.entBecomesGood {e : Nat} (hs : Unmarked 9 s₀ s) : Unmarked 9 s₀ (s.entBecomesGood e) :=
  .ite hs.wr (.flCheckAll (.foldl (.ite hs.wr.setEst hs.wr) fun _ _ ih => .ite ih.flMod.markPgt ih))

theorem Unmarked.condTaken {f : Nat} (hs : Unmarked 9 s₀ s) : Unmarked 9 s₀ (s.condTaken f) := by
  unfold State.condTaken
  extract_lets +onlyGivenNames a
  refine .ite ?_ hs.flMod
  extract_lets +onlyGivenNames b
  have hb : Unmarked 9 s₀ b := .ite hs.flMod.sendOrder hs.flMod
  exact .ite hb.flBegin.raise.gstat.flCheck hb.wr

theorem Unmarked.condCease {f : Nat} (hs : Unmarked 9 s₀ s) : Unmarked 9 s₀ (s.condCease f) := .ite hs.flMod.wr.wr.gstat hs.flMod

theorem Unmarked.entLosesGood {e : Nat} (hs : Unmarked 9 s₀ s) : Unmarked 9 s₀ (s.entLosesGood e) := by
  unfold State.entLosesGood
  extract_lets +onlyGivenNames a
  refine .ite hs.wr ?_
  extract_lets +onlyGivenNames runs
  split
  · exact hs.wr.token.dropEnts.settleDrops.flCheckAll
  · exact .ite (.ite hs.wr.setEst.token.dropEnts.settleDrops.flCheckAll hs.wr.setEst.token) hs.wr

theorem Unmarked.entFalls {e : Nat} (hs : Unmarked 9 s₀ s) : Unmarked 9 s₀ (s.entFalls e) := .ite hs.settleDrop.flCheckAll hs

theorem Unmarked.entTaken {e : Nat} (hs : Unmarked 9 s₀ s) : Unmarked 9 s₀ (s.entTaken e) := by
  unfold State.entTaken
  refine .flCheckAll (.foldl hs fun _ _ ih => ?_)
  split
  · exact .ite ih.flMod.wr ih
  · exact ih

theorem Unmarked.entFaults {e : Nat} (hs : Unmarked 9 s₀ s) : Unmarked 9 s₀ (s.entFaults e) :=
  .ite hs (.foldl hs fun _ _ ih => .ite ih.flFail ih)

theorem Unmarked.entFollow {e : Nat} {old : State} (hs : Unmarked 9 s₀ s) : Unmarked 9 s₀ (old.entFollow s e) := by
  unfold State.entFollow
  extract_lets a bad b
  have ha : Unmarked 9 s₀ a := .ite hs.entBecomesGood (.ite hs.entLosesGood hs)
  have hb : Unmarked 9 s₀ b := .ite ha.entFaults ha
  exact .ite hb.entFalls hb

theorem Unmarked.flightFollow {old : State} (hs : Unmarked 9 s₀ s) : Unmarked 9 s₀ (old.flightFollow s) :=
  .foldl hs fun _ _ ih => ih.entFollow

theorem Unmarked.flHold (hs : Unmarked 9 s₀ s) : Unmarked 9 s₀ s.flHold :=
  .gstat (.foldl hs fun _ _ ih => .ite ih.wr.wr (.ite ih ih.flStamp.wr))

theorem Unmarked.tieMod {n : Nat} {f : TieS → TieS} (hs : Unmarked 9 s₀ s) : Unmarked 9 s₀ (s.tieMod n f) := hs.same rfl

theorem Unmarked.limitNow {n : Nat} (hs : Unmarked 9 s₀ s) : Unmarked 9 s₀ (s.limitNow n) := .ite hs.wr hs.wr

theorem Unmarked.tieClose {n : Nat} (hs : Unmarked 9 s₀ s) : Unmarked 9 s₀ (s.tieClose n) := .ite hs hs.limitNow.bayPortClose

theorem Unmarked.tieFrame {n : Nat} {m : TieMsg} (hs : Unmarked 9 s₀ s) : Unmarked 9 s₀ (s.tieFrame n m) := hs.emit.wr.tieMod

theorem Unmarked.tieSend {n typ : Nat} {objs : List Nat} (hs : Unmarked 9 s₀ s) : Unmarked 9 s₀ (s.tieSend n typ objs) :=
  .ite hs.tieMod.tieFrame hs.tieMod.tieMod

theorem Unmarked.tieAdvertise {n : Nat} (hs : Unmarked 9 s₀ s) : Unmarked 9 s₀ (s.tieAdvertise n) :=
  .tieSend (.tieMod (.ite hs.wr.tieMod hs))

theorem Unmarked.tieOffer {n : Nat} (hs : Unmarked 9 s₀ s) : Unmarked 9 s₀ (s.tieOffer n) := .ite hs hs.tieAdvertise

theorem Unmarked.tieEndContract {n : Nat} (hs : Unmarked 9 s₀ s) : Unmarked 9 s₀ (s.tieEndContract n) := by
  unfold State.tieEndContract
  extract_lets had t u
  have ht : Unmarked 9 s₀ t := hs.wr.wr.wr.wr.wr
  exact .ite ht.tieMod.raise ht.tieMod

theorem Unmarked.tieTransition {n : Nat} (hs : Unmarked 9 s₀ s) : Unmarked 9 s₀ (s.tieTransition n) := by
  unfold State.tieTransition
  split
  · exact hs
  · extract_lets +onlyGivenNames st ends
    refine .ite hs.tieMod.tieSend ?_
    refine .ite ?_ hs.tieClose.tieMod
    extract_lets t u
    have ht : Unmarked 9 s₀ t := .ite hs.wr hs.wr
    exact .ite ht.tieMod.tieSend ht.tieMod

theorem Unmarked.tieFresh {n : Nat} (hs : Unmarked 9 s₀ s) : Unmarked 9 s₀ (s.tieFresh n) := hs.tieMod.tieMod

theorem Unmarked.tieReset {n : Nat} (hs : Unmarked 9 s₀ s) : Unmarked 9 s₀ (s.tieReset n) := by
  unfold State.tieReset
  extract_lets +onlyGivenNames b a c
  have hc : Unmarked 9 s₀ c := hs.wr.raise.tieEndContract.wr.tieFresh
  exact .ite hc (.ite hc.bayTimedOpen.wr (.ite (.ite hc.wr.tieMod hc.wr.tieOffer) hc.wr))

theorem Unmarked.tieSendReset {n : Nat} (hs : Unmarked 9 s₀ s) : Unmarked 9 s₀ (s.tieSendReset n) := .ite hs.emit.tieReset hs

theorem Unmarked.tieResetEnd {n : Nat} {byCommand : Bool} (hs : Unmarked 9 s₀ s) : Unmarked 9 s₀ (s.tieResetEnd n byCommand) :=
  .ite (.ite hs.wr.tieMod hs.wr) hs

theorem Unmarked.tieAccessory {n : Nat} (hs : Unmarked 9 s₀ s) : Unmarked 9 s₀ (s.tieAccessory n) :=
  .ite (.ite hs.tieClose hs.bayPortOpen) hs

theorem Unmarked.tieToggled {n : Nat} (hs : Unmarked 9 s₀ s) : Unmarked 9 s₀ (s.tieToggled n) :=
  .ite (.ite hs.tieEndContract.wr.tieOffer hs.tieEndContract.wr) hs

theorem Unmarked.tiePolicyDue {n : Nat} (hs : Unmarked 9 s₀ s) : Unmarked 9 s₀ (s.tiePolicyDue n) := by
  unfold State.tiePolicyDue
  split
  · exact .ite hs.wr.wrA.wr.wrA.tieMod.doneEntries hs
  · exact hs

theorem Unmarked.tieFollow1 {n : Nat} {old : State} (hs : Unmarked 9 s₀ s) : Unmarked 9 s₀ (old.tieFollow1 s n) := by
  unfold State.tieFollow1
  refine .ite hs ?_
  extract_lets a d c
  have ha : Unmarked 9 s₀ a := .ite hs.bayMod.tieResetEnd hs
  have hd : Unmarked 9 s₀ d := .ite ha.tieOffer ha
  have hc : Unmarked 9 s₀ c := .ite (.ite hd.tieTransition hd) ha
  exact .ite hc (.ite hc.tieAccessory (.ite hc.tieToggled hc))

theorem Unmarked.tieFollow {old : State} (hs : Unmarked 9 s₀ s) : Unmarked 9 s₀ (old.tieFollow s) :=
  .foldl hs fun _ _ ih => ih.tieFollow1

theorem Unmarked.batMod {n : Nat} {f : BatS → BatS} (hs : Unmarked 9 s₀ s) : Unmarked 9 s₀ (s.batMod n f) := hs.same rfl

theorem Unmarked.batDq {n cause : Nat} (hs : Unmarked 9 s₀ s) : Unmarked 9 s₀ (s.batDq n cause) := .ite hs.wr.wr.raise hs

theorem Unmarked.putRec {n : Nat} {r : Store} (hs : Unmarked 9 s₀ s) : Unmarked 9 s₀ (s.putRec n r) := by
  refine hs.regs (fun h => Store.sorted_foldr_ins (Store.sorted_filter h)) rfl fun h pg hp ht => ?_
  have hlt : (hdr Reg.pgEvt pg).key < batBase n := by
    simp only [hdr, Row.at, Fld.key, Reg.pgEvt, batBase, pageLo]
    omega
  rw [State.evtSet, State.rd, State.putRec] at ht
  dsimp only at ht
  rw [get_foldr_ins hlt] at ht
  exact (Unmarked.filter (b := 9) (.refl s) (t := { s with regs := s.regs.filter _ }) rfl rfl).evt h pg hp ht

theorem Unmarked.saveRec {n : Nat} (hs : Unmarked 9 s₀ s) : Unmarked 9 s₀ (s.saveRec n) := .ite hs.same hs

theorem Unmarked.recCommit (hs : Unmarked 9 s₀ s) : Unmarked 9 s₀ s.recCommit := by
  unfold State.recCommit
  exact .same (.foldl hs fun _ _ ih => ih.saveRec)

theorem Unmarked.recCommitDue (hs : Unmarked 9 s₀ s) : Unmarked 9 s₀ s.recCommitDue := .ite hs.same hs.recCommit

theorem Unmarked.restEnd {n : Nat} (hs : Unmarked 9 s₀ s) : Unmarked 9 s₀ (s.restEnd n) := .ite hs.batMod.same.raise hs

theorem Unmarked.restStop {n : Nat} (hs : Unmarked 9 s₀ s) : Unmarked 9 s₀ (s.restStop n) :=
  .ite (.restEnd (.ite hs.bayCycleEnd hs)) hs

theorem Unmarked.moveMod {g : Nat} {f : MoveS → MoveS} (hs : Unmarked 9 s₀ s) : Unmarked 9 s₀ (s.moveMod g f) := hs.same rfl

theorem Unmarked.learnStop {g cause : Nat} (hs : Unmarked 9 s₀ s) : Unmarked 9 s₀ (s.learnStop g cause) :=
  .ite (.ite (.foldl hs.moveMod fun _ _ ih => ih.batDq) hs.moveMod) hs

theorem Unmarked.batForget {n : Nat} (hs : Unmarked 9 s₀ s) : Unmarked 9 s₀ (s.batForget n) :=
  hs.saveRec.putRec.wr.wr.wr.wr.wr.wr.wr.batMod

theorem Unmarked.setSvc {n svc : Nat} (hs : Unmarked 9 s₀ s) : Unmarked 9 s₀ (s.setSvc n svc) :=
  .ite hs (.ite hs.wr.raise.batForget hs.wr.raise)

theorem Unmarked.batFollow1 {n : Nat} {old : State} (hs : Unmarked 9 s₀ s) : Unmarked 9 s₀ (old.batFollow1 s n) := by
  unfold State.batFollow1
  refine .ite hs ?_
  extract_lets b a c d
  have ha : Unmarked 9 s₀ a := .ite hs.bayMod.restEnd hs
  have hc : Unmarked 9 s₀ c := .ite ha.restEnd ha
  have hd : Unmarked 9 s₀ d := .ite hc.batDq hc
  exact .ite hd.setSvc hd

theorem Unmarked.batFollow {old : State} (hs : Unmarked 9 s₀ s) : Unmarked 9 s₀ (old.batFollow s) :=
  .foldl hs fun _ _ ih => ih.batFollow1

theorem Unmarked.twMod {n : Nat} {f : TwcS → TwcS} (hs : Unmarked 9 s₀ s) : Unmarked 9 s₀ (s.twMod n f) := hs.same rfl

theorem Unmarked.twRetire {n : Nat} (hs : Unmarked 9 s₀ s) : Unmarked 9 s₀ (s.twRetire n) :=
  .twMod (.token (.raise (.wrAt (r := Reg.fltRmiscTwc) (pg := 0x0F1) (i := 0) hs.wr.wr (by decide))))

theorem Unmarked.cureSkip {n k : Nat} (hs : Unmarked 9 s₀ s) : Unmarked 9 s₀ (s.cureSkip n k) := hs.wr.twMod

theorem Unmarked.cureTake {f n : Nat} (hs : Unmarked 9 s₀ s) : Unmarked 9 s₀ (State.cureTake f n s) := by
  induction f generalizing s with
  | zero => exact hs
  | succ f ih =>
    unfold State.cureTake
    refine .ite hs ?_
    split
    · exact .ite (ih hs.wr.cureSkip) hs.wr.twMod
    · exact .ite hs.twRetire hs

theorem Unmarked.cureServe (hs : Unmarked 9 s₀ s) : Unmarked 9 s₀ s.cureServe := .foldl hs fun _ _ ih => .ite ih ih.cureTake

theorem Unmarked.cureDone {n : Nat} (hs : Unmarked 9 s₀ s) : Unmarked 9 s₀ (s.cureDone n) := hs.wr.twMod.cureServe

theorem Unmarked.twFollow1 {n : Nat} (hs : Unmarked 9 s₀ s) : Unmarked 9 s₀ (s.twFollow1 n) := by
  unfold State.twFollow1
  split
  · exact hs
  · exact .ite hs.bayMod.twMod.cureSkip.cureServe (.ite hs (.ite hs.twMod hs.cureDone))

theorem Unmarked.twFollow (hs : Unmarked 9 s₀ s) : Unmarked 9 s₀ s.twFollow := .ite (.foldl hs fun _ _ ih => ih.twFollow1) hs

theorem Unmarked.lanAbort {cause : Nat} (hs : Unmarked 9 s₀ s) : Unmarked 9 s₀ (s.lanAbort cause) := by
  unfold State.lanAbort
  extract_lets t
  have ht : Unmarked 9 s₀ t := hs.wr.wr.raise
  exact .ite hs (.doneEntries ht.same)

theorem Unmarked.lanFollow {old : State} (hs : Unmarked 9 s₀ s) : Unmarked 9 s₀ (old.lanFollow s) :=
  .ite hs (.ite hs.lanAbort (.ite hs.lanAbort (.ite hs.lanAbort hs)))

theorem Unmarked.holdupBegins (hs : Unmarked 9 s₀ s) : Unmarked 9 s₀ s.holdupBegins := .ite hs.capTrigger hs

theorem Unmarked.hldFollow {old : State} (hs : Unmarked 9 s₀ s) : Unmarked 9 s₀ (old.hldFollow s) := by
  unfold State.hldFollow
  extract_lets +onlyGivenNames was now
  refine .ite hs ?_
  extract_lets s a
  have hs : Unmarked 9 s₀ s := .ite hs.holdupBegins hs
  have ha : Unmarked 9 s₀ a := .ite (.foldl hs fun _ _ ih => ih.condCease) (.ite (.foldl hs fun _ _ ih => ih.condTaken) hs)
  exact .ite (.foldl ha fun _ _ ih => ih.deviceStart) ha

theorem Unmarked.follow {old : State} (hs : Unmarked 9 s₀ s) : Unmarked 9 s₀ (old.follow s) :=
  hs.hldFollow.flightFollow.tieFollow.batFollow.lanFollow.twFollow

theorem Unmarked.sysMod {b : Nat} {f : SysS → SysS} (hs : Unmarked b s₀ s) : Unmarked b s₀ (s.sysMod f) := hs.same rfl

theorem Unmarked.slewTo {b : Nat} {int : Bool} (hs : Unmarked b s₀ s) : Unmarked b s₀ (s.slewTo int) := hs.wrAt.wrAt

theorem Unmarked.toCrystal {b : Nat} {back : Bool} (hs : Unmarked b s₀ s) : Unmarked b s₀ (s.toCrystal back) :=
  .ite hs.slewTo.sysMod.raise hs.slewTo.sysMod

theorem Unmarked.forceFollow {b : Nat} (hs : Unmarked b s₀ s) : Unmarked b s₀ s.forceFollow :=
  .ite (.ite hs hs.slewTo.sysMod) (.ite (.ite hs.toCrystal (.ite hs.toCrystal hs)) hs.sysMod)

theorem Unmarked.coefWrite {n : Nat} {e : JEntry} (hs : Unmarked 9 s₀ s) : Unmarked 9 s₀ (s.coefWrite n e) :=
  .jMod (.loopMod (.commit (.wr (.foldl hs fun _ _ ih => ih.wr))))

theorem Unmarked.loopTaken {n : Nat} (hs : Unmarked 9 s₀ s) : Unmarked 9 s₀ (s.loopTaken n) := by
  unfold State.loopTaken
  exact .ite hs.entTaken.lanAbort hs.entTaken

theorem Unmarked.resense {n : Nat} (hs : Unmarked 9 s₀ s) : Unmarked 9 s₀ (s.resense n) := .ite hs.wr hs

theorem Unmarked.putTarget {n a : Nat} (hs : Unmarked 9 s₀ s) : Unmarked 9 s₀ (s.putTarget n a) := .ite hs.wr hs.wr

theorem Unmarked.heldTarget {e : JEntry} {w : Wait} {f : State → State} (hs : Unmarked 9 s₀ s)
    (hf : ∀ t, Unmarked 9 s₀ t → Unmarked 9 s₀ (f t)) :
    Unmarked 9 s₀ (s.heldTarget e w f) :=
  (hf _ hs.wr).commit.jMod

theorem Unmarked.loopReached {n : Nat} (hs : Unmarked 9 s₀ s) : Unmarked 9 s₀ (s.loopReached n) := .ite hs.doneEntries hs

theorem Unmarked.applyLoopStart {e : JEntry} (hs : Unmarked 9 s₀ s) : Unmarked 9 s₀ (s.applyLoopStart e) := by
  unfold State.applyLoopStart
  extract_lets +onlyGivenNames n t ron ps
  split
  · exact hs.done
  · extract_lets +onlyGivenNames use delay ont
    refine .ite (.follow (hs.loopTaken.heldTarget fun _ ih => .ite ih.putTarget.wr ih.putTarget)) ?_
    extract_lets +onlyGivenNames a b c d st f
    have ha : Unmarked 9 s₀ a := hs.loopTaken.wr.putTarget
    have hb : Unmarked 9 s₀ b := .ite ha ha.wr
    have hc : Unmarked 9 s₀ c := .jMod (.commit (.ite hb.wr hb))
    have hd : Unmarked 9 s₀ d := .ite hc.resense hc
    exact .follow (.loopReached (.ite hd.loopRetarget (.ite (.ite hd.loopMod.loopBegin hd.loopMod) hd.loopMod.loopStart)))

theorem Unmarked.applyLoopVset {e : JEntry} (hs : Unmarked 9 s₀ s) : Unmarked 9 s₀ (s.applyLoopVset e) := by
  unfold State.applyLoopVset
  extract_lets +onlyGivenNames n t rate
  split
  · exact hs.done
  · extract_lets +onlyGivenNames a b
    have ha : Unmarked 9 s₀ a := hs.loopTaken.heldTarget fun _ ih => ih.putTarget
    have hb : Unmarked 9 s₀ b := .ite ha.resense ha
    exact .ite ha.follow (.ite hb.loopRetarget.loopReached.follow (.follow (.ite hb.loopMod.done hb.loopMod)))

theorem Unmarked.applyLoopStop {e : JEntry} (hs : Unmarked 9 s₀ s) : Unmarked 9 s₀ (s.applyLoopStop e) := by
  unfold State.applyLoopStop
  extract_lets +onlyGivenNames n roff
  split
  · exact hs.done
  · extract_lets +onlyGivenNames use delay offt
    refine .ite (.follow (hs.loopTaken.heldTarget fun _ ih => .ite ih.wr ih)) ?_
    extract_lets a b c
    have hb : Unmarked 9 s₀ b := .ite hs.loopTaken.wr hs.loopTaken.wr.wr
    exact .follow (.loopStop (.jMod (.commit (.ite hb.wr hb))))

theorem Unmarked.applyLoopCoef {e : JEntry} (hs : Unmarked 9 s₀ s) : Unmarked 9 s₀ (s.applyLoopCoef e) :=
  .ite hs.done (.ite hs.wr.loopMod.jMod hs.wr.coefWrite)

theorem Unmarked.applyPhCfg {e : JEntry} (hs : Unmarked 9 s₀ s) : Unmarked 9 s₀ (s.applyPhCfg e) := by
  unfold State.applyPhCfg
  extract_lets j pg off new moved busy
  split
  · exact hs.done
  · exact .commit (.jMod (.wr (.foldl hs fun _ _ ih => ih.putWord)))

theorem Unmarked.applyBayArm {e : JEntry} (hs : Unmarked 9 s₀ s) : Unmarked 9 s₀ (s.applyBayArm e) := by
  unfold State.applyBayArm
  extract_lets +onlyGivenNames n
  refine .ite hs.done ?_
  split
  · exact hs.done
  · extract_lets a b
    have ha : Unmarked 9 s₀ a := hs.entTaken.wr.bayArm
    exact .follow (.ite ha.done ha.jMod)

theorem Unmarked.applyBayOpen {e : JEntry} (hs : Unmarked 9 s₀ s) : Unmarked 9 s₀ (s.applyBayOpen e) := by
  unfold State.applyBayOpen
  extract_lets +onlyGivenNames n
  refine .ite hs.done ?_
  refine .ite hs.done ?_
  extract_lets a
  have ha : Unmarked 9 s₀ a := hs.entTaken.wr.bayOpen
  exact .follow (.ite ha.jMod ha.done)

theorem Unmarked.applyBayToggle {e : JEntry} (hs : Unmarked 9 s₀ s) : Unmarked 9 s₀ (s.applyBayToggle e) := by
  unfold State.applyBayToggle
  extract_lets +onlyGivenNames n st
  split
  · exact hs.done
  · extract_lets +onlyGivenNames a
    refine .ite ?_ hs.entTaken.wr.bayClose.jMod.follow
    extract_lets b
    have hb : Unmarked 9 s₀ b := hs.entTaken.wr.wr.setBay.done
    refine .follow ?_
    split
    · exact hb.tieToggled
    · exact hb

theorem Unmarked.applyBayLimit {e : JEntry} (hs : Unmarked 9 s₀ s) : Unmarked 9 s₀ (s.applyBayLimit e) := by
  unfold State.applyBayLimit
  extract_lets n pg regs new
  split
  · exact hs.done
  · exact .commit (.jMod (.wr (.foldl hs fun _ _ ih => ih.putWord)))

theorem Unmarked.applyBatLearn {e : JEntry} (hs : Unmarked 9 s₀ s) : Unmarked 9 s₀ (s.applyBatLearn e) := by
  unfold State.applyBatLearn
  extract_lets +onlyGivenNames n g loopOk
  refine .ite ?_ ?_
  · split
    · exact hs.done
    · exact hs.wr.learnStop.done
  · split
    · exact hs.done
    · exact .ite hs.wr.jMod.moveMod hs.wr.jMod

theorem Unmarked.restAskCmd {n : Nat} (hs : Unmarked 9 s₀ s) : Unmarked 9 s₀ (s.restAskCmd n) := by
  unfold State.restAskCmd
  extract_lets +onlyGivenNames put
  refine .ite hs ?_
  split
  · exact hs.batMod.same
  · exact .ite hs.batMod.same hs.batMod.batMod.same

theorem Unmarked.applyBatRest {e : JEntry} (hs : Unmarked 9 s₀ s) : Unmarked 9 s₀ (s.applyBatRest e) := by
  unfold State.applyBatRest
  extract_lets n
  refine .ite ?_ ?_
  · split
    · exact hs.done
    · exact hs.wr.restStop.done.follow
  · split
    · exact hs.done
    · exact hs.wr.jMod.restAskCmd

theorem Unmarked.abcCommit {pg : Nat} (hs : Unmarked 9 s₀ s) : Unmarked 9 s₀ (s.abcCommit pg) := .ite hs.takeSnap hs.commit

theorem Unmarked.applyAbcCap {e : JEntry} (hs : Unmarked 9 s₀ s) : Unmarked 9 s₀ (s.applyAbcCap e) :=
  .ite hs.done hs.putWord.putWord.wr.abcCommit.jMod

theorem Unmarked.applyRodSet {e : JEntry} (hs : Unmarked 9 s₀ s) : Unmarked 9 s₀ (s.applyRodSet e) := by
  unfold State.applyRodSet
  extract_lets +onlyGivenNames r off kind floor fl
  split
  · exact hs.done
  · exact .jMod (.abcCommit (.wr (.foldl hs fun _ _ ih => ih.putWord)))

theorem Unmarked.applyHldSet {e : JEntry} (hs : Unmarked 9 s₀ s) : Unmarked 9 s₀ (s.applyHldSet e) := by
  unfold State.applyHldSet
  extract_lets regs new
  split
  · exact hs.done
  · exact .commit (.jMod (.wr (.foldl hs fun _ _ ih => ih.putWord)))

theorem Unmarked.newWindow (hs : Unmarked 9 s₀ s) : Unmarked 9 s₀ s.newWindow :=
  .foldl hs.same fun _ _ ih => .ite ih.applyPart.commitDone ih

theorem Unmarked.capHold (hs : Unmarked 9 s₀ s) : Unmarked 9 s₀ s.capHold := .foldl hs.capMod fun _ _ ih => .ite ih.wr.capMod ih

theorem Unmarked.galMod {b : Nat} {f : GalS → GalS} (hs : Unmarked b s₀ s) : Unmarked b s₀ (s.galMod f) := hs.same rfl

theorem Unmarked.galShow (hs : Unmarked 9 s₀ s) : Unmarked 9 s₀ s.galShow := hs.wr.wr.wr.wr.wr

theorem Unmarked.galOne {spill broken : Bool} {typ src n : Nat} {island : Option Nat} {p : Nat × List Nat} (hs : Unmarked 9 s₀ s) :
    Unmarked 9 s₀ (s.galOne spill typ src island broken n p) := by
  unfold State.galOne
  extract_lets us r a b c
  have hb : Unmarked 9 s₀ b := .ite hs.galMod.wr hs.galMod
  exact .ite hb.wr.raise hb.wr

theorem Unmarked.galPut {spill : Bool} {o : Offer} (hs : Unmarked 9 s₀ s) : Unmarked 9 s₀ (s.galPut spill o) :=
  .foldl hs fun _ _ ih => ih.galOne

theorem Unmarked.galThaw {cause : Nat} (hs : Unmarked 9 s₀ s) : Unmarked 9 s₀ (s.galThaw cause) := by
  unfold State.galThaw
  refine .ite hs ?_
  extract_lets a b
  have hb : Unmarked 9 s₀ b := hs.galPut.wr.wr.raise
  exact .galShow (.ite hb hb.raise)

theorem Unmarked.galAccept {o : Offer} (hs : Unmarked 9 s₀ s) : Unmarked 9 s₀ (s.galAccept o) := by
  unfold State.galAccept
  extract_lets +onlyGivenNames told
  refine .ite hs.refuse ?_
  extract_lets a b
  have ha : Unmarked 9 s₀ a := .ite hs.galPut.galMod hs
  exact .ite ha.galPut.galShow.galThaw ha.galPut.galShow

theorem Unmarked.applyGalFreeze {e : JEntry} (hs : Unmarked 9 s₀ s) : Unmarked 9 s₀ (s.applyGalFreeze e) :=
  .ite (.ite hs.done (.ite hs.done hs.galAccept.wr.raise.done)) hs.galThaw.done

theorem Unmarked.newNonce (hs : Unmarked 9 s₀ s) : Unmarked 9 s₀ s.newNonce := hs.galMod.wr

theorem Unmarked.applyGalClear {e : JEntry} (hs : Unmarked 9 s₀ s) : Unmarked 9 s₀ (s.applyGalClear e) :=
  .ite hs.done.newNonce (.ite hs.raise.done.newNonce (.ite hs.done.newNonce
      (.ite hs.jMod (.newNonce (.done (.raise (.galShow (.ite hs.galAccept.galMod.wr hs.galAccept.galMod))))))))

theorem Unmarked.galHold {cause : Nat} (hs : Unmarked 9 s₀ s) : Unmarked 9 s₀ (s.galHold cause) := by
  unfold State.galHold
  extract_lets a
  have ha : Unmarked 9 s₀ a := hs.galMod
  exact .galMod ha.same

theorem Unmarked.runFlight {e : JEntry} {f action : Nat} (hs : Unmarked 9 s₀ s) : Unmarked 9 s₀ (s.runFlight e f action) := by
  unfold State.runFlight
  refine .ite hs.wr.done ?_
  refine .ite hs.done ?_
  refine .ite hs.done ?_
  extract_lets down b c
  have hc : Unmarked 9 s₀ c := .ite hs.jMod.flMod hs.jMod
  exact .ite hc.sendOrder.flRun hc.flRun

theorem Unmarked.flContinue {f : Nat} (hs : Unmarked 9 s₀ s) : Unmarked 9 s₀ (s.flContinue f) := by
  unfold State.flContinue
  exact hs.wr.wr.gstat.flCheck

theorem Unmarked.applyFlightRun {e : JEntry} (hbefore : Unmarked 9 s₀ before) : Unmarked 9 s₀ (State.applyFlightRun e before) :=
  .ite hbefore.wr.done (.ite (.done (.flStop (.ite hbefore.wr.sendOrder hbefore.wr)))
      (.ite (.ite hbefore.wr.runFlight (.ite hbefore.wr.done
      (.flContinue (.flMod (.jMod (.ite hbefore.wr.sendOrder.flMod hbefore.wr)))))) hbefore.wr.runFlight))

theorem Unmarked.idxMod {f : IdxS → IdxS} (hs : Unmarked 9 s₀ s) : Unmarked 9 s₀ (s.idxMod f) := hs.same rfl

theorem Unmarked.tieAsk {n pos ireq preq : Nat} (hs : Unmarked 9 s₀ s) : Unmarked 9 s₀ (s.tieAsk n pos ireq preq) :=
  hs.tieMod.tieSend

theorem Unmarked.applyTiePolicy {e : JEntry} (hs : Unmarked 9 s₀ s) : Unmarked 9 s₀ (s.applyTiePolicy e) := by
  unfold State.applyTiePolicy
  extract_lets n
  split
  · exact hs.done
  · exact hs.wr.jMod.tieMod.tiePolicyDue

theorem Unmarked.applyTieRequest {e : JEntry} (hs : Unmarked 9 s₀ s) : Unmarked 9 s₀ (s.applyTieRequest e) := by
  unfold State.applyTieRequest
  extract_lets +onlyGivenNames n action
  split
  · exact hs.done
  · extract_lets +onlyGivenNames a
    have ha : Unmarked 9 s₀ a := hs.wr.jMod
    exact .ite (.tieAsk (.ite ha.wr ha)) (.ite ha.tieMod.tieSend
        (.ite ha.tieSendReset.follow (.ite ha.tieAdvertise ha.tieSend)))

theorem Unmarked.fltMod {b : Nat} {f : FltS → FltS} (hs : Unmarked b s₀ s) : Unmarked b s₀ (s.fltMod f) := hs.same rfl

theorem Unmarked.lanCommit (hs : Unmarked 9 s₀ s) : Unmarked 9 s₀ s.lanCommit := .ite hs.applyPart.commitDone hs

theorem Unmarked.lanStart {n point : Nat} {x : LanS} (hs : Unmarked 9 s₀ s) : Unmarked 9 s₀ (s.lanStart n point x) := by
  unfold State.lanStart
  extract_lets a
  have ha : Unmarked 9 s₀ a := hs.wr.wr.wr.wr.wr.wr
  exact ha.returnPhases.same

theorem Unmarked.lanClear (hs : Unmarked 9 s₀ s) : Unmarked 9 s₀ s.lanClear := .wr (.wr (.wr (.foldl hs fun _ _ ih => ih.wr.wr)))

theorem Unmarked.applyLanRun {e : JEntry} (hs : Unmarked 9 s₀ s) : Unmarked 9 s₀ (s.applyLanRun e) := by
  unfold State.applyLanRun
  extract_lets n point fstart fstop npts settle intc amp
  refine .ite (.ite hs.done hs.lanAbort.done) ?_
  split
  · exact hs.done
  · exact hs.wr.jMod.lanCommit.lanClear.lanStart

theorem Unmarked.resetRegs {p : Nat → Nat → Bool} (hs : Unmarked 9 s₀ s) : Unmarked 9 s₀ (s.resetRegs p) := hs.filter rfl rfl

theorem Unmarked.dropSnaps (hs : Unmarked 9 s₀ s) : Unmarked 9 s₀ s.dropSnaps := hs.same.resetRegs

theorem Unmarked.jStop (hs : Unmarked 9 s₀ s) : Unmarked 9 s₀ s.jStop := hs.same rfl

theorem Unmarked.evStop (hs : Unmarked 9 s₀ s) : Unmarked 9 s₀ s.evStop := hs.same rfl

theorem Unmarked.twStop {n : Nat} (hs : Unmarked 9 s₀ s) : Unmarked 9 s₀ (s.twStop n) := .ite hs.twMod.wr hs.twMod.wr.wr

theorem Unmarked.tieStop {n : Nat} (hs : Unmarked 9 s₀ s) : Unmarked 9 s₀ (s.tieStop n) := hs.tieMod.tieMod

theorem Unmarked.ldieStop (hs : Unmarked 9 s₀ s) : Unmarked 9 s₀ s.ldieStop := by
  unfold State.ldieStop
  exact .idxMod (.sysMod (.fltMod (.foldl (.foldl (.foldl hs.jStop.evStop.resetRegs.lanClear.wrAt.wrAt.nvcIdle.wrAt.wrAt.wrAt.wrAt.wrAt.wrAt fun _ _
      ih => ih.wr.wr.wr.wr) fun _ _ ih => ih.twStop) fun _ _ ih => ih.tieStop)))

theorem Unmarked.tokensToIsland (hs : Unmarked 9 s₀ s) : Unmarked 9 s₀ s.tokensToIsland := .foldl hs.same fun _ _ ih => ih.islPush

theorem Unmarked.bayHold {n : Nat} (hs : Unmarked 9 s₀ s) : Unmarked 9 s₀ (s.bayHold n) := by
  unfold State.bayHold
  extract_lets a b
  have ha : Unmarked 9 s₀ a := .ite hs.setBay hs
  exact .bayMod (.ite ha.wr ha)

theorem Unmarked.loopHold {n : Nat} (hs : Unmarked 9 s₀ s) : Unmarked 9 s₀ (s.loopHold n) :=
  .foldl hs.loopMod.wr fun _ _ ih => .ite ih.setPh ih

theorem Unmarked.batHold (hs : Unmarked 9 s₀ s) : Unmarked 9 s₀ s.batHold := by
  unfold State.batHold
  exact .same (.foldl (.foldl hs fun _ _ ih => ih.learnStop) fun _ _ ih => .ite ih.batDq ih)

theorem Unmarked.setCause {cause : Nat} (hs : Unmarked 9 s₀ s) : Unmarked 9 s₀ (s.setCause cause) := hs.wrAt.wrAt

theorem Unmarked.lanHold (hs : Unmarked 9 s₀ s) : Unmarked 9 s₀ s.lanHold := .ite hs hs.same.wr.wr

theorem Unmarked.enterHold {cause : Nat} (hs : Unmarked 9 s₀ s) : Unmarked 9 s₀ (s.enterHold cause) := by
  unfold State.enterHold
  extract_lets +onlyGivenNames a b c d e
  have ha : Unmarked 9 s₀ a := hs.jStop.lanHold.flHold.capHold.galHold
  have hb : Unmarked 9 s₀ b := .tokensToIsland ha.same
  have hrow : (nrstOf cause).fits 0 ∧ (nrstOf cause).off + (nrstOf cause).stride * 0 ≠ 0x014 := by
    unfold nrstOf
    split_ifs <;> decide
  have hc : Unmarked 9 s₀ c := .wr (hb.setCause.wrAt hrow)
  have hd : Unmarked 9 s₀ d := hc.wr.wr
  have he : Unmarked 9 s₀ e := .foldl (.foldl hd fun _ _ ih => ih.bayHold) fun _ _ ih => ih.loopHold
  exact he.batHold.dropSnaps.newWindow.ldieStop.forceFollow

theorem Unmarked.bistResult {test bank sig dur : Nat} {pass aborted cold : Bool} (hs : Unmarked 9 s₀ s) :
    Unmarked 9 s₀ (s.bistResult test bank sig dur pass aborted cold) := by
  unfold State.bistResult
  extract_lets e a b c d
  have hb : Unmarked 9 s₀ b := hs.wr.wr.wr.wr.wr.wr.wr.wr.wr.wr.wr
  have hc : Unmarked 9 s₀ c := .ite hb hb.wr
  exact .sysMod (.raise (.record (.ite hc hc.wr)))

theorem Unmarked.bistDone {pass : Bool} (hs : Unmarked 9 s₀ s) : Unmarked 9 s₀ (s.bistDone pass) :=
  .ite hs.doneEntries hs.doneEntries

theorem Unmarked.bistBegin {e : JEntry} {test bank : Nat} (hs : Unmarked 9 s₀ s) : Unmarked 9 s₀ (s.bistBegin e test bank) :=
  hs.wr.wr.wr.wr.wr.wr.sysMod.jMod.wr

theorem Unmarked.bistReplay {e : JEntry} (hs : Unmarked 9 s₀ s) : Unmarked 9 s₀ (s.bistReplay e) := by
  unfold State.bistReplay
  extract_lets t
  split
  · exact .ite hs.jMod.bistResult.bistDone.sysMod hs.jMod.bistResult.bistDone
  · exact hs.jMod.bistResult.bistDone

theorem Unmarked.applyBist {e : JEntry} (hs : Unmarked 9 s₀ s) : Unmarked 9 s₀ (s.applyBist e) := by
  unfold State.applyBist
  refine .ite hs.bistReplay ?_
  split
  · exact hs.done
  · exact .ite hs.recCommitDue.enterHold.sysMod (.ite hs.recCommitDue.wr.bistBegin hs.recCommitDue.bistBegin)

theorem Unmarked.putPair {pg off v : Nat} (hs : Unmarked 9 s₀ s) : Unmarked 9 s₀ (s.putPair pg off v) := .ite hs.wr hs.putWord

theorem Unmarked.applyPageSet {e : JEntry} (hs : Unmarked 9 s₀ s) : Unmarked 9 s₀ (s.applyPageSet e) := by
  unfold State.applyPageSet
  extract_lets +onlyGivenNames pg n ps new
  have hnew : Unmarked 9 s₀ new := .foldl hs fun _ _ ih => ih.putPair
  split
  · exact hs.done
  · split
    · exact hs.done
    · exact .ite hnew.wr.jMod.commit hnew.wr.done

theorem Unmarked.rbAdvance {k : Nat} (hs : Unmarked 9 s₀ s) : Unmarked 9 s₀ (s.rbAdvance k) := hs.wr.raise

theorem Unmarked.applyImgSelect {e : JEntry} (hs : Unmarked 9 s₀ s) : Unmarked 9 s₀ (s.applyImgSelect e) := by
  unfold State.applyImgSelect
  extract_lets +onlyGivenNames target slot trial adv k
  split
  · exact hs.done
  · extract_lets a
    have ha : Unmarked 9 s₀ a := .ite hs.wr.sysMod hs.wr.sysMod
    exact .done (.wr (.ite ha.rbAdvance ha))

theorem Unmarked.applyWarmreset {e : JEntry} (hs : Unmarked 9 s₀ s) : Unmarked 9 s₀ (s.applyWarmreset e) := hs.wr.done

theorem Unmarked.applyBenchEnter {e : JEntry} (hs : Unmarked 9 s₀ s) : Unmarked 9 s₀ (s.applyBenchEnter e) :=
  .ite hs.done (hs.same).forceFollow.done

theorem Unmarked.applyBenchLeave {e : JEntry} (hs : Unmarked 9 s₀ s) : Unmarked 9 s₀ (s.applyBenchLeave e) :=
  .ite hs.done (.ite hs.done (.done (.forceFollow hs.same)))

theorem Unmarked.applyCommand {e : JEntry} (hs : Unmarked 9 s₀ s) : Unmarked 9 s₀ (State.applyCommand e s) := by
  unfold State.applyCommand
  refine .ite hs.done (.ite hs.applyWarmreset (.ite hs.applyBenchEnter (.ite hs.applyBenchLeave ?_)))
  refine .ite hs.applyPageSet (.ite hs.applyBayArm (.ite hs.applyBayOpen (.ite hs.applyBayToggle ?_)))
  refine .ite hs.applyBayLimit (.ite hs.applyLoopStart (.ite hs.applyLoopStop (.ite hs.applyLoopVset ?_)))
  refine .ite hs.applyLoopCoef (.ite hs.applyPhCfg (.ite hs.applyAbcCap (.ite hs.applyRodSet ?_)))
  refine .ite hs.applyHldSet (.ite hs.applyBatLearn (.ite hs.applyBatRest (.ite hs.applyTiePolicy ?_)))
  refine .ite hs.applyTieRequest (.ite hs.applyFlightRun (.ite hs.applyGalFreeze (.ite hs.applyGalClear ?_)))
  exact .ite hs.applyBist (.ite hs.applyLanRun (.ite hs.applyImgSelect hs.done))

theorem Unmarked.ringEntry {i : Nat} (hs : Unmarked 9 s₀ s) : Unmarked 9 s₀ (s.ringEntry i).2 := by
  unfold State.ringEntry
  split
  · exact hs
  · exact hs.same

theorem Unmarked.fetch {n bad : Nat} (hs : Unmarked 9 s₀ s) : Unmarked 9 s₀ (State.fetch n bad s) := by
  induction n generalizing bad s with
  | zero => exact hs
  | succ n ih =>
    unfold State.fetch
    exact .ite (ih (hs.ringEntry.check fun _ _ h => h.applyCommand).wrAt) hs

theorem Unmarked.issued {seq : Nat} (hs : Unmarked 9 s₀ s) : Unmarked 9 s₀ (s.issued seq) := by
  unfold State.issued
  split
  · exact hs
  · refine .ite hs ?_
    extract_lets +onlyGivenNames a b
    have hb : Unmarked 9 s₀ b := hs.jMod.wr.wr.raise
    exact .ite hb.same hb

theorem Unmarked.ringDrain {n : Nat} (hs : Unmarked 9 s₀ s) : Unmarked 9 s₀ (State.ringDrain n s) := by
  induction n generalizing s with
  | zero => exact hs
  | succ n ih =>
    unfold State.ringDrain
    split
    · exact hs
    · refine .ite ?_ hs
      extract_lets a b kept
      have hb : Unmarked 9 s₀ b := .ite (hs.same (t := a)).writeTw (hs.same (t := a)).writeRing
      refine ih ?_
      split
      · exact .ite hb hb.issued
      · exact hb

theorem Unmarked.cmdCfg {v : Nat} (hs : Unmarked 9 s₀ s) : Unmarked 9 s₀ (s.cmdCfg v) := by
  unfold State.cmdCfg
  extract_lets was a
  have ha : Unmarked 9 s₀ a := hs.wrAt.wrAt.wrAt
  exact .ite ha.wrAt.wrAt.wrAt.ringFollow.ringDrain.fetch ha.ringFollow

end

end Sys2Proof.Machine

/-!
PROOFS. No action that a write of a register starts, and nothing that follows one, reports a rejected write of the page
(R5, R52, R57).
-/

namespace Sys2Proof.Machine

section

set_option Elab.async false

variable {b : Nat} {s₀ s t : State}

/-! ### The timebase and the event unit (R34, R68) -/

theorem Unmarked.tmbCfg {v : Nat} (hs : Unmarked b s₀ s) : Unmarked b s₀ (s.tmbCfg v) := hs.wrAt.wrAt.forceFollow

theorem Unmarked.due {v : Nat} (hs : Unmarked b s₀ s) : Unmarked b s₀ (s.due v) := .ite (hs.same rfl) (hs.same rfl)

theorem Unmarked.release {v : Nat} (hs : Unmarked b s₀ s) : Unmarked b s₀ (s.release v) :=
  .ite (.ite (hs.same rfl) (hs.same rfl)) hs

theorem Unmarked.releaseAll (hs : Unmarked b s₀ s) : Unmarked b s₀ s.releaseAll := .foldl hs fun _ _ ih => ih.release

theorem Unmarked.dueNew {old : State} (hs : Unmarked b s₀ s) : Unmarked b s₀ (old.dueNew s) :=
  .foldl hs fun _ _ ih => .ite ih.due ih

/-! ### Transactions of the host (R394, R395) -/

theorem Unmarked.hostResult {n result : Nat} {data : List Nat} (hs : Unmarked b s₀ s) :
    Unmarked b s₀ (s.hostResult n result data) := by
  unfold State.hostResult
  extract_lets a c
  have ha : Unmarked b s₀ a := hs.wrAt.wrAt.wrAt.wrAt
  have hc : Unmarked b s₀ c := ha.wrAt
  refine .ite (List.foldlRecOn _ _ hc fun _ ih j hj => .ite (ih.wr (.inr ?_)) ih) hc.raise
  have hj := List.mem_range.mp hj
  simp only [evtKey, twcFk, Row.at, Fld.key, Reg.twcHdataD]
  omega

theorem Unmarked.xactStart {n : Nat} {x : Xact} (hs : Unmarked b s₀ s) : Unmarked b s₀ (s.xactStart n x) :=
  .wrAt (hs.same (t := State.twMod _ n fun t => { t with run := some { x with again := false } }) rfl)

theorem Unmarked.twNext {n : Nat} (hs : Unmarked b s₀ s) : Unmarked b s₀ (s.twNext n) := by
  unfold State.twNext
  refine .ite hs ?_
  split
  · exact .xactStart (hs.same rfl)
  · exact hs

theorem Unmarked.hostRequest {n : Nat} {x : Xact} (hx : x.cls = 3) (hs : Unmarked b s₀ s) : Unmarked b s₀ (s.xactRequest n x) := by
  unfold State.xactRequest
  split
  · unfold State.xactResult
    rw [hx]
    exact hs.hostResult
  · exact .twNext (hs.same rfl)

theorem Unmarked.hostPass {n v : Nat} (hs : Unmarked b s₀ s) : Unmarked b s₀ (s.hostPass n v) := by
  unfold State.hostPass
  extract_lets a
  have ha : Unmarked b s₀ a := hs.wrAt.wrAt.wrAt.wrAt
  exact .ite ha (.ite ha.wrAt (ha.wrAt.hostRequest rfl))

/-! ### Memory, capture and stream (R405, R416, R422) -/

theorem Unmarked.wrMem {r : Row} {m v : Nat} (hs : Unmarked b s₀ s)
    (hr : 0x014 < r.off ∧ r.off + r.stride * 4 < 4096 ∧ r.lo < 32 := by decide) : Unmarked b s₀ (s.wr (memF r m) v) :=
  hs.wr (.inr (by
    obtain ⟨hlo, hhi, hbit⟩ := hr
    have hm : r.stride * (m % 5) ≤ r.stride * 4 := Nat.mul_le_mul_left _ (by omega)
    rw [memF_key]
    simp only [evtKey, Row.at, Fld.key]
    omega))

theorem Unmarked.bankRequest {m req : Nat} (hs : Unmarked b s₀ s) : Unmarked b s₀ (s.bankRequest m req) :=
  .ite hs (.ite hs.wrMem.wrMem hs.raise)

theorem Unmarked.winMod {k : Nat} {f : WinS → WinS} (hs : Unmarked b s₀ s) : Unmarked b s₀ (s.winMod k f) := hs.same rfl

theorem Unmarked.winRelease {k : Nat} (hs : Unmarked b s₀ s) : Unmarked b s₀ (s.winRelease k) :=
  .ite (.capMod (.winMod (.wrZero (.wrZero (.foldl hs.wrZero fun _ _ ih => ih.wrZero))))) hs

theorem Unmarked.capCtl {v : Nat} (hs : Unmarked b s₀ s) (hb : b ≤ 0x0E1) : Unmarked b s₀ (s.capCtl v) :=
  .foldl (.ite (hs.capTrigger hb) hs) fun _ _ ih => .ite ih.winMod.winRelease ih

theorem Unmarked.capShow (hs : Unmarked b s₀ s) : Unmarked b s₀ s.capShow := hs.wrAt.wrAt.wrAt

theorem Unmarked.strShow (hs : Unmarked b s₀ s) : Unmarked b s₀ s.strShow := hs.wrAt.wrAt.wrAt.wrAt.wrAt

theorem Unmarked.strCfg {v : Nat} (hs : Unmarked b s₀ s) : Unmarked b s₀ (s.strCfg v) := by
  unfold State.strCfg
  extract_lets on a c
  have ha : Unmarked b s₀ a := hs.wrAt.wrAt.wrAt
  have hc : Unmarked b s₀ c := .ite ha ha.wrAt
  have hrun : Unmarked b s₀ (((((c.wr (str0F Reg.strCfgEn 0) 1).wr (str0F Reg.strStatNomem 0) 0).wr (str0F Reg.strDheadIdx 0) 0).wr
    (str0F Reg.strCtailIdx 0) 0).wr (str0F Reg.strCtailPhase 0) 1) := hc.wrAt.wrAt.wrAt.wrAt.wrAt
  exact .ite hc.wrAt.strShow (.ite hc.strShow (.ite hc.wrAt (.strShow (hrun.same rfl))))

/-! ### Faults, gallery, mailboxes and NVM (R446, R464, R473, R517, R519) -/

theorem Unmarked.fltInj {v : Nat} (hs : Unmarked b s₀ s) : Unmarked b s₀ (s.fltInj v) := by
  unfold State.fltInj
  extract_lets tgt a
  have ha : Unmarked b s₀ a := hs.wrAt.wrAt.wrAt.wrAt
  exact .ite hs.lockrej (ha.same rfl)

theorem Unmarked.fltAck {k gen : Nat} (hs : Unmarked b s₀ s) : Unmarked b s₀ (s.fltAck k gen) := .ite hs.wrZero hs

theorem Unmarked.fltAckAll (hs : Unmarked b s₀ s) : Unmarked b s₀ s.fltAckAll := .fltMod (.foldl hs fun _ _ ih => ih.wrZero)

theorem Unmarked.galCur {v : Nat} (hs : Unmarked b s₀ s) : Unmarked b s₀ (s.galCur v) := by
  unfold State.galCur
  exact .galMod hs.wrAt.wrAt.wrAt.wrAt.wrAt.wrAt.wrAt

theorem Unmarked.galTcur {v : Nat} (hs : Unmarked b s₀ s) : Unmarked b s₀ (s.galTcur v) := by
  unfold State.galTcur State.fastLoad
  exact .galMod hs.wrAt.wrAt.wrAt.wrAt

theorem Unmarked.keyLoad (hs : Unmarked b s₀ s) : Unmarked b s₀ s.keyLoad := .ite hs.lockrej (hs.galMod).wrAt

theorem Unmarked.mbxGo {n : Nat} (hs : Unmarked b s₀ s) : Unmarked b s₀ (s.mbxGo n) := .ite hs (.sysMod hs.wrAt.wrAt)

theorem Unmarked.nvcGo (hs : Unmarked b s₀ s) : Unmarked b s₀ s.nvcGo := .ite hs (.ite hs.wrAt.raise (.sysMod hs.wrAt.wrAt))

theorem Unmarked.nvcVerify (hs : Unmarked b s₀ s) : Unmarked b s₀ s.nvcVerify :=
  .ite hs (.ite hs.wrAt.raise (.ite hs.wrAt (.sysMod hs.wrAt.wrAt)))

/-! ### The lock key (R71 to R73) -/

theorem Unmarked.lockAbort (hs : Unmarked b s₀ s) : Unmarked b s₀ s.lockAbort := by
  unfold State.lockAbort
  extract_lets n a
  have ha : Unmarked b s₀ a := hs.wrAt.wrAt
  exact .raise (.ite ha.wrAt ha)

theorem Unmarked.barWrite (hs : Unmarked b s₀ s) : Unmarked b s₀ s.barWrite := .ite hs.lockAbort hs

theorem Unmarked.heard {path : BitVec 2} (hs : Unmarked b s₀ s) : Unmarked b s₀ (s.heard path) := .ite hs.barWrite hs

theorem Unmarked.unlock {target : Nat} (hs : Unmarked b s₀ s) : Unmarked b s₀ (s.unlock target) := .foldl hs fun _ _ ih => ih.wrZero

theorem Unmarked.lockKey {path key : Nat} (hs : Unmarked b s₀ s) : Unmarked b s₀ (s.lockKey path key) := by
  unfold State.lockKey
  extract_lets st
  have hpath : Unmarked b s₀ { s with sys := { s.sys with lockPath := path } } := hs.same rfl
  exact .ite hs (.ite (.ite hpath.wrAt hs)
    (.ite hs.lockAbort (.ite (.ite hs.wrAt hs.lockAbort) (.ite hs.unlock.wrAt.wrAt hs.lockAbort))))

/-! ### A write of a register -/

theorem Unmarked.wrField {pg off v : Nat} {f : Fld} (hs : Unmarked b s₀ s) (hf : f ∈ fieldsAt pg off) : Unmarked b s₀ (s.wr f v) :=
  hs.wr (clearOfEvt_fieldsAt hf)

theorem Unmarked.writeField {pg off v : Nat} {f : Fld} (hs : Unmarked b s₀ s) (hf : f ∈ fieldsAt pg off) :
    Unmarked b s₀ (s.writeField f v) := by
  unfold State.writeField
  dsimp only
  split
  case h_2 => exact .ite hs (hs.wrField hf)
  case h_1 | h_3 | h_4 => exact hs.wrField hf
  case h_5 | h_6 | h_7 | h_8 => exact hs

theorem Unmarked.writeFields {pg off v : Nat} (hs : Unmarked b s₀ s) : Unmarked b s₀ (s.writeFields pg off v) :=
  List.foldlRecOn _ _ hs fun _ ih _ hf => ih.writeField hf

theorem Unmarked.settingsFollow {old : State} {pg : Nat} (hs : Unmarked b s₀ s) : Unmarked b s₀ (old.settingsFollow s pg) :=
  .ite hs.forceFollow (.ite hs.dueNew.releaseAll (.ite hs.capShow (.ite hs.strShow hs)))

theorem getD_ite {c : Prop} {_ : Decidable c} {P : State → Prop} {x : State} {o : Option State} (hx : c → P x) (ho : P (o.getD s)) :
    P ((if c then some x else o).getD s) := by
  split
  case isTrue hc => exact hx hc
  case isFalse => exact ho

/-- An action that a write of a register starts reports no rejected write of its page or of one below. -/
theorem Unmarked.writeAction {pg off v : Nat} (hs : Unmarked (pg + 1) s₀ s) (ht : Unmarked (pg + 1) s₀ t) :
    Unmarked (pg + 1) s₀ ((s.writeAction pg off v).getD t) := by
  have hfields : Unmarked (pg + 1) s₀ (s.writeFields pg off v) := hs.writeFields
  have hgo : Unmarked (pg + 1) s₀ (if bitOf v 0 then s.nvcGo else s) := .ite hs.nvcGo hs
  unfold State.writeAction
  refine getD_ite (fun _ => hs.tmbCfg) (getD_ite (fun _ => .ite hs.due hs) (getD_ite (fun hp => ?_) ?_))
  · rw [hp.1] at hs ⊢
    exact hs.cmdCfg
  refine getD_ite (fun _ => hs) (getD_ite (fun _ => hs.hostPass) (getD_ite (fun _ => hs.bankRequest)
    (getD_ite (fun hp => hs.capCtl (by omega)) (getD_ite (fun _ => hs.strCfg) ?_))))
  refine getD_ite (fun _ => .ite hs hs.fltInj) (getD_ite (fun _ => hs.fltAck) (getD_ite (fun _ => .ite hs.fltAckAll hs) ?_))
  refine getD_ite (fun _ => hs.galCur) (getD_ite (fun _ => hs.galTcur) (getD_ite (fun _ => hs.lockrej)
    (getD_ite (fun _ => .ite hs.keyLoad hs) ?_)))
  exact getD_ite (fun _ => .ite hfields.mbxGo hfields) (getD_ite (fun _ => .ite hgo.nvcVerify hgo) ht)

end

end Sys2Proof.Machine

/-!
PROOFS. A direct write of a register that holds journaled fields (R52).
-/

namespace Sys2Proof.Machine

section

variable {old s t u : State} {f g : Fld} {path : BitVec 2} {pg off v : Nat}

/-! ### Where journaled fields stand (Table 3.1, R57) -/

/-- A page that holds journaled fields says so in PG_CAP.JRNL. -/
theorem rwj_pageJrnl (hpg : pg < 512) (hf : f ∈ fieldsAt pg off) (hj : f.acc = .rwj) : pageJrnl pg = true := by
  have hall : ∀ p < 512, ∀ r ∈ pageRows p, r.acc = .rwj → pageJrnl p = true := by decide +kernel
  obtain ⟨r, hr, hrf⟩ := List.mem_filterMap.mp hf
  obtain ⟨i, -, rfl⟩ := Option.map_eq_some_iff.mp hrf
  refine hall pg hpg r hr (Eq.trans ?_ hj)
  split_ifs <;> rfl

theorem pageJrnl_cases (h : pageJrnl pg = true) : pg = 0 ∨ 0x010 ≤ pg ∧ pg ≤ 0x098 ∨ 0x0A1 ≤ pg ∧ pg ≤ 0x0B0 ∨ pg = 0x0F0
    ∨ pg = 0x0F1 ∨ pg = 0x0F9 ∨ pg = 0x100 ∨ pg = 0x108 ∨ 0x110 ≤ pg ∧ pg ≤ 0x113 := by
  simpa only [pageJrnl, Bool.or_eq_true, Bool.and_eq_true, beq_iff_eq, decide_eq_true_eq, or_assoc] using h

theorem hostCmd_acc : ∀ n < 8, ∀ f ∈ fieldsAt (0x0A1 + n) 0x100, f.acc ≠ .rwj := by decide +kernel

theorem mailboxCtl_acc : ∀ n < 4, ∀ f ∈ fieldsAt (0x110 + n) 0x044, f.acc ≠ .rwj := by decide +kernel

theorem faultCtl_acc : ∀ o ∈ [0x080, 0x084, 0x088], ∀ f ∈ fieldsAt 0x0F0 o, f.acc ≠ .rwj := by decide +kernel

/-- No register that starts an action holds a journaled field. -/
theorem rwj_writeAction (hpg : pg < 512) (hf : f ∈ fieldsAt pg off) (hj : f.acc = .rwj) : s.writeAction pg off v = none := by
  have hp := pageJrnl_cases (rwj_pageJrnl hpg hf hj)
  have hcmd (h : 0x0A1 ≤ pg ∧ pg ≤ 0x0A8 ∧ off = 0x100) : False := by
    obtain ⟨n, rfl⟩ := Nat.exists_eq_add_of_le h.1
    exact hostCmd_acc n (by omega) f (h.2.2 ▸ hf) hj
  have hmbx (h : 0x110 ≤ pg ∧ pg ≤ 0x113 ∧ off = 0x044) : False := by
    obtain ⟨n, rfl⟩ := Nat.exists_eq_add_of_le h.1
    exact mailboxCtl_acc n (by omega) f (h.2.2 ▸ hf) hj
  have hflt (o : Nat) (ho : o ∈ [0x080, 0x084, 0x088]) (h : pg = 0x0F0 ∧ off = o) : False :=
    faultCtl_acc o ho f (h.1 ▸ h.2 ▸ hf) hj
  unfold State.writeAction
  simp only [ite_some_eq_none]
  refine ⟨?_, ?_, ?_, ?_, hcmd, ?_, ?_, ?_, hflt _ (by decide), hflt _ (by decide), hflt _ (by decide), ?_, ?_, ?_, ?_, hmbx, ?_,
    trivial⟩
  all_goals omega

/-- No setting of a page with journaled fields is followed by its unit at a direct write. -/
theorem settingsFollow_jrnl (h : pageJrnl pg = true) : old.settingsFollow s pg = s := by
  have hp := pageJrnl_cases h
  unfold State.settingsFollow
  rw [if_neg, if_neg, if_neg, if_neg] <;> omega

/-! ### The fields of a register after a write of it (R5) -/

theorem writeField_rd_ne (h : f.key ≠ g.key) : (s.writeField g v).rd f = s.rd f := by
  unfold State.writeField
  dsimp only
  split
  case h_2 =>
    split
    · rfl
    · exact State.rd_wr_ne h _
  case h_1 | h_3 | h_4 => exact State.rd_wr_ne h _
  case h_5 | h_6 | h_7 | h_8 => rfl

theorem writeField_rd_rw (hs : s.regs.sorted = true) (h : f.acc = .rw) : (s.writeField f v).rd f = bits v f.lo f.width := by
  unfold State.writeField
  rw [h]
  exact (State.rd_wr_self hs _ _).trans (bits_mod _ _ _)

theorem writeField_rd_rwj (h : f.acc = .rwj) : (s.writeField f v).rd f = s.rd f := by
  unfold State.writeField
  rw [h]

theorem writeField_frame : s.writeField g v = { s with regs := (s.writeField g v).regs } := by
  unfold State.writeField
  dsimp only
  split
  case h_2 => split <;> rfl
  all_goals rfl

theorem writeFields_frame : s.writeFields pg off v = { s with regs := (s.writeFields pg off v).regs } :=
  List.foldlRecOn (motive := fun t : State => t = { s with regs := t.regs }) _ _ rfl fun t ht g _ => by
    rw [writeField_frame]
    rw [ht]

theorem writeFields_inv (hi : s.Inv) : (s.writeFields pg off v).Inv := (Keeps.refl s).writeFields.inv hi

theorem writeFields_lUp : (s.writeFields pg off v).lUp = s.lUp := by rw [writeFields_frame]; rfl

/-- A journaled field stands over a direct write of its register. -/
theorem writeFields_rd_rwj (hf : f ∈ fieldsAt pg off) (hj : f.acc = .rwj) : (s.writeFields pg off v).rd f = s.rd f := by
  refine List.foldlRecOn (motive := fun t : State => t.rd f = s.rd f) _ _ rfl fun t ht g hg => ?_
  by_cases hfg : f = g
  · exact hfg ▸ (writeField_rd_rwj hj).trans ht
  · exact (writeField_rd_ne (fieldsAt_key_ne hf hg hfg)).trans ht

theorem foldl_writeField_rd {l : List Fld} (hi : s.Inv) (hl : ∀ g ∈ l, g ≠ f → f.key ≠ g.key) (ha : f.acc = .rw)
    (h : f ∈ l ∨ s.rd f = bits v f.lo f.width) : (l.foldl (fun t g => t.writeField g v) s).rd f = bits v f.lo f.width := by
  induction l generalizing s with
  | nil => exact h.resolve_left List.not_mem_nil
  | cons g l ih =>
    refine ih ((Keeps.refl s).writeField.inv hi) (fun x hx => hl x (List.mem_cons_of_mem g hx)) ?_
    by_cases hfg : g = f
    · exact .inr (hfg ▸ writeField_rd_rw hi.regs (hfg ▸ ha))
    · rcases h with h | h
      · exact .inl ((List.mem_cons.mp h).resolve_left (Ne.symm hfg))
      · exact .inr ((writeField_rd_ne (hl g List.mem_cons_self hfg)).trans h)

/-- An RW field takes its bits of the word. -/
theorem writeFields_rd_rw (hi : s.Inv) (hf : f ∈ fieldsAt pg off) (ha : f.acc = .rw) :
    (s.writeFields pg off v).rd f = bits v f.lo f.width :=
  foldl_writeField_rd hi (fun _ hg hne => fieldsAt_key_ne hf hg (Ne.symm hne)) ha (.inl hf)

theorem writeFields_rd_hdr {r : Row} {p : Nat} (hr : r.off < 0x040 ∧ r.lo < 32 ∧ r.stride = 0) :
    (s.writeFields pg off v).rd (hdr r p) = s.rd (hdr r p) :=
  List.foldlRecOn (motive := fun t : State => t.rd (hdr r p) = s.rd (hdr r p)) _ _ rfl fun _ ht _ hg =>
    (writeField_rd_ne (Ne.symm (fieldsAt_key_ne_hdr hg hr))).trans ht

end

end Sys2Proof.Machine

/-!
PROOFS. O13: a direct write leaves journaled fields as they are and reports the one it changes (R52).
-/

namespace Sys2Proof.Machine

section

variable {old s t u : State} {f g : Fld} {path : BitVec 2} {pg off v : Nat}

/-! ### What follows a change of settings leaves the RW fields -/

/-- A field of a page that no write sets as it stands: it shows or counts. -/
def shownField (g : Fld) : Bool := g.off < 4096 && (fieldsAt g.page g.off).contains g && g.acc != .rw && g.acc != .rwj

/-- Every RW field of a register reads in `s` as in `old`. -/
def RwStand (old s : State) : Prop := ∀ pg off, off < 0x1000 → ∀ f ∈ fieldsAt pg off, f.acc = .rw → s.rd f = old.rd f

theorem RwStand.refl (s : State) : RwStand s s := fun _ _ _ _ _ _ => rfl

theorem RwStand.same (h : RwStand old s) (e : t.regs = s.regs := by rfl) : RwStand old t :=
  fun pg off ho f hf ha => (rd_of_regs e).trans (h pg off ho f hf ha)

theorem RwStand.ite {c : Prop} {_ : Decidable c} (hs : RwStand old s) (ht : RwStand old t) : RwStand old (if c then s else t) := by
  split
  · exact hs
  · exact ht

theorem RwStand.foldl {α : Type} {k : State → α → State} {l : List α} (h : RwStand old s)
    (hk : ∀ t x, RwStand old t → RwStand old (k t x)) : RwStand old (l.foldl k s) :=
  List.foldlRecOn l k h fun t ht x _ => hk t x ht

theorem key_ne_shownField (ho : off < 0x1000) (hf : f ∈ fieldsAt pg off) (ha : f.acc = .rw ∨ f.acc = .rwj)
    (hg : shownField g = true) : f.key ≠ g.key := by
  simp only [shownField, Bool.and_eq_true, decide_eq_true_eq, List.contains_iff_mem, bne_iff_ne] at hg
  obtain ⟨⟨⟨hgo, hgm⟩, hrw⟩, hrwj⟩ := hg
  obtain ⟨hfp, hfo, -, hfw, hfb⟩ := fieldsAt_place hf
  obtain ⟨-, -, -, hgw, hgb⟩ := fieldsAt_place hgm
  by_cases hplace : g.page = pg ∧ g.off = off
  · rw [hplace.1, hplace.2] at hgm
    exact fieldsAt_key_ne hf hgm fun e => (e ▸ ha).elim hrw hrwj
  · simp only [Fld.key]
    omega

theorem RwStand.wr (h : RwStand old s) (hg : shownField g = true := by decide) : RwStand old (s.wr g v) :=
  fun pg off ho f hf ha => (State.rd_wr_ne (key_ne_shownField ho hf (.inl ha) hg) v).trans (h pg off ho f hf ha)

/-- A field that raising events and offering records leaves as it is. -/
def unsignalled (f : Fld) : Prop := ¬ evtKey f.key ∧ ∀ g ∈ signalFields ++ [], f.key ≠ g.key

theorem fieldsAt_not_evtKey (hf : f ∈ fieldsAt pg off) : ¬ evtKey f.key := by
  obtain ⟨hfp, hfo, hlo, hfw, hfb⟩ := fieldsAt_place hf
  simp only [evtKey, Fld.key]
  omega

theorem unsignalled_of_acc (ho : off < 0x1000) (hf : f ∈ fieldsAt pg off) (ha : f.acc = .rw ∨ f.acc = .rwj) : unsignalled f := by
  have hshown : ∀ g ∈ signalFields ++ [], shownField g = true := by decide
  exact ⟨fieldsAt_not_evtKey hf, fun g hg => key_ne_shownField ho hf ha (hshown g hg)⟩

theorem unsignalled_hdr {r : Row} (hr : r.off < 0x014 ∧ r.lo < 32 ∧ r.stride = 0) : unsignalled (hdr r pg) := by
  have hkey := hdr_before_evt (pg := pg) hr
  have hfar : ∀ g ∈ signalFields ++ [], 0x014 ≤ g.key % 131072 / 32 := by decide
  exact ⟨fun he => by unfold evtKey at he; omega, fun g hg e => by have := hfar g hg; rw [← e] at this; omega⟩

theorem RwStand.raise {n : Nat} (h : RwStand old s) : RwStand old (s.raise n) := fun pg off ho f hf ha => by
  obtain ⟨he, hk⟩ := unsignalled_of_acc ho hf (.inl ha)
  exact ((raise_signals s n []).2 f he hk).trans (h pg off ho f hf ha)

theorem RwStand.slewTo {int : Bool} (h : RwStand old s) : RwStand old (s.slewTo int) := h.wr.wr

theorem RwStand.toCrystal {back : Bool} (h : RwStand old s) : RwStand old (s.toCrystal back) := by
  unfold State.toCrystal
  extract_lets a
  have ha : RwStand old a := h.slewTo.same
  exact .ite ha.raise ha

theorem RwStand.forceFollow (h : RwStand old s) : RwStand old s.forceFollow :=
  .ite (.ite h h.slewTo.same) (.ite (.ite h.toCrystal (.ite h.toCrystal h)) h.same)

theorem RwStand.due {n : Nat} (h : RwStand old s) : RwStand old (s.due n) := h.same (due_regs s n)

theorem RwStand.release {n : Nat} (h : RwStand old s) : RwStand old (s.release n) := .ite (.ite h.same h.same) h

theorem RwStand.settingsFollow {before : State} (h : RwStand old s) : RwStand old (before.settingsFollow s pg) :=
  .ite h.forceFollow (.ite (.foldl (.foldl h fun _ _ ih => .ite ih.due ih) fun _ _ ih => ih.release)
    (.ite h.wr.wr.wr (.ite h.wr.wr.wr.wr.wr h)))

/-! ### A direct write of a block register -/

/-- The word gives a journaled field of the register another value than it reads as. -/
def State.rwjDiffers (s : State) (pg off v : Nat) : Bool :=
  changed ((fieldsAt pg off).filter fun f => f.acc == .rwj) v (s.pageWord pg off)

/-- The word gives a locked field of the register another value than it reads as. -/
def State.rwlDiffers (s : State) (pg off v : Nat) : Bool :=
  s.rdB (hdr Reg.pgLock pg) && changed ((fieldsAt pg off).filter fun f => f.acc == .rwl) v (s.pageWord pg off)

/-- The reports of a write of `v` that left `b` (R52, R55). -/
def State.rejects (s b : State) (pg off v : Nat) : State :=
  let c := if s.rwjDiffers pg off v then b.jrej pg off else b
  if s.rwlDiffers pg off v then c.lockrej pg off else c

theorem rwjDiffers_iff : s.rwjDiffers pg off v = true
    ↔ ∃ f ∈ fieldsAt pg off, f.acc = .rwj ∧ bits v f.lo f.width ≠ bits (s.pageWord pg off) f.lo f.width := by
  simp only [State.rwjDiffers, changed, List.any_eq_true, List.mem_filter, beq_iff_eq, bne_iff_ne, and_assoc]

/-- A write of a register that starts no action. -/
theorem writeBlock_plain (hf : f ∈ fieldsAt pg off) (ha : s.writeAction pg off v = none) :
    s.writeBlock pg off v = s.rejects (s.settingsFollow (s.writeFields pg off v) pg) pg off v := by
  have hne : (fieldsAt pg off).isEmpty = false := List.isEmpty_eq_false_iff.mpr (List.ne_nil_of_mem hf)
  have heoi : ¬(pg = 0x004 ∧ off = 0x044) := by
    rintro ⟨rfl, rfl⟩
    exact absurd ha (by simp [State.writeAction])
  unfold State.writeBlock
  simp only [ha, hne, heoi, if_false, Option.getD_none, Bool.false_and, Bool.false_eq_true]
  rfl

/-- A write of a register that starts no action, on a page with journaled fields. -/
theorem writeBlock_rwj (hpg : pg < 512) (hf : f ∈ fieldsAt pg off) (hj : f.acc = .rwj) :
    s.writeBlock pg off v = s.rejects (s.writeFields pg off v) pg off v := by
  rw [writeBlock_plain hf (rwj_writeAction hpg hf hj), settingsFollow_jrnl (rwj_pageJrnl hpg hf hj)]

theorem jrej_rd (hf : unsignalled f) : (s.jrej pg off).rd f = s.rd f :=
  (rd_of_regs rfl).trans ((raiseBit_signals s pg 31 2 []).2 f hf.1 hf.2)

theorem lockrej_rd (hf : unsignalled f) : (s.lockrej pg off).rd f = s.rd f :=
  (rd_of_regs rfl).trans ((raiseBit_signals s pg 30 3 []).2 f hf.1 hf.2)

theorem rejects_rd (hf : unsignalled f) : (u.rejects s pg off v).rd f = s.rd f := by
  unfold State.rejects
  dsimp only
  split_ifs
  · exact (lockrej_rd hf).trans (jrej_rd hf)
  · exact lockrej_rd hf
  · exact jrej_rd hf
  · rfl

/-- JREJ rises, with the register as its detail. -/
structure JrejAt (s t : State) (pg off : Nat) : Prop where
  evt : t.evtSet pg 31 = true
  detail : t.jrejDetail = pg * 4096 + off
  pend : bitOf (s.rd (hdr Reg.pgEvten pg)) 31 = true → 2 ∈ t.evPend

theorem jrej_jrejAt (hi : s.Inv) (hl : s.lUp = true) : JrejAt s (s.jrej pg off) pg off :=
  ⟨raiseBit_evtSet (b := 31) hi hl (by decide), rfl, fun hen => mem_raiseBit (b := 31) hl hen⟩

theorem Raised.lockrej (hl : s.lUp = true) : Raised s (s.lockrej pg off) := by
  have hset : Raised s (s.setEvt pg 30 3 s.us) := (Raised.refl s).setEvt
  have hbit : Raised s (s.raiseBit pg 30 3) :=
    ⟨(raiseBit_raised hl).inv ∘ hset.inv, fun hi p b hb => (raiseBit_raised hl).evt (hset.inv hi) p b (hset.evt hi p b hb),
      fun n hn => (raiseBit_raised hl).pend n (hset.pend n hn)⟩
  exact hbit.same fun hi => ⟨hi.regs, hi.act, hi.mem, hi.evq, hi.twq, hi.offers, hi.islBuf⟩

theorem jrej_inv (hi : s.Inv) : (s.jrej pg off).Inv := by
  have hr := (Keeps.refl s).raiseBit (pg := pg) (b := 31) (n := 2)
  obtain ⟨hregs, hact, hmem, hevq, htwq, hoffers, hbuf⟩ := hr.inv hi
  exact ⟨hregs, hact, hmem, hevq, htwq, hoffers, hbuf⟩

theorem jrej_lUp : (s.jrej pg off).lUp = s.lUp :=
  lUp_of_signals (t := s.raiseBit pg 31 2) (raiseBit_signals s pg 31 2 [])

theorem rejects_jrejAt (hi : s.Inv) (hl : s.lUp = true) (hd : u.rwjDiffers pg off v = true) :
    JrejAt s (u.rejects s pg off v) pg off := by
  have hj : JrejAt s (s.jrej pg off) pg off := jrej_jrejAt hi hl
  unfold State.rejects
  rw [if_pos hd]
  dsimp only
  split
  · have hk : Raised (s.jrej pg off) ((s.jrej pg off).lockrej pg off) := .lockrej (jrej_lUp.trans hl)
    have hdetail : ((s.jrej pg off).lockrej pg off).jrejDetail = (s.jrej pg off).jrejDetail :=
      (Unmarked.refl (b := 0) _).lockrej.detail
    exact ⟨hk.evt (jrej_inv hi) pg 31 hj.evt, hdetail.trans hj.detail, fun hen => hk.pend 2 (hj.pend hen)⟩
  · exact hj

/-- RW fields take the word, and journaled fields stand. -/
theorem writeBlock_rd_rw (hi : s.Inv) (ho : off < 0x1000) (ha : s.writeAction pg off v = none) (hf : f ∈ fieldsAt pg off)
    (hrw : f.acc = .rw) : (s.writeBlock pg off v).rd f = bits v f.lo f.width := by
  rw [writeBlock_plain hf ha, rejects_rd (unsignalled_of_acc ho hf (.inl hrw))]
  exact ((RwStand.refl _).settingsFollow pg off ho f hf hrw).trans (writeFields_rd_rw hi hf hrw)

theorem writeBlock_rd_rwj (hpg : pg < 512) (ho : off < 0x1000) (hf : f ∈ fieldsAt pg off) (hj : f.acc = .rwj) :
    (s.writeBlock pg off v).rd f = s.rd f := by
  rw [writeBlock_rwj hpg hf hj, rejects_rd (unsignalled_of_acc ho hf (.inr hj)), writeFields_rd_rwj hf hj]

/-- Another value for a journaled field is reported. -/
theorem writeBlock_jrejAt (hi : s.Inv) (hl : s.lUp = true) (hpg : pg < 512) (hd : s.rwjDiffers pg off v = true) :
    JrejAt s (s.writeBlock pg off v) pg off := by
  obtain ⟨f, hf, hj, -⟩ := rwjDiffers_iff.mp hd
  have hiw : (s.writeFields pg off v).Inv := writeFields_inv hi
  obtain ⟨hevt, hdetail, hpend⟩ := rejects_jrejAt hiw (writeFields_lUp.trans hl) hd
  rw [writeBlock_rwj hpg hf hj]
  exact ⟨hevt, hdetail, fun hen => hpend ((congrArg (bitOf · 31) (writeFields_rd_hdr (by decide))).trans hen)⟩

/-- A word that carries every journaled field as it reads is not reported. -/
theorem writeBlock_unmarked (hd : s.rwjDiffers pg off v = false) : Unmarked (pg + 1) s (s.writeBlock pg off v) := by
  have hs : Unmarked (pg + 1) s s := .refl s
  unfold State.writeBlock
  extract_lets fs word jr lr a b c
  have ha : Unmarked (pg + 1) s a := hs.writeAction hs.writeFields
  have hb : Unmarked (pg + 1) s b := .ite ha ha.settingsFollow
  have hc : c = b := if_neg (Bool.eq_false_iff.mp hd)
  exact .ite hs (hc ▸ .ite hb.lockrej hb)

/-! ### A direct write of PG_CTL of a page with journaled fields -/

/-- The state that a write of PG_CTL leaves before its reports: a commit is taken, and ENABLE stands. -/
def State.ctlCommit (s : State) (pg v : Nat) : State := if bitOf v 2 && pageStaged pg then s.commit pg else s

theorem writeCtl_jrnl (hj : pageJrnl pg = true) : s.writeCtl pg v
    = if bits v 0 1 != s.rd (hdr Reg.pgEnable pg) || bitOf v 1 then (s.ctlCommit pg v).jrej pg 0x00C else s.ctlCommit pg v := by
  unfold State.writeCtl
  simp only [hj, if_true, Bool.not_true, Bool.and_false, Bool.false_eq_true, if_false, Bool.true_and]
  rfl

theorem ctlCommit_inv (hi : s.Inv) : (s.ctlCommit pg v).Inv := (Keeps.ite (Keeps.refl s).commit (.refl s)).inv hi

theorem ctlCommit_enable : (s.ctlCommit pg v).rd (hdr Reg.pgEnable pg) = s.rd (hdr Reg.pgEnable pg) := by
  have hb : (hdr Reg.pgEnable pg).key ≠ (hdr Reg.pgCbusy pg).key := by simp [hdr, Row.at, Fld.key, Reg.pgEnable, Reg.pgCbusy]
  have hp : (hdr Reg.pgEnable pg).key ≠ (hdr Reg.pgCpend pg).key := by simp [hdr, Row.at, Fld.key, Reg.pgEnable, Reg.pgCpend]
  unfold State.ctlCommit
  split
  · exact commit_rd hb hp
  · rfl

theorem ctlCommit_frame : (s.ctlCommit pg v).lUp = s.lUp ∧ (s.ctlCommit pg v).jrejDetail = s.jrejDetail := by
  unfold State.ctlCommit State.commit
  split_ifs <;> exact ⟨rfl, rfl⟩

theorem writeCtl_enable (hj : pageJrnl pg = true) : (s.writeCtl pg v).rd (hdr Reg.pgEnable pg) = s.rd (hdr Reg.pgEnable pg) := by
  rw [writeCtl_jrnl hj]
  split
  · exact (jrej_rd (unsignalled_hdr (by decide))).trans ctlCommit_enable
  · exact ctlCommit_enable

theorem writeCtl_jrej (hi : s.Inv) (hl : s.lUp = true) (hj : pageJrnl pg = true) (hd : bits v 0 1 ≠ s.rd (hdr Reg.pgEnable pg)) :
    (s.writeCtl pg v).evtSet pg 31 = true ∧ (s.writeCtl pg v).jrejDetail = pg * 4096 + 0x00C := by
  rw [writeCtl_jrnl hj, if_pos (by simp [hd])]
  exact ⟨(jrej_jrejAt (ctlCommit_inv hi) (ctlCommit_frame.1.trans hl)).evt, rfl⟩

theorem writeCtl_detail (hj : pageJrnl pg = true) (hsame : bits v 0 2 = s.rd (hdr Reg.pgEnable pg)) :
    (s.writeCtl pg v).jrejDetail = s.jrejDetail := by
  have hbit : s.rd (hdr Reg.pgEnable pg) < 2 := Nat.mod_lt _ Nat.two_pos
  rw [writeCtl_jrnl hj, if_neg]
  · exact ctlCommit_frame.2
  · simp only [bits, bitOf, Bool.or_eq_true, bne_iff_ne, beq_iff_eq] at hsame ⊢
    omega

/-! ### The statement (R52) -/

theorem lockKey_acc : ∀ f ∈ fieldsAt 0x000 0x044, f.acc ≠ .rwj := by decide

theorem heard_detail : (s.heard path).jrejDetail = s.jrejDetail := by rw [(heard_signals s path).1]

theorem heard_enable : (s.heard path).rd (hdr Reg.pgEnable pg) = s.rd (hdr Reg.pgEnable pg) := by
  unfold State.heard
  split
  · exact barWrite_header (hdr_before_evt (by decide))
  · rfl

/-- Settles O13. A write of GLB_LOCKKEY reaches no journaled field; every other write of a block register is taken apart by
`State.rejects`, and that of PG_CTL by `State.ctlCommit`. -/
theorem journaledFields : Obligations.JournaledFields := by
  unfold Obligations.JournaledFields
  intro s pg off path v hi hp hs hpg hlist hoff h4 u
  have hwrite := execRegisterWrite_page hp hs hpg hoff h4 v
  by_cases hk : (pg, off) = (0x000, 0x044)
  · obtain ⟨rfl, rfl⟩ := Prod.mk.inj hk
    have hkey : Unmarked 1 s (s.lockKey path.toNat v.toNat) := (Unmarked.refl s).lockKey
    refine ⟨_, hwrite, fun _ => ⟨fun f hf hj => absurd hj (lockKey_acc f hf), fun ⟨f, hf, hj, _⟩ => absurd hj (lockKey_acc f hf),
      fun _ => ⟨hkey.detail, hkey.evt hi.regs 0 (by decide)⟩, fun _ hne => absurd rfl hne⟩, fun h => absurd h (by decide)⟩
  have hu : u.Inv := heard_inv (path := path) hi
  have hl : u.lUp = true := (heard_lUp (path := path)).trans (lUp_of_serves hs)
  have hheard : Unmarked (pg + 1) s u := (Unmarked.refl s).heard (path := path)
  refine ⟨_, execRegisterWrite_listed hp hs hpg hoff h4 hk hlist v, fun hblock => ?_, fun hctl hj => ?_⟩
  · have hblk : (s.heard path).pageWrite pg off v.toNat = u.writeBlock pg off v.toNat := if_neg (by omega)
    rw [hblk]
    refine ⟨fun f hf hj => writeBlock_rd_rwj hpg hoff hf hj, fun hd => ?_, fun hsame => ?_, fun ha _ f hf hrw =>
      writeBlock_rd_rw hu hoff ha hf hrw⟩
    · obtain ⟨hevt, hdetail, hpend⟩ := writeBlock_jrejAt hu hl hpg (rwjDiffers_iff.mpr hd)
      exact ⟨hevt, hdetail, hpend⟩
    · have hd : u.rwjDiffers pg off v.toNat = false :=
        Bool.eq_false_iff.mpr fun hd => by
          obtain ⟨f, hf, hj, hne⟩ := rwjDiffers_iff.mp hd
          exact hne (hsame f hf hj)
      have hall := hheard.trans (writeBlock_unmarked hd)
      exact ⟨hall.detail, hall.evt hi.regs pg (by omega)⟩
  · subst hctl
    have hw : (s.heard path).pageWrite pg 0x00C v.toNat = u.writeCtl pg v.toNat := rfl
    have hen : u.rd (hdr Reg.pgEnable pg) = s.rd (hdr Reg.pgEnable pg) := heard_enable (path := path)
    rw [hw, ← hen]
    exact ⟨writeCtl_enable hj, writeCtl_jrej hu hl hj, fun h => (writeCtl_detail hj h).trans heard_detail⟩

end

end Sys2Proof.Machine

/-!
PROOFS. The command ring and the report ring (O27). First, what leaves the device: nothing that has left it is taken back; then
what a report and an acceptance leave; a NOP; the fetch of an entry; and the setting of RINGEN.
-/

namespace Sys2Proof.Machine

section

variable {old s t : State} {f : Fld} {ws : List Nat} {tw : Bool}

/-! ### What leaves the device -/

/-- What had left the device at `old` stands at the front of what has left it at `s`. -/
def OutGrows (old s : State) : Prop := old.out <+: s.out

theorem OutGrows.refl (s : State) : OutGrows s s := List.prefix_rfl

theorem OutGrows.same (h : OutGrows old s) (e : t.out = s.out := by rfl) : OutGrows old t := by
  unfold OutGrows
  rwa [e]

theorem OutGrows.ite {c : Prop} {_ : Decidable c} (hs : OutGrows old s) (ht : OutGrows old t) :
    OutGrows old (if c then s else t) := by
  split
  · exact hs
  · exact ht

theorem OutGrows.sendMsg {v : Nat} (h : OutGrows old s) : OutGrows old (s.sendMsg v) :=
  List.IsPrefix.trans h (List.prefix_append _ _)

theorem OutGrows.due {v : Nat} (h : OutGrows old s) : OutGrows old (s.due v) := .ite h.sendMsg h.same

theorem OutGrows.pend {n us : Nat} (h : OutGrows old s) : OutGrows old (s.pend n us) := by
  have hq : OutGrows old (s.queueEv n us) := .ite h.same h.same
  exact .ite h (.ite (OutGrows.same hq).due hq.same)

theorem OutGrows.setEvt {pg b n us : Nat} (h : OutGrows old s) : OutGrows old (s.setEvt pg b n us) := .ite h.same.pend h.same

theorem OutGrows.refused {len : Bool} (h : OutGrows old s) : OutGrows old (s.refused len) := .ite h.same h.same

theorem OutGrows.refuse {len : Bool} (h : OutGrows old s) : OutGrows old (s.refuse len) :=
  .ite h.refused.setEvt.refused h.refused.setEvt

theorem OutGrows.offer {o : Offer} (h : OutGrows old s) : OutGrows old (s.offer o) := .ite h (.ite h.refuse (.ite h.same h.refuse))

theorem OutGrows.raiseBit {pg b n : Nat} (h : OutGrows old s) : OutGrows old (s.raiseBit pg b n) :=
  .ite (.ite h.setEvt.offer h.setEvt) (.ite (.ite h.same h.same) h)

theorem OutGrows.raise {n : Nat} (h : OutGrows old s) : OutGrows old (s.raise n) := by
  unfold State.raise
  split
  · exact h.raiseBit
  · exact h

theorem OutGrows.ringFollow (h : OutGrows old s) : OutGrows old s.ringFollow := .ite (.ite h h.raise.same) h.same

/-! ### The level of the report ring (R89) -/

/-- RPTHELD changes no more than the signals, beside the mark that it has been raised. -/
theorem ringFollow_signals (s : State) : onlySignals { s with rptFull := s.ringFollow.rptFull } s.ringFollow [] := by
  unfold State.ringFollow
  split
  · split
    · exact onlySignals_refl s []
    · obtain ⟨hraise, hrd⟩ := raise_signals s 40 []
      exact ⟨by rw [hraise], hrd⟩
  · exact onlySignals_refl _ []

theorem ringFollow_rd (he : ¬ evtKey f.key) (hp : f.key / 131072 ≠ 0x0F8) : s.ringFollow.rd f = s.rd f :=
  (signals_rd (ringFollow_signals s) he hp).trans rfl

theorem ringFollow_repHeld : s.ringFollow.repHeld = s.repHeld := by rw [(ringFollow_signals s).1]

theorem ringFollow_pfwOn : s.ringFollow.pfwOn = s.pfwOn := by rw [(ringFollow_signals s).1]

theorem ringFollow_open (h : (s.rdB (cmd0F Reg.cmdCfgRingen 0) && s.repFull) = false) :
    s.ringFollow = { s with rptFull := false } :=
  if_neg (Bool.eq_false_iff.mp h)

/-! ### Fields of the rings that a report and an acceptance leave -/

/-- The settings of the rings and the indexes that the host or the fetch moves. -/
def ringFields : List Fld :=
  [cmdfF Reg.cmdRtailIdx 0, cmdfF Reg.cmdPheadIdx 0, cmd0F Reg.cmdRheadIdx 0, cmd0F Reg.cmdCfgRingen 0, cmd0F Reg.cmdRsizeSize 0]

theorem ringFields_quiet : ∀ f ∈ ringFields, quietKey f.key := by decide

theorem Spares.ringFollow (h : Spares ringFields old s) : Spares ringFields old s.ringFollow :=
  .ite (.ite h (h.raise ringFields_quiet).same) h.same

theorem Spares.writeRing {words : List Nat} (h : Spares ringFields old s) : Spares ringFields old (s.writeRing words) :=
  .ringFollow (.ite ((h.same.wr (by decide)).wr (by decide)) (h.same.wr (by decide)))

theorem Spares.report {w0 seq htag : Nat} (h : Spares ringFields old s) : Spares ringFields old (s.report tw w0 seq htag) :=
  .ite (.ite h.same h.same) (.ite (.ite h.same h.same) (.ite h.writeRing h.same))

theorem Spares.accept (h : Spares ringFields old s) : Spares ringFields old (s.accept ws tw) := by
  unfold State.accept
  extract_lets seq e t u v
  have ht : Spares ringFields old t := h.same
  have hv : Spares ringFields old v := .report ((ht.wr (by decide)).wr (by decide))
  exact .ite (hv.raise ringFields_quiet) hv

/-! ### A report in the ring (R88) -/

theorem writeRing_repHeld {words : List Nat} : (s.writeRing words).repHeld = s.repHeld := by
  refine ringFollow_repHeld.trans ?_
  split <;> rfl

theorem writeRing_pfwOn {words : List Nat} : (s.writeRing words).pfwOn = s.pfwOn := by
  refine ringFollow_pfwOn.trans ?_
  split <;> rfl

/-- The report stands at the end of what has left the device, before the messages of its events. -/
theorem writeRing_out {words : List Nat} : s.out ++ [.ringReport (s.repAddr (s.rd (cmd0F Reg.cmdPtailIdx 0)))
    (words.set 0 (nth words 0 + s.rd (cmd0F Reg.cmdPtailPhase 0) * 2147483648))] <+: (s.writeRing words).out :=
  OutGrows.ringFollow (.ite (OutGrows.refl (s.emit _)).same (OutGrows.refl (s.emit _)).same)

theorem drain_none (h : s.repHeld = []) : s.drain = s := by
  unfold State.drain State.ringDrain
  rw [h]

/-- The one report that is held leaves once the ring takes it (R89). -/
theorem drain_one {r : Report} (h : s.repHeld = [r]) (hd : r.doneSeq = none) (hr : s.redirect = false)
    (hready : s.ringReady = true) : s.drain = State.writeRing { s with repHeld := [] } r.words := by
  unfold State.drain
  rw [h]
  change State.ringDrain 2 s = _
  rw [State.ringDrain, h]
  dsimp only
  rw [if_pos (by rw [hready, Bool.or_true]), hd, if_neg (Bool.eq_false_iff.mp hr), State.ringDrain, writeRing_repHeld]

/-! ### An accepted NOP (R78, R80, R85) -/

/-- The fields that the checks of R80 look at. -/
def checkFields : List Fld :=
  [cmd1F Reg.cmdLastSeq 0, cmd1F Reg.cmdJstatJm0ok 0, cmd1F Reg.cmdJstatJm1ok 0, cmd1F Reg.cmdJstatJmsused 0,
    cmd1F Reg.cmdJstatRebuild 0, cmd1F Reg.cmdJstatMirrorlost 0]

/-- What the checks of R80 look at beside registers. -/
abbrev State.checkParts (s : State) := (s.mode, s.pfwOn, s.jnl, s.jInject)

/-- A state that shows the checks of R80 what `s` shows them lets the same commands pass. -/
theorem check_of_accepts {ap : JEntry → State → State} {bad : Nat} (ha : s.accepts ws tw bad) (hr : Spares checkFields s t)
    (hp : t.checkParts = s.checkParts) : State.check ap ws tw bad t = State.applyBy ap (nth ws 1) (t.accept ws tw) := by
  obtain ⟨-, hup, hpfw, hchk, hver, hseq, hfill, hreb, hlost, hbad⟩ := ha
  simp only [State.checkParts, Prod.mk.injEq] at hp
  obtain ⟨hmode, hpfw', hjnl, hinj⟩ := hp
  have hlast := hr (cmd1F Reg.cmdLastSeq 0) (by decide)
  have hlt : s.rd (cmd1F Reg.cmdLastSeq 0) < 2 ^ 32 := Nat.mod_lt _ (by decide)
  have hok (m : Nat) : t.macroOk m = s.macroOk m := by
    unfold State.macroOk State.rdB
    rw [hr (cmd1F Reg.cmdJstatJm0ok 0) (by decide), hr (cmd1F Reg.cmdJstatJm1ok 0) (by decide),
      hr (cmd1F Reg.cmdJstatJmsused 0) (by decide)]
  have hup' : t.lUp = true := by
    unfold State.lUp at hup ⊢
    rwa [hmode]
  have hfill' : t.jFill < 32768 := by
    unfold State.jFill at hfill ⊢
    rwa [hjnl]
  have hreb' : t.rebuilding = false := (rdB_of_rd (hr (cmd1F Reg.cmdJstatRebuild 0) (by decide))).trans hreb
  have hlost' : t.mirrorLost = false := (rdB_of_rd (hr (cmd1F Reg.cmdJstatMirrorlost 0) (by decide))).trans hlost
  have hbad' : t.macroBad bad = [] := by
    unfold State.macroBad State.macros at hbad ⊢
    simpa only [hok, hinj] using hbad
  have hnext : (nth ws 1 + 2 ^ 32 - s.rd (cmd1F Reg.cmdLastSeq 0)) % 2 ^ 32 = 1 := by omega
  unfold State.check
  dsimp only
  rw [if_neg (by simp [hup', hpfw', hpfw]), if_neg (by simp [hchk]), if_neg (by simp [hver]), hlast, hnext, if_neg (by decide),
    if_neg (by decide), if_neg (Nat.not_le.mpr hfill'), if_neg (by simp [hreb']), if_neg (by simp [hlost']), hbad']

/-- The journal holds the opcode of the command. -/
theorem journalWords_opc : bits (nth (journalWords ws) 0) 0 12 = bits (nth ws 0) 0 12 := by
  cases ws with
  | nil => rfl
  | cons w ws => simp [journalWords, nth, Nat.add_comm 4]

/-- The entry of a command that has been accepted and is being applied. -/
theorem accept_applied_jFind : ((s.accept ws tw).jMod (nth ws 1) fun e => { e with applied := true }).jFind (nth ws 1)
    = some { seq := nth ws 1, words := journalWords ws, twoWire := tw, applied := true, copies := s.copyMask } := by
  rw [jFind_jMod (g := fun e => { e with applied := true }) fun _ => rfl, accept_jFind]
  rfl

/-- A NOP is done at its application. -/
theorem applyBy_nop (h : bits (nth ws 0) 0 12 = 0) : State.applyBy State.applyCommand (nth ws 1) (s.accept ws tw)
    = ((s.accept ws tw).jMod (nth ws 1) fun e => { e with applied := true }).done (nth ws 1) := by
  have hopc (e : JEntry) (he : e.words = journalWords ws) : e.opc = 0 := by
    rw [JEntry.opc, he, journalWords_opc, h]
  unfold State.applyBy
  dsimp only
  rw [accept_applied_jFind]
  dsimp only
  unfold State.supersede State.applyCommand
  rw [hopc _ rfl]
  rfl

theorem applyBy_nop_statusOf (h : bits (nth ws 0) 0 12 = 0) :
    (State.applyBy State.applyCommand (nth ws 1) (s.accept ws tw)).statusOf (nth ws 1) = some (0, 0) := by
  rw [applyBy_nop h]
  exact done_statusOf accept_applied_jFind rfl

theorem applyBy_nop_rd (h : bits (nth ws 0) 0 12 = 0) :
    (State.applyBy State.applyCommand (nth ws 1) (s.accept ws tw)).rd f = (s.accept ws tw).rd f := by
  rw [applyBy_nop h]
  exact done_rd accept_applied_jFind rfl

/-! ### The fetch (R88) -/

theorem ringSize_bounds (s : State) : 64 ≤ s.ringSize ∧ s.ringSize ≤ 4096 := by
  have h : 2 ^ min 6 (s.rd (cmd0F Reg.cmdRsizeSize 0)) ≤ 2 ^ 6 := Nat.pow_le_pow_right (by decide) (Nat.min_le_left _ _)
  have := Nat.one_le_two_pow (n := min 6 (s.rd (cmd0F Reg.cmdRsizeSize 0)))
  unfold State.ringSize
  omega

theorem ringSize_congr (h : t.rd (cmd0F Reg.cmdRsizeSize 0) = s.rd (cmd0F Reg.cmdRsizeSize 0)) : t.ringSize = s.ringSize :=
  congrArg (fun n => 64 * 2 ^ min 6 n) h

theorem fetch_idle {n bad : Nat} (h : s.fetching = false) : State.fetch n bad s = s := by
  cases n with
  | zero => rfl
  | succ n =>
    rw [State.fetch, if_neg (Bool.eq_false_iff.mp h)]

theorem fetching_disabled (h : s.rdB (cmd0F Reg.cmdCfgRingen 0) = false) : s.fetching = false := by simp [State.fetching, h]

theorem fetching_pfwOn (h : s.pfwOn = true) : s.fetching = false := by simp [State.fetching, h]

theorem fetching_caughtUp (h : s.rd (cmd0F Reg.cmdRheadIdx 0) = s.rd (cmdfF Reg.cmdRtailIdx 0) % s.ringSize) :
    s.fetching = false := by
  simp [State.fetching, h]

/-- A check that leaves the indexes of the host ring, on an entry after which CMD_RHEAD meets CMD_RTAIL, ends the fetch. -/
theorem fetchAll_one {bad i : Nat} (hi : s.Inv) (hf : s.fetching = true) (hhead : s.rd (cmd0F Reg.cmdRheadIdx 0) = i)
    (hentry : s.ringEntry i = (ws, s)) (htail : s.rd (cmdfF Reg.cmdRtailIdx 0) = (i + 1) % s.ringSize)
    (hc : State.check State.applyCommand ws false bad s = t) (hs : Spares ringFields s t) :
    s.fetchAll bad = t.wr (cmd0F Reg.cmdRheadIdx 0) ((i + 1) % s.ringSize)
      ∧ (s.fetchAll bad).rd (cmd0F Reg.cmdRheadIdx 0) = (i + 1) % s.ringSize := by
  obtain ⟨hlow, hhigh⟩ := ringSize_bounds s
  have hlt : (i + 1) % s.ringSize < s.ringSize := Nat.mod_lt _ (by omega)
  have ht : t.Inv := hc ▸ ((Keeps.refl s).check fun ho _ _ h => h.applyCommand ho).inv hi
  have hhead' : (t.wr (cmd0F Reg.cmdRheadIdx 0) ((i + 1) % s.ringSize)).rd (cmd0F Reg.cmdRheadIdx 0) = (i + 1) % s.ringSize :=
    (State.rd_wr_self ht.regs _ _).trans (Nat.mod_eq_of_lt (hlt.trans_le hhigh))
  have hidle : (t.wr (cmd0F Reg.cmdRheadIdx 0) ((i + 1) % s.ringSize)).fetching = false := by
    refine fetching_caughtUp (hhead'.trans ?_)
    rw [ringSize_congr ((State.rd_wr_ne (by decide) _).trans (hs _ (by decide))), State.rd_wr_ne (by decide), hs _ (by decide),
      htail]
    exact (Nat.mod_mod _ _).symm
  have hall : s.fetchAll bad = t.wr (cmd0F Reg.cmdRheadIdx 0) ((i + 1) % s.ringSize) := by
    change State.fetch (4095 + 1) bad s = _
    rw [State.fetch, if_pos hf]
    dsimp only
    rw [hhead, hentry]
    dsimp only
    rw [hc, fetch_idle hidle]
  exact ⟨hall, hall ▸ hhead'⟩

/-- The entries of the host's memory with one placed at an address, in place of what stood there. -/
def placedAt (l : List (Nat × List Nat)) (a : Nat) (ws : List Nat) : List (Nat × List Nat) :=
  (l.filter fun p => !([(a, ws)].any fun q => q.1 == p.1)) ++ [(a, ws)]

theorem find?_placedAt (l : List (Nat × List Nat)) (a : Nat) : (placedAt l a ws).find? (fun p => p.1 == a) = some (a, ws) := by
  have hnone : (l.filter fun p => !([(a, ws)].any fun q => q.1 == p.1)).find? (fun p => p.1 == a) = none := by
    refine List.find?_eq_none.mpr fun p hp he => ?_
    simp [beq_iff_eq.mp he] at hp
  rw [placedAt, List.find?_append, hnone]
  simp

/-- The host places a command at entry `i` of the ring and sets CMD_RTAIL. -/
def State.placed (s : State) (i : Nat) (ws : List Nat) (idx : Nat) : State :=
  State.wr { s with hostRing := placedAt s.hostRing (s.ringAddr i) ws } (cmdfF Reg.cmdRtailIdx 0) idx

section

variable {i idx : Nat}

theorem execCmdRtailWrite_placed {ws : List Word} {idx : BitVec 12} {bad : BitVec 3} (hb : s.barOn = true) (hi : i < 4096) :
    exec (.cmdRtailWrite idx [(BitVec.ofNat 12 i, ws)] bad) s
      = .next ((s.placed i (ws.map (·.toNat)) idx.toNat).fetchAll bad.toNat) := by
  have hn : (BitVec.ofNat 12 i).toNat = i := Nat.mod_eq_of_lt hi
  change execCmdRtailWrite idx [(BitVec.ofNat 12 i, ws)] bad s = _
  unfold execCmdRtailWrite
  rw [if_neg (by simp [hb])]
  simp only [List.map_cons, List.map_nil, hn]
  rfl

theorem placed_inv (hi : s.Inv) : (s.placed i ws idx).Inv := ((Keeps.refl s).same.wr).inv hi

theorem placed_rd (h : f.key ≠ (cmdfF Reg.cmdRtailIdx 0).key) : (s.placed i ws idx).rd f = s.rd f := State.rd_wr_ne h idx

theorem placed_tail (hi : s.Inv) (h : idx < 4096) : (s.placed i ws idx).rd (cmdfF Reg.cmdRtailIdx 0) = idx :=
  (State.rd_wr_self hi.regs _ _).trans (Nat.mod_eq_of_lt h)

theorem placed_ringSize : (s.placed i ws idx).ringSize = s.ringSize := ringSize_congr (placed_rd (by decide))

/-- What the host has just placed is what is fetched. -/
theorem placed_ringEntry (hlen : ws.length = 16) : (s.placed i ws idx).ringEntry i = (ws, s.placed i ws idx) := by
  have haddr : (s.placed i ws idx).ringAddr i = s.ringAddr i := by
    unfold State.ringAddr
    rw [placed_rd (by decide), placed_rd (by decide)]
  have hfind : (s.placed i ws idx).hostRing.find? (fun p => p.1 == s.ringAddr i) = some (s.ringAddr i, ws) := find?_placedAt _ _
  unfold State.ringEntry
  rw [haddr, hfind]
  simp [← hlen]

theorem placed_fetching (hup : s.lUp = true) (hpfw : s.pfwOn = false) (hr : s.ringReady = true) (hd : s.redirect = false)
    (hh : s.repHeld = []) (hne : (s.placed i ws idx).rd (cmd0F Reg.cmdRheadIdx 0)
      ≠ (s.placed i ws idx).rd (cmdfF Reg.cmdRtailIdx 0) % (s.placed i ws idx).ringSize) :
    (s.placed i ws idx).fetching = true := by
  obtain ⟨hen, hroom⟩ := Bool.and_eq_true_iff.mp hr
  have hen' : (s.placed i ws idx).rdB (cmd0F Reg.cmdCfgRingen 0) = true := (rdB_of_rd (placed_rd (by decide))).trans hen
  have hroom' : (s.placed i ws idx).repFull = s.repFull := by
    unfold State.repFull State.repSize
    rw [placed_rd (by decide), placed_rd (by decide), placed_rd (by decide)]
  change (s.lUp && _ && !s.redirect && !s.pfwOn && !_ && s.repHeld.isEmpty && _) = true
  rw [hup, hen', hd, hpfw, hroom', hh]
  simpa [hne] using hroom

/-- The checks of R80 let the placed command pass as they did before, and a NOP is done. -/
theorem placed_check {bad : Nat} (ha : s.accepts ws false bad) : State.check State.applyCommand ws false bad (s.placed i ws idx)
    = State.applyBy State.applyCommand (nth ws 1) ((s.placed i ws idx).accept ws false) :=
  check_of_accepts ha ((Spares.refl s).same.wr (by decide)) rfl

/-- The ring of the host holds one more NOP, which is fetched and done (R88). -/
theorem execCmdRtailWrite_nop {ws : List Word} {idx : BitVec 12} {bad : BitVec 3} (hi : s.Inv) (hb : s.barOn = true)
    (hr : s.ringReady = true) (hd : s.redirect = false) (hh : s.repHeld = []) (hhead : s.rd (cmd0F Reg.cmdRheadIdx 0) = i)
    (hlt : i < s.ringSize) (hidx : idx.toNat = (i + 1) % s.ringSize) (hlen : ws.length = 16)
    (hopc : bits (nth (ws.map (·.toNat)) 0) 0 12 = 0) (ha : s.accepts (ws.map (·.toNat)) false bad.toNat) :
    ∃ t, exec (.cmdRtailWrite idx [(BitVec.ofNat 12 i, ws)] bad) s = .next t
      ∧ t.rd (cmdfF Reg.cmdRtailIdx 0) = idx.toNat ∧ t.rd (cmd0F Reg.cmdRheadIdx 0) = idx.toNat
      ∧ t.statusOf (nth (ws.map (·.toNat)) 1) = some (0, 0) := by
  obtain ⟨hlow, hhigh⟩ := ringSize_bounds s
  have ⟨_, hup, hpfw, _⟩ := ha
  refine ⟨_, execCmdRtailWrite_placed hb (hlt.trans_le hhigh), ?_⟩
  have hlen' : (ws.map (·.toNat)).length = 16 := (List.length_map _).trans hlen
  generalize ws.map (·.toNat) = ws at hopc ha hlen' ⊢
  have hne : (i + 1) % s.ringSize ≠ i := by
    rcases Nat.lt_or_ge (i + 1) s.ringSize with h | h
    · rw [Nat.mod_eq_of_lt h]
      omega
    · rw [show i + 1 = s.ringSize by omega, Nat.mod_self]
      omega
  have htail : (s.placed i ws idx.toNat).rd (cmdfF Reg.cmdRtailIdx 0) = (i + 1) % s.ringSize := hidx ▸ placed_tail hi idx.isLt
  have hhead' : (s.placed i ws idx.toNat).rd (cmd0F Reg.cmdRheadIdx 0) = i := (placed_rd (by decide)).trans hhead
  have hf : (s.placed i ws idx.toNat).fetching = true := by
    refine placed_fetching hup hpfw hr hd hh ?_
    rw [hhead', htail, placed_ringSize, Nat.mod_mod]
    exact hne.symm
  have hspare : Spares ringFields (s.placed i ws idx.toNat)
      (State.applyBy State.applyCommand (nth ws 1) ((s.placed i ws idx.toNat).accept ws false)) :=
    fun g hg => (applyBy_nop_rd hopc).trans ((Spares.refl _).accept g hg)
  obtain ⟨hall, hrhead⟩ := fetchAll_one (placed_inv hi) hf hhead' (placed_ringEntry hlen')
    (htail.trans (by rw [placed_ringSize])) (placed_check ha) hspare
  rw [placed_ringSize] at hall hrhead
  refine ⟨?_, hrhead.trans hidx.symm, ?_⟩
  · rw [hall, State.rd_wr_ne (by decide), hspare _ (by decide), htail, hidx]
  · rw [hall]
    exact applyBy_nop_statusOf hopc

end

/-! ### The indexes of the host while the rings are off (R88, R89) -/

/-- With RINGEN = 0 nothing is fetched (R88). -/
theorem execCmdRtailWrite_disabled {idx : BitVec 12} {es : List (BitVec 12 × List Word)} {bad : BitVec 3} (hi : s.Inv)
    (hb : s.barOn = true) (hen : s.rdB (cmd0F Reg.cmdCfgRingen 0) = false) :
    ∃ t, exec (.cmdRtailWrite idx es bad) s = .next t ∧ t.rd (cmdfF Reg.cmdRtailIdx 0) = idx.toNat
      ∧ t = { s with regs := t.regs, hostRing := t.hostRing } ∧ regsBut s t [cmdfF Reg.cmdRtailIdx 0] := by
  refine ⟨_, (if_neg (by simp [hb])).trans (congrArg Host.Outcome.next (fetch_idle (fetching_disabled ?_))), ?_, rfl, ?_⟩
  · exact (rdB_of_rd (State.rd_wr_ne (by decide) _)).trans hen
  · exact (State.rd_wr_self hi.regs _ _).trans (Nat.mod_eq_of_lt idx.isLt)
  · exact regsBut_wr (fun _ _ => rfl) (List.mem_singleton_self _)

/-- With RINGEN = 0 and no report held, the rings stand still. -/
theorem follow_disabled {bad : Nat} (hh : s.repHeld = []) (hen : s.rdB (cmd0F Reg.cmdCfgRingen 0) = false) :
    s.ringFollow.drain.fetchAll bad = { s with rptFull := false } := by
  have hdrain : State.drain { s with rptFull := false } = { s with rptFull := false } := drain_none hh
  rw [ringFollow_open (by rw [hen, Bool.false_and]), hdrain]
  exact fetch_idle (fetching_disabled hen)

theorem execCmdPheadWrite_served {idx : BitVec 12} {bad : BitVec 3} (hb : s.barOn = true) : exec (.cmdPheadWrite idx bad) s
    = .next ((s.wr (cmdfF Reg.cmdPheadIdx 0) idx.toNat).ringFollow.drain.fetchAll bad.toNat) :=
  congrArg Host.Outcome.next (if_pos hb)

theorem wrPhead_rd {idx : BitVec 12} (hi : s.Inv) :
    (s.wr (cmdfF Reg.cmdPheadIdx 0) idx.toNat).rd (cmdfF Reg.cmdPheadIdx 0) = idx.toNat :=
  (State.rd_wr_self hi.regs _ _).trans (Nat.mod_eq_of_lt idx.isLt)

/-- With RINGEN = 0 and no report held, CMD_PHEAD moves alone. -/
theorem execCmdPheadWrite_disabled {idx : BitVec 12} {bad : BitVec 3} (hi : s.Inv) (hb : s.barOn = true) (hh : s.repHeld = [])
    (hen : s.rdB (cmd0F Reg.cmdCfgRingen 0) = false) :
    ∃ t, exec (.cmdPheadWrite idx bad) s = .next t ∧ t.rd (cmdfF Reg.cmdPheadIdx 0) = idx.toNat
      ∧ t = { s with regs := t.regs, rptFull := false } ∧ regsBut s t [cmdfF Reg.cmdPheadIdx 0] := by
  have hen' : (s.wr (cmdfF Reg.cmdPheadIdx 0) idx.toNat).rdB (cmd0F Reg.cmdCfgRingen 0) = false :=
    (rdB_of_rd (State.rd_wr_ne (by decide) _)).trans hen
  exact ⟨_, (execCmdPheadWrite_served hb).trans (congrArg _ (follow_disabled hh hen')), wrPhead_rd hi, rfl,
    regsBut_wr (fun _ _ => rfl) (List.mem_singleton_self (cmdfF Reg.cmdPheadIdx 0))⟩

/-! ### A held report leaves (R89) -/

/-- The report ring takes a report again, and the one that is held leaves; a power-fail warning keeps the fetch still (R537). -/
theorem execCmdPheadWrite_held {idx : BitVec 12} {bad : BitVec 3} {r : Report} (hi : s.Inv) (hb : s.barOn = true)
    (hh : s.repHeld = [r]) (hdone : r.doneSeq = none) (hd : s.redirect = false) (hen : s.rdB (cmd0F Reg.cmdCfgRingen 0) = true)
    (hpfw : s.pfwOn = true) (hroom : (s.rd (cmd0F Reg.cmdPtailIdx 0) + 1) % s.repSize ≠ idx.toNat % s.repSize) :
    ∃ t, exec (.cmdPheadWrite idx bad) s = .next t ∧ t.rd (cmdfF Reg.cmdPheadIdx 0) = idx.toNat ∧ t.repHeld = []
      ∧ s.out ++ [.ringReport (s.repAddr (s.rd (cmd0F Reg.cmdPtailIdx 0)))
          (r.words.set 0 (nth r.words 0 + s.rd (cmd0F Reg.cmdPtailPhase 0) * 2147483648))] <+: t.out := by
  have hrd (f : Fld) (hf : f.key ≠ (cmdfF Reg.cmdPheadIdx 0).key) : (s.wr (cmdfF Reg.cmdPheadIdx 0) idx.toNat).rd f = s.rd f :=
    State.rd_wr_ne hf _
  have hfull : (s.wr (cmdfF Reg.cmdPheadIdx 0) idx.toNat).repFull = false := by
    unfold State.repFull State.repSize
    rw [hrd _ (by decide), hrd _ (by decide), wrPhead_rd hi]
    exact beq_false_of_ne hroom
  have hready : (s.wr (cmdfF Reg.cmdPheadIdx 0) idx.toNat).ringReady = true := by
    rw [State.ringReady, rdB_of_rd (hrd _ (by decide)), hfull, Bool.not_false, Bool.and_true]
    exact hen
  let x : State := { s.wr (cmdfF Reg.cmdPheadIdx 0) idx.toNat with rptFull := false, repHeld := [] }
  have hdrain : (s.wr (cmdfF Reg.cmdPheadIdx 0) idx.toNat).ringFollow.drain = x.writeRing r.words := by
    rw [ringFollow_open (by rw [hfull, Bool.and_false])]
    exact drain_one hh hdone hd hready
  have hx (f : Fld) (hf : f.key ≠ (cmdfF Reg.cmdPheadIdx 0).key) : x.rd f = s.rd f := hrd f hf
  have hphead : x.rd (cmdfF Reg.cmdPheadIdx 0) = idx.toNat := wrPhead_rd hi
  have hout : x.out ++ [_] <+: (x.writeRing r.words).out := writeRing_out
  rw [State.repAddr, hx _ (by decide), hx _ (by decide), hx _ (by decide), hx _ (by decide)] at hout
  refine ⟨x.writeRing r.words, ?_, ?_, writeRing_repHeld, hout⟩
  · rw [execCmdPheadWrite_served hb, hdrain]
    exact congrArg _ (fetch_idle (fetching_pfwOn (writeRing_pfwOn.trans hpfw)))
  · exact ((Spares.refl x).writeRing _ (by decide)).trans hphead

/-! ### RINGEN is set (R88) -/

/-- CMD_CFG is written, and the indexes of both rings return to their start. -/
def State.ringStart (s : State) (v : Nat) : State :=
  let a := ((s.wr (cmd0F Reg.cmdCfgRingen 0) (bits v 0 1)).wr (cmd0F Reg.cmdCfgTwen 0) (bits v 1 1)).wr
    (cmd0F Reg.cmdCfgMirror 0) (bits v 2 1)
  ((a.wr (cmd0F Reg.cmdRheadIdx 0) 0).wr (cmd0F Reg.cmdPtailIdx 0) 0).wr (cmd0F Reg.cmdPtailPhase 0) 1

theorem cmdCfg_starts {v : Nat} (hv : bitOf v 0 = true) (hen : s.rdB (cmd0F Reg.cmdCfgRingen 0) = false) :
    s.cmdCfg v = (s.ringStart v).ringFollow.drain.fetchAll 0 := if_pos (by rw [hv, hen]; rfl)

section

variable {v : Nat}

theorem ringStart_repHeld : (s.ringStart v).repHeld = s.repHeld := rfl

theorem ringStart_tail : (s.ringStart v).rd (cmdfF Reg.cmdRtailIdx 0) = s.rd (cmdfF Reg.cmdRtailIdx 0) := by
  simp (disch := decide) only [State.ringStart, State.rd_wr_ne]

theorem ringStart_ringSize : (s.ringStart v).ringSize = s.ringSize :=
  ringSize_congr (by simp (disch := decide) only [State.ringStart, State.rd_wr_ne])

theorem ringStart_ringen (hi : s.Inv) : (s.ringStart v).rd (cmd0F Reg.cmdCfgRingen 0) = bits v 0 1 := by
  simp (disch := decide) only [State.ringStart, State.rd_wr_ne]
  exact (State.rd_wr_self hi.regs _ _).trans (Nat.mod_mod _ _)

theorem ringStart_head (hi : s.Inv) : (s.ringStart v).rd (cmd0F Reg.cmdRheadIdx 0) = 0 := by
  simp (disch := decide) only [State.ringStart, State.rd_wr_ne]
  exact State.rd_wr_self (wr_inv (wr_inv (wr_inv hi _ _) _ _) _ _).regs _ 0

theorem ringStart_ptail (hi : s.Inv) : (s.ringStart v).rd (cmd0F Reg.cmdPtailIdx 0) = 0 := by
  simp (disch := decide) only [State.ringStart, State.rd_wr_ne]
  exact State.rd_wr_self (wr_inv (wr_inv (wr_inv (wr_inv hi _ _) _ _) _ _) _ _).regs _ 0

theorem ringStart_phase (hi : s.Inv) : (s.ringStart v).rd (cmd0F Reg.cmdPtailPhase 0) = 1 := by
  unfold State.ringStart
  exact State.rd_wr_self (wr_inv (wr_inv (wr_inv (wr_inv (wr_inv hi _ _) _ _) _ _) _ _) _ _).regs _ 1

end

/-- Setting RINGEN starts both rings at their first entry, and the first pass of the report ring has PHASE 1 (R88). -/
theorem execRingenSet_starts {v : Word} (hi : s.Inv) (hup : s.lUp = true) (hen : s.rdB (cmd0F Reg.cmdCfgRingen 0) = false)
    (htail : s.rd (cmdfF Reg.cmdRtailIdx 0) % s.ringSize = 0) (hh : s.repHeld = []) :
    ∃ t, exec (.ringenSet v) s = .next t ∧ t.rd (cmd0F Reg.cmdCfgRingen 0) = 1 ∧ t.rd (cmd0F Reg.cmdRheadIdx 0) = 0
      ∧ t.rd (cmd0F Reg.cmdPtailIdx 0) = 0 ∧ t.rd (cmd0F Reg.cmdPtailPhase 0) = 1 := by
  have hexec : exec (.ringenSet v) s = .next (s.barWrite.cmdCfg (setBit v.toNat 0)) := congrArg Host.Outcome.next (if_pos hup)
  have hbit : bitOf (setBit v.toNat 0) 0 = true := bitOf_setBit_self _ 0
  have hone : bits (setBit v.toNat 0) 0 1 = 1 := beq_iff_eq.mp hbit
  generalize setBit v.toNat 0 = w at hexec hbit hone
  have hbi : s.barWrite.Inv := barWrite_inv hi
  have hbrd (f : Fld) (he : f.key % 131072 / 32 ≠ 0x014) (hk : ∀ g ∈ signalFields ++ lockstatFields, f.key ≠ g.key) :
    s.barWrite.rd f = s.rd f := (barWrite_signals s).2 f he hk
  have hben : s.barWrite.rdB (cmd0F Reg.cmdCfgRingen 0) = false := (rdB_of_rd (hbrd _ (by decide) (by decide))).trans hen
  have hbheld : (s.barWrite.ringStart w).ringFollow.repHeld = [] := by
    rw [ringFollow_repHeld, ringStart_repHeld, (barWrite_signals s).1, hh]
  have hrd (f : Fld) (he : f.key % 131072 / 32 ≠ 0x014) (hp : f.key / 131072 ≠ 0x0F8) :
    (s.barWrite.ringStart w).ringFollow.rd f = (s.barWrite.ringStart w).rd f := ringFollow_rd he hp
  have hhead := (hrd (cmd0F Reg.cmdRheadIdx 0) (by decide) (by decide)).trans (ringStart_head hbi)
  have hidle : (s.barWrite.ringStart w).ringFollow.fetching = false := by
    refine fetching_caughtUp (hhead.trans ?_)
    rw [hrd (cmdfF Reg.cmdRtailIdx 0) (by decide) (by decide), ringStart_tail, hbrd _ (by decide) (by decide),
      ringSize_congr (hrd _ (by decide) (by decide)), ringStart_ringSize, ringSize_congr (hbrd _ (by decide) (by decide)), htail]
  refine ⟨(s.barWrite.ringStart w).ringFollow, ?_, ?_, hhead, ?_, ?_⟩
  · rw [hexec, cmdCfg_starts hbit hben, drain_none hbheld, State.fetchAll, fetch_idle hidle]
  · exact (hrd _ (by decide) (by decide)).trans ((ringStart_ringen hbi).trans hone)
  · exact (hrd _ (by decide) (by decide)).trans (ringStart_ptail hbi)
  · exact (hrd _ (by decide) (by decide)).trans (ringStart_phase hbi)

end

/-- Settles O27: the five commands of the rings, each by the lemma about it. -/
theorem ringCommands : Obligations.RingCommands := by
  unfold Obligations.RingCommands
  intro s hi hb
  have hup : s.lUp = true := lUp_of_serves (path := 0) hb
  refine ⟨fun idx es bad hen => ?_, fun i ws idx bad hr hd hh hhead hlt hidx hlen hopc ha => ?_, fun idx bad hh hen => ?_,
    fun r hh idx bad hdone hd hen hpfw hroom => ?_, fun v hen htail hh => ?_⟩
  · exact execCmdRtailWrite_disabled hi hb hen
  · exact execCmdRtailWrite_nop hi hb hr hd hh hhead hlt hidx hlen hopc ha
  · exact execCmdPheadWrite_disabled hi hb hh hen
  · exact execCmdPheadWrite_held hi hb hh hdone hd hen hpfw hroom
  · exact execRingenSet_starts hi hup hen htail hh

end Sys2Proof.Machine

/-!
PROOFS. The done bounds (O28). CMD_NFAIL counts in 32 bits (Table 4.7), and the statement asks for a count that saturates in 16.
-/

namespace Sys2Proof.Machine

section

variable {s : State} {e : JEntry} {seq reason : Nat}

/-! ### A command that its done bound fails (R87) -/

theorem sat_mod (w v : Nat) : sat w v % 2 ^ w = sat w v :=
  Nat.mod_eq_of_lt ((Nat.min_le_right _ _).trans_lt (Nat.sub_lt (Nat.two_pow_pos w) Nat.one_pos))

/-- A FAILED completion is counted in the 32 bits of CMD_NFAIL (Table 4.7). -/
theorem setStatus_failed_count (hi : s.Inv) : (s.setStatus seq 3 reason).rd (cmd2F Reg.cmdNfailCnt 0)
    = sat 32 (s.rd (cmd2F Reg.cmdNfailCnt 0) + 1) := by
  unfold State.setStatus
  dsimp only
  rw [if_neg (by decide), if_pos rfl, raise_rd (by unfold evtKey; decide) (by decide)]
  exact (State.rd_wr_self hi.regs _ _).trans (sat_mod 32 _)

/-- The new nonce of a GAL_CLEAR that fails is on another page. -/
theorem boundFail_count (hi : s.Inv) :
    (s.boundFail e).rd (cmd2F Reg.cmdNfailCnt 0) = sat 32 (s.rd (cmd2F Reg.cmdNfailCnt 0) + 1) := by
  unfold State.boundFail
  dsimp only
  split
  · exact (State.rd_wr_ne (by decide) _).trans (setStatus_failed_count hi)
  · exact setStatus_failed_count hi

theorem execDoneBoundExpiry_fails {seq : Word} (hl : s.lUp = true) (hf : s.jFind seq.toNat = some e) (ha : e.applied = true)
    (hs : e.status = none) (hb : s.boundStands e = false) : exec (.doneBoundExpiry seq) s = .next (s.boundFail e) := by
  change execDoneBoundExpiry seq s = _
  unfold execDoneBoundExpiry
  rw [hf]
  exact congrArg _ (if_pos (by rw [hl, ha, hs, hb]; rfl))

/-! ### A count past 16 bits (O28) -/

/-- A device in RUN that has counted 65,535 FAILED completions, with one more command applied and not done. -/
def failsCounted : State := State.wrAll { mode := .run, jnl := [{ seq := 41, applied := true }] } [(cmd2F Reg.cmdNfailCnt 0, 65535)]

theorem failsCounted_inv : failsCounted.Inv := wrAll_inv ⟨rfl, rfl, rfl, by decide, by decide, by decide, by decide⟩ _

end

/-- Refutes O28, in its clause on DONE_BOUND_EXPIRY: on `failsCounted` the count goes on to 65,536, where the clause asks that it
stay at 65,535, the greatest count of 16 bits. -/
theorem not_reportCommands : ¬ Obligations.ReportCommands := by
  unfold Obligations.ReportCommands
  intro h
  obtain ⟨-, hbound, -⟩ := h failsCounted failsCounted_inv rfl
  obtain ⟨t, ht, -, hcount, -⟩ := hbound 41 { seq := 41, applied := true } rfl rfl rfl rfl
  have hsixteen : t.rd (cmd2F Reg.cmdNfailCnt 0) = 65535 := hcount.trans (by decide)
  have hmore : t.rd (cmd2F Reg.cmdNfailCnt 0) = 65536 := by
    rw [execDoneBoundExpiry_fails rfl rfl rfl rfl rfl] at ht
    cases ht
    exact (boundFail_count failsCounted_inv).trans (by decide)
  omega

end Sys2Proof.Machine

/-!
PROOFS. What is done away from the bays. A step between two states leaves every bay as it was (`BaysStand`): the registers of the bay
pages but for events that rise, what a bay holds beside them, and the tokens under way. One lemma for each function that the events and
commands of the bays call.
-/

namespace Sys2Proof.Machine

section

variable {old s t : State} {f : Fld} {n seq code reason : Nat}

/-! ### Events that rise (R67) -/

theorem Raised.islPush {k : Tok} (h : Raised old s) : Raised old (s.islPush k) := by
  refine h.same (fun hi => islPush_inv hi k) ?_ ?_ <;> (unfold State.islPush; split <;> rfl)

theorem Raised.raise (h : Raised old s) : Raised old (s.raise n) := by
  unfold State.raise
  split
  · exact .ite (.ite h.setEvt.offer h.setEvt) (.ite h.islPush h)
  · exact h

theorem pend_tokenQ {us : Nat} : (s.pend n us).tokenQ = s.tokenQ := by
  unfold State.pend State.due State.queueEv
  dsimp only
  split_ifs <;> rfl

theorem setEvt_tokenQ {pg b us : Nat} : (s.setEvt pg b n us).tokenQ = s.tokenQ := by
  unfold State.setEvt
  dsimp only
  split
  · exact pend_tokenQ
  · rfl

theorem refuse_tokenQ {len : Bool} : (s.refuse len).tokenQ = s.tokenQ := by
  have hr (t : State) (l : Bool) : (t.refused l).tokenQ = t.tokenQ := by cases l <;> rfl
  unfold State.refuse
  dsimp only
  split
  · exact (hr _ _).trans (setEvt_tokenQ.trans (hr s len))
  · exact setEvt_tokenQ.trans (hr s len)

theorem offer_tokenQ {o : Offer} : (s.offer o).tokenQ = s.tokenQ := by
  unfold State.offer
  split_ifs
  · rfl
  · exact refuse_tokenQ
  · rfl
  · exact refuse_tokenQ

/-- An event sends no token. -/
theorem raise_tokenQ : (s.raise n).tokenQ = s.tokenQ := by
  unfold State.raise
  split
  · unfold State.raiseBit
    dsimp only
    split_ifs
    · exact offer_tokenQ.trans setEvt_tokenQ
    · exact setEvt_tokenQ
    · unfold State.islPush
      split <;> rfl
    · rfl
  · rfl

/-! ### Steps away from the bays -/

/-- A field on none of the bay pages. -/
abbrev offBays (f : Fld) : Prop := f.key / 131072 < 0x010 ∨ 0x040 ≤ f.key / 131072

/-- The parts of the state beside the registers and the token queue that `BaysStand` speaks of. -/
abbrev State.bayParts (s : State) := (s.bay, s.act, s.mode)

/-- Between `old` and `s` the bays stand: every field of their pages but their events, what they hold beside it, the active values and
the device state. No event of theirs has been cleared, and no token taken. -/
structure BaysStand (old s : State) : Prop where
  inv : old.Inv → s.Inv
  regs : Leaves 0x010 0x040 old s
  events : old.Inv → ∀ pg, 0x010 ≤ pg ∧ pg < 0x040 → ∀ b, old.evtSet pg b = true → s.evtSet pg b = true
  tokens : ∀ k ∈ old.tokenQ, k ∈ s.tokenQ
  parts : s.bayParts = old.bayParts

theorem BaysStand.refl (s : State) : BaysStand s s := ⟨id, .refl s, fun _ _ _ _ => id, fun _ => id, rfl⟩

theorem BaysStand.trans (h : BaysStand old s) (k : BaysStand s t) : BaysStand old t where
  inv := k.inv ∘ h.inv
  regs f hf := (k.regs f hf).trans (h.regs f hf)
  events ho pg hp b hb := k.events (h.inv ho) pg hp b (h.events ho pg hp b hb)
  tokens x hx := k.tokens x (h.tokens x hx)
  parts := k.parts.trans h.parts

theorem BaysStand.ite {c : Prop} {_ : Decidable c} (hs : BaysStand old s) (ht : BaysStand old t) :
    BaysStand old (if c then s else t) := by
  split
  · exact hs
  · exact ht

theorem BaysStand.foldl {α : Type} {g : State → α → State} {l : List α} (h : BaysStand old s)
    (hg : ∀ t x, BaysStand old t → BaysStand old (g t x)) : BaysStand old (l.foldl g s) :=
  List.foldlRecOn l g h fun t ht x _ => hg t x ht

/-- A change that the bays do not see. -/
theorem BaysStand.upd (h : BaysStand old s) (hi : s.Inv → t.Inv)
    (e : (t.regs, t.tokenQ, t.bayParts) = (s.regs, s.tokenQ, s.bayParts) := by with_reducible rfl) : BaysStand old t := by
  obtain ⟨hregs, hrest⟩ := Prod.mk.inj e
  obtain ⟨htok, hparts⟩ := Prod.mk.inj hrest
  refine h.trans ⟨hi, (Leaves.refl s).same hregs, fun _ pg _ b hb => ?_, fun k hk => htok ▸ hk, hparts⟩
  exact (congrArg (bitOf · b) (rd_of_regs hregs)).trans hb

/-- A change of parts that the invariant does not look at either. -/
theorem BaysStand.same (h : BaysStand old s) (e : t.kept = s.kept := by with_reducible rfl)
    (eb : (t.tokenQ, t.bay) = (s.tokenQ, s.bay) := by with_reducible rfl) : BaysStand old t := by
  have hi : s.Inv → t.Inv := fun hs => State.inv_of_kept hs e
  simp only [State.kept, Prod.mk.injEq] at e eb
  obtain ⟨-, hmode, -, hregs, hact, -⟩ := e
  obtain ⟨htok, hbay⟩ := eb
  exact h.upd hi (by rw [hregs, htok, State.bayParts, hbay, hact, hmode])

/-- A write of a field on another page. -/
theorem BaysStand.wr {v : Nat} (h : BaysStand old s) (hf : offBays f := by
    simp only [offBays, flF_key]
    simp only [Fld.key, Row.at, batF, twcF, seq0F, seq7F, idxF, fabF, cmd0F, cmd1F, cmd2F, cmdfF]
    omega) : BaysStand old (s.wr f v) := by
  refine h.trans ⟨fun hi => wr_inv hi f v, (Leaves.refl s).wr hf, fun _ pg hp b hb => ?_, fun _ => id, rfl⟩
  rwa [State.evtSet, State.rd_wr_ne]
  intro e
  rw [offBays, ← e, hdr, Row.page_at (by decide)] at hf
  omega

theorem BaysStand.emit {o : Out} (h : BaysStand old s) : BaysStand old (s.emit o) := h.same rfl rfl

theorem BaysStand.raise (h : BaysStand old s) : BaysStand old (s.raise n) := by
  refine h.trans ⟨fun hi => raise_inv hi n, (Leaves.refl s).raise (by decide), fun hi pg _ b => (Raised.refl s).raise.evt hi pg b,
    fun k hk => by rwa [raise_tokenQ], ?_⟩
  rw [(raise_signals s n []).1]

theorem BaysStand.token {src kind detail : Nat} (h : BaysStand old s) : BaysStand old (s.token src kind detail) := by
  have hisl {k : Tok} : BaysStand old (s.islPush k) :=
    h.upd (fun hi => islPush_inv hi k) (by unfold State.islPush; split <;> rfl)
  have hsent {k : Tok} : BaysStand old { s with tokenQ := s.tokenQ ++ [k] } := h.trans
    ⟨fun hi => ⟨hi.regs, hi.act, hi.mem, hi.evq, hi.twq, hi.offers, hi.islBuf⟩, (Leaves.refl s).same, fun _ _ _ _ => id,
      fun _ => List.mem_append_left _, rfl⟩
  exact .ite hsent (.ite hisl h)

theorem BaysStand.tokenEv {src kind detail : Nat} (h : BaysStand old s) : BaysStand old (s.tokenEv src kind detail) :=
  .ite h.raise.token h.token

theorem BaysStand.late {src detail : Nat} (h : BaysStand old s) : BaysStand old (s.late src detail) :=
  BaysStand.token (s := s.incWrap (fabF Reg.fabRacelateCnt 0)) (h.wr (by decide))

theorem BaysStand.bayLate {late : Bool} (h : BaysStand old s) : BaysStand old (s.bayLate n late) := .ite h.late h

/-! ### Done points (R85 to R87) -/

theorem BaysStand.jMod {g : JEntry → JEntry} (h : BaysStand old s) : BaysStand old (s.jMod seq g) := h.same rfl rfl

theorem BaysStand.setStatus (h : BaysStand old s) : BaysStand old (s.setStatus seq code reason) :=
  .ite (h.jMod.wr (by decide)) (.ite (h.jMod.wr (by decide)).raise h.jMod)

theorem BaysStand.doneOne {e : JEntry} (h : BaysStand old s) : BaysStand old (s.doneOne code reason e) :=
  .ite h.jMod.setStatus h.jMod.late

theorem BaysStand.doneWait {w : Wait} (h : BaysStand old s) : BaysStand old (s.doneWait w code reason) :=
  h.foldl fun _ _ ih => ih.doneOne

/-! ### Strings: an insertion, a rest point (R262, R278, R279) -/

theorem get_filter_of_keep {p : Nat × Nat → Bool} {m : Store} {k d : Nat} (hp : ∀ v, p (k, v) = true) :
    Store.get (m.filter p) k d = m.get k d := by
  induction m with
  | nil => rfl
  | cons q m ih =>
    obtain ⟨a, x⟩ := q
    by_cases ha : a = k
    · rw [List.filter_cons_of_pos (ha ▸ hp x), Store.get, Store.get, if_pos ha, if_pos ha]
    · rw [List.filter_cons]
      split
      · rw [Store.get, Store.get, if_neg ha, if_neg ha, ih]
      · rw [ih, Store.get, if_neg ha]

/-- What a string forgets of its module lies on its own page. -/
theorem BaysStand.dropRec (h : BaysStand old s) : BaysStand old (s.putRec n []) := by
  have hrd {f : Fld} (hf : f.key < 0x040 * 131072) : (s.putRec n []).rd f = s.rd f := by
    refine congrArg (· % 2 ^ f.width) (get_filter_of_keep fun v => ?_)
    have hlo : ¬ batBase n ≤ f.key := by
      unfold batBase pageLo
      omega
    simp only [decide_eq_false hlo, Bool.false_and, Bool.not_false]
  refine h.trans ⟨(Keeps.refl s).putRec.inv, fun f hf => hrd ?_, fun _ pg hp b hb => ?_, fun _ => id, rfl⟩
  · have := hf.2.1
    omega
  · refine (congrArg (bitOf · b) (hrd ?_)).trans hb
    simp only [hdr, Row.at, Fld.key, Reg.pgEvt]
    omega

theorem BaysStand.saveRec (h : BaysStand old s) : BaysStand old (s.saveRec n) := .ite h.same h

theorem BaysStand.batMod {g : BatS → BatS} (h : BaysStand old s) : BaysStand old (s.batMod n g) := h.same rfl rfl

theorem BaysStand.batForget (h : BaysStand old s) : BaysStand old (s.batForget n) :=
  .batMod (.wr (.wr (.wr (.wr (.wr (.wr (.wr h.saveRec.dropRec)))))))

theorem BaysStand.setAnchor {soc : ℚ} (h : BaysStand old s) : BaysStand old (s.setAnchor n soc) := h.batMod

theorem BaysStand.setUnc {tenths : Nat} (h : BaysStand old s) : BaysStand old (s.setUnc n tenths) := BaysStand.wr h.batMod

theorem BaysStand.showSoc (h : BaysStand old s) : BaysStand old (s.showSoc n) := h.wr

theorem BaysStand.restAnchor {v : Nat} (h : BaysStand old s) : BaysStand old (s.restAnchor n v) :=
  .showSoc (.batMod (.wr (.wr (.wr h.setAnchor.setUnc))))

theorem BaysStand.batNoid (h : BaysStand old s) : BaysStand old (s.batNoid n) :=
  .batMod (BaysStand.tokenEv (s := s.wr (batF Reg.batStatNoid n) 1) h.wr)

theorem BaysStand.batIdFail (h : BaysStand old s) : BaysStand old (s.batIdFail n) := by
  unfold State.batIdFail
  split
  · exact .ite h.batNoid h
  · exact h

theorem BaysStand.twMod {g : TwcS → TwcS} (h : BaysStand old s) : BaysStand old (s.twMod n g) := h.same rfl rfl

theorem BaysStand.twNext (h : BaysStand old s) : BaysStand old (s.twNext n) := by
  unfold State.twNext
  refine .ite h ?_
  split
  · exact .wr h.twMod.emit.twMod
  · exact h

theorem twFails_ne_zero (h : s.twFails n = some code) : code ≠ 0 := by
  unfold State.twFails at h
  split_ifs at h <;> (cases h; decide)

/-- A request to read an identity (R279): it joins the queue of its port, or fails at once. -/
theorem BaysStand.identityRequest {x : Xact} (h : BaysStand old s) (hx : x.cls = 1) : BaysStand old (s.xactRequest n x) := by
  unfold State.xactRequest
  split
  · rename_i r hr
    unfold State.xactResult
    rw [if_neg (by rw [hx]; decide), if_pos hx, if_neg (twFails_ne_zero hr)]
    exact h.batIdFail
  · exact h.twMod.twNext

theorem BaysStand.idTry (h : BaysStand old s) : BaysStand old (s.idTry n) := by
  unfold State.idTry
  split
  · refine .ite ?_ h.batNoid
    unfold State.idRequest
    split
    · exact h.batMod.identityRequest rfl
    · exact h.batMod.batIdFail
  · exact h

theorem BaysStand.batInsert {vins : Nat} (h : BaysStand old s) : BaysStand old (s.batInsert n vins) := by
  unfold State.batInsert
  exact h.batForget.wr.setAnchor.setUnc.batMod.showSoc.idTry

/-! ### Flights that a command takes an entity from (R332, R333) -/

theorem BaysStand.flMod {g : FlightS → FlightS} (h : BaysStand old s) : BaysStand old (s.flMod n g) := h.same rfl rfl

theorem BaysStand.gstat (h : BaysStand old s) : BaysStand old s.gstat :=
  h.foldl fun t f ih => BaysStand.wr (s := t.wrBit (seq0F Reg.seqGstatRunning 0) f _) ih.wr

theorem BaysStand.flCommandDone (h : BaysStand old s) : BaysStand old (s.flCommandDone n) := by
  unfold State.flCommandDone
  extract_lets +onlyGivenNames x
  split
  · exact h
  · exact .ite h (.doneWait (.ite h.flMod.raise.token h.flMod))

theorem BaysStand.flAck {result : Nat} (h : BaysStand old s) : BaysStand old (s.flAck n result) := by
  unfold State.flAck
  refine .ite ?_ h
  split
  · exact .ite (.wr h.same) h
  · exact h

theorem BaysStand.flCheck (h : BaysStand old s) : BaysStand old (s.flCheck n) := by
  have hstamp : BaysStand old (s.flStamp n) := .ite h.wr h
  unfold State.flCheck
  extract_lets +onlyGivenNames st x
  refine .ite ?_ h
  extract_lets nbad pend a b
  have ha : BaysStand old a := .raise (.wr hstamp.wr)
  exact .gstat (.ite ha.flAck.flMod.flCommandDone ha.flAck.flMod)

theorem BaysStand.entTaken {e : Nat} (h : BaysStand old s) : BaysStand old (s.entTaken e) := by
  unfold State.entTaken
  refine .foldl (.foldl h fun _ _ ih => ?_) fun _ _ ih => ih.flCheck
  split
  · exact .ite (BaysStand.wr ih.flMod) ih
  · exact ih

/-! ### The arrival and the acceptance of a command (R80, R86, R88) -/

theorem BaysStand.ringFollow (h : BaysStand old s) : BaysStand old s.ringFollow := .ite (.ite h (h.raise.same)) h.same

theorem BaysStand.writeTw {words : List Nat} (h : BaysStand old s) : BaysStand old (s.writeTw words) :=
  h.upd (Keeps.refl s).writeTw.inv (by unfold State.writeTw; split <;> rfl)

theorem BaysStand.writeRing {words : List Nat} (h : BaysStand old s) : BaysStand old (s.writeRing words) := by
  unfold State.writeRing
  exact .ringFollow (.ite ((h.emit.wr (by decide)).wr (by decide)) (h.emit.wr (by decide)))

theorem BaysStand.report {tw : Bool} {w0 htag : Nat} (h : BaysStand old s) : BaysStand old (s.report tw w0 seq htag) :=
  .ite h.writeTw (.ite h.writeTw (.ite h.writeRing h.same))

theorem BaysStand.arrive {tw : Bool} (h : BaysStand old s) : BaysStand old (s.arrive tw) := .ite h (.wr (.ite h.wr h) (by decide))

theorem BaysStand.accept {ws : List Nat} {tw : Bool} (h : BaysStand old s) : BaysStand old (s.accept ws tw) := by
  unfold State.accept
  extract_lets seq e t u v
  have hv : BaysStand old v := .report ((h.same.wr (by decide)).wr (by decide))
  exact .ite hv.raise hv

theorem BaysStand.supersede {e : JEntry} (h : BaysStand old s) : BaysStand old (s.supersede e) :=
  .ite h (h.foldl fun _ _ ih => .jMod (.ite ih.setStatus ih))

/-- A command that is accepted leaves the bays to its application. -/
theorem accepted_baysStand {ws : List Nat} {tw : Bool} : BaysStand s (s.accepted ws tw) :=
  (BaysStand.refl s).arrive.accept.jMod.supersede

end

end Sys2Proof.Machine

/-!
PROOFS. What the operations on one bay do: the fields that a new state of a bay writes and those that it leaves, and the openings,
closings and latch-offs that are made of it (chapter 5).
-/

namespace Sys2Proof.Machine

section

variable {old s t : State} {f : Fld} {r : Row} {n v st kind peak : Nat}

/-! ### Fields of a bay -/

/-- Two fields of one bay at different places. -/
abbrev Row.besides (r q : Row) : Prop := (r.off + r.stride * 0) * 32 + r.lo ≠ (q.off + q.stride * 0) * 32 + q.lo

theorem wrBay_rd_ne {q : Row} (h : r.besides q) : (s.wr (bayF q n) v).rd (bayF r n) = s.rd (bayF r n) :=
  State.rd_wr_ne (Row.at_key_ne h) v

/-- A field of a bay's page other than its events. -/
abbrev Row.isBay (r : Row) : Prop := r.off + r.stride * 0 < 4096 ∧ r.lo < 32 ∧ r.off + r.stride * 0 ≠ 0x014

theorem BaysStand.rd (h : BaysStand s t) (hn : n < 48) (hr : r.isBay) : t.rd (bayF r n) = s.rd (bayF r n) :=
  h.regs _ (Row.onPages_at hr (by omega))

theorem BaysStand.rdB (h : BaysStand s t) (hn : n < 48) (hr : r.isBay) : t.rdB (bayF r n) = s.rdB (bayF r n) :=
  congrArg (· != 0) (h.rd hn hr)

theorem BaysStand.bayState (h : BaysStand s t) (hn : n < 48) : t.bayState n = s.bayState n := h.rd hn (by decide)

theorem BaysStand.bay (h : BaysStand s t) : t.bay = s.bay := congrArg (fun p => p.1) h.parts

theorem BaysStand.act (h : BaysStand s t) : t.act = s.act := congrArg (fun p => p.2.1) h.parts

theorem BaysStand.mode (h : BaysStand s t) : t.mode = s.mode := congrArg (fun p => p.2.2) h.parts

/-- An event of a bay that has risen stays. -/
theorem BaysStand.event {b : Nat} (h : BaysStand s t) (hi : s.Inv) (hn : n < 48) (hb : s.evtSet (0x010 + n) b = true) :
    t.evtSet (0x010 + n) b = true := h.events hi (0x010 + n) (by omega) b hb

theorem bayRole_of_act (h : t.act = s.act) : t.bayRole n = s.bayRole n := eff_of_act rfl h

theorem lUp_of_mode (h : t.mode = s.mode) : t.lUp = s.lUp := by
  unfold State.lUp
  rw [h]

theorem bayMod_vget {g : BayS → BayS} (hn : n < 48) : vget (s.bayMod n g).bay n = g (vget s.bay n) := vget_vmod_self _ n g hn

theorem bayMod_bayState {m : Nat} {g : BayS → BayS} : (s.bayMod m g).bayState n = s.bayState n := by
  rw [State.bayState, State.bayMod_rd, State.bayState]

/-- The sources of a bay set the bits of its page (R66). -/
theorem raise_bayEvent {b : Nat} (hi : s.Inv) (hl : s.lUp = true) (hn : n < 48) (hb : b < 4) :
    (s.raise (64 + 4 * n + b)).evtSet (0x010 + n) b = true := by
  have hbits : ∀ n < 48, ∀ b < 4, evBit (64 + 4 * n + b) = some (0x010 + n, b) := by decide
  exact raise_evtSet (hbits n hn b hb) hi hl (by omega)

theorem raise_presence (hi : s.Inv) (hl : s.lUp = true) (hn : n < 48) : (s.raise (64 + 4 * n)).evtSet (0x010 + n) 0 = true := by
  have h := raise_bayEvent (b := 0) hi hl hn (by decide)
  rwa [Nat.add_zero] at h

/-! ### A new state of a bay (Table 5.5) -/

/-- The fields of BAYn_STAT that follow STATE. -/
def stateRows : List Row :=
  [Reg.bayStatState, Reg.bayStatLimiting, Reg.bayStatTripped, Reg.bayStatRetired, Reg.bayStatPgood, Reg.bayStatFoldback]

/-- The fields that every new state writes. -/
def State.stateShown (s : State) (n st : Nat) : State :=
  (((s.wr (bayF Reg.bayStatState n) st).wrB (bayF Reg.bayStatLimiting n) (st == 4)).wrB
    (bayF Reg.bayStatTripped n) (st == 5 || st == 6)).wrB (bayF Reg.bayStatRetired n) (st == 9)

theorem Spares.wrBay {q : Row} (h : Spares [bayF r n] old s) (hq : r.besides q) : Spares [bayF r n] old (s.wr (bayF q n) v) :=
  h.wr fun g hg => by
    rw [List.mem_singleton.mp hg]
    exact Row.at_key_ne hq

/-- PGOOD and FOLDBACK aside, the fields read as a new state shows them. -/
theorem setBay_rd_shown (hg : r.besides Reg.bayStatPgood) (hf : r.besides Reg.bayStatFoldback) :
    (s.setBay n st).rd (bayF r n) = (s.stateShown n st).rd (bayF r n) := by
  unfold State.setBay
  extract_lets a t u
  have hregs : t.regs = (s.stateShown n st).regs := by
    unfold t a
    split <;> rfl
  have ht : Spares [bayF r n] (s.stateShown n st) t := (Spares.refl _).same hregs
  have hu : Spares [bayF r n] (s.stateShown n st) u := .ite ht (ht.wrBay hg)
  exact Spares.ite hu (hu.wrBay hf) _ (List.mem_singleton_self _)

theorem setBay_rd_ne (h : ∀ q ∈ stateRows, r.besides q) : (s.setBay n st).rd (bayF r n) = s.rd (bayF r n) := by
  simp only [stateRows, List.forall_mem_cons] at h
  obtain ⟨hstate, hlim, htrip, hret, hgood, hfold, -⟩ := h
  rw [setBay_rd_shown hgood hfold, State.stateShown, State.wrB, State.wrB, State.wrB, wrBay_rd_ne hret, wrBay_rd_ne htrip,
    wrBay_rd_ne hlim, wrBay_rd_ne hstate]

theorem setBay_limiting (hi : s.Inv) : (s.setBay n st).rd (bayF Reg.bayStatLimiting n) = b2n (st == 4) := by
  rw [setBay_rd_shown (by decide) (by decide), State.stateShown, State.wrB, State.wrB, wrBay_rd_ne (by decide),
    wrBay_rd_ne (by decide)]
  refine (State.rd_wr_self (wr_inv hi _ _).regs _ _).trans ?_
  cases st == 4 <;> rfl

theorem setBay_tripped (hi : s.Inv) : (s.setBay n st).rd (bayF Reg.bayStatTripped n) = b2n (st == 5 || st == 6) := by
  rw [setBay_rd_shown (by decide) (by decide), State.stateShown, State.wrB, wrBay_rd_ne (by decide)]
  refine (State.rd_wr_self (wr_inv (wr_inv hi _ _) _ _).regs _ _).trans ?_
  cases (st == 5 || st == 6) <;> rfl

/-- PGOOD stands in ON and in LIMIT (log entry 41). -/
theorem setBay_pgood (h : st = 3 ∨ st = 4) : (s.setBay n st).rd (bayF Reg.bayStatPgood n) = s.rd (bayF Reg.bayStatPgood n) := by
  have hst : (st == 3 || st == 4) = true := by
    rcases h with rfl | rfl <;> rfl
  unfold State.setBay
  extract_lets a t u
  have ha : Spares [bayF Reg.bayStatPgood n] s a := .ite (Spares.refl s).same (.refl s)
  have ht : Spares [bayF Reg.bayStatPgood n] s t :=
    .wrBay (.wrBay (.wrBay (ha.wrBay (by decide)) (by decide)) (by decide)) (by decide)
  have hu : Spares [bayF Reg.bayStatPgood n] s u := by
    unfold u
    rwa [if_pos hst]
  exact Spares.ite hu (hu.wrBay (by decide)) _ (List.mem_singleton_self _)

/-- The parts of the state that a new state of a bay leaves, of those that are spoken of here. -/
theorem setBay_parts : ((s.setBay n st).jnl, (s.setBay n st).tokenQ, (s.setBay n st).mode) = (s.jnl, s.tokenQ, s.mode) := by
  have hslow : ((if s.bayState n = 4 ∨ st = 4 then s.slowCount n else s).jnl,
      (if s.bayState n = 4 ∨ st = 4 then s.slowCount n else s).tokenQ,
      (if s.bayState n = 4 ∨ st = 4 then s.slowCount n else s).mode) = (s.jnl, s.tokenQ, s.mode) := by
    split <;> rfl
  unfold State.setBay
  dsimp only
  split <;> split <;> simpa only [State.wr_jnl, State.wrB_jnl, State.wr_tokenQ, State.wrB_tokenQ, State.wr_mode, State.wrB_mode]
    using hslow

theorem setBay_jnl : (s.setBay n st).jnl = s.jnl := congrArg (fun p => p.1) setBay_parts

theorem setBay_tokenQ : (s.setBay n st).tokenQ = s.tokenQ := congrArg (fun p => p.2.1) setBay_parts

theorem setBay_mode : (s.setBay n st).mode = s.mode := congrArg (fun p => p.2.2) setBay_parts

/-- Of what a bay holds beside its registers, a new state moves the slow-limit timer alone. -/
theorem setBay_vget (hn : n < 48) :
    ∃ x y, vget (s.setBay n st).bay n = { vget s.bay n with slow := x, slowUs := y } := by
  have hbay : (s.setBay n st).bay = (if s.bayState n = 4 ∨ st = 4 then s.slowCount n else s).bay := by
    unfold State.setBay
    dsimp only
    split <;> split <;> simp only [State.wr_bay, State.wrB_bay]
  rw [hbay]
  split
  · exact ⟨_, _, bayMod_vget hn⟩
  · exact ⟨_, _, rfl⟩

theorem setBay_urgent (hn : n < 48) : (vget (s.setBay n st).bay n).urgent = (vget s.bay n).urgent := by
  obtain ⟨x, y, h⟩ := setBay_vget (s := s) (st := st) hn
  rw [h]

theorem setBay_retries (hn : n < 48) : (vget (s.setBay n st).bay n).retries = (vget s.bay n).retries := by
  obtain ⟨x, y, h⟩ := setBay_vget (s := s) (st := st) hn
  rw [h]

theorem setBay_inv (hi : s.Inv) : (s.setBay n st).Inv := (Keeps.refl s).setBay.inv hi

theorem setArm_rd {x : Bool} (hi : s.Inv) : (s.setArm n x).rd (bayF Reg.bayCtlArm n) = b2n x := by
  refine (State.rd_wr_self hi.regs _ _).trans ?_
  cases x <;> rfl

theorem setArm_inv {x : Bool} (hi : s.Inv) : (s.setArm n x).Inv := wr_inv hi _ _

/-- ARM stands over a new state. -/
theorem setArm_setBay_rd {x : Bool} (hi : s.Inv) : ((s.setArm n x).setBay n st).rd (bayF Reg.bayCtlArm n) = b2n x :=
  (setBay_rd_ne (by decide)).trans (setArm_rd hi)

/-! ### Opening and closing (R108, R109, R125) -/

theorem bayOpenGate_arm {fast : Bool} (hi : s.Inv) : (s.bayOpenGate n fast).rd (bayF Reg.bayCtlArm n) = 0 := by
  unfold State.bayOpenGate
  rw [State.bayMod_rd]
  exact setArm_setBay_rd hi

theorem bayOpenGate_fastOpen {fast : Bool} (hn : n < 48) : (vget (s.bayOpenGate n fast).bay n).fastOpen = fast := by
  unfold State.bayOpenGate
  rw [bayMod_vget hn]

theorem bayOpenGate_urgent {fast : Bool} (hn : n < 48) :
    (vget (s.bayOpenGate n fast).bay n).urgent = (vget s.bay n).urgent := by
  unfold State.bayOpenGate
  rw [bayMod_vget hn]
  exact setBay_urgent hn

theorem not_cycle_of_closed (hc : s.bayClosed n = true) : s.bayState n ≠ 7 := fun h => by
  rw [State.bayClosed, h] at hc
  cases hc

theorem bayOpen_closed {fast : Bool} (hc : s.bayClosed n = true) : s.bayOpen n fast = s.bayOpenGate n fast := by
  have habort : s.bayAbort n = s := if_neg fun h => not_cycle_of_closed hc (beq_iff_eq.mp h)
  unfold State.bayOpen
  rw [habort]
  exact if_pos (Bool.or_eq_true_iff.mpr (.inl hc))

/-- A BAY_OPEN on a latched bay clears the latch. -/
theorem bayOpen_latched {fast : Bool} (h : s.bayState n = 5 ∨ s.bayState n = 6) :
    s.bayOpen n fast = (s.setArm n false).bayToOpen n := by
  unfold State.bayOpen
  rcases h with h | h <;> (rw [h]; rfl)

theorem bayToOpen_bayState (hi : s.Inv) : (s.bayToOpen n).bayState n = b2n (s.rdB (bayF Reg.bayStatPresent n)) := by
  unfold State.bayToOpen
  rw [setBay_bayState hi.regs]
  cases s.rdB (bayF Reg.bayStatPresent n) <;> rfl

theorem bayRamp_bayState (hi : s.Inv) : (s.bayRamp n).bayState n = 2 := by
  unfold State.bayRamp
  rw [bayMod_bayState, setBay_bayState (setArm_inv hi).regs]

theorem bayRamp_arm (hi : s.Inv) : (s.bayRamp n).rd (bayF Reg.bayCtlArm n) = 1 := by
  unfold State.bayRamp
  rw [State.bayMod_rd]
  exact setArm_setBay_rd hi

theorem bayRamp_rd_ne (h : ∀ q ∈ Reg.bayCtlArm :: stateRows, r.besides q) : (s.bayRamp n).rd (bayF r n) = s.rd (bayF r n) := by
  obtain ⟨harm, hstate⟩ := List.forall_mem_cons.mp h
  unfold State.bayRamp
  rw [State.bayMod_rd, setBay_rd_ne hstate]
  exact wrBay_rd_ne harm

theorem bayRamp_rampTimer (hn : n < 48) : (vget (s.bayRamp n).bay n).rampTimer = true := by
  unfold State.bayRamp
  rw [bayMod_vget hn]

theorem bayRamp_retries (hn : n < 48) : (vget (s.bayRamp n).bay n).retries = (vget s.bay n).retries := by
  unfold State.bayRamp
  rw [bayMod_vget hn]
  exact setBay_retries hn

section

variable {adopt : Bool}

theorem bayClose_bayState (hi : s.Inv) : (s.bayClose n adopt).bayState n = if adopt && s.bayMet n then 10 else 2 := by
  unfold State.bayClose
  split
  · rw [bayMod_bayState, setBay_bayState (setArm_inv hi).regs]
  · exact bayRamp_bayState hi

theorem bayClose_arm (hi : s.Inv) : (s.bayClose n adopt).rd (bayF Reg.bayCtlArm n) = 1 := by
  unfold State.bayClose
  split
  · rw [State.bayMod_rd]
    exact setArm_setBay_rd hi
  · exact bayRamp_arm hi

theorem bayClose_rd_ne (h : ∀ q ∈ Reg.bayCtlArm :: stateRows, r.besides q) :
    (s.bayClose n adopt).rd (bayF r n) = s.rd (bayF r n) := by
  obtain ⟨harm, hstate⟩ := List.forall_mem_cons.mp h
  unfold State.bayClose
  split
  · rw [State.bayMod_rd, setBay_rd_ne hstate]
    exact wrBay_rd_ne harm
  · exact bayRamp_rd_ne h

theorem bayClose_jnl : (s.bayClose n adopt).jnl = s.jnl := by
  unfold State.bayClose
  unfold State.bayRamp
  split <;> rw [State.bayMod_jnl, setBay_jnl, State.setArm, State.wrB_jnl]

end

/-! ### Latch-offs (R119) -/

/-- The counters of latch-offs lie in one register. -/
theorem tripCounter_besides (h : r.off + r.stride * 0 ≠ 0x080 ∧ r.lo < 32) : r.besides (tripCounter kind) := by
  have hplace : (tripCounter kind).off = 0x080 ∧ (tripCounter kind).lo < 32 := by
    unfold tripCounter
    split_ifs <;> decide
  obtain ⟨hoff, hlo⟩ := h
  unfold Row.besides
  omega

theorem tokenEv_mem {src detail : Nat} (hl : s.lUp = true) :
    { src := src, kind := kind, detail := detail % 2 ^ 32, us := s.us } ∈ (s.tokenEv src kind detail).tokenQ := by
  have hraise : (s.raise src).lUp = true := (lUp_of_mode (BaysStand.refl s).raise.mode).trans hl
  have hus : (s.raise src).us = s.us := (Keeps.refl s).raise.us
  unfold State.tokenEv State.token
  dsimp only
  rw [if_pos hl, if_pos hraise, hus]
  exact List.mem_append_right _ (List.mem_singleton_self _)

/-- The records of a latch-off, before its token and its event. -/
def State.tripWritten (s : State) (n kind peak : Nat) : State :=
  let t := ((s.wr (bayF Reg.bayStatTripkind n) kind).wr (bayF Reg.bayTripusUs n) s.us32).inc (bayF (tripCounter kind) n)
  t.wr (bayF Reg.bayPeakPeak n) (max (t.rd (bayF Reg.bayPeakPeak n)) (sat 16 peak))

theorem tripMarks_eq :
    s.tripMarks n kind peak = (s.tripWritten n kind peak).tokenEv (64 + 4 * n + 1) kind (s.tripDetail n peak) := rfl

theorem tripMarks_rd (hn : n < 48) (hr : r.isBay) (hp : r.besides Reg.bayPeakPeak) (hc : r.off + r.stride * 0 ≠ 0x080 ∧ r.lo < 32) :
    (s.tripMarks n kind peak).rd (bayF r n)
      = ((s.wr (bayF Reg.bayStatTripkind n) kind).wr (bayF Reg.bayTripusUs n) s.us32).rd (bayF r n) := by
  rw [tripMarks_eq, (BaysStand.refl _).tokenEv.rd hn hr, State.tripWritten, wrBay_rd_ne hp]
  exact wrBay_rd_ne (tripCounter_besides hc)

theorem latchedOff_stands {u : State} (h : latchedOff s t n kind peak) (hst : BaysStand t u) (hn : n < 48) :
    latchedOff s u n kind peak := by
  obtain ⟨hstate, htrip, hkind, hus, htok⟩ := h
  exact ⟨(hst.bayState hn).trans hstate, (hst.rd hn (by decide)).trans htrip, (hst.rd hn (by decide)).trans hkind,
    (hst.rd hn (by decide)).trans hus, fun hl => hst.tokens _ (htok hl)⟩

theorem latchedOff_bayMod {g : BayS → BayS} (h : latchedOff s t n kind peak) : latchedOff s (t.bayMod n g) n kind peak := h

/-- A closed bay latches off. -/
theorem bayTrip_latches (hi : s.Inv) (hn : n < 48) (hk : kind < 64) (hc : s.bayClosed n = true) :
    latchedOff s (s.bayTrip n kind peak) n kind peak := by
  have hmi : (s.tripMarks n kind peak).Inv := (Keeps.refl s).tripMarks.inv hi
  have hset : latchedOff s ((s.tripMarks n kind peak).setBay n 5) n kind peak := by
    refine ⟨setBay_bayState hmi.regs, setBay_tripped hmi, ?_, ?_, fun hl => ?_⟩
    · rw [setBay_rd_ne (by decide), tripMarks_rd hn (by decide) (by decide) (by decide), wrBay_rd_ne (by decide)]
      exact (State.rd_wr_self hi.regs _ _).trans (Nat.mod_eq_of_lt hk)
    · rw [setBay_rd_ne (by decide), tripMarks_rd hn (by decide) (by decide) (by decide)]
      exact (State.rd_wr_self (wr_inv hi _ _).regs _ _).trans (Nat.mod_mod _ _)
    · rw [setBay_tokenQ, tripMarks_eq]
      exact tokenEv_mem (s := s.tripWritten n kind peak) hl
  unfold State.bayTrip
  rw [if_pos hc]
  exact latchedOff_stands (latchedOff_bayMod hset) (BaysStand.refl _).doneWait hn

end

end Sys2Proof.Machine

/-!
PROOFS. What comes in at a bay (O29): the class of its ALT line, presence, urgency and extraction, and the timers of toggles and timed
opens.
-/

namespace Sys2Proof.Machine

section

variable {s t u : State} {n : BitVec 6}

/-! ### The ALT line (R102, R103) -/

theorem altClass_absent {was mv : Nat} (h : 2600 < mv) : altClass was mv = 0 := if_pos h

theorem altClass_present {was mv : Nat} (hlo : 900 ≤ mv) (hhi : mv ≤ 2400) : altClass was mv = 1 :=
  (if_neg (by omega)).trans (if_pos ⟨hlo, hhi⟩)

theorem altClass_urgent {was mv : Nat} (h : mv < 400) : altClass was mv = 2 :=
  (if_neg (by omega)).trans ((if_neg (by omega)).trans (if_pos h))

theorem altClass_kept {was mv : Nat} (h : (400 ≤ mv ∧ mv < 900) ∨ (2400 < mv ∧ mv ≤ 2600)) : altClass was mv = was :=
  (if_neg (by omega)).trans ((if_neg (by omega)).trans (if_neg (by omega)))

theorem execAltClassChange_seen {mv : BitVec 12} (hi : s.Inv) (hn : n.toNat < 48) (hr : s.bayRole n.toNat ≠ 3)
    (hf : (vget s.bay n.toNat).frozen = false) :
    ∃ t, exec (.altClassChange n mv) s = .next t ∧ t.rd (bayF Reg.bayStatAlt n.toNat) = (vget t.bay n.toNat).alt % 4
      ∧ (vget t.bay n.toNat).alt = altClass (vget s.bay n.toNat).alt mv.toNat
      ∧ t = { s with regs := t.regs, bay := t.bay } ∧ regsBut s t [bayF Reg.bayStatAlt n.toNat] := by
  refine ⟨_, if_neg (by simp [hf, hr, hn]), ?_, ?_, rfl, ?_⟩
  · rw [bayMod_vget hn]
    exact State.rd_wr_self hi.regs _ _
  · rw [bayMod_vget hn]
  · exact (onlyRegs_wr s (bayF Reg.bayStatAlt n.toNat) _).2

/-! ### Presence (R103) -/

/-- `u` shows that the presence of bay `n` has become `x`: PRESENT and its event, and the state of a bay that is open (Table 5.5). -/
structure PresenceTaken (s u : State) (n : Nat) (x : Bool) : Prop where
  present : u.rdB (bayF Reg.bayStatPresent n) = x
  event : s.lUp = true → u.evtSet (0x010 + n) 0 = true
  state : u.bayState n = if s.bayState n ≤ 1 then b2n x else s.bayState n

theorem PresenceTaken.stands {k : Nat} {x : Bool} (h : PresenceTaken s t k x) (hi : t.Inv) (hst : BaysStand t u) (hk : k < 48) :
    PresenceTaken s u k x where
  present := (hst.rdB hk (by decide)).trans h.present
  event hl := hst.event hi hk (h.event hl)
  state := (hst.bayState hk).trans h.state

theorem PresenceTaken.bayMod {k : Nat} {x : Bool} {g : BayS → BayS} (h : PresenceTaken s t k x) :
    PresenceTaken s (t.bayMod k g) k x where
  present := by
    rw [State.rdB, State.bayMod_rd]
    exact h.present
  event hl := by
    rw [State.evtSet, State.bayMod_rd]
    exact h.event hl
  state := bayMod_bayState.trans h.state

theorem bayPresent_taken {k : Nat} {x : Bool} (hi : s.Inv) (hk : k < 48) : PresenceTaken s (s.bayPresent k x) k x := by
  have hst : BaysStand (s.wrB (bayF Reg.bayStatPresent k) x) ((s.wrB (bayF Reg.bayStatPresent k) x).raise (64 + 4 * k)) :=
    (BaysStand.refl _).raise
  have hwi : (s.wrB (bayF Reg.bayStatPresent k) x).Inv := wr_inv hi _ _
  have hshown : (s.wrB (bayF Reg.bayStatPresent k) x).rd (bayF Reg.bayStatPresent k) = b2n x := by
    refine (State.rd_wr_self hi.regs _ _).trans ?_
    cases x <;> rfl
  have hpresent : ((s.wrB (bayF Reg.bayStatPresent k) x).raise (64 + 4 * k)).rd (bayF Reg.bayStatPresent k) = b2n x :=
    (hst.rd hk (by decide)).trans hshown
  have hevent (hl : s.lUp = true) : ((s.wrB (bayF Reg.bayStatPresent k) x).raise (64 + 4 * k)).evtSet (0x010 + k) 0 = true :=
    raise_presence hwi hl hk
  have hstate : ((s.wrB (bayF Reg.bayStatPresent k) x).raise (64 + 4 * k)).bayState k = s.bayState k :=
    (hst.bayState hk).trans (wrBay_rd_ne (by decide))
  have hbool : (b2n x != 0) = x := by cases x <;> rfl
  unfold State.bayPresent
  dsimp only
  rw [hstate]
  split
  case isTrue hopen =>
    refine ⟨?_, fun hl => ?_, ?_⟩
    · exact (congrArg (· != 0) ((setBay_rd_ne (by decide)).trans hpresent)).trans hbool
    · exact (congrArg (bitOf · 0) (setBay_rd_ne (r := Reg.pgEvt) (by decide))).trans (hevent hl)
    · rw [setBay_bayState (hst.inv hwi).regs, if_pos hopen]
      cases x <;> rfl
  case isFalse hshut =>
    exact ⟨(congrArg (· != 0) hpresent).trans hbool, hevent, hstate.trans (if_neg hshut).symm⟩

theorem execPresenceChange_taken {vins : BitVec 16} {late : Bool} (hi : s.Inv) (hup : s.islandUp = true) (hn : n.toNat < 48)
    (hr : s.bayRole n.toNat ≠ 3) (hx : ((vget s.bay n.toNat).alt != 0) ≠ s.rdB (bayF Reg.bayStatPresent n.toNat)) :
    ∃ u, exec (.presenceChange n vins late) s = .next (s.follow u)
      ∧ PresenceTaken s u n.toNat ((vget s.bay n.toNat).alt != 0) := by
  have hpi : (s.bayPresent n.toNat ((vget s.bay n.toNat).alt != 0)).Inv := (Keeps.refl s).bayPresent.inv hi
  have htaken := bayPresent_taken (x := (vget s.bay n.toNat).alt != 0) hi hn
  refine ⟨_, if_neg (by simp [hr, hn, hx, hup]), ?_⟩
  split
  · split_ifs
    · exact htaken.stands hpi (BaysStand.refl _).batInsert.bayLate hn
    · exact htaken.bayMod.stands ((Keeps.refl _).bayMod.inv hpi) (BaysStand.refl _).bayLate hn
    · exact htaken.bayMod.stands ((Keeps.refl _).bayMod.inv hpi) (BaysStand.refl _).bayLate hn
  · exact htaken.stands hpi (BaysStand.refl _).bayLate hn

/-! ### Urgency (R103, R105) -/

/-- The state in which an urgent bay acts: urgent, with its event. -/
def State.urgentRaised (s : State) (k : Nat) : State := (s.bayMod k fun b => { b with urgent := true }).raise (64 + 4 * k + 2)

theorem urgentRaised_stands {k : Nat} :
    BaysStand (s.bayMod k fun b => { b with urgent := true }) (s.urgentRaised k) := (BaysStand.refl _).raise

theorem urgentRaised_urgent {k : Nat} (hk : k < 48) : (vget (s.urgentRaised k).bay k).urgent = true := by
  rw [urgentRaised_stands.bay, bayMod_vget hk]

theorem urgentRaised_inv {k : Nat} (hi : s.Inv) : (s.urgentRaised k).Inv := (Keeps.refl s).bayMod.raise.inv hi

theorem urgentRaised_bayState {k : Nat} (hk : k < 48) : (s.urgentRaised k).bayState k = s.bayState k :=
  (urgentRaised_stands.bayState hk).trans bayMod_bayState

section

variable (hup : s.islandUp = true) (hn : n.toNat < 48) (hr : s.bayRole n.toNat ≠ 3)
  (halt : (vget s.bay n.toNat).alt = 2) (hnew : (vget s.bay n.toNat).urgent = false) (hf : (vget s.bay n.toNat).frozen = false)
include hup hn hr halt hnew hf

/-- An urgent bay opens or reports only (R105). -/
theorem execUrgent_eq : exec (.urgent n) s
    = if s.bayRole n.toNat ≠ 0 ∧ s.effB (bayF Reg.bayCfgUrgopen n.toNat) = true ∧ s.bayState n.toNat ≠ 9 then
        .next (s.follow (((s.urgentRaised n.toNat).bayOpen n.toNat true).doneWait (.bayOn n.toNat) 3 0x11))
      else .next (s.urgentRaised n.toNat) := by
  have hact : (s.urgentRaised n.toNat).act = s.act := urgentRaised_stands.act
  have hopen : (s.urgentRaised n.toNat).effB (bayF Reg.bayCfgUrgopen n.toNat) = s.effB (bayF Reg.bayCfgUrgopen n.toNat) :=
    congrArg (· != 0) (eff_of_act rfl hact)
  rw [← bayRole_of_act (n := n.toNat) hact, ← hopen, ← urgentRaised_bayState (s := s) hn]
  exact if_neg (by simp [hr, hn, halt, hnew, hf, hup])

theorem execUrgent_reports (hi : s.Inv) (hq : s.bayRole n.toNat = 0 ∨ s.effB (bayF Reg.bayCfgUrgopen n.toNat) = false) :
    ∃ t, exec (.urgent n) s = .next t ∧ (vget t.bay n.toNat).urgent = true ∧ t.bayState n.toNat = s.bayState n.toNat
      ∧ (s.lUp = true → t.evtSet (0x010 + n.toNat) 2 = true) := by
  have hnot : ¬(s.bayRole n.toNat ≠ 0 ∧ s.effB (bayF Reg.bayCfgUrgopen n.toNat) = true ∧ s.bayState n.toNat ≠ 9) := by
    rintro ⟨hrole, hopen, -⟩
    rcases hq with h | h
    · exact hrole h
    · rw [h] at hopen
      cases hopen
  refine ⟨_, (execUrgent_eq hup hn hr halt hnew hf).trans (if_neg hnot), urgentRaised_urgent hn, urgentRaised_bayState hn,
    fun hl => ?_⟩
  exact raise_bayEvent (s := s.bayMod n.toNat _) ((Keeps.refl s).bayMod.inv hi) hl hn (by decide)

variable (hi : s.Inv) (hrole : s.bayRole n.toNat ≠ 0) (hopen : s.effB (bayF Reg.bayCfgUrgopen n.toNat) = true)
include hi hrole hopen

theorem execUrgent_closed (hc : s.bayClosed n.toNat = true) :
    ∃ u, exec (.urgent n) s = .next (s.follow u) ∧ (vget u.bay n.toNat).urgent = true ∧ u.bayState n.toNat = 8
      ∧ (vget u.bay n.toNat).fastOpen = true ∧ u.rd (bayF Reg.bayCtlArm n.toNat) = 0 := by
  have hret : s.bayState n.toNat ≠ 9 := fun h => by
    rw [State.bayClosed, h] at hc
    cases hc
  have hui : (s.urgentRaised n.toNat).Inv := urgentRaised_inv hi
  have hclosed : (s.urgentRaised n.toNat).bayClosed n.toNat = true := (congrArg bayClosedCode (urgentRaised_bayState hn)).trans hc
  have hst : BaysStand ((s.urgentRaised n.toNat).bayOpenGate n.toNat true)
      (((s.urgentRaised n.toNat).bayOpenGate n.toNat true).doneWait (.bayOn n.toNat) 3 0x11) := (BaysStand.refl _).doneWait
  refine ⟨_, (execUrgent_eq hup hn hr halt hnew hf).trans (if_pos ⟨hrole, hopen, hret⟩), ?_⟩
  rw [bayOpen_closed hclosed, hst.bay]
  refine ⟨?_, (hst.bayState hn).trans (bayOpenGate_bayState hui), bayOpenGate_fastOpen hn,
    (hst.rd hn (by decide)).trans (bayOpenGate_arm hui)⟩
  exact (bayOpenGate_urgent hn).trans (urgentRaised_urgent hn)

theorem execUrgent_latched (hl : s.bayState n.toNat = 5 ∨ s.bayState n.toNat = 6) :
    ∃ u, exec (.urgent n) s = .next (s.follow u) ∧ (vget u.bay n.toNat).urgent = true
      ∧ u.bayState n.toNat = b2n (s.rdB (bayF Reg.bayStatPresent n.toNat)) ∧ u.rd (bayF Reg.bayCtlArm n.toNat) = 0 := by
  have hui : (s.urgentRaised n.toNat).Inv := urgentRaised_inv hi
  have hpresent : ((s.urgentRaised n.toNat).setArm n.toNat false).rdB (bayF Reg.bayStatPresent n.toNat)
      = s.rdB (bayF Reg.bayStatPresent n.toNat) :=
    congrArg (· != 0) ((wrBay_rd_ne (by decide)).trans (urgentRaised_stands.rd hn (by decide)))
  have hst : BaysStand (((s.urgentRaised n.toNat).setArm n.toNat false).bayToOpen n.toNat)
      ((((s.urgentRaised n.toNat).setArm n.toNat false).bayToOpen n.toNat).doneWait (.bayOn n.toNat) 3 0x11) :=
    (BaysStand.refl _).doneWait
  refine ⟨_, (execUrgent_eq hup hn hr halt hnew hf).trans (if_pos ⟨hrole, hopen, by omega⟩), ?_⟩
  rw [bayOpen_latched (by rwa [urgentRaised_bayState hn]), hst.bay]
  refine ⟨(setBay_urgent hn).trans (urgentRaised_urgent hn), ?_, (hst.rd hn (by decide)).trans (setArm_setBay_rd hui)⟩
  rw [hst.bayState hn, bayToOpen_bayState (setArm_inv hui), hpresent]

end

theorem execUrgentEnd_ended (hn : n.toNat < 48) (halt : (vget s.bay n.toNat).alt ≠ 2)
    (hf : (vget s.bay n.toNat).frozen = false) :
    ∃ t, exec (.urgentEnd n) s = .next t ∧ (vget t.bay n.toNat).urgent = false ∧ t = { s with bay := t.bay } := by
  refine ⟨_, if_pos ⟨hn, halt, by rw [hf]; rfl⟩, ?_, rfl⟩
  rw [bayMod_vget hn]

/-! ### Extraction (R104) -/

/-- The bay after an extraction: the gate pulled down at 2 A, ARM = 0 and PRESENT. -/
def State.gateExtracted (s : State) (k : Nat) : State :=
  ((s.setArm k false).setBay k 1).bayMod k fun b => { b with fastOpen := true, rampTimer := false, owner := 0 }

/-- OPENING ends with the STATE event. -/
def State.bayExtracted (s : State) (k : Nat) : State :=
  if (s.bayState k == 8) = true then (s.gateExtracted k).raise (64 + 4 * k + 3) else s.gateExtracted k

theorem bayExtracted_stands {k : Nat} : BaysStand (s.gateExtracted k) (s.bayExtracted k) :=
  .ite (BaysStand.refl _).raise (.refl _)

theorem bayExtracted_inv {k : Nat} (hi : s.Inv) : (s.bayExtracted k).Inv :=
  bayExtracted_stands.inv ((Keeps.refl s).setArm.setBay.bayMod.inv hi)

theorem bayExtracted_lUp {k : Nat} : (s.bayExtracted k).lUp = s.lUp :=
  lUp_of_mode (bayExtracted_stands.mode.trans ((State.bayMod_mode _ _ _).trans setBay_mode))

theorem execExtraction_taken {late : Bool} (hi : s.Inv) (hn : n.toNat < 48) (hr : s.bayRole n.toNat ≠ 3)
    (halt : (vget s.bay n.toNat).alt = 0) (hf : (vget s.bay n.toNat).frozen = false)
    (hc : s.bayClosed n.toNat = true ∨ s.bayState n.toNat = 8) :
    ∃ u, exec (.extraction n late) s = .next (s.follow u) ∧ u.bayState n.toNat = 1 ∧ u.rd (bayF Reg.bayCtlArm n.toNat) = 0
      ∧ (vget u.bay n.toNat).fastOpen = true ∧ (s.lUp = true → u.evtSet (0x010 + n.toNat) 0 = true) := by
  have hdone {a : State} :
      BaysStand a (State.bayLate ((a.doneWait (.bayOn n.toNat) 3 0x11).doneWait (.bayOpen n.toNat)) n.toNat late) :=
    (BaysStand.refl a).doneWait.doneWait.bayLate
  have hall := bayExtracted_stands.trans ((BaysStand.refl (s.bayExtracted n.toNat)).raise (n := 64 + 4 * n.toNat) |>.trans hdone)
  have hei : (s.bayExtracted n.toNat).Inv := bayExtracted_inv hi
  refine ⟨_, if_pos ⟨hn, hr, halt, by rw [hf]; rfl, hc⟩, (hall.bayState hn).trans ?_, (hall.rd hn (by decide)).trans ?_, ?_,
    fun hl => ?_⟩
  · rw [State.gateExtracted, bayMod_bayState, setBay_bayState (setArm_inv hi).regs]
  · rw [State.gateExtracted, State.bayMod_rd]
    exact setArm_setBay_rd hi
  · refine (congrArg (fun v => (vget v n.toNat).fastOpen) hall.bay).trans ?_
    rw [State.gateExtracted, bayMod_vget hn]
  · exact hdone.event (raise_inv hei _) hn (raise_presence hei (bayExtracted_lUp.trans hl) hn)

/-! ### Timers of toggles and timed opens (R120, R121, R123) -/

/-- The toggle counted (R120). -/
def State.toggleCounted (s : State) (k : Nat) : State :=
  (s.bayMod k fun b => { b with retries := b.retries ++ [s.us] }).bayRetryLeft k

theorem toggleCounted_inv {k : Nat} (hi : s.Inv) : (s.toggleCounted k).Inv := (Keeps.refl s).bayMod.bayRetryLeft.inv hi

theorem toggleCounted_retries {k : Nat} (hk : k < 48) :
    (vget (s.toggleCounted k).bay k).retries = (vget s.bay k).retries ++ [s.us] := by
  rw [State.toggleCounted, State.bayRetryLeft, State.wr_bay, bayMod_vget hk]

theorem toggleCounted_bayRole {k : Nat} : (s.toggleCounted k).bayRole k = s.bayRole k := bayRole_of_act rfl

theorem toggleCounted_present {k : Nat} :
    (s.toggleCounted k).rdB (bayF Reg.bayStatPresent k) = s.rdB (bayF Reg.bayStatPresent k) := by
  rw [State.rdB, State.toggleCounted, State.bayRetryLeft, wrBay_rd_ne (by decide), State.bayMod_rd, State.rdB]

theorem execTogdlyEnd_toggles (hi : s.Inv) (hn : n.toNat < 48) (hst : s.bayState n.toNat = 6) (hl : s.lUp = true) :
    ∃ u, exec (.togdlyEnd n) s = .next (s.follow u) ∧ (vget u.bay n.toNat).retries = (vget s.bay n.toNat).retries ++ [s.us]
      ∧ (s.bayRole n.toNat ≠ 3 →
          u.bayState n.toNat = 2 ∧ u.rd (bayF Reg.bayCtlArm n.toNat) = 1 ∧ (vget u.bay n.toNat).rampTimer = true)
      ∧ (s.bayRole n.toNat = 3 → u.bayState n.toNat = b2n (s.rdB (bayF Reg.bayStatPresent n.toNat))) := by
  have hti : (s.toggleCounted n.toNat).Inv := toggleCounted_inv hi
  refine ⟨if (s.toggleCounted n.toNat).bayRole n.toNat = 3 then (s.toggleCounted n.toNat).bayToOpen n.toNat
    else (s.toggleCounted n.toNat).bayRamp n.toNat, if_pos ⟨hn, hst, hl⟩, ?_⟩
  rw [toggleCounted_bayRole]
  split
  case isTrue hr =>
    refine ⟨(setBay_retries hn).trans (toggleCounted_retries hn), fun h => absurd hr h, fun _ => ?_⟩
    rw [bayToOpen_bayState hti, toggleCounted_present]
  case isFalse hr =>
    exact ⟨(bayRamp_retries hn).trans (toggleCounted_retries hn),
      fun _ => ⟨bayRamp_bayState hti, bayRamp_arm hti, bayRamp_rampTimer hn⟩, fun h => absurd h hr⟩

theorem execRetryWindowExpiry_counts (hi : s.Inv) (hn : n.toNat < 48) :
    ∃ t, exec (.retryWindowExpiry n) s = .next t
      ∧ (vget t.bay n.toNat).retries
        = (vget s.bay n.toNat).retries.filter (fun x => decide (s.us < x + 1000000 * s.eff (bayF Reg.bayRetryRwin n.toNat)))
      ∧ t.rd (bayF Reg.bayStatRetryleft n.toNat)
        = (s.eff (bayF Reg.bayRetryBudget n.toNat) - (vget t.bay n.toNat).retries.length) % 2 ^ 4
      ∧ t = { s with regs := t.regs, bay := t.bay } ∧ regsBut s t [bayF Reg.bayStatRetryleft n.toNat] := by
  refine ⟨_, if_pos hn, ?_, State.rd_wr_self hi.regs _ _, rfl, (onlyRegs_wr s (bayF Reg.bayStatRetryleft n.toNat) _).2⟩
  rw [State.bayRetryLeft, State.wr_bay, bayMod_vget hn]

theorem bayCycleEnd_ramps {k : Nat} (hi : s.Inv) (hk : k < 48) (hst : s.bayState k = 7) :
    (s.bayCycleEnd k).bayState k = 2 ∧ (vget (s.bayCycleEnd k).bay k).rampTimer = true
      ∧ (vget (s.bayCycleEnd k).bay k).owner = 0 := by
  unfold State.bayCycleEnd
  rw [if_pos (beq_iff_eq.mpr hst), bayMod_bayState, setBay_bayState hi.regs, bayMod_vget hk]
  exact ⟨rfl, rfl, rfl⟩

/-- The rest point that the owner of a rest takes (R262). -/
def State.restTaken (s : State) (k vmean : Nat) : State :=
  if (vget s.bay k).owner = 3 then (match s.bayString k with | some m => s.restAnchor m vmean | none => s) else s

theorem restTaken_stands {k vmean : Nat} : BaysStand s (s.restTaken k vmean) := by
  unfold State.restTaken
  refine .ite ?_ (.refl s)
  split
  · exact (BaysStand.refl s).restAnchor
  · exact .refl s

theorem execTimedOpenEnd_ramps {vmean : BitVec 16} {late : Bool} (hi : s.Inv) (hn : n.toNat < 48) (hst : s.bayState n.toNat = 7)
    (hl : s.lUp = true) (ho : (vget s.bay n.toNat).owner ≠ 2) :
    ∃ u, exec (.timedOpenEnd n vmean late) s = .next (s.follow u) ∧ u.bayState n.toNat = 2
      ∧ (vget u.bay n.toNat).rampTimer = true ∧ (vget u.bay n.toNat).owner = 0 := by
  have hrest : BaysStand s (s.restTaken n.toNat vmean.toNat) := restTaken_stands
  refine ⟨(s.restTaken n.toNat vmean.toNat).bayCycleEnd n.toNat, ?_,
    bayCycleEnd_ramps (hrest.inv hi) hn ((hrest.bayState hn).trans hst)⟩
  refine (if_pos ⟨hn, hst, hl⟩).trans (congrArg (fun c => Host.Outcome.next (s.follow c)) ?_)
  exact if_neg ho

end

/-- Settles O29: each event at a bay that is awaited, by its own lemma. -/
theorem bayInputs : Obligations.BayInputs := by
  unfold Obligations.BayInputs
  refine ⟨fun s n hi hup hn hr => ⟨fun mv hf => ?_, fun vins late hx => ?_, fun halt hnew hf hq => ?_,
    fun halt hnew hf hrole hopen => ⟨fun hc => ?_, fun hl => ?_⟩, fun halt hf => ?_, fun late halt hf hc => ?_⟩,
    fun s n hi hn => ⟨fun hst hl => ?_, ?_, fun vmean late hst hl ho => ?_⟩⟩
  · obtain ⟨t, ht, hshow, hclass, hframe⟩ := execAltClassChange_seen (mv := mv) hi hn hr hf
    rw [hclass] at hshow
    refine ⟨t, ht, ?_⟩
    rw [hclass]
    exact ⟨hshow, altClass_absent, altClass_present, altClass_urgent, altClass_kept, hframe⟩
  · obtain ⟨u, hu, h⟩ := execPresenceChange_taken (vins := vins) (late := late) hi hup hn hr hx
    exact ⟨u, hu, h.present, h.event, h.state⟩
  · exact execUrgent_reports hup hn hr halt hnew hf hi hq
  · exact execUrgent_closed hup hn hr halt hnew hf hi hrole hopen hc
  · exact execUrgent_latched hup hn hr halt hnew hf hi hrole hopen hl
  · exact execUrgentEnd_ended hn halt hf
  · exact execExtraction_taken hi hn hr halt hf hc
  · exact execTogdlyEnd_toggles hi hn hst hl
  · exact execRetryWindowExpiry_counts hi hn
  · exact execTimedOpenEnd_ramps hi hn hst hl ho

end Sys2Proof.Machine

/-!
PROOFS. The states of a bay (O30): throttle trains, ramps, adoption, the gate and the limit (Table 5.5), and the trips that latch it off
(R119).
-/

namespace Sys2Proof.Machine

section

variable {s : State} {n : BitVec 6}

/-! ### Throttle trains (R106) -/

theorem execThrottleTrainEnd_last (hi : s.Inv) (hn : n.toNat < 48) (ht : (vget s.bay n.toNat).train = true)
    (hnext : (vget s.bay n.toNat).next = none) :
    ∃ t, exec (.throttleTrainEnd n) s = .next t ∧ t.rd (bayF Reg.bayStatAlt n.toNat) = (vget s.bay n.toNat).alt % 4
      ∧ (vget t.bay n.toNat).train = false ∧ (vget t.bay n.toNat).frozen = false ∧ t = { s with regs := t.regs, bay := t.bay } := by
  refine ⟨(s.wr (bayF Reg.bayStatAlt n.toNat) (vget s.bay n.toNat).alt).bayMod n.toNat
    fun b => { b with train := false, frozen := false, next := none }, ?_, ?_, ?_, ?_, rfl⟩
  · refine (if_pos ⟨hn, ht⟩).trans ?_
    rw [hnext]
  · rw [State.bayMod_rd]
    exact State.rd_wr_self hi.regs _ _
  · rw [bayMod_vget hn]
  · rw [bayMod_vget hn]

theorem execThrottleRepeat_sends (hi : s.Inv) (hn : n.toNat < 48) (ht : s.throttles n.toNat = true)
    (hidle : (vget s.bay n.toNat).train = false) (hstep : s.rd (bayF Reg.bayAlimThstep n.toNat) ≠ 0) :
    ∃ t, exec (.throttleRepeat n) s = .next t ∧ t.out = s.out ++ [.throttle n.toNat (s.rd (bayF Reg.bayAlimThstep n.toNat))]
      ∧ t.rd (bayF Reg.bayStatAlt n.toNat) = 3 ∧ (vget t.bay n.toNat).frozen = true := by
  refine ⟨s.sendTrain n.toNat (s.rd (bayF Reg.bayAlimThstep n.toNat)), ?_, ?_, ?_, ?_⟩
  · exact (if_neg (by simp [hn, ht, hidle])).trans (if_pos hstep)
  · unfold State.sendTrain
    rw [if_neg hstep]
    rfl
  · unfold State.sendTrain
    rw [State.bayMod_rd]
    exact State.rd_wr_self (s := s.emit _) hi.regs _ _
  · unfold State.sendTrain
    rw [bayMod_vget hn]

/-! ### Ramps, adoption and the gate (R108, R111, R124) -/

section

variable {k : Nat}

/-- The bay in ON with PGOOD, before its event. -/
def State.bayOnSet (s : State) (k : Nat) : State :=
  ((s.setBay k 3).wr (bayF Reg.bayStatPgood k) 1).bayMod k fun b => { b with rampTimer := false }

theorem bayOnSet_inv (hi : s.Inv) : (s.bayOnSet k).Inv := (Keeps.refl s).setBay.wr.bayMod.inv hi

theorem bayOn_stands : BaysStand (s.bayOnSet k) (s.bayOn k) := (BaysStand.refl _).raise.doneWait

theorem bayOn_inv (hi : s.Inv) : (s.bayOn k).Inv := (Keeps.refl s).bayOn.inv hi

theorem bayOn_bayState (hi : s.Inv) (hk : k < 48) : (s.bayOn k).bayState k = 3 := by
  rw [bayOn_stands.bayState hk, State.bayOnSet, bayMod_bayState, State.bayState, wrBay_rd_ne (by decide)]
  exact setBay_bayState hi.regs

theorem bayOn_pgood (hi : s.Inv) (hk : k < 48) : (s.bayOn k).rd (bayF Reg.bayStatPgood k) = 1 := by
  rw [bayOn_stands.rd hk (by decide), State.bayOnSet, State.bayMod_rd]
  exact State.rd_wr_self (setBay_inv hi).regs _ _

theorem bayOn_event (hi : s.Inv) (hk : k < 48) (hl : s.lUp = true) : (s.bayOn k).evtSet (0x010 + k) 3 = true := by
  have hon : (s.bayOnSet k).lUp = true := (lUp_of_mode setBay_mode).trans hl
  have hdone : BaysStand ((s.bayOnSet k).raise (64 + 4 * k + 3)) (s.bayOn k) := (BaysStand.refl _).doneWait
  exact hdone.event (raise_inv (bayOnSet_inv hi) _) hk (raise_bayEvent (bayOnSet_inv hi) hon hk (by decide))

end

variable (hi : s.Inv) (hn : n.toNat < 48)
include hi hn

theorem execRampComplete_on (hst : s.bayState n.toNat = 2) (hm : s.bayMet n.toNat = true) :
    ∃ u, exec (.rampComplete n) s = .next (s.follow u) ∧ u.bayState n.toNat = 3 ∧ u.rd (bayF Reg.bayStatPgood n.toNat) = 1
      ∧ (s.lUp = true → u.evtSet (0x010 + n.toNat) 3 = true) :=
  ⟨s.bayOn n.toNat, if_pos ⟨hn, hst, hm⟩, bayOn_bayState hi hn, bayOn_pgood hi hn, bayOn_event hi hn⟩

theorem execAdopted_on (hst : s.bayState n.toNat = 10) :
    ∃ u, exec (.adopted n) s = .next (s.follow u) ∧ u.bayState n.toNat = 3 ∧ u.rd (bayF Reg.bayStatAdopted n.toNat) = 1 := by
  refine ⟨(s.bayOn n.toNat).wr (bayF Reg.bayStatAdopted n.toNat) 1, if_pos ⟨hn, hst⟩, ?_,
    State.rd_wr_self (bayOn_inv hi).regs _ _⟩
  exact (wrBay_rd_ne (by decide)).trans (bayOn_bayState hi hn)

theorem execGateOff_open (hst : s.bayState n.toNat = 8) :
    ∃ u, exec (.gateOff n) s = .next (s.follow u)
      ∧ u.bayState n.toNat = if s.rdB (bayF Reg.bayStatPresent n.toNat) then 1 else 0 := by
  have hstand : BaysStand (s.bayToOpen n.toNat)
      (((s.bayToOpen n.toNat).raise (64 + 4 * n.toNat + 3)).doneWait (.bayOpen n.toNat)) := (BaysStand.refl _).raise.doneWait
  exact ⟨_, if_pos ⟨hn, hst⟩, (hstand.bayState hn).trans (bayToOpen_bayState hi)⟩

/-! ### The limit (R113) -/

theorem execLimitEntry_limits (hst : s.bayState n.toNat = 3) :
    ∃ u, exec (.limitEntry n) s = .next (s.follow u) ∧ u.bayState n.toNat = 4 ∧ u.rd (bayF Reg.bayStatLimiting n.toNat) = 1
      ∧ u.rd (bayF Reg.bayStatPgood n.toNat) = s.rd (bayF Reg.bayStatPgood n.toNat) :=
  ⟨s.setBay n.toNat 4, if_pos ⟨hn, hst⟩, setBay_bayState hi.regs, setBay_limiting hi, setBay_pgood (.inr rfl)⟩

theorem execLimitExit_on (hst : s.bayState n.toNat = 4) :
    ∃ u, exec (.limitExit n) s = .next (s.follow u) ∧ u.bayState n.toNat = 3 ∧ u.rd (bayF Reg.bayStatLimiting n.toNat) = 0
      ∧ (s.lUp = true → u.evtSet (0x010 + n.toNat) 3 = true) := by
  have hstand : BaysStand (s.setBay n.toNat 3) ((s.setBay n.toNat 3).raise (64 + 4 * n.toNat + 3)) := (BaysStand.refl _).raise
  refine ⟨_, if_pos ⟨hn, hst⟩, (hstand.bayState hn).trans (setBay_bayState hi.regs),
    (hstand.rd hn (by decide)).trans (setBay_limiting hi), fun hl => ?_⟩
  exact raise_bayEvent (setBay_inv hi) ((lUp_of_mode setBay_mode).trans hl) hn (by decide)

/-! ### Trips (R107, R113 to R115, R119, Table 5.3) -/

variable {peak : BitVec 16} {late : Bool}

/-- A latch-off with the record of an arrival that came late (R117). -/
theorem latchedOff_late {kind : Nat} (hk : kind < 64) (hc : s.bayClosed n.toNat = true) :
    latchedOff s ((s.bayTrip n.toNat kind peak.toNat).bayLate n.toNat late) n.toNat kind peak.toNat :=
  latchedOff_stands (bayTrip_latches hi hn hk hc) (BaysStand.refl _).bayLate hn

omit hi hn in
theorem bayClosed_of_state {k st : Nat} (h : s.bayState k = st) (hst : bayClosedCode st = true) : s.bayClosed k = true := by
  rw [State.bayClosed, h, hst]

theorem execFastTrip_latches (hc : s.bayClosed n.toNat = true) :
    ∃ u, exec (.fastTrip n peak) s = .next (s.follow u) ∧ latchedOff s u n.toNat 1 peak.toNat :=
  ⟨_, if_pos hn, bayTrip_latches hi hn (by decide) hc⟩

theorem execSlow_latches (hst : s.bayState n.toNat = 4) (hslow : s.slowReached n.toNat = true) :
    ∃ u, exec (.slow n peak late) s = .next (s.follow u) ∧ latchedOff s u n.toNat 2 peak.toNat :=
  ⟨_, if_pos ⟨hn, hst, hslow⟩, latchedOff_late hi hn (by decide) (bayClosed_of_state hst rfl)⟩

theorem execRamptime_latches (hst : s.bayState n.toNat = 2) (hr : (vget s.bay n.toNat).rampTimer = true) :
    ∃ u, exec (.ramptime n peak late) s = .next (s.follow u) ∧ latchedOff s u n.toNat 3 peak.toNat :=
  ⟨_, if_pos ⟨hn, hst, hr⟩, latchedOff_late hi hn (by decide) (bayClosed_of_state hst rfl)⟩

theorem execReverse_latches (hr : s.bayRole n.toNat = 0 ∨ s.bayRole n.toNat = 2) (hc : s.bayClosed n.toNat = true) :
    ∃ u, exec (.reverse n peak late) s = .next (s.follow u) ∧ latchedOff s u n.toNat 4 peak.toNat :=
  ⟨_, if_pos ⟨hn, hr, .inl hc⟩, latchedOff_late hi hn (by decide) hc⟩

theorem execGatelow_latches (hst : s.bayState n.toNat = 3 ∨ s.bayState n.toNat = 10) (hv : 30000 ≤ s.busMv) :
    ∃ u, exec (.gatelow n peak late) s = .next (s.follow u) ∧ latchedOff s u n.toNat 5 peak.toNat :=
  ⟨_, if_pos ⟨hn, hst, hv⟩, latchedOff_late hi hn (by decide)
    (hst.elim (fun h => bayClosed_of_state h rfl) fun h => bayClosed_of_state h rfl)⟩

theorem execSenseopen_latches (hc : s.bayClosed n.toNat = true) :
    ∃ u, exec (.senseopen n peak) s = .next (s.follow u) ∧ latchedOff s u n.toNat 6 peak.toNat :=
  ⟨_, if_pos hn, bayTrip_latches hi hn (by decide) hc⟩

end

/-- Settles O30: the states after each event, and each trip from the one lemma on latch-offs. -/
theorem bayStates : Obligations.BayStates := by
  unfold Obligations.BayStates
  refine ⟨fun s n hi hn => ⟨execThrottleTrainEnd_last hi hn, execThrottleRepeat_sends hi hn, execRampComplete_on hi hn,
    execAdopted_on hi hn, execGateOff_open hi hn, execLimitEntry_limits hi hn, execLimitExit_on hi hn⟩,
    fun s n peak late hi hn => ⟨execFastTrip_latches hi hn, execSlow_latches hi hn, execRamptime_latches hi hn,
      execReverse_latches hi hn, execGatelow_latches hi hn, execSenseopen_latches hi hn⟩⟩

end Sys2Proof.Machine

/-!
PROOFS. The journal entry of a command in execution. `InExecution` says that the journal holds it, applied and not done, and no
other entry of its SEQ; what is done for other commands and other units leaves it so (R85 to R87). Then the words of a command of
any opcode, as the journal holds them (R77).
-/

namespace Sys2Proof.Machine

section

variable {s t : State} {e : JEntry} {n f seq code reason : Nat} {ws : List Nat} {tw : Bool} {w : Wait}

/-- The journal of `s` holds `e`, applied, with no status and no wait yet, and nothing else under its SEQ. -/
structure InExecution (e : JEntry) (s : State) : Prop where
  mem : e ∈ s.jnl
  only : ∀ x ∈ s.jnl, x.seq = e.seq → x = e
  applied : e.applied = true
  status : e.status = none
  wait : e.wait = .none

theorem InExecution.jFind (h : InExecution e s) : s.jFind e.seq = some e := by
  unfold State.jFind
  cases hf : s.jnl.find? fun x => x.seq == e.seq with
  | none =>
    have hne := List.find?_eq_none.mp hf e h.mem
    simp at hne
  | some x =>
    have hseq := List.find?_some hf
    rw [h.only x (List.mem_of_find?_eq_some hf) (beq_iff_eq.mp hseq)]

/-- The command waits once its wait is set. -/
theorem InExecution.waitsFor (h : InExecution e s) : (s.setWait e.seq w).waitsFor e.seq w :=
  setWait_waitsFor h.jFind h.status h.applied

theorem InExecution.same (h : InExecution e s) (hj : t.jnl = s.jnl := by rfl) : InExecution e t :=
  { h with mem := hj ▸ h.mem, only := hj ▸ h.only }

theorem InExecution.wr {f : Fld} {v : Nat} (h : InExecution e s) : InExecution e (s.wr f v) := h.same

theorem InExecution.flMod {g : FlightS → FlightS} (h : InExecution e s) : InExecution e (s.flMod f g) := h.same

theorem InExecution.ite {c : Prop} {_ : Decidable c} (hs : InExecution e s) (ht : InExecution e t) :
    InExecution e (if c then s else t) := by
  split
  · exact hs
  · exact ht

/-- A change of another command's entry. -/
theorem InExecution.jMod {g : JEntry → JEntry} (h : InExecution e s) (hne : seq ≠ e.seq) (hg : ∀ x, (g x).seq = x.seq) :
    InExecution e (s.jMod seq g) := by
  refine { h with mem := List.mem_map.mpr ⟨e, h.mem, if_neg (Ne.symm hne)⟩, only := fun x hx hseq => ?_ }
  obtain ⟨y, hy, rfl⟩ := List.mem_map.mp hx
  split at hseq
  case isTrue hys => exact absurd (hys.symm.trans ((hg y).symm.trans hseq)) hne
  case isFalse hys => exact (if_neg hys).trans (h.only y hy hseq)

theorem InExecution.signals {ks : List Fld} (h : InExecution e s) (hs : onlySignals s t ks) : InExecution e t :=
  h.same (show t.jnl = s.jnl by rw [hs.1])

theorem InExecution.raise (h : InExecution e s) : InExecution e (s.raise n) := h.signals (raise_signals s n [])

theorem InExecution.token {src kind detail : Nat} (h : InExecution e s) : InExecution e (s.token src kind detail) :=
  h.signals (token_signals s src kind detail [])

theorem InExecution.late {src detail : Nat} (h : InExecution e s) : InExecution e (s.late src detail) :=
  InExecution.signals (s := s.incWrap (fabF Reg.fabRacelateCnt 0)) h.same (late_signals s src detail)

/-! ### Other commands reach their done points (R85 to R87) -/

theorem InExecution.setStatus (h : InExecution e s) (hne : seq ≠ e.seq) : InExecution e (s.setStatus seq code reason) := by
  have hmod : InExecution e (s.jMod seq fun x => { x with status := some (code, reason) }) := h.jMod hne fun _ => rfl
  exact .ite hmod.wr (.ite (InExecution.raise hmod.wr) hmod)

theorem InExecution.doneOne {x : JEntry} (h : InExecution e s) (hne : x.seq ≠ e.seq) : InExecution e (s.doneOne code reason x) := by
  have hmod : InExecution e (s.jMod x.seq fun y => { y with wait := .none }) := h.jMod hne fun _ => rfl
  exact .ite (hmod.setStatus hne) hmod.late

/-- What completes the commands of a wait does not complete one that has none yet. -/
theorem InExecution.doneWait (h : InExecution e s) (hw : w ≠ .none) : InExecution e (s.doneWait w code reason) := by
  refine List.foldlRecOn _ _ h fun t ht x hx => ht.doneOne fun hseq => hw ?_
  obtain ⟨hmem, hp⟩ := List.mem_filter.mp hx
  obtain ⟨-, hwait⟩ := Bool.and_eq_true_iff.mp hp
  rw [h.only x hmem hseq] at hwait
  exact (beq_iff_eq.mp hwait).symm.trans h.wait

/-- A command does not supersede itself (R86). -/
theorem InExecution.supersede (h : InExecution e s) : InExecution e (s.supersede e) := by
  refine .ite h (List.foldlRecOn _ _ h fun t ht x hx => ?_)
  have hne : x.seq ≠ e.seq := by
    have hp := (List.mem_filter.mp hx).2
    simp only [Bool.and_eq_true, bne_iff_ne] at hp
    exact hp.1.1.2
  exact .jMod (.ite (ht.setStatus hne) ht) hne fun _ => rfl

/-- An accepted command is in execution when its effect begins. -/
theorem accepted_inExecution : InExecution (s.appliedEntry ws tw) (s.accepted ws tw) := by
  refine InExecution.supersede ⟨?_, fun x hx hseq => ?_, rfl, rfl, rfl⟩
  · refine List.mem_map.mpr ⟨{ s.appliedEntry ws tw with applied := false }, ?_, if_pos rfl⟩
    rw [accept_jnl, arrive_copyMask]
    exact List.mem_append_right _ (List.mem_singleton_self _)
  · obtain ⟨y, hy, rfl⟩ := List.mem_map.mp hx
    have hys : y.seq = nth ws 1 := by
      split at hseq
      · assumption
      · exact hseq
    rw [accept_jnl, arrive_copyMask] at hy
    rcases List.mem_append.mp hy with hy | hy
    · have hp := (List.mem_filter.mp hy).2
      rw [hys] at hp
      simp at hp
    · rw [List.mem_singleton.mp hy]
      exact if_pos rfl

/-! ### Flights that a command takes an entity from (R332, R333) -/

theorem InExecution.gstat (h : InExecution e s) : InExecution e s.gstat := List.foldlRecOn _ _ h fun _ ht _ _ => ht.wr.wr

theorem InExecution.flCommandDone (h : InExecution e s) : InExecution e (s.flCommandDone f) := by
  unfold State.flCommandDone
  extract_lets +onlyGivenNames x
  split
  · exact h
  · refine .ite h (.doneWait (.ite (InExecution.token (.raise h.flMod)) h.flMod) ?_)
    exact fun hw => Wait.noConfusion hw

theorem InExecution.flAck {result : Nat} (h : InExecution e s) : InExecution e (s.flAck f result) := by
  unfold State.flAck
  refine .ite ?_ h
  split
  · exact .ite h.same h
  · exact h

theorem InExecution.flCheck (h : InExecution e s) : InExecution e (s.flCheck f) := by
  have hstamp : InExecution e (s.flStamp f) := .ite h.wr h
  unfold State.flCheck
  extract_lets +onlyGivenNames st x
  refine .ite ?_ h
  extract_lets nbad pend a b
  have ha : InExecution e a := .raise hstamp.wr.wr
  have hb : InExecution e b := ha.flAck.flMod
  exact .gstat (.ite hb.flCommandDone hb)

theorem InExecution.entTaken (h : InExecution e s) : InExecution e (s.entTaken n) := by
  unfold State.entTaken
  refine List.foldlRecOn _ _ (List.foldlRecOn _ _ h fun t ht f _ => ?_) fun t ht f _ => ht.flCheck
  split
  · exact .ite (InExecution.wr ht.flMod) ht
  · exact ht

end

/-! ### The words of a command in the journal (R77, Table 4.1) -/

section

variable {s : State} {tw : Bool} {opc inst : Nat} {h : CmdHdr} {args : List Nat}

theorem cmdWords_padded : ∃ c, cmdWords opc inst h args
    = [opc + h.ver.toNat * 4096 + inst * 65536, h.seq.toNat, h.htag.toNat, c] ++ (args ++ List.replicate (12 - args.length) 0) := by
  unfold cmdWords
  cases h.chk with
  | none => exact ⟨_, rfl⟩
  | some c => exact ⟨_, rfl⟩

theorem cmdWords_seq : nth (cmdWords opc inst h args) 1 = h.seq.toNat := by
  obtain ⟨c, hc⟩ := cmdWords_padded (opc := opc) (inst := inst) (h := h) (args := args)
  rw [hc]
  rfl

theorem cmdWords_head : nth (cmdWords opc inst h args) 0 = opc + h.ver.toNat * 4096 + inst * 65536 := by
  obtain ⟨c, hc⟩ := cmdWords_padded (opc := opc) (inst := inst) (h := h) (args := args)
  rw [hc, nth, List.cons_append, List.getD_cons_zero]

variable (hargs : opArgs opc = some args.length) (hopc : opc < 4096)
include hargs hopc

/-- The journal holds every word of a command that has the arguments of its opcode. -/
theorem appliedEntry_words : (s.appliedEntry (cmdWords opc inst h args) tw).words = cmdWords opc inst h args := by
  have hbits : bits (nth (cmdWords opc inst h args) 0) 0 12 = opc := by
    rw [cmdWords_head, bits]
    omega
  obtain ⟨c, hc⟩ := cmdWords_padded (opc := opc) (inst := inst) (h := h) (args := args)
  change journalWords _ = _
  unfold journalWords
  rw [hbits, hargs, hc]
  simp [Nat.add_comm 4]

theorem appliedEntry_inst (hi : inst < 256) : (s.appliedEntry (cmdWords opc inst h args) tw).inst = inst := by
  have := h.ver.isLt
  rw [JEntry.inst, appliedEntry_words hargs hopc, cmdWords_head, bits]
  omega

theorem appliedEntry_arg (i : Nat) (hi : i < args.length) : (s.appliedEntry (cmdWords opc inst h args) tw).arg i = nth args i := by
  obtain ⟨c, hc⟩ := cmdWords_padded (opc := opc) (inst := inst) (h := h) (args := args)
  rw [JEntry.arg, appliedEntry_words hargs hopc, hc, Nat.add_comm 4 i]
  exact List.getD_append _ _ _ _ hi

end

end Sys2Proof.Machine

/-!
PROOFS. The class-B commands on one bay (O31): BAY_ARM, BAY_OPEN and BAY_TOGGLE, accepted and admitted (R126 to R129).
-/

namespace Sys2Proof.Machine

section

variable {s v a : State} {e : JEntry} {r : Row} {n flags : Nat} {w : Wait} {x : Bool}

theorem InExecution.lseq {pg : Nat} (h : InExecution e s) : InExecution e (s.lseq pg e) := h.same

/-- Bay `n` as the command `e` takes it in `a`: nothing of it has changed since `s` but PG_LSEQ, which holds the SEQ. -/
structure BayTakenBy (s a : State) (e : JEntry) (n : Nat) : Prop where
  inv : a.Inv
  entry : InExecution e a
  rd : ∀ r : Row, r.isBay → r.besides Reg.pgLseq → a.rd (bayF r n) = s.rd (bayF r n)
  role : a.bayRole n = s.bayRole n
  lseq : a.rd (bayF Reg.pgLseq n) = e.seq

theorem BayTakenBy.bayState (h : BayTakenBy s a e n) : a.bayState n = s.bayState n := h.rd _ (by decide) (by decide)

theorem BayTakenBy.bayClosed (h : BayTakenBy s a e n) : a.bayClosed n = s.bayClosed n := congrArg bayClosedCode h.bayState

theorem BayTakenBy.bayMet (h : BayTakenBy s a e n) : a.bayMet n = s.bayMet n := by
  unfold State.bayMet State.bayVds
  rw [h.rd Reg.bayVmeasVsys (by decide) (by decide), h.rd Reg.bayVmeasVmod (by decide) (by decide)]

/-- What a class-B command does first: the flights lose the bay, and PG_LSEQ takes the SEQ. -/
theorem bayTaken_lseq (hi : v.Inv) (hst : BaysStand s v) (he : InExecution e v) (hseq : e.seq < 2 ^ 32) (hn : n < 48) :
    BayTakenBy s ((v.bayTaken n).lseq (0x010 + n) e) e n := by
  have htaken : BaysStand s (v.bayTaken n) := hst.entTaken
  have hinv : (v.bayTaken n).Inv := (Keeps.refl v).entTaken.inv hi
  have hentry : InExecution e (v.bayTaken n) := he.entTaken
  generalize v.bayTaken n = b at htaken hinv hentry
  refine ⟨wr_inv hinv _ _, hentry.lseq, fun r hr hne => ?_, ?_, ?_⟩
  · exact (wrBay_rd_ne hne).trans (htaken.rd hn hr)
  · exact bayRole_of_act htaken.act
  · exact (State.rd_wr_self hinv.regs _ _).trans (Nat.mod_eq_of_lt hseq)

/-! ### The closing of a bay by a command (R125, R126) -/

theorem setWait_rd {f : Fld} {seq : Nat} : (s.setWait seq w).rd f = s.rd f := rfl

theorem setWait_bay {seq : Nat} : (s.setWait seq w).bay = s.bay := rfl

theorem setWait_bayState {seq : Nat} : (s.setWait seq w).bayState n = s.bayState n := setWait_rd

theorem bayClose_bayRole : (a.bayClose n x).bayRole n = a.bayRole n := by
  refine bayRole_of_act ?_
  unfold State.bayClose State.bayRamp
  split <;> rw [State.bayMod_act, setBay_act, State.setArm, State.wrB_act]

theorem bayClose_not_on (hi : a.Inv) : ¬ ((a.bayClose n x).bayState n = 3 ∨ (a.bayClose n x).bayState n = 4) := by
  rw [bayClose_bayState hi]
  split <;> decide

/-- What a command leaves that closes bay `n`, adopting it where `adopt` allows. -/
structure ClosedBy (s u : State) (e : JEntry) (n : Nat) (adopt : Bool) : Prop where
  state : u.bayState n = if adopt && s.bayMet n then 10 else 2
  arm : u.rd (bayF Reg.bayCtlArm n) = 1
  waits : u.waitsFor e.seq (.bayOn n)
  lseq : u.rd (bayF Reg.pgLseq n) = e.seq

theorem BayTakenBy.closes (h : BayTakenBy s a e n) : ClosedBy s ((a.bayClose n x).setWait e.seq (.bayOn n)) e n x where
  state := by rw [setWait_bayState, bayClose_bayState h.inv, h.bayMet]
  arm := by rw [setWait_rd, bayClose_arm h.inv]
  waits := (h.entry.same bayClose_jnl).waitsFor
  lseq := by rw [setWait_rd, bayClose_rd_ne (by decide), h.lseq]

theorem bayOpenGate_jnl : (a.bayOpenGate n x).jnl = a.jnl := by
  unfold State.bayOpenGate
  rw [State.bayMod_jnl, setBay_jnl, State.setArm, State.wrB_jnl]

/-! ### The commands as they are applied -/

variable (hi : v.Inv) (hst : BaysStand s v) (he : InExecution e v) (hseq : e.seq < 2 ^ 32) (hinst : e.inst = n) (hn : n < 48)
  (harg : e.arg 0 = flags)
include hi hst he hseq hinst hn harg

/-- BAY_ARM closes a bay that is PRESENT (R126). -/
theorem applyBayArm_closes (href : v.bayArmRefused n (bitOf flags 1) = none) (hrole : s.bayRole n ≠ 3) (hstate : s.bayState n = 1) :
    ∃ u, State.applyBayArm e v = v.follow u ∧ ClosedBy s u e n (bitOf flags 0) := by
  subst hinst harg
  have htaken := bayTaken_lseq hi hst he hseq hn
  refine ⟨_, ?_, htaken.closes⟩
  unfold State.applyBayArm
  dsimp only
  rw [if_neg (Nat.not_le.mpr hn), href]
  dsimp only
  generalize (v.bayTaken e.inst).lseq (0x010 + e.inst) e = a at htaken
  have harm : a.bayArm e.inst (bitOf (e.arg 0) 0) = a.bayClose e.inst (bitOf (e.arg 0) 0) := by
    unfold State.bayArm
    dsimp only
    rw [if_neg (htaken.role.symm ▸ hrole), if_pos (htaken.bayState.trans hstate)]
  rw [harm, bayClose_bayRole, htaken.role, if_neg fun h => h.elim hrole (bayClose_not_on htaken.inv)]

/-- BAY_TOGGLE closes a bay that is latched off or waits to toggle (R118, R126). -/
theorem applyBayToggle_closes (hmode : s.mode ≠ .bench) (hrole : s.bayRole n ≠ 3) (hstate : s.bayState n = 5 ∨ s.bayState n = 6) :
    ∃ u, State.applyBayToggle e v = v.follow u ∧ ClosedBy s u e n (bitOf flags 0) := by
  subst hinst harg
  have htaken := bayTaken_lseq hi hst he hseq hn
  refine ⟨_, ?_, htaken.closes⟩
  have hadmit : firstReason [(decide (48 ≤ e.inst), 2), (v.bayState e.inst == 9, 3),
      (!(v.bayState e.inst == 5 || v.bayState e.inst == 6) || v.mode == .bench, 4)] = none := by
    rw [hst.bayState hn, hst.mode]
    rcases hstate with h | h <;> simp [firstReason, h, hn, hmode]
  unfold State.applyBayToggle
  dsimp only
  rw [hadmit]
  dsimp only
  rw [if_neg (htaken.role.symm ▸ hrole)]

/-- BAY_OPEN opens a closed bay (R108, R126). -/
theorem applyBayOpen_opens (hc : s.bayClosed n = true) :
    ∃ u, State.applyBayOpen e v = v.follow u ∧ u.bayState n = 8 ∧ u.rd (bayF Reg.bayCtlArm n) = 0
      ∧ (vget u.bay n).fastOpen = bitOf flags 0 ∧ u.waitsFor e.seq (.bayOpen n) := by
  subst hinst harg
  have htaken := bayTaken_lseq hi hst he hseq hn
  have hstate : v.bayState e.inst ≠ 9 := fun h => by
    rw [State.bayClosed, ← hst.bayState hn, h] at hc
    cases hc
  unfold State.applyBayOpen
  dsimp only
  rw [if_neg (Nat.not_le.mpr hn), if_neg hstate]
  generalize (v.bayTaken e.inst).lseq (0x010 + e.inst) e = a at htaken
  rw [bayOpen_closed (htaken.bayClosed.trans hc), if_pos (bayOpenGate_bayState htaken.inv)]
  refine ⟨_, rfl, ?_, ?_, ?_, (htaken.entry.same bayOpenGate_jnl).waitsFor⟩
  · rw [setWait_bayState, bayOpenGate_bayState htaken.inv]
  · rw [setWait_rd, bayOpenGate_arm htaken.inv]
  · rw [setWait_bay, bayOpenGate_fastOpen hn]

end

end Sys2Proof.Machine

/-!
PROOFS. BAY_LIMIT (R114), and the obligation on the commands of the bays (O31).
-/

namespace Sys2Proof.Machine

section

variable {s v : State} {f : Fld} {e : JEntry} {n pg off x : Nat}

/-! ### A run of register words (R78) -/

/-- A word leaves the fields of other registers. -/
theorem putWord_rd_ne {off' : Nat} (hf : f ∈ fieldsAt pg off) (hne : off' ≠ off) : (s.putWord pg off' x).rd f = s.rd f := by
  obtain ⟨hfp, hfo, -, hfw, hfb⟩ := fieldsAt_place hf
  refine List.foldlRecOn (motive := fun t : State => t.rd f = s.rd f) _ _ rfl fun t ht g hg => ?_
  obtain ⟨hgp, hgo, -, hgw, hgb⟩ := fieldsAt_place (List.mem_filter.mp hg).1
  refine (State.rd_wr_ne ?_ _).trans ht
  simp only [Fld.key]
  omega

/-- The words of a list of registers of one page, written in turn. -/
def State.putWords (s : State) (pg : Nat) (l : List (Nat × Nat)) : State := l.foldl (fun t p => t.putWord pg p.1 p.2) s

theorem putWords_jnl {l : List (Nat × Nat)} : (s.putWords pg l).jnl = s.jnl :=
  List.foldlRecOn (motive := fun t : State => t.jnl = s.jnl) l _ rfl fun _ ht _ _ => putWord_jnl.trans ht

theorem putWords_rd_ne {l : List (Nat × Nat)} (hf : f ∈ fieldsAt pg off) (hl : ∀ p ∈ l, p.1 ≠ off) :
    (s.putWords pg l).rd f = s.rd f :=
  List.foldlRecOn (motive := fun t : State => t.rd f = s.rd f) l _ rfl fun _ ht p hp => (putWord_rd_ne hf (hl p hp)).trans ht

/-- Of words for different registers, each stands in the fields of its own. -/
theorem putWords_rd {l : List (Nat × Nat)} (hi : s.Inv) (hl : (l.map Prod.fst).Nodup) (hx : (off, x) ∈ l) (hf : f ∈ fieldsAt pg off)
    (hj : f.acc = .rwj) : (s.putWords pg l).rd f = bits x f.lo f.width := by
  induction l generalizing s with
  | nil => exact absurd hx List.not_mem_nil
  | cons p l ih =>
    obtain ⟨hp, hl⟩ := List.nodup_cons.mp hl
    change ((s.putWord pg p.1 p.2).putWords pg l).rd f = _
    rcases List.mem_cons.mp hx with rfl | hx
    · rw [putWords_rd_ne hf fun q hq he => hp (List.mem_map.mpr ⟨q, hq, he⟩)]
      exact putWord_rd hi.regs hf hj
    · exact ih ((Keeps.refl s).putWord.inv hi) hl hx

/-! ### The limits of a bay (R114) -/

/-- The registers that a BAY_LIMIT writes, with its arguments. -/
def JEntry.limitWords (e : JEntry) : List (Nat × Nat) := [(0x04C, e.arg 0), (0x050, e.arg 1), (0x048, e.arg 2), (0x05C, e.arg 3)]

/-- The fields of those registers. -/
def limitRows : List Row := [Reg.bayIlimIlim, Reg.bayIlimFtrip, Reg.bayTfltTflt, Reg.bayPlimPlim, Reg.bayRshRsh]

theorem pageRows_bay : ∀ n < 48, pageRows (0x010 + n) = Reg.bayRows := by decide +kernel

/-- The first register of a row of the block BAY holds its field. -/
theorem bayF_fieldsAt {r : Row} (hn : n < 48) (hr : r ∈ Reg.bayRows) (hx : r.indexAt r.off = some 0) :
    bayF r n ∈ fieldsAt (0x010 + n) r.off := by
  refine List.mem_filterMap.mpr ⟨r, pageRows_bay n hn ▸ hr, ?_⟩
  rw [hx, Option.map_some, if_neg (by simp; omega), if_neg (by simp; omega), if_neg (by simp)]
  rfl

theorem limitRows_stored : ∀ r ∈ limitRows, r ∈ Reg.bayRows ∧ r.indexAt r.off = some 0 ∧ r.acc = .rwj := by decide

theorem limitRows_fieldsAt {r : Row} (hn : n < 48) (hr : r ∈ limitRows) :
    bayF r n ∈ fieldsAt (0x010 + n) r.off ∧ (bayF r n).acc = .rwj := by
  obtain ⟨hmem, hx, hj⟩ := limitRows_stored r hr
  exact ⟨bayF_fieldsAt hn hmem hx, hj⟩

/-- Each field of a BAY_LIMIT takes its bits of the word for its register. -/
theorem limitWords_rd {r : Row} (hi : v.Inv) (hn : n < 48) (hr : r ∈ limitRows) (hx : (r.off, x) ∈ e.limitWords) :
    (v.putWords (0x010 + n) e.limitWords).rd (bayF r n) = bits x r.lo r.width := by
  obtain ⟨hf, hj⟩ := limitRows_fieldsAt hn hr
  exact putWords_rd hi (by simp [JEntry.limitWords]) hx hf hj

/-- The checks of a BAY_LIMIT, in their order (R114, R128). -/
def State.limitChecks (v : State) (e : JEntry) : List (Bool × Nat) :=
  let new := v.putWords (0x010 + e.inst) e.limitWords
  [(48 ≤ e.inst, 2), (e.limitWords.any fun p => !rangeOk (0x010 + e.inst) p.1 p.2, 2),
    (new.rd (bayF Reg.bayIlimFtrip e.inst) < new.rd (bayF Reg.bayIlimIlim e.inst) + 10, 2), (v.bayState e.inst == 9, 3)]

/-- The state of an admitted BAY_LIMIT before its commit. -/
def State.limitSet (v : State) (e : JEntry) : State :=
  ((v.putWords (0x010 + e.inst) e.limitWords).lseq (0x010 + e.inst) e).setWait e.seq (v.commitWait (0x010 + e.inst))

theorem applyBayLimit_eq (h : firstReason (v.limitChecks e) = none) :
    State.applyBayLimit e v = (v.limitSet e).commit (0x010 + e.inst) := by
  unfold State.applyBayLimit
  dsimp only
  split
  · rename_i r hr
    cases hr.symm.trans h
  · rfl

variable (hi : v.Inv) (hst : BaysStand s v) (hn : e.inst < 48)
include hi hn

theorem limitSet_rd {r : Row} (hr : r ∈ limitRows) (hx : (r.off, x) ∈ e.limitWords) :
    ((v.limitSet e).commit (0x010 + e.inst)).rd (bayF r e.inst) = bits x r.lo r.width := by
  have hf := (limitRows_fieldsAt hn hr).1
  rw [commit_rd (fieldsAt_key_ne_hdr hf (by decide)) (fieldsAt_key_ne_hdr hf (by decide)), State.limitSet, setWait_rd]
  exact (State.rd_wr_ne (fieldsAt_key_ne_hdr hf (by decide)) _).trans (limitWords_rd hi hn hr hx)

include hst

/-- A BAY_LIMIT is admitted whose words keep their ranges, with FTRIP at least 10 above ILIM, on a bay that is not retired. -/
theorem limitChecks_pass (hret : s.bayState e.inst ≠ 9) (hrange : ∀ p ∈ e.limitWords, rangeOk (0x010 + e.inst) p.1 p.2 = true)
    (htrip : bits (e.arg 0) 0 9 + 10 ≤ bits (e.arg 0) 16 9) : firstReason (v.limitChecks e) = none := by
  have hilim : (v.putWords (0x010 + e.inst) e.limitWords).rd (bayF Reg.bayIlimIlim e.inst) = bits (e.arg 0) 0 9 :=
    limitWords_rd hi hn (by decide) (List.mem_cons_self (l := e.limitWords.tail))
  have hftrip : (v.putWords (0x010 + e.inst) e.limitWords).rd (bayF Reg.bayIlimFtrip e.inst) = bits (e.arg 0) 16 9 :=
    limitWords_rd hi hn (by decide) (List.mem_cons_self (l := e.limitWords.tail))
  have hany : (e.limitWords.any fun p => !rangeOk (0x010 + e.inst) p.1 p.2) = false := by simpa using hrange
  unfold State.limitChecks
  dsimp only
  rw [hany, hilim, hftrip, hst.bayState hn]
  simp [firstReason, Nat.not_le.mpr hn, hret, Nat.not_lt.mpr htrip]

omit hi in
theorem limitSet_waitsFor (he : InExecution e v) :
    ((v.limitSet e).commit (0x010 + e.inst)).waitsFor e.seq (s.commitWait (0x010 + e.inst)) := by
  have hwait : v.commitWait (0x010 + e.inst) = s.commitWait (0x010 + e.inst) := by
    unfold State.commitWait
    rw [show v.rdB (hdr Reg.pgCbusy (0x010 + e.inst)) = s.rdB (hdr Reg.pgCbusy (0x010 + e.inst)) from
      hst.rdB (r := Reg.pgCbusy) hn (by decide)]
  have hset : InExecution e (v.putWords (0x010 + e.inst) e.limitWords) := he.same putWords_jnl
  rw [← hwait]
  exact waitsFor_of_jnl hset.lseq.waitsFor commit_jnl

end

/-! ### The commands -/

section

variable {s : State} {inst : BitVec 8} {h : CmdHdr} {args : List Nat} {opc : Nat}

/-- What an accepted command on bay `inst` finds at its application, as its entry `e` in the state `v`. -/
structure BayCommand (s v : State) (e : JEntry) (inst : BitVec 8) (h : CmdHdr) (args : List Nat) : Prop where
  inv : v.Inv
  stands : BaysStand s v
  entry : InExecution e v
  seq : e.seq = h.seq.toNat
  inst : e.inst = inst.toNat
  arg : ∀ i < args.length, e.arg i = nth args i

theorem BayCommand.seq_lt {v : State} {e : JEntry} (hc : BayCommand s v e inst h args) : e.seq < 2 ^ 32 := hc.seq ▸ h.seq.isLt

theorem accepted_bayCommand (hi : s.Inv) (hargs : opArgs opc = some args.length) (hopc : opc < 4096) :
    BayCommand s (s.accepted (cmdWords opc inst.toNat h args) h.twoWire) (s.appliedEntry (cmdWords opc inst.toNat h args) h.twoWire)
      inst h args :=
  ⟨accepted_inv hi, accepted_baysStand, accepted_inExecution, cmdWords_seq, appliedEntry_inst hargs hopc inst.isLt,
    appliedEntry_arg hargs hopc⟩

/-- The limits that an admitted BAY_LIMIT sets. -/
theorem BayCommand.limits {v : State} {e : JEntry} {ilim tflt plim rsh : Nat} (hc : BayCommand s v e inst h [ilim, tflt, plim, rsh])
    (hn : inst.toNat < 48) (hret : s.bayState inst.toNat ≠ 9) (hilim : rangeOk (0x010 + inst.toNat) 0x04C ilim = true)
    (htflt : rangeOk (0x010 + inst.toNat) 0x050 tflt = true) (hplim : rangeOk (0x010 + inst.toNat) 0x048 plim = true)
    (hrsh : rangeOk (0x010 + inst.toNat) 0x05C rsh = true) (htrip : bits ilim 0 9 + 10 ≤ bits ilim 16 9) :
    ∃ t, State.applyBayLimit e v = t
      ∧ t.rd (bayF Reg.bayIlimIlim inst.toNat) = bits ilim 0 9 ∧ t.rd (bayF Reg.bayIlimFtrip inst.toNat) = bits ilim 16 9
      ∧ t.rd (bayF Reg.bayTfltTflt inst.toNat) = bits tflt 0 10 ∧ t.rd (bayF Reg.bayPlimPlim inst.toNat) = bits plim 0 11
      ∧ t.rd (bayF Reg.bayRshRsh inst.toNat) = bits rsh 0 16
      ∧ t.waitsFor h.seq.toNat (s.commitWait (0x010 + inst.toNat)) := by
  obtain ⟨hi, hst, he, hseq, hinst, harg⟩ := hc
  have hn' : e.inst < 48 := hinst ▸ hn
  have h0 : e.arg 0 = ilim := harg 0 (by simp)
  have hwords : e.limitWords = [(0x04C, ilim), (0x050, tflt), (0x048, plim), (0x05C, rsh)] := by
    unfold JEntry.limitWords
    rw [h0, harg 1 (by simp), harg 2 (by simp), harg 3 (by simp)]
    rfl
  have hpass : firstReason (v.limitChecks e) = none := by
    refine limitChecks_pass hi hst hn' (hinst.symm ▸ hret) ?_ (h0.symm ▸ htrip)
    rw [hwords, hinst]
    simp [hilim, htflt, hplim, hrsh]
  have hrd (r : Row) (x : Nat) (hr : r ∈ limitRows)
      (hx : (r.off, x) ∈ [(0x04C, ilim), (0x050, tflt), (0x048, plim), (0x05C, rsh)]) :
      ((v.limitSet e).commit (0x010 + e.inst)).rd (bayF r inst.toNat) = bits x r.lo r.width :=
    hinst ▸ limitSet_rd hi hn' hr (hwords ▸ hx)
  refine ⟨_, applyBayLimit_eq hpass, hrd _ ilim (by decide) (by simp [Reg.bayIlimIlim]),
    hrd _ ilim (by decide) (by simp [Reg.bayIlimFtrip]), hrd _ tflt (by decide) (by simp [Reg.bayTfltTflt]),
    hrd _ plim (by decide) (by simp [Reg.bayPlimPlim]), hrd _ rsh (by decide) (by simp [Reg.bayRshRsh]), ?_⟩
  rw [← hinst, ← hseq]
  exact limitSet_waitsFor hst hn' he

end

/-- Settles O31: the lemmas on the application of each command, in the state in which an accepted one is applied. -/
theorem bayCommands : Obligations.BayCommands := by
  unfold Obligations.BayCommands
  intro s inst h hi hn
  refine ⟨fun flags bound ha href hrole hstate => ?_, fun flags ha hclosed => ?_, fun flags ha hmode hrole hstate => ?_,
    fun ilim tflt plim rsh ha hret hilim htflt hplim hrsh htrip => ?_⟩
  · have hc := accepted_bayCommand (opc := 0x100) (inst := inst) (h := h) (args := [flags.toNat, bound.toNat]) hi rfl (by decide)
    obtain ⟨u, happ, hu⟩ := applyBayArm_closes hc.inv hc.stands hc.entry hc.seq_lt hc.inst hn (hc.arg 0 (by simp)) href hrole hstate
    exact ⟨u, congrArg Host.Outcome.next ((command_accepts ha).trans happ), hu.state, hu.arm, hc.seq ▸ hu.waits, hc.seq ▸ hu.lseq⟩
  · have hc := accepted_bayCommand (opc := 0x101) (inst := inst) (h := h) (args := [flags.toNat]) hi rfl (by decide)
    obtain ⟨u, happ, hstate, harm, hfast, hwait⟩ :=
      applyBayOpen_opens hc.inv hc.stands hc.entry hc.seq_lt hc.inst hn (hc.arg 0 (by simp)) hclosed
    exact ⟨u, congrArg Host.Outcome.next ((command_accepts ha).trans happ), hstate, harm, hfast, hc.seq ▸ hwait⟩
  · have hc := accepted_bayCommand (opc := 0x102) (inst := inst) (h := h) (args := [flags.toNat]) hi rfl (by decide)
    obtain ⟨u, happ, hu⟩ := applyBayToggle_closes hc.inv hc.stands hc.entry hc.seq_lt hc.inst hn (hc.arg 0 (by simp)) hmode hrole hstate
    exact ⟨u, congrArg Host.Outcome.next ((command_accepts ha).trans happ), hu.state, hu.arm, hc.seq ▸ hu.waits⟩
  · have hc := accepted_bayCommand (opc := 0x103) (inst := inst) (h := h)
      (args := [ilim.toNat, tflt.toNat, plim.toNat, rsh.toNat]) hi rfl (by decide)
    obtain ⟨t, happ, hlimits⟩ := hc.limits hn hret hilim htflt hplim hrsh htrip
    exact ⟨t, congrArg Host.Outcome.next ((command_accepts ha).trans happ), hlimits⟩

end Sys2Proof.Machine
